-- ==== Sys2Proof/Word.lean ====
section
/-! DEFINITION. The plain words of the model: 48-bit memory words, 24-bit registers (R9), fields of a
register, and a row of a register table. -/

namespace Sys2Proof

/-- A word of memory, 48 bits (R4). -/
abbrev Word := BitVec 48

/-- The content of a register, 24 bits (R9). -/
abbrev Reg := BitVec 24

/-- A field of a register: its lowest bit and its width. -/
structure Fld where
  lo : Nat
  w : Nat
deriving DecidableEq, Repr

/-- One line of a chapter's register tables: the registers of one name in one kind of block.
`blk` is the first block number (R565) and `nblk` how many such blocks there are; `off` is the offset of
the first register and `dims` the counts and strides of its indices, outermost first. `alt` lists the
reset values that differ by the innermost index, `altBlk` those that differ by the block's instance.
The masks say which bits have which access type (R13). -/
structure RegRow where
  blk : Nat
  nblk : Nat
  off : Nat
  dims : List (Nat × Nat)
  reset : Nat
  alt : List (Nat × Nat)
  altBlk : List (Nat × Nat)
  rw : Nat
  ct : Nat
  w1c : Nat
  w1s : Nat
  sc : Nat
  sh : Nat
  known : Nat
deriving DecidableEq, Repr

/-- The low `w` bits of `x` shifted down by `lo`. -/
def natBits (x lo w : Nat) : Nat := (x >>> lo) % 2 ^ w

/-- `x` with bits `[lo+w-1:lo]` replaced by the low `w` bits of `v`. -/
def natSetBits (x lo w v : Nat) : Nat :=
  x - (natBits x lo w) * 2 ^ lo + (v % 2 ^ w) * 2 ^ lo

/-- Two's complement reading of the low `w` bits of `x`. -/
def natToInt (w x : Nat) : Int :=
  let y := x % 2 ^ w
  if y < 2 ^ (w - 1) then (y : Int) else (y : Int) - ((2 ^ w : Nat) : Int)

/-- Two's complement representation of `i` in `w` bits. -/
def intToNat (w : Nat) (i : Int) : Nat := (i % ((2 ^ w : Nat) : Int)).toNat

/-- Is bit `k` of `x` set? -/
def natBit (x k : Nat) : Bool := (x >>> k) % 2 == 1

end Sys2Proof
end

