-- ==== Sys2Proof/Syntax.lean ====
section
/-! DEFINITION. The commands of the block: one constructor for each row of spec/opcode_table.json, with the
operands the row's rule gives it. -/

namespace Sys2Proof

/-- A Silis core that a command concerns (R297, R127): the target T0, T1 or T2, or line core `k` of cluster `cl`. -/
inductive CoreId where
  | t0
  | t1
  | t2
  | lc (cl : Fin 8) (k : Fin 9)
deriving DecidableEq, Repr


/-- Where a command packet comes from and where its reply goes (R323): PCIe ring, steward ring of T1 or T2, UDP, the SPI
target port, the sentinel port, or the Wearan CMD class, which carries the originating session's levels (R331). -/
inductive Endpoint where
  | ring (r : Fin 8)
  | steward (t : Fin 2)
  | udp (mac : Fin 2) (vlan ip port : Nat)
  | spi
  | sentinel
  | peer (port : Fin 3) (level debug : Nat)
deriving DecidableEq, Repr

/-- What the header of a received cell carries (R441), whether its CRC is good, and whether its CLASS is one of the reserved 6 and 7, in which
case it is none of the cells that have a row and counts as a bad one. -/
structure CellHead where
  seq : BitVec 12
  ack : BitVec 12
  nak : Bool
  crcOk : Bool
  reserved : Bool
deriving DecidableEq, Repr

/-- A LINK cell (R444 to R446): the sender's device, port and locked lanes of its two directions with its succession list; a SWAP naming a
lane of one direction of the receiver and whether it is taken; the answer to a SWAP; the sender's side is down. -/
inductive LinkMsg where
  | train (dev : Fin 4) (port : Fin 3) (tx rx : BitVec 9) (succ : BitVec 10)
  | swap (receive : Bool) (lane : Fin 8)
  | answer (taken : Bool)
  | down
deriving DecidableEq, Repr

/-- A request packet (R318) without its opcode, which its row names. `rsv` are bits 32 (REPLY) and 26 to 24 of word 0. -/
structure Packet where
  ep : Endpoint
  slot : Fin 8
  rr : Bool
  wait : Bool
  fwd : Bool
  dev : Fin 4
  rsv : BitVec 4
  tag : BitVec 24
  count : BitVec 12
  args : BitVec 36
  payload : List Word
deriving DecidableEq, Repr

/-- The commands and events that reach the block: one constructor per row of the opcode table, in the order of
the table. The docstring of each names the rule of the spec that governs it. -/
inductive Instr where
  /-- REGISTER_WRITE (R15): A write to a register that has no row of its own lands all its fields under the type rules of R13. -/
  | registerWrite (addr : Nat) (value : Reg)
  /-- PAIR_LO_READ (R10): A read of a _LO register returns the low half and latches the current _HI for the next _HI read. -/
  | pairLoRead (addr : Nat)
  /-- PAIR_HI_WRITE (R10): A write of a _HI register applies it with the staged low half as one 48-bit value. -/
  | pairHiWrite (addr : Nat) (value : Reg)
  /-- POWER_GOOD (R552): All supervised rails have stood above their rising thresholds for 100 µs with XRESET high; straps are sampled and start-up begins. -/
  | powerGood (osc : Fin 8) (dev : Fin 4)
  /-- POR (R474): A supervised supply falls below its falling threshold for 1 µs or longer and the whole device is reset. -/
  | por
  /-- XRESET_ASSERT (R474): XRESET is held low for at least 1 µs and the device is reset as at power-on. -/
  | xresetAssert
  /-- PMU_DEVICE_RESET (R474): A write of PMU_RESET.DEVICE resets the device as POR, without resampling the straps or waiting OSC_WAIT. -/
  | pmuDeviceReset
  /-- PMU_PIER_RESET (R475): A write of PMU_RESET.PIER_GO resets one pier to its reset values and clears its memories. -/
  | pmuPierReset (value : Reg)
  /-- CORE_RESET (R476): A reset of PIER39 resets every pier except PIER00 and PIER01 and repeats start-up from the boot record. -/
  | coreReset
  /-- OSC_WAIT_EXPIRY (R471): The strapped oscillator wait ends, the core PLL locks and BT starts on the crystal. -/
  | oscWaitExpiry
  /-- BOOT_RECORD_READ (R496): The boot ROM reads the boot record and chooses the image to run, reverting or counting trial tries as required. -/
  | bootRecordRead (okA : Bool) (okB : Bool)
  /-- PARAPET_LOAD (R258): The parapet store and its control registers are loaded from the parapet section, telltales take their defaults and early-lit outputs are lit. -/
  | parapetLoad (ok : Bool) (ctrl : Reg) (mask : Reg) (store : List (BitVec 19 × Word)) (early : List (Fin 8 × Reg))
  /-- CONFIG_START_APPLY (R354): T0 applies the selected base, the default overlays and the asserted follow triggers, and then arms each output. -/
  | configStartApply
  /-- XTAL_FAIL (R472): The crystal is absent or off frequency for 1 ms, so XTAL_FAIL is set and the fault is reported. -/
  | xtalFail
  /-- PLL_LOCK_LOSS (R470): A PLL loses lock after locking, so LOSS is set, source 305 is raised and the fault manager is told. -/
  | pllLockLoss (pll : Fin 13)
  /-- BT_FRAME_BOUNDARY (R37): The TG0 phase wraps and the frame number steps; pending source switches, steps and the slew settlement take effect. -/
  | btFrameBoundary
  /-- AS_SYNC_RECEIVED (R48): An 802.1AS Sync and Follow_Up pair arrives and is used to qualify and track the source. -/
  | asSyncReceived (mac : Fin 2) (domain : Nat) (gptpNs : Nat) (freq : Int)
  /-- SOURCE_LOSS_TIMEOUT (R48): LOSS_COUNT intervals pass without a Sync pair or camera Frame Start and the source is marked lost. -/
  | sourceLossTimeout (src : BitVec 5)
  /-- HOLDOVER_EXPIRY (R51): HOLD_FRAMES expire and the BTU switches to the highest qualified entry at the next frame boundary. -/
  | holdoverExpiry
  /-- REVERT_SWITCH (R53): A higher source has stayed qualified for REVERT_DELAY frames and the BTU switches to it. -/
  | revertSwitch
  /-- FORCE_NEXT (R54): A write of BTU_CTRL.FORCE_NEXT treats the source in use as lost, or ends a holdover. -/
  | forceNext
  /-- BTU_SRC_LIST_WRITE (R55): A write of the source list takes effect at the next TG0 frame boundary. -/
  | btuSrcListWrite (value : Reg)
  /-- BTU_EPOCH_WRITE (R55): A write of BTU_EPOCH_HI changes the 802.1AS target phase from the next frame boundary. -/
  | btuEpochWrite (value : Reg)
  /-- BTU_CAM_PHASE_WRITE (R55): A write of BTU_CAM_PHASE changes the camera target phase from the next frame boundary. -/
  | btuCamPhaseWrite (value : Reg)
  /-- BTU_RATE_WRITE (R40): A write of the group rates is applied, or is refused with MAP_REFUSED for reserved codes, ×2 conflicts or lit outputs. -/
  | btuRateWrite (value : Reg)
  /-- BTU_OUT_MAP_WRITE (R41): A write of output groups and ×2 marks is applied, or is refused with MAP_REFUSED. -/
  | btuOutMapWrite (value : Reg)
  /-- TRS_ADD (R72): A TRS.ADD packet inserts 1–511 entries all or nothing and returns their handles, or OK_LATE or TIMELINE_FULL. -/
  | trsAdd (p : Packet)
  /-- TRS_CANCEL (R74): A TRS.CANCEL packet removes one entry by handle, or returns STALE_HANDLE. -/
  | trsCancel (p : Packet)
  /-- TRS_CANCEL_MATCH (R74): A TRS.CANCEL_MATCH packet removes every entry whose action word matches under the mask, optionally within a BT window. -/
  | trsCancelMatch (p : Packet)
  /-- TRS_QUERY (R83): A TRS.QUERY packet returns one entry by handle. -/
  | trsQuery (p : Packet)
  /-- TRS_CADENCE (R71): A TRS.CADENCE packet writes a cadence period, which applies to its entries at their next re-arm. -/
  | trsCadence (p : Packet)
  /-- TRESTLE_FIRE (R66): Due entries fire, up to 16 per clock, and repeating entries are re-armed with skipped occurrences counted. -/
  | trestleFire (bt : BitVec 48)
  /-- REGL_LIST_APPLY (R64): The writes of a read REGL list are issued one per clock from the 128th clock, and writes outside the named pier are dropped. -/
  | reglListApply
  /-- GPIO_PULSE_END (R509): A pulse's width expires and the pin returns to RELEASED. -/
  | gpioPulseEnd (pin : Fin 96)
  /-- TRESTLE_HELD_DELIVERY (R76): An action held for an unpowered target pier is delivered, and counted late, once the pier reaches ON. -/
  | trestleHeldDelivery (pier : Fin 40)
  /-- EVENT_RAISE (R79): A producer raises an event line; its sticky latch is set, or the raise is coalesced and counted. -/
  | eventRaise (line : BitVec 8)
  /-- TRS_EV_LATCH_WRITE (R81): Software writes 1 to an event-latch bit and so raises that line. -/
  | trsEvLatchWrite (k : Fin 11) (value : Reg)
  /-- EVENT_MERGE_PASS (R80): The merge snapshots and clears the set latches and delivers one-clock pulses in ascending line order, 8 per clock. -/
  | eventMergePass
  /-- OUTPUT_LINE_BOUNDARY (R44): An output's scan position reaches a new line, and the per-line stages take up their work for their target lines. -/
  | outputLineBoundary (out : Fin 8) (late : BitVec 32) (stall : Bool) (chk : List (Fin 256))
  /-- LINE_START_DELAYED (R129): A waiting line-program start is given to a core once one becomes idle. -/
  | lineStartDelayed (out : Fin 8)
  /-- SIGNATURE_JUDGE (R243): A complete region signature is judged as pass, fail or unjudged. -/
  | signatureJudge (out : Fin 8) (region : Fin 64)
  /-- POSITION_ERROR (R216): A lit output's scan position leaves the bound of R45, so POS_ERR is set and a pipe fault is reported. -/
  | positionError (out : Fin 8)
  /-- BACKLIGHT_PERIOD_START (R233): The scan position reaches the start of a locked backlight PWM period and the channel turns active. -/
  | backlightPeriodStart (out : Fin 8) (j : Fin 1023)
  /-- SPR_SAT_BASE_WRITE (R109): A write of OUTn_SPR_SAT_BASE starts, or restarts, a sprite index build. -/
  | sprSatBaseWrite (out : Fin 8) (value : Reg)
  /-- SPRITE_BUILD_DONE (R110): A sprite build completes, with failed entries counted, and READY returns to 1. -/
  | spriteBuildDone (out : Fin 8)
  /-- LCC_PROG_BASE_WRITE (R137): A write of LCCn_PROG_BASE starts, or restarts, a code load into the inactive bank of all nine cores. -/
  | lccProgBaseWrite (out : Fin 8) (value : Reg)
  /-- CODE_LOAD_DONE (R137): A code load completes, or fails with LOAD_BAD. -/
  | codeLoadDone (out : Fin 8)
  /-- CODE_REFILL (R138): After its pier returns from OFF the cluster refills its code banks before its first start. -/
  | codeRefill (out : Fin 8)
  /-- RECW0_STORE (R139): A store to RECW0 stages record word 0. -/
  | recw0Store (out : Fin 8) (core : Fin 9) (value : Word)
  /-- RECW1_STORE (R139): A store to RECW1 queues the two record words for line ℓ, or stalls on a full span queue. -/
  | recw1Store (out : Fin 8) (core : Fin 9) (value : Word)
  /-- SPAN_QUEUE_ROOM (R139): An entry of the span queue frees and a stalled RECW1 store completes. -/
  | spanQueueRoom (out : Fin 8) (core : Fin 9)
  /-- DONE_STORE (R139): A store to DONE ends the line program and frees the core. -/
  | doneStore (out : Fin 8) (core : Fin 9)
  /-- EVWAIT_STORE (R136): A store of n to EVWAIT stalls the line core until a pulse on EVn arrives. -/
  | evwaitStore (out : Fin 8) (core : Fin 9) (ev : Word)
  /-- EVWAIT_SATISFIED (R136): A pulse on the awaited event line ends the wait of a line core. -/
  | evwaitSatisfied (out : Fin 8) (core : Fin 9)
  /-- LUT_BASE_WRITE (R170): A write of OUTn_LUT_BASE starts, or restarts, a colour-table copy into the inactive copy. -/
  | lutBaseWrite (out : Fin 8) (value : Reg)
  /-- LUT_COPY_DONE (R170): A colour-table copy completes, or fails with COPY_BAD. -/
  | lutCopyDone (out : Fin 8)
  /-- KEY_CTRL_ARM (R173): A write of ARM in OUTn_KEY_CTRL ORs KEY_MASK into the armed set and sets the arm flag. -/
  | keyCtrlArm (out : Fin 8) (value : Reg)
  /-- KEY_CTRL_DISARM (R173): A write of DISARM in OUTn_KEY_CTRL empties the armed set and clears the arm flag. -/
  | keyCtrlDisarm (out : Fin 8) (value : Reg)
  /-- STAGED_WRITE (R177): A W1S write of an OUTn_STAGED bit marks a layer staged for the next commit. -/
  | stagedWrite (out : Fin 8) (k : Fin 2) (value : Reg)
  /-- SCAN_STORE_WRITE (R189): A write of SCAN_STORE makes the output scan from its frame store, or resume composing at the next keystone point. -/
  | scanStoreWrite (out : Fin 8) (value : Reg)
  /-- CSI_FRAME_START (R195): A Frame Start on a tracked virtual channel begins a new camera frame and feeds the BTU camera reference. -/
  | csiFrameStart (cam : Fin 8) (vc : BitVec 4)
  /-- CSI_FRAME_END (R195): A Frame End packet is received and used for framing. -/
  | csiFrameEnd (cam : Fin 8) (vc : BitVec 4)
  /-- CSI_LONG_PACKET (R196): A long packet is taken into a landing line, or is discarded for its type, length or channel, or refused on overrun. -/
  | csiLongPacket (cam : Fin 8) (vc : BitVec 4) (dt : BitVec 6) (hdr : Fin 3) (crcOk : Bool) (bytes : List (BitVec 8))
  /-- CAMERA_LINE_LANDED (R196): A landed line is checked and becomes valid, or is marked bad on a CRC or header error. -/
  | cameraLineLanded (cam : Fin 8)
  /-- CAMERA_RING_MOVE (R196): A valid landed line moves into its ring slot once the slot's occupant is no longer needed. -/
  | cameraRingMove (cam : Fin 8)
  /-- CAMERA_STREAM_LOST (R208): LOSS_FRAMES frames pass without a Frame Start on VC_SEL, so LOST is set and the event is raised. -/
  | cameraStreamLost (cam : Fin 8)
  /-- DPHY_SYNC_LOSS (R208): A lane loses D-PHY synchronisation and its packet in flight is discarded as a bad line. -/
  | dphySyncLoss (cam : Fin 8) (inFlight : Bool)
  /-- VC_CLR (R195): A write of VC_CLR restarts virtual-channel tracking. -/
  | vcClr (cam : Fin 8) (value : Reg)
  /-- LIGHT_ON_WRITE (R226): A write of 1 to LIGHT checks the output and starts lighting, or refuses it with a cause. -/
  | lightOnWrite (out : Fin 8) (value : Reg)
  /-- PORT_READY (R226): The port finishes initialising or training and PORT_READY is set. -/
  | portReady (out : Fin 8) (psr : BitVec 2) (gran : Nat)
  /-- OUTPUT_LIGHTS (R227): At the first frame boundary after PORT_READY the output lights and scans its dark frame. -/
  | outputLights (out : Fin 8)
  /-- LIGHT_TIMEOUT (R226): PORT_READY is not set within 100 ms of the LIGHT write, so lighting is refused with cause 0x9. -/
  | lightTimeout (out : Fin 8)
  /-- LIGHT_OFF_WRITE (R228): A write of 0 to LIGHT abandons lighting, or schedules the output to go dark. -/
  | lightOffWrite (out : Fin 8) (value : Reg)
  /-- OUTPUT_GOES_DARK (R228): At the frame boundary after a turn-dark the output goes dark and its port idles. -/
  | outputGoesDark (out : Fin 8)
  /-- HPD_LOSS (R220): HPD stays low for more than 2 ms while lit, so LINK_LOST is set and the main link stops. -/
  | hpdLoss (out : Fin 8)
  /-- HPD_RETURN (R220): HPD returns high and the port retrains and resumes video at the next frame boundary. -/
  | hpdReturn (out : Fin 8)
  /-- IRQ_HPD (R220): An IRQ_HPD pulse makes T0 read the sink's link status and retrain the port if a lane lost lock. -/
  | irqHpd (out : Fin 8) (lost : Bool)
  /-- SR_REQ_WRITE (R230): A write of the self-refresh REQ requests entry into, or exit from, self-refresh. -/
  | srReqWrite (out : Fin 8) (value : Reg)
  /-- PARAPET_CHANGE_EXIT (R231): A change in what the parapet draws ends self-refresh when PRP_EXIT is 1. -/
  | parapetChangeExit (out : Fin 8) (inBand : Bool)
  /-- PIPE_RETIRE (R235): A write of PIPEn_CTRL.RETIRE starts a handover of the output onto PIPE8, or sets NO_SPARE. -/
  | pipeRetire (pipe : Fin 8)
  /-- SPARE_PIPE_RETIRE (R236): A RETIRE of PIPE8 marks the spare retired. -/
  | sparePipeRetire
  /-- SPARE_PIPE_LOCKED (R235): PIPE8's PLL locks and the port switches to PIPE8 at the next line boundary. -/
  | sparePipeLocked
  /-- PRP_DATA_HI_WRITE (R253): A write of PRP_DATA_HI stores a word into the parapet store at ADDR and steps ADDR. -/
  | prpDataHiWrite (value : Reg)
  /-- PRP_DATA_LO_READ (R251): A read of PRP_DATA_LO returns a store word, latches its high half and steps ADDR. -/
  | prpDataLoRead
  /-- HEARTBEAT_TIMEOUT (R257): A heartbeat is missed, so HB_LOST is set and telltales take their fail-safe states. -/
  | heartbeatTimeout
  /-- SENTINEL_SUBMIT (R329): A write to SUBMIT hands a mailbox packet to the parapet's sequencer for execution. -/
  | sentinelSubmit (length : BitVec 16)
  /-- SENTINEL_REPLY_RELEASE (R329): The MCU writes RSP_LEN 0 and a waiting reply can be written. -/
  | sentinelReplyRelease
  /-- SENTINEL_READ (R380): A sentinel read returns a 16-bit unit, latching the other parts of the word for a part-0 read. -/
  | sentinelRead (unit : BitVec 14) (flips : BitVec 55)
  /-- SENTINEL_WRITE (R381): A sentinel write merges one 16-bit unit into its exchange word. -/
  | sentinelWrite (unit : BitVec 14) (value : BitVec 16)
  /-- NOP (R274): The NOP instruction does nothing. -/
  | nop (core : CoreId)
  /-- BRK (R285): The BRK instruction raises BREAK. -/
  | brk (core : CoreId)
  /-- RETX (R290): The RETX instruction returns from an exception or interrupt, resolving a recorded delay slot. -/
  | retx (core : CoreId)
  /-- WFI (R289): The WFI instruction waits for an interrupt request or an enabled wake condition. -/
  | wfi (core : CoreId)
  /-- WFI_WAKE (R308): A pending request or an enabled EVMASK condition ends a WFI wait. -/
  | wfiWake (core : CoreId)
  /-- EI (R274): The EI instruction sets ST.IE. -/
  | ei (core : CoreId)
  /-- DI (R274): The DI instruction clears ST.IE. -/
  | di (core : CoreId)
  /-- FENCE (R272): The FENCE instruction waits until every posted store of the core has completed. -/
  | fence (core : CoreId)
  /-- DUP (R274): The DUP instruction duplicates the top of the stack. -/
  | dup (core : CoreId)
  /-- DROP (R274): The DROP instruction discards the top of the stack. -/
  | drop (core : CoreId)
  /-- SWAP (R274): The SWAP instruction exchanges the top two entries. -/
  | swap (core : CoreId)
  /-- OVER (R274): The OVER instruction copies the second entry to the top. -/
  | over (core : CoreId)
  /-- ROT (R274): The ROT instruction rotates the top three entries. -/
  | rot (core : CoreId)
  /-- NIP (R274): The NIP instruction discards the second entry. -/
  | nip (core : CoreId)
  /-- TUCK (R274): The TUCK instruction copies the top entry below the second. -/
  | tuck (core : CoreId)
  /-- TOR (R274): The TOR instruction moves the top entry to the return stack. -/
  | tor (core : CoreId)
  /-- FROMR (R274): The FROMR instruction moves the return-stack top to the data stack. -/
  | fromr (core : CoreId)
  /-- RFETCH (R274): The RFETCH instruction copies the return-stack top to the data stack. -/
  | rfetch (core : CoreId)
  /-- RDROP (R274): The RDROP instruction discards the return-stack top. -/
  | rdrop (core : CoreId)
  /-- ADD (R273): The ADD instruction adds modulo 2^48. -/
  | add (core : CoreId)
  /-- SUB (R273): The SUB instruction subtracts modulo 2^48. -/
  | sub (core : CoreId)
  /-- AND (R274): The AND instruction takes the bitwise AND. -/
  | and (core : CoreId)
  /-- OR (R274): The OR instruction takes the bitwise OR. -/
  | or (core : CoreId)
  /-- XOR (R274): The XOR instruction takes the bitwise exclusive OR. -/
  | xor (core : CoreId)
  /-- NOT (R274): The NOT instruction inverts every bit. -/
  | not (core : CoreId)
  /-- NEG (R273): The NEG instruction negates modulo 2^48. -/
  | neg (core : CoreId)
  /-- INC (R273): The INC instruction adds one. -/
  | inc (core : CoreId)
  /-- DEC (R273): The DEC instruction subtracts one. -/
  | dec (core : CoreId)
  /-- SHL (R273): The SHL instruction shifts left by b[5:0]. -/
  | shl (core : CoreId)
  /-- SHR (R273): The SHR instruction shifts right logically by b[5:0]. -/
  | shr (core : CoreId)
  /-- SAR (R273): The SAR instruction shifts right arithmetically by b[5:0]. -/
  | sar (core : CoreId)
  /-- MIN (R274): The MIN instruction takes the signed minimum. -/
  | min (core : CoreId)
  /-- MAX (R274): The MAX instruction takes the signed maximum. -/
  | max (core : CoreId)
  /-- ABS (R273): The ABS instruction takes the absolute value. -/
  | abs (core : CoreId)
  /-- MUL (R273): The MUL instruction gives the low 48 bits of the product. -/
  | mul (core : CoreId)
  /-- MULH (R273): The MULH instruction gives the high half of the signed product. -/
  | mulh (core : CoreId)
  /-- MULHU (R273): The MULHU instruction gives the high half of the unsigned product. -/
  | mulhu (core : CoreId)
  /-- MULQ (R273): The MULQ instruction gives the 24.24 product. -/
  | mulq (core : CoreId)
  /-- DIV (R273): The DIV instruction divides signed, truncating toward zero, or raises DIV0. -/
  | div (core : CoreId)
  /-- DIVU (R273): The DIVU instruction divides unsigned. -/
  | divu (core : CoreId)
  /-- REM (R273): The REM instruction gives the signed remainder. -/
  | rem (core : CoreId)
  /-- REMU (R273): The REMU instruction gives the unsigned remainder. -/
  | remu (core : CoreId)
  /-- DIVQ (R273): The DIVQ instruction gives the 24.24 quotient. -/
  | divq (core : CoreId)
  /-- EQ (R274): The EQ instruction pushes 1 when a equals b. -/
  | eq (core : CoreId)
  /-- NE (R274): The NE instruction pushes 1 when a differs from b. -/
  | ne (core : CoreId)
  /-- LT (R274): The LT instruction pushes 1 when a is below b, signed. -/
  | lt (core : CoreId)
  /-- GE (R274): The GE instruction pushes 1 when a is not below b, signed. -/
  | ge (core : CoreId)
  /-- LTU (R274): The LTU instruction pushes 1 when a is below b, unsigned. -/
  | ltu (core : CoreId)
  /-- GEU (R274): The GEU instruction pushes 1 when a is not below b, unsigned. -/
  | geu (core : CoreId)
  /-- LD (R271): The LD instruction loads the word at the banked short address. -/
  | ld (core : CoreId)
  /-- ST (R271): The ST instruction stores to the banked short address, posting stores that leave the core. -/
  | st (core : CoreId)
  /-- LDF (R271): The LDF instruction loads from a 40-bit address. -/
  | ldf (core : CoreId)
  /-- STF (R271): The STF instruction stores to a 40-bit address. -/
  | stf (core : CoreId)
  /-- LDFI (R271): The LDFI instruction loads and leaves the address plus 1. -/
  | ldfi (core : CoreId)
  /-- STFI (R271): The STFI instruction stores and leaves the address plus 1. -/
  | stfi (core : CoreId)
  /-- LIT12 (R264): The LIT12 instruction pushes its sign-extended operand slot. -/
  | lit12 (core : CoreId)
  /-- LIT24 (R264): The LIT24 instruction pushes its two operand slots as a sign-extended 24-bit value. -/
  | lit24 (core : CoreId)
  /-- LITW (R264): The LITW instruction pushes a following literal word. -/
  | litw (core : CoreId)
  /-- CB_EQ (R266): The CB.EQ instruction branches with a delay slot when a equals b. -/
  | cbEq (core : CoreId)
  /-- CB_NE (R266): The CB.NE instruction branches with a delay slot when a differs from b. -/
  | cbNe (core : CoreId)
  /-- CB_LT (R266): The CB.LT instruction branches with a delay slot when a is below b, signed. -/
  | cbLt (core : CoreId)
  /-- CB_GE (R266): The CB.GE instruction branches with a delay slot when a is not below b, signed. -/
  | cbGe (core : CoreId)
  /-- CB_LTU (R266): The CB.LTU instruction branches with a delay slot when a is below b, unsigned. -/
  | cbLtu (core : CoreId)
  /-- CB_GEU (R266): The CB.GEU instruction branches with a delay slot when a is not below b, unsigned. -/
  | cbGeu (core : CoreId)
  /-- JMP (R267): The JMP instruction jumps by a displacement after its delay slot. -/
  | jmp (core : CoreId)
  /-- CALL (R267): The CALL instruction pushes the resolved next word and jumps by a displacement. -/
  | call (core : CoreId)
  /-- JMPI (R267): The JMPI instruction jumps to a popped address. -/
  | jmpi (core : CoreId)
  /-- CALLI (R267): The CALLI instruction pushes the resolved next word and jumps to a popped address. -/
  | calli (core : CoreId)
  /-- RET (R267): The RET instruction jumps to the popped return address. -/
  | ret (core : CoreId)
  /-- LOOP (R276): The LOOP instruction sets up a hardware loop over the following N words. -/
  | loop (core : CoreId)
  /-- LPUSH (R279): The LPUSH instruction saves the loop state on the return stack. -/
  | lpush (core : CoreId)
  /-- LPOP (R279): The LPOP instruction restores the loop state from the return stack. -/
  | lpop (core : CoreId)
  /-- GETS (R280): The GETS instruction pushes a special register. -/
  | gets (core : CoreId)
  /-- SETS (R280): The SETS instruction writes a special register, with a two-slot shadow for MODE and BNK. -/
  | sets (core : CoreId)
  /-- INTERRUPT_ENTRY (R289): A pending interrupt request is taken at a permitted slot boundary and enters vector 9. -/
  | interruptEntry (core : CoreId)
  /-- PIO_SET_WRITE (R303): A store to PIO_SET sets bits of the steward's private port output. -/
  | pioSetWrite (core : CoreId) (value : Word)
  /-- PIO_CLR_WRITE (R303): A store to PIO_CLR clears bits of the private port output. -/
  | pioClrWrite (core : CoreId) (value : Word)
  /-- PIO_TGL_WRITE (R303): A store to PIO_TGL inverts bits of the private port output. -/
  | pioTglWrite (core : CoreId) (value : Word)
  /-- LOCKSTEP_MISMATCH (R298): The cores of a lockstep pair differ at an access; T0 restarts or paired T1 stops. -/
  | lockstepMismatch (paired : Bool)
  /-- T0_RESTART (R487): PIER02 is reset and the resident firmware restarts, ending every session. -/
  | t0Restart
  /-- SEC_LOAD (R304): A write of LOAD copies a customer image into a steward's local memory, or sets LOAD_BAD. -/
  | secLoad (t : Fin 2)
  /-- STEWARD_LOAD_DONE (R304): A customer image copy completes and any waiting start begins. -/
  | stewardLoadDone (t : Fin 2)
  /-- SEC_RUN_START (R304): RUN going from 0 to 1 starts a customer core under R300. -/
  | secRunStart (t : Fin 2)
  /-- SEC_RUN_STOP (R304): RUN going from 1 to 0 stops a customer core at once. -/
  | secRunStop (t : Fin 2)
  /-- SEC_PAIR_WRITE (R299): A write of PAIR pairs or unpairs STW3 with STW2 while both targets are stopped. -/
  | secPairWrite (pair : Bool)
  /-- CUSTOMER_AUTO_RESTART (R307): After a customer core stops on a fault, T0 reloads its image and starts it within 1 ms. -/
  | customerAutoRestart (t : Fin 2)
  /-- IRQ_SOURCE_RAISE (R310): A producer raises an interrupt source, which sets its pending bit or is coalesced. -/
  | irqSourceRaise (src : Fin 511)
  /-- IRQC_SETP_WRITE (R310): A 1 written to an IRQC_SETPk bit sets that source's pending bit. -/
  | irqcSetpWrite (k : Fin 22) (value : Reg)
  /-- IRQC_CLRP_WRITE (R310): A 1 written to an IRQC_CLRPk bit clears that source's pending bit. -/
  | irqcClrpWrite (k : Fin 22) (value : Reg)
  /-- IRQC_CLAIM_READ (R312): A claim read returns the highest eligible source and pushes the running priority, or returns 0 or 511. -/
  | irqcClaimRead (t : Fin 3)
  /-- IRQC_EOI_POP (R314): A write of EOI.POP pops the target's priority stack. -/
  | irqcEoiPop (t : Fin 3)
  /-- HOST_RING_BELL (R325): A write of HOST_RINGr_BELL makes T0 examine the command rings. -/
  | hostRingBell (r : Fin 8) (value : Reg)
  /-- RING_POLL (R325): T0 examines every command ring at least every 100 µs and takes whole packets. -/
  | ringPoll
  /-- UDP_DATAGRAM (R326): A UDP datagram carrying one packet is taken, discarded, or answered from the duplicate cache. -/
  | udpDatagram (mac : Fin 2) (vlan : Nat) (ip : Nat) (src : Nat) (dst : Nat) (frag : Bool) (badSum : Bool) (bytes : List (BitVec 8))
  /-- SPI_TARGET_WRITE (R328): A SPI WRITE transaction submits one packet at the rising edge of chip select. -/
  | spiTargetWrite (bytes : List (BitVec 8))
  /-- SPI_TARGET_READ (R328): A SPI READ transaction returns the oldest owed reply and releases it if it was read whole. -/
  | spiTargetRead (count : Nat)
  /-- SPI_TARGET_STATUS (R328): A SPI STATUS transaction returns the reply-waiting and packet-accepted bits. -/
  | spiTargetStatus
  /-- SESSION_IDLE_TIMEOUT (R337): A session has been idle for IDLE_S seconds and ends. -/
  | sessionIdleTimeout (slot : Fin 8)
  /-- CHALLENGE_EXPIRY (R335): A CHALLENGED slot returns to FREE 1 s after its challenge. -/
  | challengeExpiry (slot : Fin 8)
  /-- SES_HELLO (R335): SES.HELLO challenges the lowest free slot and returns a nonce and the serial. -/
  | sesHello (p : Packet)
  /-- SES_PROVE (R336): SES.PROVE checks the MAC and opens the session at the requested levels, or fails. -/
  | sesProve (p : Packet)
  /-- SES_CLOSE (R337): SES.CLOSE ends the session. -/
  | sesClose (p : Packet)
  /-- SES_INFO (R341): SES.INFO returns a slot's session state and, at INTEGRATOR level, its violation count. -/
  | sesInfo (p : Packet)
  /-- SES_PING (R341): SES.PING returns BT. -/
  | sesPing (p : Packet)
  /-- REG_READ (R341): REG.READ returns one value per register address. -/
  | regRead (p : Packet)
  /-- REG_WRITE (R339): REG.WRITE writes register address and value pairs, skipping closed fields under the silent rule. -/
  | regWrite (p : Packet)
  /-- MEM_READ (R341): MEM.READ returns a run of memory words. -/
  | memRead (p : Packet)
  /-- MEM_WRITE (R341): MEM.WRITE writes a run of memory words. -/
  | memWrite (p : Packet)
  /-- MEM_FILL (R369): MEM.FILL writes one value over a run of words through the fill engine. -/
  | memFill (p : Packet)
  /-- BUF_ALLOC (R361): BUF.ALLOC takes the lowest free run of slabs and returns a handle, or NO_MEMORY. -/
  | bufAlloc (p : Packet)
  /-- BUF_FREE (R363): BUF.FREE checks generation and ownership and releases the buffer for scrubbing. -/
  | bufFree (p : Packet)
  /-- BUF_INFO (R363): BUF.INFO returns a buffer's base, owner and size. -/
  | bufInfo (p : Packet)
  /-- SLAB_SCRUB_DONE (R361): A freed slab has been written to zero and becomes free. -/
  | slabScrubDone (slab : BitVec 12)
  /-- LAY_SET (R191): LAY.SET writes layer registers. -/
  | laySet (p : Packet)
  /-- LAY_GET (R191): LAY.GET returns a layer's registers. -/
  | layGet (p : Packet)
  /-- LAY_STAGE (R191): LAY.STAGE sets the STAGED bits of a layer mask. -/
  | layStage (p : Packet)
  /-- SPR_PUBLISH (R126): SPR.PUBLISH writes COUNT_M1 and SAT_BASE and replies when the build ends. -/
  | sprPublish (p : Packet)
  /-- SPR_STATUS (R126): SPR.STATUS returns the sprite status and overflow record. -/
  | sprStatus (p : Packet)
  /-- SPR_AFFINE (R126): SPR.AFFINE writes one affine set. -/
  | sprAffine (p : Packet)
  /-- TIL_SET (R341): TIL.SET writes tile-slot registers. -/
  | tilSet (p : Packet)
  /-- TIL_GET (R341): TIL.GET returns a tile slot's registers. -/
  | tilGet (p : Packet)
  /-- TIL_PALETTE (R341): TIL.PALETTE writes a run of palette entries to the shadow. -/
  | tilPalette (p : Packet)
  /-- LPG_LOAD (R158): LPG.LOAD writes PROG_LEN and PROG_BASE and replies when the load completes. -/
  | lpgLoad (p : Packet)
  /-- LPG_PARAM (R158): LPG.PARAM writes LCCn_PARAM. -/
  | lpgParam (p : Packet)
  /-- LPG_STATUS (R158): LPG.STATUS returns cluster status, counters and the event record. -/
  | lpgStatus (p : Packet)
  /-- KEY_ARM (R173): KEY.ARM arms a commit with a mask, replying when the commit applies if WAIT is set. -/
  | keyArm (p : Packet)
  /-- KEY_DISARM (R173): KEY.DISARM disarms an output's pending commit. -/
  | keyDisarm (p : Packet)
  /-- KEY_STATUS (R191): KEY.STATUS returns the keystone status and counters. -/
  | keyStatus (p : Packet)
  /-- CAM_CONFIG (R210): CAM.CONFIG writes camera port registers. -/
  | camConfig (p : Packet)
  /-- CAM_WARP (R210): CAM.WARP moves WARP_BASE. -/
  | camWarp (p : Packet)
  /-- CAM_STATUS (R210): CAM.STATUS returns camera status and counters. -/
  | camStatus (p : Packet)
  /-- OUT_LIGHT (R238): OUT.LIGHT writes OUTn_CTRL, replying when lit or refused if WAIT is set. -/
  | outLight (p : Packet)
  /-- OUT_STATUS (R238): OUT.STATUS returns output status and counters. -/
  | outStatus (p : Packet)
  /-- OUT_SR (R238): OUT.SR writes the self-refresh request. -/
  | outSr (p : Packet)
  /-- OUT_BACKLIGHT (R238): OUT.BACKLIGHT writes the backlight registers. -/
  | outBacklight (p : Packet)
  /-- OUT_AUX (R238): OUT.AUX carries an eDP AUX transaction and replies on completion. -/
  | outAux (p : Packet)
  /-- OUT_DCS (R238): OUT.DCS carries a DSI DCS transaction and replies on completion. -/
  | outDcs (p : Packet)
  /-- OUT_SIG (R261): OUT.SIG writes signature region registers and OUTn_SIG_CTRL, except FORCE_PRP. -/
  | outSig (p : Packet)
  /-- OUT_SIG_READ (R261): OUT.SIG_READ returns a region's LAST, status and counters. -/
  | outSigRead (p : Packet)
  /-- AUD_VOICE (R342): AUD.VOICE starts or stops a voice when T0 executes it. -/
  | audVoice (p : Packet)
  /-- AUD_SET (R437): AUD.SET writes audio registers, with configuration registers reserved to INTEGRATOR. -/
  | audSet (p : Packet)
  /-- AUD_STATUS (R341): AUD.STATUS returns a run of audio register values. -/
  | audStatus (p : Packet)
  /-- CFG_APPLY (R356): CFG.APPLY checks and stages an overlay onto the active list. -/
  | cfgApply (p : Packet)
  /-- CFG_REMOVE (R359): CFG.REMOVE removes an overlay and restores the bits it wrote. -/
  | cfgRemove (p : Packet)
  /-- CFG_STATUS (R341): CFG.STATUS returns the active overlays and the base version. -/
  | cfgStatus (p : Packet)
  /-- CFG_WRITE (R355): CFG.WRITE checks an image and writes it to the configuration store, or erases an overlay. -/
  | cfgWrite (p : Packet)
  /-- CFG_STEWARD (R341): CFG.STEWARD writes a customer target's SEC_Tt registers. -/
  | cfgSteward (p : Packet)
  /-- TRIGGER_DECLARED (R360): A trigger condition holds for its debounce time and its overlay action is taken. -/
  | triggerDeclared (i : Fin 32)
  /-- CAN_FD_FRAME (R350): A received CAN FD frame with a trigger identifier sets its condition asserted or deasserted. -/
  | canFdFrame (ctl : Fin 2) (ide : Bool) (id : BitVec 29) (data : List (BitVec 8))
  /-- UPD_BEGIN (R493): UPD.BEGIN erases the inactive slot and starts a download. -/
  | updBegin (p : Packet)
  /-- UPD_DATA (R493): UPD.DATA writes image words to flash. -/
  | updData (p : Packet)
  /-- UPD_VERIFY (R493): UPD.VERIFY starts verification of the downloaded image. -/
  | updVerify (p : Packet)
  /-- UPD_VERIFY_DONE (R493): Verification ends with VERIFIED, or with IMAGE_INVALID and IDLE. -/
  | updVerifyDone (ok : Bool)
  /-- UPD_ACTIVATE (R495): UPD.ACTIVATE writes the boot record for a trial of the new image, live or at next start. -/
  | updActivate (p : Packet)
  /-- UPD_CONFIRM (R497): UPD.CONFIRM sets CONFIRM_RCVD. -/
  | updConfirm (p : Packet)
  /-- UPD_STATUS (R493): UPD.STATUS returns the update state and versions. -/
  | updStatus (p : Packet)
  /-- UPD_ABORT (R493): UPD.ABORT abandons a download or reverts a trial. -/
  | updAbort (p : Packet)
  /-- TRIAL_CONFIRMED (R497): UPD_HEALTHY reaches TRIAL_FRAMES with CONFIRM_RCVD set and the record is written CONFIRMED. -/
  | trialConfirmed
  /-- TRIAL_LIMIT_EXPIRY (R497): TRIAL_LIMIT_S passes unconfirmed and T0 reverts live to the previous image. -/
  | trialLimitExpiry (ok : Bool)
  /-- LIVE_HANDOVER (R498): At a TG0 frame boundary the new firmware image starts from the handover block. -/
  | liveHandover
  /-- FLT_STATUS (R341): FLT.STATUS returns degraded outputs and journal occupancy. -/
  | fltStatus (p : Packet)
  /-- FLT_JOURNAL (R341): FLT.JOURNAL returns journal records. -/
  | fltJournal (p : Packet)
  /-- FLT_CLEAR (R488): FLT.CLEAR empties the journal ring and error histories. -/
  | fltClear (p : Packet)
  /-- FLT_RETIRE (R482): FLT.RETIRE makes a unit permanent at once. -/
  | fltRetire (p : Packet)
  /-- ERROR_REPORT (R480): The fault manager judges a reported error, journals it and may declare the unit permanent. -/
  | errorReport (found : Option (Fin 81))
  /-- RECOVERY_END (R483): A recovery ends and the next queued unit of the span starts. -/
  | recoveryEnd (span : Fin 4)
  /-- RECOVERY_TIMEOUT (R483): A recovery not ended within 2 frames is abandoned as a fault of the replacement. -/
  | recoveryTimeout (span : Fin 4)
  /-- FLT_LC_RETIRE_GO (R484): A write of FLT_LC_RETIRE.GO maps a line core onto LC8 from the next start. -/
  | fltLcRetireGo (value : Reg)
  /-- PWR_STATE (R466): PWR.STATE writes the target device state that T0 works toward. -/
  | pwrState (p : Packet)
  /-- PWR_HOLD (R462): PWR.HOLD holds a pier ON or OFF, or releases it. -/
  | pwrHold (p : Packet)
  /-- PWR_STATUS (R341): PWR.STATUS returns the device and pier states. -/
  | pwrStatus (p : Packet)
  /-- PIER_STATE_CHOICE (R463): The sequencer chooses the deepest allowed state for a pier whose ON condition is false and starts its entry. -/
  | pierStateChoice (pier : Fin 40)
  /-- PIER_ENTRY_DONE (R457): A pier reaches DOZE, NAP or OFF after the entry time. -/
  | pierEntryDone (pier : Fin 40)
  /-- DEMAND_WAKE (R459): An arrival at a pier that is not ON starts a wake and waits until the pier is ON. -/
  | demandWake (pier : Fin 40)
  /-- PLANNED_WAKE (R464): TNE falls to the wake time plus restore plus GUARD and the sequencer starts waking the pier. -/
  | plannedWake (pier : Fin 40)
  /-- PIER_WAKE_DONE (R457): A pier reaches ON after its wake and restore time and its held arrivals proceed. -/
  | pierWakeDone (pier : Fin 40)
  /-- LINGER_EXPIRY (R464): LINGER µs pass after a demand, and the pier may leave ON. -/
  | lingerExpiry (pier : Fin 40)
  /-- PARK_WAKE_EVENT (R468): An enabled wake event in PARK brings PIER39, the memory spans and PIER02 ON and raises source 305. -/
  | parkWakeEvent (bit : Fin 5)
  /-- MEMORY_READ (R371): A fabric read of a word is served, correcting a single-bit error with write-back or reporting an uncorrectable one. -/
  | memoryRead (master : BitVec 8) (addr : BitVec 40) (flips : BitVec 55) (waited : Bool) (held : Nat)
  /-- MEMORY_WRITE (R370): A fabric write of a whole word lands at its bank. -/
  | memoryWrite (master : BitVec 8) (addr : BitVec 40) (value : Word) (mask : Word) (waited : Bool) (held : Nat)
  /-- BIT_SET_STORE (R375): A store to the bit-set alias ORs the value into a main-memory word atomically. -/
  | bitSetStore (master : BitVec 8) (addr : BitVec 24) (value : Word)
  /-- BIT_CLEAR_STORE (R375): A store to the bit-clear alias clears bits of a main-memory word atomically. -/
  | bitClearStore (master : BitVec 8) (addr : BitVec 24) (value : Word)
  /-- PATROL_SCRUB_READ (R373): The patrol scrubber reads the next word of a bank and treats its errors. -/
  | patrolScrubRead (bank : Fin 272) (flips : BitVec 55)
  /-- SCRUB_PERIOD_END (R373): A patrol period ends; MEM_SCRUB_PASS steps and unfinished banks set SCRUB_LATE. -/
  | scrubPeriodEnd
  /-- SPAN_ZEROED (R374): A memory span finishes zeroing and its waiting requests are served. -/
  | spanZeroed (span : Fin 4)
  /-- SPARE_GO (R376): A write of MEM_SPARE_CTRL.GO starts mirroring and copying a bank onto a spare, or sets SPARE_BAD. -/
  | spareGo (spare : Fin 16) (bank : Fin 256)
  /-- SPARE_ABORT (R378): A write of ABORT stops a running bank replacement before its remap. -/
  | spareAbort (spare : Fin 16)
  /-- SPARE_REMAP (R377): After the last offset is copied, the spare answers for the bank at the first quiet clock. -/
  | spareRemap (spare : Fin 16)
  /-- DDR_ENABLE (R383): A write of MEM_DDR_CFG.EN trains the LPDDR5X channels and opens the space. -/
  | ddrEnable (value : Reg)
  /-- DDR_TRAINED (R383): LPDDR5X training ends with READY, or with TRAIN_FAIL. -/
  | ddrTrained (ok : Bool)
  /-- DMA_START_WRITE (R387): A write of DMAc_CTRL.START starts a channel program, or sets START_BUSY. -/
  | dmaStartWrite (c : Fin 32) (value : Reg)
  /-- DMA_STOP_WRITE (R388): A write of DMAc_CTRL.STOP ends a channel program at its next burst boundary. -/
  | dmaStopWrite (c : Fin 32) (value : Reg)
  /-- DMA_MOVE (R390): The DMA MOVE instruction copies words as bursts. -/
  | dmaMove (c : Fin 32)
  /-- DMA_LOOP (R391): The DMA LOOP instruction opens a counted loop, or skips it. -/
  | dmaLoop (c : Fin 32)
  /-- DMA_ENDLOOP (R391): The DMA ENDLOOP instruction closes a loop pass. -/
  | dmaEndloop (c : Fin 32)
  /-- DMA_WAIT (R392): The DMA WAIT instruction holds the channel for an event pulse or a BT. -/
  | dmaWait (c : Fin 32)
  /-- DMA_WAIT_SATISFIED (R392): An awaited pulse arrives or the awaited BT is reached and the channel continues. -/
  | dmaWaitSatisfied (c : Fin 32)
  /-- DMA_SIGNAL (R393): The DMA SIGNAL instruction raises an event line once the channel's writes have completed. -/
  | dmaSignal (c : Fin 32)
  /-- DMA_HALT (R393): The DMA HALT instruction optionally raises an event and returns the channel to IDLE. -/
  | dmaHalt (c : Fin 32)
  /-- DMA_BURST_COMPLETE (R394): A burst's writes complete, or a bus error retries it or halts the channel with CAUSE 1. -/
  | dmaBurstComplete (c : Fin 32)
  /-- BLT_COPY (R402): GO with OP COPY copies a rectangle, turned and mirrored, or refuses it. -/
  | bltCopy (value : Reg)
  /-- BLT_FILL (R401): GO with OP FILL fills the destination rectangle, or refuses it. -/
  | bltFill (value : Reg)
  /-- BLT_BLEND (R404): GO with OP BLEND blends the source over the destination, or refuses it. -/
  | bltBlend (value : Reg)
  /-- BLT_DONE (R407): A blitter operation completes, or stops on a bus error after its retries. -/
  | bltDone
  /-- BLT_LIST_START (R409): A write of BLT_LIST_HI starts a YT5210 command list, or sets GO_BUSY. -/
  | bltListStart (value : Reg)
  /-- YT_SRC (R409): The list command SRC sets the source surface. -/
  | ytSrc
  /-- YT_DST (R409): The list command DST sets the destination surface. -/
  | ytDst
  /-- YT_CLIP (R409): The list command CLIP sets a clip rectangle. -/
  | ytClip
  /-- YT_COPY (R410): The list command COPY loads registers and runs a copy. -/
  | ytCopy
  /-- YT_FILL (R410): The list command FILL loads registers and runs a fill. -/
  | ytFill
  /-- YT_BLEND (R410): The list command BLEND loads registers and runs a blend. -/
  | ytBlend
  /-- YT_SIGNAL (R409): The list command SIGNAL raises an event line after every write has completed. -/
  | ytSignal
  /-- YT_JUMP (R409): The list command JUMP continues at a relative unit index. -/
  | ytJump
  /-- YT_END (R409): The list command END ends the list. -/
  | ytEnd
  /-- AUD_VSTART_WRITE (R417): A 1 written to an AUD_VSTARTk bit starts or restarts a voice. -/
  | audVstartWrite (k : Fin 6) (value : Reg)
  /-- AUD_VSTOP_WRITE (R419): A 1 written to an AUD_VSTOPk bit puts a voice into release. -/
  | audVstopWrite (k : Fin 6) (value : Reg)
  /-- AUDIO_SAMPLE_PERIOD (R417): A sample period begins; voices, buses and TDM slots compute and send their samples. -/
  | audioSamplePeriod (late : List (Fin 144)) (got : List (Fin 128 × BitVec 32))
  /-- AUD_GAIN_WRITE (R421): A write that changes ATTEN starts a gain ramp from the value reached. -/
  | audGainWrite (gain : Fin 147) (value : Reg)
  /-- AUD_EQ_A2_WRITE (R424): A write of an a2 coefficient applies the band's staged coefficients at the next sample boundary. -/
  | audEqA2Write (bus : Fin 16) (band : Fin 10) (value : Reg)
  /-- MONITOR_WINDOW_EXPIRY (R434): A chime monitor's window ends without a passing block, so MISS is set and an audio fault is reported. -/
  | monitorWindowExpiry (mon : Fin 8)
  /-- JACK_PLUG_DEBOUNCED (R432): A plug held for PLUG_DB ms is declared inserted and identification begins. -/
  | jackPlugDebounced (jack : Fin 2)
  /-- JACK_ID_DONE (R432): Identification ends, setting PLUGGED, ACC and PLUG_IN. -/
  | jackIdDone (jack : Fin 2) (r2s : Nat) (left : Nat) (sleeve : Nat) (ring2 : Nat)
  /-- JACK_REMOVAL (R432): A removal held for PLUG_DB ms clears the plug state and mutes the amplifier. -/
  | jackRemoval (jack : Fin 2)
  /-- JACK_BUTTON_CHANGE (R433): A decoded button change held for BTN_DB ms is declared. -/
  | jackButtonChange (jack : Fin 2) (micI : Nat)
  /-- JACK_SHORT (R431): An output load below 8 Ω mutes the amplifier and sets SHORT. -/
  | jackShort (jack : Fin 2)
  /-- WRN_EN_WRITE (R444): A write of WRNk_CTRL.EN starts or stops a port's training. -/
  | wrnEnWrite (port : Fin 3) (value : Reg)
  /-- WRN_TRAINED (R444): Training completes with the link up, or with a wiring error. -/
  | wrnTrained (port : Fin 3) (peer : Fin 4) (peerPort : Fin 3) (tx : BitVec 9) (rx : BitVec 9)
  /-- WRN_RETRAIN_TIMER (R444): An untrained enabled port tries to train again every 10 ms. -/
  | wrnRetrainTimer (port : Fin 3)
  /-- WRN_LINK_DOWN (R445): An up link goes down; LINK_DOWN is set and the loss actions of R455 begin. -/
  | wrnLinkDown (port : Fin 3)
  /-- LANE_ERROR (R443): An invalid sync header or BIP-8 mismatch on a lane is counted and reported. -/
  | laneError (port : Fin 3) (dir : Fin 2) (lane : Fin 9)
  /-- NAK_RECEIVED (R442): A NAK makes the transmitter resend sequenced cells from ACK + 1. -/
  | nakReceived (port : Fin 3) (ack : BitVec 12)
  /-- WRN_LANE_GO (R446): A write of WRNk_LANE_CTRL.GO sends a LINK SWAP to move a lane onto lane 8. -/
  | wrnLaneGo (port : Fin 3) (value : Reg)
  /-- LANE_SWAP_DONE (R446): At marker M both ends carry the retired logical lane on lane 8. -/
  | laneSwapDone (port : Fin 3)
  /-- LINK_CELL (R444): A LINK cell carrying training state or a SWAP is received. -/
  | linkCell (port : Fin 3) (head : CellHead) (msg : LinkMsg)
  /-- TIME_CELL_SEND (R448): Every 4 µs a port sends a TIME cell. -/
  | timeCellSend (port : Fin 3)
  /-- TIME_CELL (R448): A received TIME cell updates the link delay and master election and feeds the BTU peer source. -/
  | timeCell (port : Fin 3) (head : CellHead) (words : List Word) (freq : Int)
  /-- PIX_CELL (R451): A received PIX cell lands its dots in the REMOTE ring line. -/
  | pixCell (port : Fin 3) (head : CellHead) (cls : BitVec 20) (words : List Word) (w : Nat) (h : Nat)
  /-- CMD_CELL (R453): A received CMD cell completes a forwarded packet for execution or returns its reply. -/
  | cmdCell (port : Fin 3) (head : CellHead) (cls : BitVec 20) (words : List Word) (mark : BitVec 5)
  /-- MEM_CELL (R454): A received MEM cell performs a peer-window read or write, or returns data or an error. -/
  | memCell (port : Fin 3) (head : CellHead) (cls : BitVec 20) (data : Word)
  /-- WRN_MEM_READ_TIMEOUT (R454): A peer-window read unanswered within 20 µs fails with a bus error. -/
  | wrnMemReadTimeout (port : Fin 3) (tag : Fin 64)
  /-- WRN_STREAM_ENABLE (R450): A write of EN in WRNk_TXs_CTRL enables a PIX stream, or refuses it with STR_REFUSED. -/
  | wrnStreamEnable (port : Fin 3) (stream : Fin 32) (value : Reg)
  /-- PEER_HOLD_EXPIRY (R455): PEER_HOLD frames after a link loss the peer's REMOTE layers are hidden and the loss overlay shows. -/
  | peerHoldExpiry (port : Fin 3) (out : Fin 8)
  /-- GPIO_INPUT_CHANGE (R513): A pad's synchronised level changes and interrupt conditions and GPIO_INk are updated. -/
  | gpioInputChange (pin : Fin 96) (level : Bool)
  /-- WAKE_DETECT (R514): A wake pin holds its level for DB µs and the detector fires. -/
  | wakeDetect (k : Fin 16)
  /-- BANK_SUPPLY_CHANGE (R502): A bank supply leaves or returns to its class, turning the bank's outputs off or on. -/
  | bankSupplyChange (bank : Fin 6) (mv : Nat)
  /-- XBAR_TRS_RELEASE (R509): A write of XBAR_PINp.TRS to 0 puts the pin's trestle state to RELEASED. -/
  | xbarTrsRelease (pin : Fin 96) (value : Reg)
  /-- EVI_EDGE (R511): A selected edge on an EVI input raises its event line. -/
  | eviEdge (j : Fin 16) (rising : Bool)
  /-- EVO_WIDTH_EXPIRY (R511): An EVO output's width expires and it goes low. -/
  | evoWidthExpiry (j : Fin 8)
  /-- TMR_ENABLE (R515): EN going from 0 to 1 loads OUT_INIT into the timer output and starts counting. -/
  | tmrEnable (n : Fin 16) (value : Reg)
  /-- TMR_STEP (R516): A timer steps its count and fires MATCH on reaching CMP, with reload. -/
  | tmrStep (n : Fin 16) (k : Fin 4)
  /-- TMR_CAPTURE_EDGE (R517): A capture edge or event pulse pushes the count into the capture queue, or is refused with CAP_OVF. -/
  | tmrCaptureEdge (n : Fin 16) (rising : Bool) (back : Fin 10)
  /-- TMR_CAPTURE_WRITE (R517): A write of CAPTURE pushes the current count. -/
  | tmrCaptureWrite (n : Fin 16) (value : Reg)
  /-- TMR_CAPQ_READ (R518): A read of TMRn_CAPQ_LO pops the oldest capture and latches its high half. -/
  | tmrCapqRead (n : Fin 16)
  /-- PWM_PERIOD_START (R520): A PWM period begins and pending PERIOD and DUTY values apply. -/
  | pwmPeriodStart (c : Fin 16)
  /-- DBG_ATTACH (R523): DBG.ATTACH attaches the session to the monitor. -/
  | dbgAttach (p : Packet)
  /-- DBG_DETACH (R524): DBG.DETACH ends attachment, removing the session's points and possibly resuming halted cores. -/
  | dbgDetach (p : Packet)
  /-- DBG_READ (R526): DBG.READ reads words, including protected blocks and core debug views. -/
  | dbgRead (p : Packet)
  /-- DBG_TRACE (R537): DBG.TRACE returns records from the trestle or stale log and advances the read position. -/
  | dbgTrace (p : Packet)
  /-- DBG_HALT (R527): DBG.HALT requests a halt of a customer steward or line core. -/
  | dbgHalt (p : Packet)
  /-- DEBUG_HALT_TAKEN (R527): A requested halt takes effect at the first permitted slot boundary. -/
  | debugHaltTaken (core : CoreId)
  /-- DBG_RESUME (R530): DBG.RESUME continues a halted core. -/
  | dbgResume (p : Packet)
  /-- DBG_STEP (R531): DBG.STEP executes a number of slots and halts again, replying with EPC and ST. -/
  | dbgStep (p : Packet)
  /-- DBG_POINT (R533): DBG.POINT sets or clears a breakpoint or watchpoint. -/
  | dbgPoint (p : Packet)
  /-- DBG_WRITE (R532): DBG.WRITE writes a halted core's debug view. -/
  | dbgWrite (p : Packet)
  /-- TTL_SET (R254): TTL.SET sets a telltale ON. -/
  | ttlSet (p : Packet)
  /-- TTL_CLEAR (R254): TTL.CLEAR sets a telltale OFF. -/
  | ttlClear (p : Packet)
  /-- TTL_BLINK (R254): TTL.BLINK sets a telltale to BLINK with a phase. -/
  | ttlBlink (p : Packet)
  /-- TTL_HEARTBEAT (R257): TTL.HEARTBEAT restarts the heartbeat timeout. -/
  | ttlHeartbeat (p : Packet)
  /-- TTL_STATUS (R261): TTL.STATUS returns PRP_STATUS and the telltale states. -/
  | ttlStatus (p : Packet)
  /-- TTL_LOAD (R261): TTL.LOAD writes parapet store words. -/
  | ttlLoad (p : Packet)
  /-- AS_CAPABLE_CHANGE (R48): The selected MAC's 802.1AS asCapable becomes false, so the 802.1AS source is lost and holdover begins if it is in use. -/
  | asCapableChange (mac : Fin 2) (capable : Bool)
  /-- TIME_CLASS_TIMEOUT (R449): No good TIME cell has arrived for 64 µs on an up link, so the port's TIME class goes down and a peer source in use is lost. -/
  | timeClassTimeout (port : Fin 3)
  /-- GROUP_FRAME_START (R78): Group beam time GBTg of TG1–TG3 reaches phase 0, and the BTU raises EV001–EV003. -/
  | groupFrameStart (group : Fin 4)
  /-- EDP_RETRAIN_DONE (R220): Retraining after HPD return or IRQ_HPD succeeds, and the port resumes video at the next output frame boundary. -/
  | edpRetrainDone (out : Fin 8)
  /-- PLL_RELOCK (R470): A PLL that lost lock locks again, LOCK returns to 1 and replay of lines for a pixel PLL ends. -/
  | pllRelock (pll : Fin 13)
  /-- XTAL_RECOVERY (R472): The crystal returns within 20 % of 25 MHz and XTAL_OK reads 1 again. -/
  | xtalRecovery
  /-- EXCHANGE_ZEROED (R382): Zeroing of the exchange memory after power-on ends and XBUSY rises, releasing held sentinel accesses. -/
  | exchangeZeroed
deriving DecidableEq, Repr

end Sys2Proof
end

