-- ==== Sys2Proof/Config.lean ====
section
/-! DEFINITION. What the spec leaves open (free values, with no body, so that nothing can be proved of what they
are) and what an instance of the part fixes. Each is named in the assumption log. -/

namespace Sys2Proof

/-- A number that the spec does not give: the `k`-th such number taken since reset. Log entry 1. -/
opaque Config.freeNat : Nat → Nat

/-- A word that the spec does not give: the `k`-th taken since reset. Log entry 1. -/
opaque Config.freeWord : Nat → Word

/-- What the decoder makes of a stored word with three or more wrong bits (R371): a function of the word written and of its wrong bits.
Its remainder by 3 says uncorrectable, miscorrected or returned as valid. Log entry 7. -/
opaque Config.eccWild : Word → BitVec 55 → Nat

/-- The word that a miscorrection leaves (R371). Log entry 7. -/
opaque Config.eccWord : Word → BitVec 55 → Word

/-- The bit that a miscorrection names (R371). Log entry 7. -/
opaque Config.eccBit : Word → BitVec 55 → Nat

/-- DETAIL of a journal record that names the replacement with this class and index (R489): the spec does not place the two. Log entry 42. -/
opaque Config.journalDetail : Nat → Nat → Word

/-- The level of a TDM port's signal (BCLK, FS or DOUT, by its crossbar code) at a moment: the spec gives the bit clock no row. Log entry 15. -/
opaque Config.tdmLevel : Nat → Nat → Nat → Bool

/-- The image verification key (a point of P-256) that the part's OTP holds (R491). Log entry 17. -/
opaque Config.otpKey : Nat × Nat

/-- A choice that the spec leaves open: the `k`-th taken since reset. Log entry 1. -/
opaque Config.freeBool : Nat → Bool

end Sys2Proof
end

