-- ==== Sys2Proof/Machine/Modes.lean ====
section
/-! DEFINITION. The 40 display modes of R214. -/

namespace Sys2Proof.Machine

/-- A display mode (R214): active, front porch, sync, back porch and total, across and down, and whether the
sync pulses are active high. -/
structure Mode where
  ha : Nat
  hfp : Nat
  hs : Nat
  hbp : Nat
  h : Nat
  va : Nat
  vfp : Nat
  vs : Nat
  vbp : Nat
  v : Nat
  hsHigh : Bool
  vsHigh : Bool
deriving DecidableEq, Repr

/-- The modes 0x00 to 0x13. -/
def modesA : List Mode := [
  ⟨640, 16, 96, 48, 800, 480, 10, 2, 33, 525, false, false⟩,
  ⟨800, 40, 128, 88, 1056, 480, 13, 3, 29, 525, true, false⟩,
  ⟨800, 40, 128, 88, 1056, 600, 1, 4, 23, 628, true, true⟩,
  ⟨1024, 160, 20, 140, 1344, 600, 12, 3, 20, 635, true, false⟩,
  ⟨1024, 24, 136, 160, 1344, 768, 3, 6, 29, 806, false, false⟩,
  ⟨1280, 48, 32, 80, 1440, 480, 3, 5, 12, 500, true, false⟩,
  ⟨1280, 110, 40, 220, 1650, 720, 5, 5, 20, 750, true, true⟩,
  ⟨1280, 48, 32, 80, 1440, 800, 3, 6, 14, 823, true, false⟩,
  ⟨1366, 14, 56, 64, 1500, 768, 1, 3, 28, 800, true, true⟩,
  ⟨1280, 48, 112, 248, 1688, 1024, 1, 3, 38, 1066, true, true⟩,
  ⟨1440, 48, 32, 80, 1600, 540, 3, 5, 12, 560, true, false⟩,
  ⟨1600, 48, 32, 80, 1760, 600, 3, 10, 12, 625, true, false⟩,
  ⟨1600, 48, 32, 80, 1760, 900, 3, 5, 18, 926, true, false⟩,
  ⟨1680, 48, 32, 80, 1840, 1050, 3, 6, 21, 1080, true, false⟩,
  ⟨1920, 48, 32, 80, 2080, 720, 3, 10, 17, 750, true, false⟩,
  ⟨1920, 88, 44, 148, 2200, 1080, 4, 5, 36, 1125, true, true⟩,
  ⟨1920, 48, 32, 80, 2080, 1080, 3, 5, 37, 1125, true, false⟩,
  ⟨1920, 48, 32, 80, 2080, 1200, 3, 6, 26, 1235, true, false⟩,
  ⟨1920, 48, 32, 80, 2080, 540, 3, 5, 12, 560, true, false⟩,
  ⟨2048, 48, 32, 80, 2208, 768, 3, 10, 9, 790, true, false⟩]

/-- The modes 0x14 to 0x27. -/
def modesB : List Mode := [
  ⟨2560, 48, 32, 80, 2720, 720, 3, 10, 17, 750, true, false⟩,
  ⟨2560, 48, 32, 80, 2720, 1080, 3, 10, 18, 1111, true, false⟩,
  ⟨2560, 48, 32, 80, 2720, 1440, 3, 5, 33, 1481, true, false⟩,
  ⟨2560, 48, 32, 80, 2720, 1600, 3, 6, 37, 1646, true, false⟩,
  ⟨2880, 48, 32, 80, 3040, 1080, 3, 10, 32, 1125, true, false⟩,
  ⟨3440, 48, 32, 80, 3600, 1440, 3, 10, 28, 1481, true, false⟩,
  ⟨3840, 48, 32, 80, 4000, 720, 3, 10, 17, 750, true, false⟩,
  ⟨3840, 48, 32, 80, 4000, 1080, 3, 10, 32, 1125, true, false⟩,
  ⟨3840, 48, 32, 80, 4000, 1440, 3, 10, 47, 1500, true, false⟩,
  ⟨3840, 176, 88, 296, 4400, 2160, 8, 10, 72, 2250, true, true⟩,
  ⟨3840, 48, 32, 80, 4000, 2160, 3, 5, 54, 2222, true, false⟩,
  ⟨4096, 48, 32, 80, 4256, 2160, 3, 5, 54, 2222, true, false⟩,
  ⟨5120, 48, 32, 80, 5280, 1440, 3, 10, 47, 1500, true, false⟩,
  ⟨5120, 48, 32, 80, 5280, 720, 3, 10, 17, 750, true, false⟩,
  ⟨6144, 48, 32, 80, 6304, 1080, 3, 10, 32, 1125, true, false⟩,
  ⟨1080, 32, 16, 32, 1160, 1920, 3, 5, 22, 1950, true, false⟩,
  ⟨1200, 40, 16, 24, 1280, 1920, 3, 5, 22, 1950, true, false⟩,
  ⟨1440, 40, 16, 24, 1520, 2560, 3, 5, 32, 2600, true, false⟩,
  ⟨2160, 40, 16, 24, 2240, 3840, 3, 5, 52, 3900, true, false⟩,
  ⟨7680, 48, 32, 80, 7840, 2160, 3, 5, 54, 2222, true, false⟩]

/-- The mode of a code; a code above 0x27 names none. -/
def modeOf (code : Nat) : Option Mode := (modesA ++ modesB)[code]?

end Sys2Proof.Machine
end

