-- ==== Sys2Proof/Machine/Regs.lean ====
section
/-! DEFINITION. The register tables of the spec's chapters: the address of every register (R565), the fields of
each, and, block by block, the rows that give every register its reset value (R12) and its access types (R13). -/

namespace Sys2Proof.Machine

/-- The word address of register offset `off` of block `b` (R565). -/
def regAddr (b off : Nat) : Nat := 0x100000000 + 0x10000 * b + off

/-! ### BTU: block 0x0 -/

/-- BTU register CTRL; 02_beam_time.md, line 241. -/
def rBTU_CTRL : Nat := regAddr 0x0 0x0000
def fBTU_CTRL_HOLD_FRAMES : Fld := ⟨12, 12⟩ -- RW
def fBTU_CTRL_FORCE_NEXT : Fld := ⟨2, 1⟩ -- SC
def fBTU_CTRL_REVERT : Fld := ⟨1, 1⟩ -- RW
def fBTU_CTRL_STEP_FIRST : Fld := ⟨0, 1⟩ -- RW

/-- BTU register SRC_LIST; 02_beam_time.md, line 251. -/
def rBTU_SRC_LIST : Nat := regAddr 0x0 0x0001
def fBTU_SRC_LIST_CAM_VC : Fld := ⟨20, 4⟩ -- RW
def fBTU_SRC_LIST_SRC3 : Fld := ⟨15, 5⟩ -- RW
def fBTU_SRC_LIST_SRC2 : Fld := ⟨10, 5⟩ -- RW
def fBTU_SRC_LIST_SRC1 : Fld := ⟨5, 5⟩ -- RW
def fBTU_SRC_LIST_SRC0 : Fld := ⟨0, 5⟩ -- RW

/-- BTU register RATE; 02_beam_time.md, line 261. -/
def rBTU_RATE : Nat := regAddr 0x0 0x0002
def fBTU_RATE_TG3_RATE : Fld := ⟨12, 4⟩ -- RW
def fBTU_RATE_TG2_RATE : Fld := ⟨8, 4⟩ -- RW
def fBTU_RATE_TG1_RATE : Fld := ⟨4, 4⟩ -- RW
def fBTU_RATE_TG0_RATE : Fld := ⟨0, 4⟩ -- RW

/-- BTU register OUT_MAP; 02_beam_time.md, line 271. -/
def rBTU_OUT_MAP : Nat := regAddr 0x0 0x0003
def fBTU_OUT_MAP_OUTn_X2 : Fld := ⟨16, 8⟩ -- RW
def fBTU_OUT_MAP_OUTn_TG : Fld := ⟨0, 16⟩ -- RW

/-- BTU register REF_CTRL; 02_beam_time.md, line 278. -/
def rBTU_REF_CTRL : Nat := regAddr 0x0 0x0004
def fBTU_REF_CTRL_REVERT_DELAY : Fld := ⟨13, 10⟩ -- RW
def fBTU_REF_CTRL_LOSS_COUNT : Fld := ⟨9, 4⟩ -- RW
def fBTU_REF_CTRL_AS_DOMAIN : Fld := ⟨0, 7⟩ -- RW

/-- BTU register CAM_PHASE; 02_beam_time.md, line 288. -/
def rBTU_CAM_PHASE : Nat := regAddr 0x0 0x0005
def fBTU_CAM_PHASE_CAM_PHASE : Fld := ⟨0, 24⟩ -- RW

/-- BTU register EPOCH_LO; 02_beam_time.md, line 294. -/
def rBTU_EPOCH_LO : Nat := regAddr 0x0 0x0006
def fBTU_EPOCH_LO_EPOCH : Fld := ⟨0, 24⟩ -- RW

/-- BTU register EPOCH_HI; 02_beam_time.md, line 300. -/
def rBTU_EPOCH_HI : Nat := regAddr 0x0 0x0007
def fBTU_EPOCH_HI_EPOCH : Fld := ⟨0, 24⟩ -- RW

/-- BTU register SLEW; 02_beam_time.md, line 306. -/
def rBTU_SLEW : Nat := regAddr 0x0 0x0008
def fBTU_SLEW_SLEW_CAP : Fld := ⟨12, 12⟩ -- RW
def fBTU_SLEW_SLEW_NOW : Fld := ⟨0, 12⟩ -- RO

/-- BTU register STATUS; 02_beam_time.md, line 313. -/
def rBTU_STATUS : Nat := regAddr 0x0 0x0009
def fBTU_STATUS_MAP_REFUSED : Fld := ⟨16, 1⟩ -- W1C
def fBTU_STATUS_RANGE : Fld := ⟨15, 1⟩ -- W1C
def fBTU_STATUS_STEPPED : Fld := ⟨14, 1⟩ -- W1C
def fBTU_STATUS_SWITCH : Fld := ⟨13, 1⟩ -- W1C
def fBTU_STATUS_LOSS : Fld := ⟨12, 1⟩ -- W1C
def fBTU_STATUS_QUAL : Fld := ⟨8, 4⟩ -- RO
def fBTU_STATUS_SLEWING : Fld := ⟨7, 1⟩ -- RO
def fBTU_STATUS_ACTIVE_SRC : Fld := ⟨2, 5⟩ -- RO
def fBTU_STATUS_STATE : Fld := ⟨0, 2⟩ -- RO

/-- BTU register FREQ_CORR; 02_beam_time.md, line 328. -/
def rBTU_FREQ_CORR : Nat := regAddr 0x0 0x000A
def fBTU_FREQ_CORR_CORR : Fld := ⟨0, 24⟩ -- RO

/-- BTU register PHASE_ERR; 02_beam_time.md, line 334. -/
def rBTU_PHASE_ERR : Nat := regAddr 0x0 0x000B
def fBTU_PHASE_ERR_ERR : Fld := ⟨0, 24⟩ -- RO

/-- BTU register FRAME_OFS; 02_beam_time.md, line 340. -/
def rBTU_FRAME_OFS : Nat := regAddr 0x0 0x000C
def fBTU_FRAME_OFS_OFS : Fld := ⟨0, 24⟩ -- RO

/-- BTU register LOSS_CNT; 02_beam_time.md, line 346. -/
def rBTU_LOSS_CNT : Nat := regAddr 0x0 0x000D
def fBTU_LOSS_CNT_SWITCHES : Fld := ⟨16, 8⟩ -- CT
def fBTU_LOSS_CNT_LOSSES : Fld := ⟨0, 16⟩ -- CT

/-- BTU register BT_LO; 02_beam_time.md, line 353. -/
def rBTU_BT_LO : Nat := regAddr 0x0 0x000E
def fBTU_BT_LO_PHASE : Fld := ⟨0, 24⟩ -- RO

/-- BTU register BT_HI; 02_beam_time.md, line 359. -/
def rBTU_BT_HI : Nat := regAddr 0x0 0x000F
def fBTU_BT_HI_FRAME : Fld := ⟨0, 24⟩ -- RO

/-- BTU register GBT_LO; 02_beam_time.md, line 365. -/
def rBTU_GBT_LO (i0 : Nat) : Nat := regAddr 0x0 (0x0012 + 2 * (i0 - 1))
def fBTU_GBT_LO_PHASE : Fld := ⟨0, 24⟩ -- RO

/-- BTU register GBT_HI; 02_beam_time.md, line 371. -/
def rBTU_GBT_HI (i0 : Nat) : Nat := regAddr 0x0 (0x0013 + 2 * (i0 - 1))
def fBTU_GBT_HI_FRAME : Fld := ⟨0, 24⟩ -- RO

/-- The BTU block's register rows. -/
def rowsBTU : List RegRow := [
  ⟨0x0, 1, 0x0000, [], 0x078002, [], [], 0xFFF003, 0x000000, 0x000000, 0x000000, 0x000004, 0x000000, 0xFFF007⟩,
  ⟨0x0, 1, 0x0001, [], 0x00001F, [], [], 0xFFFFFF, 0x000000, 0x000000, 0x000000, 0x000000, 0x000000, 0xFFFFFF⟩,
  ⟨0x0, 1, 0x0002, [], 0x005555, [], [], 0x00FFFF, 0x000000, 0x000000, 0x000000, 0x000000, 0x000000, 0x00FFFF⟩,
  ⟨0x0, 1, 0x0003, [], 0x000000, [], [], 0xFFFFFF, 0x000000, 0x000000, 0x000000, 0x000000, 0x000000, 0xFFFFFF⟩,
  ⟨0x0, 1, 0x0004, [], 0x258600, [], [], 0x7FFE7F, 0x000000, 0x000000, 0x000000, 0x000000, 0x000000, 0x7FFE7F⟩,
  ⟨0x0, 1, 0x0005, [], 0x000000, [], [], 0xFFFFFF, 0x000000, 0x000000, 0x000000, 0x000000, 0x000000, 0xFFFFFF⟩,
  ⟨0x0, 1, 0x0006, [], 0x000000, [], [], 0xFFFFFF, 0x000000, 0x000000, 0x000000, 0x000000, 0x000000, 0xFFFFFF⟩,
  ⟨0x0, 1, 0x0007, [], 0x000000, [], [], 0xFFFFFF, 0x000000, 0x000000, 0x000000, 0x000000, 0x000000, 0xFFFFFF⟩,
  ⟨0x0, 1, 0x0008, [], 0x000000, [], [], 0xFFF000, 0x000000, 0x000000, 0x000000, 0x000000, 0x000000, 0xFFFFFF⟩,
  ⟨0x0, 1, 0x0009, [], 0x00017C, [], [], 0x000000, 0x000000, 0x01F000, 0x000000, 0x000000, 0x000000, 0x01FFFF⟩,
  ⟨0x0, 1, 0x000A, [], 0x000000, [], [], 0x000000, 0x000000, 0x000000, 0x000000, 0x000000, 0x000000, 0xFFFFFF⟩,
  ⟨0x0, 1, 0x000B, [], 0x000000, [], [], 0x000000, 0x000000, 0x000000, 0x000000, 0x000000, 0x000000, 0xFFFFFF⟩,
  ⟨0x0, 1, 0x000C, [], 0x000000, [], [], 0x000000, 0x000000, 0x000000, 0x000000, 0x000000, 0x000000, 0xFFFFFF⟩,
  ⟨0x0, 1, 0x000D, [], 0x000000, [], [], 0x000000, 0xFFFFFF, 0x000000, 0x000000, 0x000000, 0x000000, 0xFFFFFF⟩,
  ⟨0x0, 1, 0x000E, [], 0x000000, [], [], 0x000000, 0x000000, 0x000000, 0x000000, 0x000000, 0x000000, 0xFFFFFF⟩,
  ⟨0x0, 1, 0x000F, [], 0x000000, [], [], 0x000000, 0x000000, 0x000000, 0x000000, 0x000000, 0x000000, 0xFFFFFF⟩,
  ⟨0x0, 1, 0x0012, [(3, 2)], 0x000000, [], [], 0x000000, 0x000000, 0x000000, 0x000000, 0x000000, 0x000000, 0xFFFFFF⟩,
  ⟨0x0, 1, 0x0013, [(3, 2)], 0x000000, [], [], 0x000000, 0x000000, 0x000000, 0x000000, 0x000000, 0x000000, 0xFFFFFF⟩]

/-! ### TRS: block 0x1 -/

/-- TRS register CTRL; 03_trestle.md, line 193. -/
def rTRS_CTRL : Nat := regAddr 0x1 0x0000
def fTRS_CTRL_HW_CLR : Fld := ⟨1, 1⟩ -- SC
def fTRS_CTRL_FIRE_EN : Fld := ⟨0, 1⟩ -- RW

/-- TRS register COUNT; 03_trestle.md, line 201. -/
def rTRS_COUNT : Nat := regAddr 0x1 0x0001
def fTRS_COUNT_COUNT : Fld := ⟨0, 17⟩ -- RO

/-- TRS register HIGH; 03_trestle.md, line 208. -/
def rTRS_HIGH : Nat := regAddr 0x1 0x0002
def fTRS_HIGH_HIGH : Fld := ⟨0, 17⟩ -- RO

/-- TRS register STATUS; 03_trestle.md, line 215. -/
def rTRS_STATUS : Nat := regAddr 0x1 0x0003
def fTRS_STATUS_COALESCE : Fld := ⟨5, 1⟩ -- W1C
def fTRS_STATUS_DISCARD : Fld := ⟨4, 1⟩ -- W1C
def fTRS_STATUS_SKIP : Fld := ⟨3, 1⟩ -- W1C
def fTRS_STATUS_BUNCH : Fld := ⟨2, 1⟩ -- W1C
def fTRS_STATUS_LATE : Fld := ⟨1, 1⟩ -- W1C
def fTRS_STATUS_FULL : Fld := ⟨0, 1⟩ -- W1C

/-- TRS register LATE_CNT; 03_trestle.md, line 227. -/
def rTRS_LATE_CNT : Nat := regAddr 0x1 0x0004
def fTRS_LATE_CNT_COUNT : Fld := ⟨0, 24⟩ -- CT

/-- TRS register BUNCH_CNT; 03_trestle.md, line 233. -/
def rTRS_BUNCH_CNT : Nat := regAddr 0x1 0x0005
def fTRS_BUNCH_CNT_COUNT : Fld := ⟨0, 24⟩ -- CT

/-- TRS register SKIP_CNT; 03_trestle.md, line 239. -/
def rTRS_SKIP_CNT : Nat := regAddr 0x1 0x0006
def fTRS_SKIP_CNT_COUNT : Fld := ⟨0, 24⟩ -- CT

/-- TRS register DISCARD_CNT; 03_trestle.md, line 245. -/
def rTRS_DISCARD_CNT : Nat := regAddr 0x1 0x0007
def fTRS_DISCARD_CNT_COUNT : Fld := ⟨0, 24⟩ -- CT

/-- TRS register EV_COAL_CNT; 03_trestle.md, line 251. -/
def rTRS_EV_COAL_CNT : Nat := regAddr 0x1 0x0008
def fTRS_EV_COAL_CNT_COUNT : Fld := ⟨0, 24⟩ -- CT

/-- TRS register NEXT_LO; 03_trestle.md, line 257. -/
def rTRS_NEXT_LO : Nat := regAddr 0x1 0x000A
def fTRS_NEXT_LO_PHASE : Fld := ⟨0, 24⟩ -- RO

/-- TRS register NEXT_HI; 03_trestle.md, line 263. -/
def rTRS_NEXT_HI : Nat := regAddr 0x1 0x000B
def fTRS_NEXT_HI_FRAME : Fld := ⟨0, 24⟩ -- RO

/-- TRS register TNE_SEL; 03_trestle.md, line 269. -/
def rTRS_TNE_SEL : Nat := regAddr 0x1 0x000C
def fTRS_TNE_SEL_PIER : Fld := ⟨0, 6⟩ -- RW

/-- TRS register TNE; 03_trestle.md, line 276. -/
def rTRS_TNE : Nat := regAddr 0x1 0x000D
def fTRS_TNE_TNE : Fld := ⟨0, 24⟩ -- RO

/-- TRS register CAD; 03_trestle.md, line 282. -/
def rTRS_CAD (i0 : Nat) : Nat := regAddr 0x1 (0x0021 + (i0 - 1))
def fTRS_CAD_PERIOD : Fld := ⟨0, 16⟩ -- RW

/-- TRS register EV_LATCH; 03_trestle.md, line 289. -/
def rTRS_EV_LATCH (i0 : Nat) : Nat := regAddr 0x1 (0x0040 + i0)
def fTRS_EV_LATCH_LATCH : Fld := ⟨0, 24⟩ -- W1S

/-- The TRS block's register rows. -/
def rowsTRS : List RegRow := [
  ⟨0x1, 1, 0x0000, [], 0x000001, [], [], 0x000001, 0x000000, 0x000000, 0x000000, 0x000002, 0x000000, 0x000003⟩,
  ⟨0x1, 1, 0x0001, [], 0x000000, [], [], 0x000000, 0x000000, 0x000000, 0x000000, 0x000000, 0x000000, 0x01FFFF⟩,
  ⟨0x1, 1, 0x0002, [], 0x000000, [], [], 0x000000, 0x000000, 0x000000, 0x000000, 0x000000, 0x000000, 0x01FFFF⟩,
  ⟨0x1, 1, 0x0003, [], 0x000000, [], [], 0x000000, 0x000000, 0x00003F, 0x000000, 0x000000, 0x000000, 0x00003F⟩,
  ⟨0x1, 1, 0x0004, [], 0x000000, [], [], 0x000000, 0xFFFFFF, 0x000000, 0x000000, 0x000000, 0x000000, 0xFFFFFF⟩,
  ⟨0x1, 1, 0x0005, [], 0x000000, [], [], 0x000000, 0xFFFFFF, 0x000000, 0x000000, 0x000000, 0x000000, 0xFFFFFF⟩,
  ⟨0x1, 1, 0x0006, [], 0x000000, [], [], 0x000000, 0xFFFFFF, 0x000000, 0x000000, 0x000000, 0x000000, 0xFFFFFF⟩,
  ⟨0x1, 1, 0x0007, [], 0x000000, [], [], 0x000000, 0xFFFFFF, 0x000000, 0x000000, 0x000000, 0x000000, 0xFFFFFF⟩,
  ⟨0x1, 1, 0x0008, [], 0x000000, [], [], 0x000000, 0xFFFFFF, 0x000000, 0x000000, 0x000000, 0x000000, 0xFFFFFF⟩,
  ⟨0x1, 1, 0x000A, [], 0x000000, [], [], 0x000000, 0x000000, 0x000000, 0x000000, 0x000000, 0x000000, 0xFFFFFF⟩,
  ⟨0x1, 1, 0x000B, [], 0x000000, [], [], 0x000000, 0x000000, 0x000000, 0x000000, 0x000000, 0x000000, 0xFFFFFF⟩,
  ⟨0x1, 1, 0x000C, [], 0x000000, [], [], 0x00003F, 0x000000, 0x000000, 0x000000, 0x000000, 0x000000, 0x00003F⟩,
  ⟨0x1, 1, 0x000D, [], 0xFFFFFF, [], [], 0x000000, 0x000000, 0x000000, 0x000000, 0x000000, 0x000000, 0xFFFFFF⟩,
  ⟨0x1, 1, 0x0021, [(31, 1)], 0x000000, [], [], 0x00FFFF, 0x000000, 0x000000, 0x000000, 0x000000, 0x000000, 0x00FFFF⟩,
  ⟨0x1, 1, 0x0040, [(11, 1)], 0x000000, [], [], 0x000000, 0x000000, 0x000000, 0xFFFFFF, 0x000000, 0x000000, 0xFFFFFF⟩]

/-! ### OUT: block 0x50 to 0x57 -/

/-- OUT register TL_CTRL; 04_tile_layers.md, line 228. -/
def rOUT_TL_CTRL (b i0 : Nat) : Nat := regAddr (0x50 + b) (0x0400 + 32 * i0)
def fOUT_TL_CTRL_FILTER : Fld := ⟨20, 1⟩ -- SH
def fOUT_TL_CTRL_AFFINE : Fld := ⟨19, 1⟩ -- SH
def fOUT_TL_CTRL_TRANSP0 : Fld := ⟨18, 1⟩ -- SH
def fOUT_TL_CTRL_WRAP_Y : Fld := ⟨17, 1⟩ -- SH
def fOUT_TL_CTRL_WRAP_X : Fld := ⟨16, 1⟩ -- SH
def fOUT_TL_CTRL_MH : Fld := ⟨13, 3⟩ -- SH
def fOUT_TL_CTRL_MW : Fld := ⟨10, 3⟩ -- SH
def fOUT_TL_CTRL_TH : Fld := ⟨7, 3⟩ -- SH
def fOUT_TL_CTRL_TW : Fld := ⟨5, 2⟩ -- SH
def fOUT_TL_CTRL_FORMAT : Fld := ⟨0, 3⟩ -- SH

/-- OUT register TL_LAYERS; 04_tile_layers.md, line 245. -/
def rOUT_TL_LAYERS (b i0 : Nat) : Nat := regAddr (0x50 + b) (0x0401 + 32 * i0)
def fOUT_TL_LAYERS_IDX_BASE : Fld := ⟨16, 8⟩ -- SH
def fOUT_TL_LAYERS_HIGH_EN : Fld := ⟨10, 1⟩ -- SH
def fOUT_TL_LAYERS_HIGH : Fld := ⟨5, 5⟩ -- SH
def fOUT_TL_LAYERS_LOW : Fld := ⟨0, 5⟩ -- SH

/-- OUT register TL_MAP_BASE; 04_tile_layers.md, line 255. -/
def rOUT_TL_MAP_BASE (b i0 : Nat) : Nat := regAddr (0x50 + b) (0x0402 + 32 * i0)
def fOUT_TL_MAP_BASE_BASE : Fld := ⟨0, 24⟩ -- SH

/-- OUT register TL_PAT_BASE; 04_tile_layers.md, line 261. -/
def rOUT_TL_PAT_BASE (b i0 : Nat) : Nat := regAddr (0x50 + b) (0x0403 + 32 * i0)
def fOUT_TL_PAT_BASE_BASE : Fld := ⟨0, 24⟩ -- SH

/-- OUT register TL_SCROLL_X; 04_tile_layers.md, line 267. -/
def rOUT_TL_SCROLL_X (b i0 : Nat) : Nat := regAddr (0x50 + b) (0x0404 + 32 * i0)
def fOUT_TL_SCROLL_X_SX : Fld := ⟨0, 15⟩ -- SH

/-- OUT register TL_SCROLL_Y; 04_tile_layers.md, line 274. -/
def rOUT_TL_SCROLL_Y (b i0 : Nat) : Nat := regAddr (0x50 + b) (0x0405 + 32 * i0)
def fOUT_TL_SCROLL_Y_SY : Fld := ⟨0, 15⟩ -- SH

/-- OUT register TL_AFF_LO; 04_tile_layers.md, line 281. -/
def rOUT_TL_AFF_LO (b i0 i1 : Nat) : Nat := regAddr (0x50 + b) (0x0406 + 32 * i0 + 2 * i1)
def fOUT_TL_AFF_LO_FRAC : Fld := ⟨0, 24⟩ -- SH

/-- OUT register TL_AFF_HI; 04_tile_layers.md, line 287. -/
def rOUT_TL_AFF_HI (b i0 i1 : Nat) : Nat := regAddr (0x50 + b) (0x0407 + 32 * i0 + 2 * i1)
def fOUT_TL_AFF_HI_INT : Fld := ⟨0, 24⟩ -- SH

/-- OUT register TL_STATUS; 04_tile_layers.md, line 293. -/
def rOUT_TL_STATUS (b i0 : Nat) : Nat := regAddr (0x50 + b) (0x0418 + 32 * i0)
def fOUT_TL_STATUS_LAYER_CONFLICT : Fld := ⟨5, 1⟩ -- W1C
def fOUT_TL_STATUS_AFFINE_LIMIT : Fld := ⟨4, 1⟩ -- W1C
def fOUT_TL_STATUS_MAP_RANGE : Fld := ⟨3, 1⟩ -- W1C
def fOUT_TL_STATUS_ROT_IGNORED : Fld := ⟨2, 1⟩ -- W1C
def fOUT_TL_STATUS_RANGE : Fld := ⟨1, 1⟩ -- W1C
def fOUT_TL_STATUS_LATE : Fld := ⟨0, 1⟩ -- W1C

/-- OUT register TL_LOAD; 04_tile_layers.md, line 305. -/
def rOUT_TL_LOAD (b i0 : Nat) : Nat := regAddr (0x50 + b) (0x0419 + 32 * i0)
def fOUT_TL_LOAD_PEAK : Fld := ⟨0, 24⟩ -- RO

/-- OUT register TILE_BUDGET; 04_tile_layers.md, line 311. -/
def rOUT_TILE_BUDGET (b : Nat) : Nat := regAddr (0x50 + b) 0x0600
def fOUT_TILE_BUDGET_B : Fld := ⟨0, 24⟩ -- RO

/-- OUT register TILE_LOAD; 04_tile_layers.md, line 317. -/
def rOUT_TILE_LOAD (b : Nat) : Nat := regAddr (0x50 + b) 0x0601
def fOUT_TILE_LOAD_PEAK : Fld := ⟨0, 24⟩ -- RO

/-- OUT register PAL_LO; 04_tile_layers.md, line 323. -/
def rOUT_PAL_LO (b i0 i1 : Nat) : Nat := regAddr (0x50 + b) (0x8000 + 512 * i0 + 2 * i1)
def fOUT_PAL_LO_GB : Fld := ⟨0, 24⟩ -- SH

/-- OUT register PAL_HI; 04_tile_layers.md, line 329. -/
def rOUT_PAL_HI (b i0 i1 : Nat) : Nat := regAddr (0x50 + b) (0x8001 + 512 * i0 + 2 * i1)
def fOUT_PAL_HI_RG : Fld := ⟨0, 24⟩ -- SH

/-- OUT register SPR_CTRL; 05_sprites.md, line 221. -/
def rOUT_SPR_CTRL (b : Nat) : Nat := regAddr (0x50 + b) 0x0700
def fOUT_SPR_CTRL_OVF_EV_EN : Fld := ⟨8, 1⟩ -- RW
def fOUT_SPR_CTRL_OVF_EV : Fld := ⟨0, 8⟩ -- RW

/-- OUT register SPR_PLANE; 05_sprites.md, line 229. -/
def rOUT_SPR_PLANE (b : Nat) : Nat := regAddr (0x50 + b) 0x0701
def fOUT_SPR_PLANE_PL3_EN : Fld := ⟨23, 1⟩ -- SH
def fOUT_SPR_PLANE_PL3 : Fld := ⟨18, 5⟩ -- SH
def fOUT_SPR_PLANE_PL2_EN : Fld := ⟨17, 1⟩ -- SH
def fOUT_SPR_PLANE_PL2 : Fld := ⟨12, 5⟩ -- SH
def fOUT_SPR_PLANE_PL1_EN : Fld := ⟨11, 1⟩ -- SH
def fOUT_SPR_PLANE_PL1 : Fld := ⟨6, 5⟩ -- SH
def fOUT_SPR_PLANE_PL0_EN : Fld := ⟨5, 1⟩ -- SH
def fOUT_SPR_PLANE_PL0 : Fld := ⟨0, 5⟩ -- SH

/-- OUT register SPR_SAT_COUNT; 05_sprites.md, line 242. -/
def rOUT_SPR_SAT_COUNT (b : Nat) : Nat := regAddr (0x50 + b) 0x0702
def fOUT_SPR_SAT_COUNT_COUNT_M1 : Fld := ⟨0, 12⟩ -- SH

/-- OUT register SPR_SAT_BASE; 05_sprites.md, line 249. -/
def rOUT_SPR_SAT_BASE (b : Nat) : Nat := regAddr (0x50 + b) 0x0703
def fOUT_SPR_SAT_BASE_BASE : Fld := ⟨0, 24⟩ -- SH

/-- OUT register SPR_STATUS; 05_sprites.md, line 255. -/
def rOUT_SPR_STATUS (b : Nat) : Nat := regAddr (0x50 + b) 0x0704
def fOUT_SPR_STATUS_READY : Fld := ⟨7, 1⟩ -- RO
def fOUT_SPR_STATUS_BUILDING : Fld := ⟨6, 1⟩ -- RO
def fOUT_SPR_STATUS_LAYER_CONFLICT : Fld := ⟨5, 1⟩ -- W1C
def fOUT_SPR_STATUS_BAD_ENTRY : Fld := ⟨4, 1⟩ -- W1C
def fOUT_SPR_STATUS_RESTART : Fld := ⟨3, 1⟩ -- W1C
def fOUT_SPR_STATUS_LATE : Fld := ⟨2, 1⟩ -- W1C
def fOUT_SPR_STATUS_FILL_OVF : Fld := ⟨1, 1⟩ -- W1C
def fOUT_SPR_STATUS_CNT_OVF : Fld := ⟨0, 1⟩ -- W1C

/-- OUT register SPR_BAD_FIRST; 05_sprites.md, line 269. -/
def rOUT_SPR_BAD_FIRST (b : Nat) : Nat := regAddr (0x50 + b) 0x0705
def fOUT_SPR_BAD_FIRST_NONE : Fld := ⟨12, 1⟩ -- RO
def fOUT_SPR_BAD_FIRST_INDEX : Fld := ⟨0, 12⟩ -- RO

/-- OUT register SPR_BAD_CNT; 05_sprites.md, line 277. -/
def rOUT_SPR_BAD_CNT (b : Nat) : Nat := regAddr (0x50 + b) 0x0706
def fOUT_SPR_BAD_CNT_COUNT : Fld := ⟨0, 24⟩ -- CT

/-- OUT register SPR_OVF_LINE; 05_sprites.md, line 283. -/
def rOUT_SPR_OVF_LINE (b : Nat) : Nat := regAddr (0x50 + b) 0x0707
def fOUT_SPR_OVF_LINE_LINE : Fld := ⟨0, 16⟩ -- RO

/-- OUT register SPR_OVF_FIRST; 05_sprites.md, line 290. -/
def rOUT_SPR_OVF_FIRST (b : Nat) : Nat := regAddr (0x50 + b) 0x0708
def fOUT_SPR_OVF_FIRST_LINE : Fld := ⟨0, 16⟩ -- RO

/-- OUT register SPR_OVF_FRAME; 05_sprites.md, line 297. -/
def rOUT_SPR_OVF_FRAME (b : Nat) : Nat := regAddr (0x50 + b) 0x0709
def fOUT_SPR_OVF_FRAME_FRAME : Fld := ⟨0, 24⟩ -- RO

/-- OUT register SPR_OVF_LINES; 05_sprites.md, line 303. -/
def rOUT_SPR_OVF_LINES (b : Nat) : Nat := regAddr (0x50 + b) 0x070A
def fOUT_SPR_OVF_LINES_COUNT : Fld := ⟨0, 24⟩ -- CT

/-- OUT register SPR_DROP_CNT; 05_sprites.md, line 309. -/
def rOUT_SPR_DROP_CNT (b : Nat) : Nat := regAddr (0x50 + b) 0x070B
def fOUT_SPR_DROP_CNT_COUNT : Fld := ⟨0, 24⟩ -- CT

/-- OUT register SPR_BUDGET; 05_sprites.md, line 315. -/
def rOUT_SPR_BUDGET (b : Nat) : Nat := regAddr (0x50 + b) 0x070C
def fOUT_SPR_BUDGET_BUDGET : Fld := ⟨0, 24⟩ -- RO

/-- OUT register SPR_LOAD; 05_sprites.md, line 321. -/
def rOUT_SPR_LOAD (b : Nat) : Nat := regAddr (0x50 + b) 0x070D
def fOUT_SPR_LOAD_PEAK : Fld := ⟨0, 24⟩ -- RO

/-- OUT register SPR_PEAK_COUNT; 05_sprites.md, line 327. -/
def rOUT_SPR_PEAK_COUNT (b : Nat) : Nat := regAddr (0x50 + b) 0x070E
def fOUT_SPR_PEAK_COUNT_COUNT : Fld := ⟨0, 13⟩ -- RO

/-- OUT register SPR_AFF; 05_sprites.md, line 334. -/
def rOUT_SPR_AFF (b i0 i1 : Nat) : Nat := regAddr (0x50 + b) (0x0804 + 4 * (i0 - 1) + i1)
def fOUT_SPR_AFF_VALUE : Fld := ⟨0, 24⟩ -- SH

/-- OUT register SPAN_LAYERS; 06_line_programs.md, line 461. -/
def rOUT_SPAN_LAYERS (b : Nat) : Nat := regAddr (0x50 + b) 0x0900
def fOUT_SPAN_LAYERS_SL3_EN : Fld := ⟨23, 1⟩ -- SH
def fOUT_SPAN_LAYERS_SL3 : Fld := ⟨18, 5⟩ -- SH
def fOUT_SPAN_LAYERS_SL2_EN : Fld := ⟨17, 1⟩ -- SH
def fOUT_SPAN_LAYERS_SL2 : Fld := ⟨12, 5⟩ -- SH
def fOUT_SPAN_LAYERS_SL1_EN : Fld := ⟨11, 1⟩ -- SH
def fOUT_SPAN_LAYERS_SL1 : Fld := ⟨6, 5⟩ -- SH
def fOUT_SPAN_LAYERS_SL0_EN : Fld := ⟨5, 1⟩ -- SH
def fOUT_SPAN_LAYERS_SL0 : Fld := ⟨0, 5⟩ -- SH

/-- OUT register SPAN_BUDGET; 06_line_programs.md, line 474. -/
def rOUT_SPAN_BUDGET (b : Nat) : Nat := regAddr (0x50 + b) 0x0901
def fOUT_SPAN_BUDGET_BUDGET : Fld := ⟨0, 24⟩ -- RO

/-- OUT register SPAN_STATUS; 06_line_programs.md, line 480. -/
def rOUT_SPAN_STATUS (b : Nat) : Nat := regAddr (0x50 + b) 0x0902
def fOUT_SPAN_STATUS_RANGE : Fld := ⟨2, 1⟩ -- W1C
def fOUT_SPAN_STATUS_WIDTH : Fld := ⟨1, 1⟩ -- W1C
def fOUT_SPAN_STATUS_LAYER_CONFLICT : Fld := ⟨0, 1⟩ -- W1C

/-- OUT register COMP_CTRL; 07_composition_and_keystone.md, line 312. -/
def rOUT_COMP_CTRL (b : Nat) : Nat := regAddr (0x50 + b) 0x0A00
def fOUT_COMP_CTRL_SCAN_STORE : Fld := ⟨23, 1⟩ -- RW
def fOUT_COMP_CTRL_OMAT_EN : Fld := ⟨9, 1⟩ -- SH
def fOUT_COMP_CTRL_REGAMMA_EN : Fld := ⟨8, 1⟩ -- SH
def fOUT_COMP_CTRL_DITHER : Fld := ⟨4, 2⟩ -- SH
def fOUT_COMP_CTRL_DEPTH : Fld := ⟨0, 2⟩ -- RW

/-- OUT register BG_LO; 07_composition_and_keystone.md, line 325. -/
def rOUT_BG_LO (b : Nat) : Nat := regAddr (0x50 + b) 0x0A01
def fOUT_BG_LO_GB : Fld := ⟨0, 24⟩ -- SH

/-- OUT register BG_HI; 07_composition_and_keystone.md, line 331. -/
def rOUT_BG_HI (b : Nat) : Nat := regAddr (0x50 + b) 0x0A02
def fOUT_BG_HI_RG : Fld := ⟨0, 24⟩ -- SH

/-- OUT register OMTX; 07_composition_and_keystone.md, line 337. -/
def rOUT_OMTX (b i0 : Nat) : Nat := regAddr (0x50 + b) (0x0A03 + i0)
def fOUT_OMTX_COEF : Fld := ⟨0, 24⟩ -- SH

/-- OUT register LUT_CTRL; 07_composition_and_keystone.md, line 343. -/
def rOUT_LUT_CTRL (b : Nat) : Nat := regAddr (0x50 + b) 0x0A10
def fOUT_LUT_CTRL_TABLE : Fld := ⟨0, 4⟩ -- RW

/-- OUT register LUT_BASE; 07_composition_and_keystone.md, line 350. -/
def rOUT_LUT_BASE (b : Nat) : Nat := regAddr (0x50 + b) 0x0A11
def fOUT_LUT_BASE_BASE : Fld := ⟨0, 24⟩ -- SH

/-- OUT register LUT_STATUS; 07_composition_and_keystone.md, line 356. -/
def rOUT_LUT_STATUS (b : Nat) : Nat := regAddr (0x50 + b) 0x0A12
def fOUT_LUT_STATUS_COPY_BAD : Fld := ⟨2, 1⟩ -- RO
def fOUT_LUT_STATUS_RESTART : Fld := ⟨1, 1⟩ -- W1C
def fOUT_LUT_STATUS_LOADING : Fld := ⟨0, 1⟩ -- RO

/-- OUT register KEY_CTRL; 07_composition_and_keystone.md, line 365. -/
def rOUT_KEY_CTRL (b : Nat) : Nat := regAddr (0x50 + b) 0x0A14
def fOUT_KEY_CTRL_DEFER_LIMIT : Fld := ⟨16, 8⟩ -- RW
def fOUT_KEY_CTRL_DEFER_EV : Fld := ⟨8, 8⟩ -- RW
def fOUT_KEY_CTRL_DEFER_EV_EN : Fld := ⟨7, 1⟩ -- RW
def fOUT_KEY_CTRL_DISARM : Fld := ⟨1, 1⟩ -- SC
def fOUT_KEY_CTRL_ARM : Fld := ⟨0, 1⟩ -- SC

/-- OUT register KEY_MASK_LO; 07_composition_and_keystone.md, line 376. -/
def rOUT_KEY_MASK_LO (b : Nat) : Nat := regAddr (0x50 + b) 0x0A15
def fOUT_KEY_MASK_LO_LAYERS : Fld := ⟨0, 24⟩ -- RW

/-- OUT register KEY_ARMED_LO; 07_composition_and_keystone.md, line 376. -/
def rOUT_KEY_ARMED_LO (b : Nat) : Nat := regAddr (0x50 + b) 0x0A17
def fOUT_KEY_ARMED_LO_LAYERS : Fld := ⟨0, 24⟩ -- RO

/-- OUT register KEY_MASK_HI; 07_composition_and_keystone.md, line 382. -/
def rOUT_KEY_MASK_HI (b : Nat) : Nat := regAddr (0x50 + b) 0x0A16
def fOUT_KEY_MASK_HI_LAYERS : Fld := ⟨0, 8⟩ -- RW

/-- OUT register KEY_ARMED_HI; 07_composition_and_keystone.md, line 382. -/
def rOUT_KEY_ARMED_HI (b : Nat) : Nat := regAddr (0x50 + b) 0x0A18
def fOUT_KEY_ARMED_HI_LAYERS : Fld := ⟨0, 8⟩ -- RO

/-- OUT register KEY_NR_LO; 07_composition_and_keystone.md, line 389. -/
def rOUT_KEY_NR_LO (b : Nat) : Nat := regAddr (0x50 + b) 0x0A19
def fOUT_KEY_NR_LO_LAYERS : Fld := ⟨0, 24⟩ -- RO

/-- OUT register KEY_NR_HI; 07_composition_and_keystone.md, line 395. -/
def rOUT_KEY_NR_HI (b : Nat) : Nat := regAddr (0x50 + b) 0x0A1A
def fOUT_KEY_NR_HI_NR_OVL : Fld := ⟨10, 1⟩ -- RO
def fOUT_KEY_NR_HI_NR_LPG : Fld := ⟨9, 1⟩ -- RO
def fOUT_KEY_NR_HI_NR_LUT : Fld := ⟨8, 1⟩ -- RO
def fOUT_KEY_NR_HI_LAYERS : Fld := ⟨0, 8⟩ -- RO

/-- OUT register KEY_STATUS; 07_composition_and_keystone.md, line 405. -/
def rOUT_KEY_STATUS (b : Nat) : Nat := regAddr (0x50 + b) 0x0A1B
def fOUT_KEY_STATUS_DEFER_RUN : Fld := ⟨16, 8⟩ -- RO
def fOUT_KEY_STATUS_SUSPENDED : Fld := ⟨3, 1⟩ -- RO
def fOUT_KEY_STATUS_DEFER_LIMIT : Fld := ⟨2, 1⟩ -- W1C
def fOUT_KEY_STATUS_DEFERRED : Fld := ⟨1, 1⟩ -- W1C
def fOUT_KEY_STATUS_ARMED : Fld := ⟨0, 1⟩ -- RO

/-- OUT register KEY_POINT; 07_composition_and_keystone.md, line 416. -/
def rOUT_KEY_POINT (b : Nat) : Nat := regAddr (0x50 + b) 0x0A1C
def fOUT_KEY_POINT_PHASE : Fld := ⟨0, 24⟩ -- RO

/-- OUT register KEY_DEFER_CNT; 07_composition_and_keystone.md, line 422. -/
def rOUT_KEY_DEFER_CNT (b : Nat) : Nat := regAddr (0x50 + b) 0x0A1D
def fOUT_KEY_DEFER_CNT_COUNT : Fld := ⟨0, 24⟩ -- CT

/-- OUT register REPLAY_CNT; 07_composition_and_keystone.md, line 422. -/
def rOUT_REPLAY_CNT (b : Nat) : Nat := regAddr (0x50 + b) 0x0A2D
def fOUT_REPLAY_CNT_COUNT : Fld := ⟨0, 24⟩ -- CT

/-- OUT register OMIT_CNT; 07_composition_and_keystone.md, line 422. -/
def rOUT_OMIT_CNT (b : Nat) : Nat := regAddr (0x50 + b) 0x0A2E
def fOUT_OMIT_CNT_COUNT : Fld := ⟨0, 24⟩ -- CT

/-- OUT register COMP_LATE_CNT; 07_composition_and_keystone.md, line 422. -/
def rOUT_COMP_LATE_CNT (b : Nat) : Nat := regAddr (0x50 + b) 0x0A2F
def fOUT_COMP_LATE_CNT_COUNT : Fld := ⟨0, 24⟩ -- CT

/-- OUT register COMMIT_SEQ; 07_composition_and_keystone.md, line 428. -/
def rOUT_COMMIT_SEQ (b : Nat) : Nat := regAddr (0x50 + b) 0x0A1E
def fOUT_COMMIT_SEQ_SEQ : Fld := ⟨0, 24⟩ -- RO

/-- OUT register FRAME_LO; 07_composition_and_keystone.md, line 434. -/
def rOUT_FRAME_LO (b : Nat) : Nat := regAddr (0x50 + b) 0x0A20
def fOUT_FRAME_LO_COUNT : Fld := ⟨0, 24⟩ -- RO

/-- OUT register FRAME_HI; 07_composition_and_keystone.md, line 434. -/
def rOUT_FRAME_HI (b : Nat) : Nat := regAddr (0x50 + b) 0x0A21
def fOUT_FRAME_HI_COUNT : Fld := ⟨0, 24⟩ -- RO

/-- OUT register FLIP_BT_LO; 07_composition_and_keystone.md, line 440. -/
def rOUT_FLIP_BT_LO (b : Nat) : Nat := regAddr (0x50 + b) 0x0A22
def fOUT_FLIP_BT_LO_BT : Fld := ⟨0, 24⟩ -- RO

/-- OUT register FLIP_BT_HI; 07_composition_and_keystone.md, line 440. -/
def rOUT_FLIP_BT_HI (b : Nat) : Nat := regAddr (0x50 + b) 0x0A23
def fOUT_FLIP_BT_HI_BT : Fld := ⟨0, 24⟩ -- RO

/-- OUT register STAGED0; 07_composition_and_keystone.md, line 446. -/
def rOUT_STAGED0 (b : Nat) : Nat := regAddr (0x50 + b) 0x0A24
def fOUT_STAGED0_STAGED : Fld := ⟨0, 24⟩ -- W1S

/-- OUT register STAGED1; 07_composition_and_keystone.md, line 452. -/
def rOUT_STAGED1 (b : Nat) : Nat := regAddr (0x50 + b) 0x0A25
def fOUT_STAGED1_STAGED : Fld := ⟨0, 8⟩ -- W1S

/-- OUT register FS_BASE; 07_composition_and_keystone.md, line 459. -/
def rOUT_FS_BASE (b : Nat) : Nat := regAddr (0x50 + b) 0x0A28
def fOUT_FS_BASE_BASE : Fld := ⟨0, 24⟩ -- RW

/-- OUT register EX_BASE; 07_composition_and_keystone.md, line 459. -/
def rOUT_EX_BASE (b : Nat) : Nat := regAddr (0x50 + b) 0x0A29
def fOUT_EX_BASE_BASE : Fld := ⟨0, 24⟩ -- RW

/-- OUT register COMP_STATUS; 07_composition_and_keystone.md, line 465. -/
def rOUT_COMP_STATUS (b : Nat) : Nat := regAddr (0x50 + b) 0x0A2A
def fOUT_COMP_STATUS_CFG_REFUSED : Fld := ⟨5, 1⟩ -- W1C
def fOUT_COMP_STATUS_KIND_MISMATCH : Fld := ⟨4, 1⟩ -- W1C
def fOUT_COMP_STATUS_BM_INVALID : Fld := ⟨3, 1⟩ -- W1C
def fOUT_COMP_STATUS_COMP_LATE : Fld := ⟨2, 1⟩ -- W1C
def fOUT_COMP_STATUS_OMIT : Fld := ⟨1, 1⟩ -- W1C
def fOUT_COMP_STATUS_REPLAY : Fld := ⟨0, 1⟩ -- W1C

/-- OUT register COMP_BUDGET; 07_composition_and_keystone.md, line 477. -/
def rOUT_COMP_BUDGET (b : Nat) : Nat := regAddr (0x50 + b) 0x0A2B
def fOUT_COMP_BUDGET_VALUE : Fld := ⟨0, 24⟩ -- RO

/-- OUT register COMP_LOAD; 07_composition_and_keystone.md, line 477. -/
def rOUT_COMP_LOAD (b : Nat) : Nat := regAddr (0x50 + b) 0x0A2C
def fOUT_COMP_LOAD_VALUE : Fld := ⟨0, 24⟩ -- RO

/-- OUT register STALE_LINE; 07_composition_and_keystone.md, line 483. -/
def rOUT_STALE_LINE (b : Nat) : Nat := regAddr (0x50 + b) 0x0A30
def fOUT_STALE_LINE_CAUSE : Fld := ⟨21, 3⟩ -- RO
def fOUT_STALE_LINE_LAYER : Fld := ⟨16, 5⟩ -- RO
def fOUT_STALE_LINE_LINE : Fld := ⟨0, 16⟩ -- RO

/-- OUT register STALE_FRAME; 07_composition_and_keystone.md, line 491. -/
def rOUT_STALE_FRAME (b : Nat) : Nat := regAddr (0x50 + b) 0x0A31
def fOUT_STALE_FRAME_FRAME : Fld := ⟨0, 24⟩ -- RO

/-- OUT register EXACT; 07_composition_and_keystone.md, line 497. -/
def rOUT_EXACT (b i0 i1 : Nat) : Nat := regAddr (0x50 + b) (0x0A40 + 4 * i0 + i1)
def fOUT_EXACT_VALUE : Fld := ⟨0, 13⟩ -- RW

/-- OUT register LAYER_CTRL; 07_composition_and_keystone.md, line 508. -/
def rOUT_LAYER_CTRL (b i0 : Nat) : Nat := regAddr (0x50 + b) (0x1000 + 32 * i0)
def fOUT_LAYER_CTRL_EN : Fld := ⟨23, 1⟩ -- SH
def fOUT_LAYER_CTRL_KIND : Fld := ⟨20, 3⟩ -- SH
def fOUT_LAYER_CTRL_BLEND : Fld := ⟨18, 2⟩ -- SH
def fOUT_LAYER_CTRL_STALE : Fld := ⟨17, 1⟩ -- SH
def fOUT_LAYER_CTRL_STAGE_REQ : Fld := ⟨16, 1⟩ -- SH
def fOUT_LAYER_CTRL_DG_EN : Fld := ⟨15, 1⟩ -- SH
def fOUT_LAYER_CTRL_DG_SET : Fld := ⟨12, 3⟩ -- SH
def fOUT_LAYER_CTRL_MTX_EN : Fld := ⟨11, 1⟩ -- SH
def fOUT_LAYER_CTRL_MTX_FIRST : Fld := ⟨10, 1⟩ -- SH

/-- OUT register LAYER_WIN_X0; 07_composition_and_keystone.md, line 523. -/
def rOUT_LAYER_WIN_X0 (b i0 : Nat) : Nat := regAddr (0x50 + b) (0x1001 + 32 * i0)
def fOUT_LAYER_WIN_X0_VALUE : Fld := ⟨0, 13⟩ -- SH

/-- OUT register LAYER_WIN_Y0; 07_composition_and_keystone.md, line 523. -/
def rOUT_LAYER_WIN_Y0 (b i0 : Nat) : Nat := regAddr (0x50 + b) (0x1002 + 32 * i0)
def fOUT_LAYER_WIN_Y0_VALUE : Fld := ⟨0, 13⟩ -- SH

/-- OUT register LAYER_WIN_W; 07_composition_and_keystone.md, line 523. -/
def rOUT_LAYER_WIN_W (b i0 : Nat) : Nat := regAddr (0x50 + b) (0x1003 + 32 * i0)
def fOUT_LAYER_WIN_W_VALUE : Fld := ⟨0, 13⟩ -- SH

/-- OUT register LAYER_WIN_H; 07_composition_and_keystone.md, line 523. -/
def rOUT_LAYER_WIN_H (b i0 : Nat) : Nat := regAddr (0x50 + b) (0x1004 + 32 * i0)
def fOUT_LAYER_WIN_H_VALUE : Fld := ⟨0, 13⟩ -- SH

/-- OUT register LAYER_ALPHA; 07_composition_and_keystone.md, line 530. -/
def rOUT_LAYER_ALPHA (b i0 : Nat) : Nat := regAddr (0x50 + b) (0x1005 + 32 * i0)
def fOUT_LAYER_ALPHA_ALPHA : Fld := ⟨0, 16⟩ -- SH

/-- OUT register LAYER_MTX; 07_composition_and_keystone.md, line 537. -/
def rOUT_LAYER_MTX (b i0 i1 : Nat) : Nat := regAddr (0x50 + b) (0x1006 + 32 * i0 + i1)
def fOUT_LAYER_MTX_COEF : Fld := ⟨0, 24⟩ -- SH

/-- OUT register LAYER_SRC0; 07_composition_and_keystone.md, line 543. -/
def rOUT_LAYER_SRC0 (b i0 : Nat) : Nat := regAddr (0x50 + b) (0x1012 + 32 * i0)
def fOUT_LAYER_SRC0_ALL : Fld := ⟨0, 24⟩ -- SH

/-- OUT register LAYER_SRC1; 07_composition_and_keystone.md, line 543. -/
def rOUT_LAYER_SRC1 (b i0 : Nat) : Nat := regAddr (0x50 + b) (0x1013 + 32 * i0)
def fOUT_LAYER_SRC1_ALL : Fld := ⟨0, 24⟩ -- SH

/-- OUT register LAYER_SRC2; 07_composition_and_keystone.md, line 543. -/
def rOUT_LAYER_SRC2 (b i0 : Nat) : Nat := regAddr (0x50 + b) (0x1014 + 32 * i0)
def fOUT_LAYER_SRC2_ALL : Fld := ⟨0, 24⟩ -- SH

/-- OUT register LAYER_SRC3; 07_composition_and_keystone.md, line 543. -/
def rOUT_LAYER_SRC3 (b i0 : Nat) : Nat := regAddr (0x50 + b) (0x1015 + 32 * i0)
def fOUT_LAYER_SRC3_ALL : Fld := ⟨0, 24⟩ -- SH

/-- OUT register LAYER_SRC4; 07_composition_and_keystone.md, line 543. -/
def rOUT_LAYER_SRC4 (b i0 : Nat) : Nat := regAddr (0x50 + b) (0x1016 + 32 * i0)
def fOUT_LAYER_SRC4_ALL : Fld := ⟨0, 24⟩ -- SH

/-- OUT register LAYER_SRC5; 07_composition_and_keystone.md, line 543. -/
def rOUT_LAYER_SRC5 (b i0 : Nat) : Nat := regAddr (0x50 + b) (0x1017 + 32 * i0)
def fOUT_LAYER_SRC5_ALL : Fld := ⟨0, 24⟩ -- SH

/-- OUT register LAYER_STALE_CNT; 07_composition_and_keystone.md, line 556. -/
def rOUT_LAYER_STALE_CNT (b i0 : Nat) : Nat := regAddr (0x50 + b) (0x1018 + 32 * i0)
def fOUT_LAYER_STALE_CNT_COUNT : Fld := ⟨0, 24⟩ -- CT

/-- OUT register CTRL; 09_pipes_ports_and_modes.md, line 332. -/
def rOUT_CTRL (b : Nat) : Nat := regAddr (0x50 + b) 0x0000
def fOUT_CTRL_LIGHT : Fld := ⟨23, 1⟩ -- RW
def fOUT_CTRL_PORT : Fld := ⟨16, 5⟩ -- RW
def fOUT_CTRL_MODE : Fld := ⟨8, 6⟩ -- RW

/-- OUT register STATUS; 09_pipes_ports_and_modes.md, line 343. -/
def rOUT_STATUS (b : Nat) : Nat := regAddr (0x50 + b) 0x0001
def fOUT_STATUS_REFUSE_CAUSE : Fld := ⟨20, 4⟩ -- RO
def fOUT_STATUS_LIT : Fld := ⟨15, 1⟩ -- RO
def fOUT_STATUS_DARK_FRAME : Fld := ⟨14, 1⟩ -- RO
def fOUT_STATUS_PORT_READY : Fld := ⟨13, 1⟩ -- RO
def fOUT_STATUS_DEGRADED : Fld := ⟨12, 1⟩ -- RO
def fOUT_STATUS_MAP_REFUSED : Fld := ⟨5, 1⟩ -- W1C
def fOUT_STATUS_LIGHT_REFUSED : Fld := ⟨4, 1⟩ -- W1C
def fOUT_STATUS_LINK_LOST : Fld := ⟨3, 1⟩ -- W1C
def fOUT_STATUS_PORT_UNDERRUN : Fld := ⟨2, 1⟩ -- W1C
def fOUT_STATUS_POS_ERR : Fld := ⟨1, 1⟩ -- W1C
def fOUT_STATUS_BL_CONFLICT : Fld := ⟨0, 1⟩ -- W1C

/-- OUT register PIPE; 09_pipes_ports_and_modes.md, line 361. -/
def rOUT_PIPE (b : Nat) : Nat := regAddr (0x50 + b) 0x0002
def fOUT_PIPE_PIPE : Fld := ⟨0, 4⟩ -- RO

/-- OUT register PIXEL_RATE; 09_pipes_ports_and_modes.md, line 368. -/
def rOUT_PIXEL_RATE (b : Nat) : Nat := regAddr (0x50 + b) 0x0003
def fOUT_PIXEL_RATE_KPIX : Fld := ⟨0, 21⟩ -- RO

/-- OUT register RETRAIN_CNT; 09_pipes_ports_and_modes.md, line 375. -/
def rOUT_RETRAIN_CNT (b : Nat) : Nat := regAddr (0x50 + b) 0x0004
def fOUT_RETRAIN_CNT_COUNT : Fld := ⟨0, 24⟩ -- CT

/-- OUT register EDP; 09_pipes_ports_and_modes.md, line 381. -/
def rOUT_EDP (b : Nat) : Nat := regAddr (0x50 + b) 0x0008
def fOUT_EDP_ASSR : Fld := ⟨5, 1⟩ -- RW
def fOUT_EDP_RATE : Fld := ⟨2, 3⟩ -- RW
def fOUT_EDP_LANES : Fld := ⟨0, 2⟩ -- RW

/-- OUT register DSI; 09_pipes_ports_and_modes.md, line 390. -/
def rOUT_DSI (b : Nat) : Nat := regAddr (0x50 + b) 0x0009
def fOUT_DSI_LANE_RATE : Fld := ⟨11, 13⟩ -- RW
def fOUT_DSI_VC : Fld := ⟨9, 2⟩ -- RW
def fOUT_DSI_VMODE : Fld := ⟨7, 2⟩ -- RW
def fOUT_DSI_LANES : Fld := ⟨0, 2⟩ -- RW

/-- OUT register LVDS; 09_pipes_ports_and_modes.md, line 400. -/
def rOUT_LVDS (b : Nat) : Nat := regAddr (0x50 + b) 0x000A
def fOUT_LVDS_SWAP_AB : Fld := ⟨2, 1⟩ -- RW
def fOUT_LVDS_DUAL : Fld := ⟨1, 1⟩ -- RW
def fOUT_LVDS_JEIDA : Fld := ⟨0, 1⟩ -- RW

/-- OUT register DSC; 09_pipes_ports_and_modes.md, line 409. -/
def rOUT_DSC (b : Nat) : Nat := regAddr (0x50 + b) 0x000B
def fOUT_DSC_EN : Fld := ⟨23, 1⟩ -- RW
def fOUT_DSC_SLICES : Fld := ⟨21, 2⟩ -- RW
def fOUT_DSC_SLICE_H : Fld := ⟨10, 11⟩ -- RW
def fOUT_DSC_BPP : Fld := ⟨0, 10⟩ -- RW

/-- OUT register SR_CTRL; 09_pipes_ports_and_modes.md, line 418. -/
def rOUT_SR_CTRL (b : Nat) : Nat := regAddr (0x50 + b) 0x0010
def fOUT_SR_CTRL_REQ : Fld := ⟨23, 1⟩ -- RW
def fOUT_SR_CTRL_PRP_EXIT : Fld := ⟨22, 1⟩ -- RW
def fOUT_SR_CTRL_MODE : Fld := ⟨20, 2⟩ -- RW

/-- OUT register SR_SU; 09_pipes_ports_and_modes.md, line 427. -/
def rOUT_SR_SU (b : Nat) : Nat := regAddr (0x50 + b) 0x0011
def fOUT_SR_SU_SU_Y0 : Fld := ⟨12, 12⟩ -- SH
def fOUT_SR_SU_SU_H : Fld := ⟨0, 12⟩ -- SH

/-- OUT register SR_STATUS; 09_pipes_ports_and_modes.md, line 434. -/
def rOUT_SR_STATUS (b : Nat) : Nat := regAddr (0x50 + b) 0x0012
def fOUT_SR_STATUS_PRP_EXITED : Fld := ⟨3, 1⟩ -- W1C
def fOUT_SR_STATUS_ENTER_REFUSED : Fld := ⟨2, 1⟩ -- W1C
def fOUT_SR_STATUS_SR_STATE : Fld := ⟨0, 2⟩ -- RO

/-- OUT register BL_CTRL; 09_pipes_ports_and_modes.md, line 443. -/
def rOUT_BL_CTRL (b : Nat) : Nat := regAddr (0x50 + b) 0x0018
def fOUT_BL_CTRL_LOCK : Fld := ⟨23, 1⟩ -- RW
def fOUT_BL_CTRL_CH : Fld := ⟨19, 4⟩ -- RW
def fOUT_BL_CTRL_DIV : Fld := ⟨9, 10⟩ -- RW

/-- OUT register BL_PHASE; 09_pipes_ports_and_modes.md, line 452. -/
def rOUT_BL_PHASE (b : Nat) : Nat := regAddr (0x50 + b) 0x0019
def fOUT_BL_PHASE_PHASE : Fld := ⟨0, 24⟩ -- RW

/-- OUT register BL_DUTY; 09_pipes_ports_and_modes.md, line 458. -/
def rOUT_BL_DUTY (b : Nat) : Nat := regAddr (0x50 + b) 0x001A
def fOUT_BL_DUTY_DUTY : Fld := ⟨0, 13⟩ -- SH

/-- OUT register SIG_CTRLk; 10_signatures_and_parapet.md, line 259. -/
def rOUT_SIG_CTRLk (b i0 : Nat) : Nat := regAddr (0x50 + b) (0x2000 + 16 * i0)
def fOUT_SIG_CTRLk_EN : Fld := ⟨23, 1⟩ -- SH
def fOUT_SIG_CTRLk_KIND : Fld := ⟨22, 1⟩ -- SH
def fOUT_SIG_CTRLk_ACTION : Fld := ⟨20, 2⟩ -- SH
def fOUT_SIG_CTRLk_STICKY : Fld := ⟨19, 1⟩ -- SH
def fOUT_SIG_CTRLk_TRUTH : Fld := ⟨18, 1⟩ -- SH
def fOUT_SIG_CTRLk_MISS_LIMIT : Fld := ⟨14, 4⟩ -- SH
def fOUT_SIG_CTRLk_EXP_VALID : Fld := ⟨10, 4⟩ -- SH
def fOUT_SIG_CTRLk_TT : Fld := ⟨0, 8⟩ -- SH

/-- OUT register SIG_X0; 10_signatures_and_parapet.md, line 273. -/
def rOUT_SIG_X0 (b i0 : Nat) : Nat := regAddr (0x50 + b) (0x2001 + 16 * i0)
def fOUT_SIG_X0_VALUE : Fld := ⟨0, 13⟩ -- SH

/-- OUT register SIG_Y0; 10_signatures_and_parapet.md, line 273. -/
def rOUT_SIG_Y0 (b i0 : Nat) : Nat := regAddr (0x50 + b) (0x2002 + 16 * i0)
def fOUT_SIG_Y0_VALUE : Fld := ⟨0, 13⟩ -- SH

/-- OUT register SIG_W; 10_signatures_and_parapet.md, line 273. -/
def rOUT_SIG_W (b i0 : Nat) : Nat := regAddr (0x50 + b) (0x2003 + 16 * i0)
def fOUT_SIG_W_VALUE : Fld := ⟨0, 13⟩ -- SH

/-- OUT register SIG_H; 10_signatures_and_parapet.md, line 273. -/
def rOUT_SIG_H (b i0 : Nat) : Nat := regAddr (0x50 + b) (0x2004 + 16 * i0)
def fOUT_SIG_H_VALUE : Fld := ⟨0, 13⟩ -- SH

/-- OUT register SIG_EXP_LO; 10_signatures_and_parapet.md, line 280. -/
def rOUT_SIG_EXP_LO (b i0 i1 : Nat) : Nat := regAddr (0x50 + b) (0x2005 + 16 * i0 + 2 * i1)
def fOUT_SIG_EXP_LO_CRC : Fld := ⟨0, 24⟩ -- SH

/-- OUT register SIG_EXP_HI; 10_signatures_and_parapet.md, line 286. -/
def rOUT_SIG_EXP_HI (b i0 i1 : Nat) : Nat := regAddr (0x50 + b) (0x2006 + 16 * i0 + 2 * i1)
def fOUT_SIG_EXP_HI_CRC : Fld := ⟨0, 8⟩ -- SH

/-- OUT register SIG_LAST_LO; 10_signatures_and_parapet.md, line 293. -/
def rOUT_SIG_LAST_LO (b i0 : Nat) : Nat := regAddr (0x50 + b) (0x200D + 16 * i0)
def fOUT_SIG_LAST_LO_CRC : Fld := ⟨0, 24⟩ -- RO

/-- OUT register SIG_LAST_HI; 10_signatures_and_parapet.md, line 299. -/
def rOUT_SIG_LAST_HI (b i0 : Nat) : Nat := regAddr (0x50 + b) (0x200E + 16 * i0)
def fOUT_SIG_LAST_HI_CRC : Fld := ⟨0, 8⟩ -- RO

/-- OUT register SIG_STATUSk; 10_signatures_and_parapet.md, line 306. -/
def rOUT_SIG_STATUSk (b i0 : Nat) : Nat := regAddr (0x50 + b) (0x200F + 16 * i0)
def fOUT_SIG_STATUSk_RUN : Fld := ⟨20, 4⟩ -- RO
def fOUT_SIG_STATUSk_MATCHED : Fld := ⟨18, 2⟩ -- RO
def fOUT_SIG_STATUSk_PASS : Fld := ⟨17, 1⟩ -- RO
def fOUT_SIG_STATUSk_ACTIVE : Fld := ⟨16, 1⟩ -- RO
def fOUT_SIG_STATUSk_CAUSE : Fld := ⟨14, 2⟩ -- RO
def fOUT_SIG_STATUSk_CFG_BAD : Fld := ⟨4, 1⟩ -- W1C
def fOUT_SIG_STATUSk_UNJUDGED : Fld := ⟨3, 1⟩ -- W1C
def fOUT_SIG_STATUSk_RELEASED : Fld := ⟨2, 1⟩ -- W1C
def fOUT_SIG_STATUSk_TRIPPED : Fld := ⟨1, 1⟩ -- W1C
def fOUT_SIG_STATUSk_MISMATCH : Fld := ⟨0, 1⟩ -- W1C

/-- OUT register SIG_CTRL; 10_signatures_and_parapet.md, line 322. -/
def rOUT_SIG_CTRL (b : Nat) : Nat := regAddr (0x50 + b) 0x2400
def fOUT_SIG_CTRL_FORCE_PRP : Fld := ⟨23, 1⟩ -- RW
def fOUT_SIG_CTRL_EV_EN : Fld := ⟨8, 1⟩ -- RW
def fOUT_SIG_CTRL_EV : Fld := ⟨0, 8⟩ -- RW

/-- OUT register SIG_ACTIVE0; 10_signatures_and_parapet.md, line 331. -/
def rOUT_SIG_ACTIVE0 (b : Nat) : Nat := regAddr (0x50 + b) 0x2401
def fOUT_SIG_ACTIVE0_REGIONS : Fld := ⟨0, 24⟩ -- RO

/-- OUT register SIG_ACTIVE1; 10_signatures_and_parapet.md, line 331. -/
def rOUT_SIG_ACTIVE1 (b : Nat) : Nat := regAddr (0x50 + b) 0x2402
def fOUT_SIG_ACTIVE1_REGIONS : Fld := ⟨0, 24⟩ -- RO

/-- OUT register SIG_ACTIVE2; 10_signatures_and_parapet.md, line 331. -/
def rOUT_SIG_ACTIVE2 (b : Nat) : Nat := regAddr (0x50 + b) 0x2403
def fOUT_SIG_ACTIVE2_REGIONS : Fld := ⟨0, 24⟩ -- RO

/-- OUT register SIG_MISS_CNT; 10_signatures_and_parapet.md, line 337. -/
def rOUT_SIG_MISS_CNT (b : Nat) : Nat := regAddr (0x50 + b) 0x2405
def fOUT_SIG_MISS_CNT_COUNT : Fld := ⟨0, 24⟩ -- CT

/-- OUT register SIG_TRIP_CNT; 10_signatures_and_parapet.md, line 337. -/
def rOUT_SIG_TRIP_CNT (b : Nat) : Nat := regAddr (0x50 + b) 0x2406
def fOUT_SIG_TRIP_CNT_COUNT : Fld := ⟨0, 24⟩ -- CT

/-- OUT register SIG_UNJ_CNT; 10_signatures_and_parapet.md, line 337. -/
def rOUT_SIG_UNJ_CNT (b : Nat) : Nat := regAddr (0x50 + b) 0x2407
def fOUT_SIG_UNJ_CNT_COUNT : Fld := ⟨0, 24⟩ -- CT

/-- OUT register SIG_TRIP; 10_signatures_and_parapet.md, line 343. -/
def rOUT_SIG_TRIP (b : Nat) : Nat := regAddr (0x50 + b) 0x2408
def fOUT_SIG_TRIP_REGION : Fld := ⟨0, 6⟩ -- RO

/-- OUT register SIG_TRIP_FRAME; 10_signatures_and_parapet.md, line 350. -/
def rOUT_SIG_TRIP_FRAME (b : Nat) : Nat := regAddr (0x50 + b) 0x2409
def fOUT_SIG_TRIP_FRAME_FRAME : Fld := ⟨0, 24⟩ -- RO

/-- The OUT block's register rows, part 0. -/
def rowsOUT0 : List RegRow := [
  ⟨0x50, 8, 0x0400, [(16, 32)], 0x070000, [], [], 0x000000, 0x000000, 0x000000, 0x000000, 0x000000, 0x1FFFE7, 0x1FFFE7⟩,
  ⟨0x50, 8, 0x0401, [(16, 32)], 0x000000, [], [], 0x000000, 0x000000, 0x000000, 0x000000, 0x000000, 0xFF07FF, 0xFF07FF⟩,
  ⟨0x50, 8, 0x0402, [(16, 32)], 0x000000, [], [], 0x000000, 0x000000, 0x000000, 0x000000, 0x000000, 0xFFFFFF, 0xFFFFFF⟩,
  ⟨0x50, 8, 0x0403, [(16, 32)], 0x000000, [], [], 0x000000, 0x000000, 0x000000, 0x000000, 0x000000, 0xFFFFFF, 0xFFFFFF⟩,
  ⟨0x50, 8, 0x0404, [(16, 32)], 0x000000, [], [], 0x000000, 0x000000, 0x000000, 0x000000, 0x000000, 0x007FFF, 0x007FFF⟩,
  ⟨0x50, 8, 0x0405, [(16, 32)], 0x000000, [], [], 0x000000, 0x000000, 0x000000, 0x000000, 0x000000, 0x007FFF, 0x007FFF⟩,
  ⟨0x50, 8, 0x0406, [(16, 32), (6, 2)], 0x000000, [], [], 0x000000, 0x000000, 0x000000, 0x000000, 0x000000, 0xFFFFFF, 0xFFFFFF⟩,
  ⟨0x50, 8, 0x0407, [(16, 32), (6, 2)], 0x000000, [(2, 0x1), (5, 0x1)], [], 0x000000, 0x000000, 0x000000, 0x000000, 0x000000, 0xFFFFFF, 0xFFFFFF⟩,
  ⟨0x50, 8, 0x0418, [(16, 32)], 0x000000, [], [], 0x000000, 0x000000, 0x00003F, 0x000000, 0x000000, 0x000000, 0x00003F⟩,
  ⟨0x50, 8, 0x0419, [(16, 32)], 0x000000, [], [], 0x000000, 0x000000, 0x000000, 0x000000, 0x000000, 0x000000, 0xFFFFFF⟩,
  ⟨0x50, 8, 0x0600, [], 0x000000, [], [], 0x000000, 0x000000, 0x000000, 0x000000, 0x000000, 0x000000, 0xFFFFFF⟩,
  ⟨0x50, 8, 0x0601, [], 0x000000, [], [], 0x000000, 0x000000, 0x000000, 0x000000, 0x000000, 0x000000, 0xFFFFFF⟩,
  ⟨0x50, 8, 0x8000, [(64, 512), (256, 2)], 0x000000, [], [], 0x000000, 0x000000, 0x000000, 0x000000, 0x000000, 0xFFFFFF, 0xFFFFFF⟩,
  ⟨0x50, 8, 0x8001, [(64, 512), (256, 2)], 0x000000, [], [], 0x000000, 0x000000, 0x000000, 0x000000, 0x000000, 0xFFFFFF, 0xFFFFFF⟩,
  ⟨0x50, 8, 0x0700, [], 0x000000, [], [], 0x0001FF, 0x000000, 0x000000, 0x000000, 0x000000, 0x000000, 0x0001FF⟩,
  ⟨0x50, 8, 0x0701, [], 0x000000, [], [], 0x000000, 0x000000, 0x000000, 0x000000, 0x000000, 0xFFFFFF, 0xFFFFFF⟩,
  ⟨0x50, 8, 0x0702, [], 0x000FFF, [], [], 0x000000, 0x000000, 0x000000, 0x000000, 0x000000, 0x000FFF, 0x000FFF⟩,
  ⟨0x50, 8, 0x0703, [], 0x000000, [], [], 0x000000, 0x000000, 0x000000, 0x000000, 0x000000, 0xFFFFFF, 0xFFFFFF⟩,
  ⟨0x50, 8, 0x0704, [], 0x000080, [], [], 0x000000, 0x000000, 0x00003F, 0x000000, 0x000000, 0x000000, 0x0000FF⟩,
  ⟨0x50, 8, 0x0705, [], 0x001000, [], [], 0x000000, 0x000000, 0x000000, 0x000000, 0x000000, 0x000000, 0x001FFF⟩,
  ⟨0x50, 8, 0x0706, [], 0x000000, [], [], 0x000000, 0xFFFFFF, 0x000000, 0x000000, 0x000000, 0x000000, 0xFFFFFF⟩,
  ⟨0x50, 8, 0x0707, [], 0x000000, [], [], 0x000000, 0x000000, 0x000000, 0x000000, 0x000000, 0x000000, 0x00FFFF⟩,
  ⟨0x50, 8, 0x0708, [], 0x000000, [], [], 0x000000, 0x000000, 0x000000, 0x000000, 0x000000, 0x000000, 0x00FFFF⟩,
  ⟨0x50, 8, 0x0709, [], 0x000000, [], [], 0x000000, 0x000000, 0x000000, 0x000000, 0x000000, 0x000000, 0xFFFFFF⟩]

/-- The OUT block's register rows, part 1. -/
def rowsOUT1 : List RegRow := [
  ⟨0x50, 8, 0x070A, [], 0x000000, [], [], 0x000000, 0xFFFFFF, 0x000000, 0x000000, 0x000000, 0x000000, 0xFFFFFF⟩,
  ⟨0x50, 8, 0x070B, [], 0x000000, [], [], 0x000000, 0xFFFFFF, 0x000000, 0x000000, 0x000000, 0x000000, 0xFFFFFF⟩,
  ⟨0x50, 8, 0x070C, [], 0x000000, [], [], 0x000000, 0x000000, 0x000000, 0x000000, 0x000000, 0x000000, 0xFFFFFF⟩,
  ⟨0x50, 8, 0x070D, [], 0x000000, [], [], 0x000000, 0x000000, 0x000000, 0x000000, 0x000000, 0x000000, 0xFFFFFF⟩,
  ⟨0x50, 8, 0x070E, [], 0x000000, [], [], 0x000000, 0x000000, 0x000000, 0x000000, 0x000000, 0x000000, 0x001FFF⟩,
  ⟨0x50, 8, 0x0804, [(63, 4), (4, 1)], 0x000000, [(0, 0x10000), (3, 0x10000)], [], 0x000000, 0x000000, 0x000000, 0x000000, 0x000000, 0xFFFFFF, 0xFFFFFF⟩,
  ⟨0x50, 8, 0x0900, [], 0x000000, [], [], 0x000000, 0x000000, 0x000000, 0x000000, 0x000000, 0xFFFFFF, 0xFFFFFF⟩,
  ⟨0x50, 8, 0x0901, [], 0x000000, [], [], 0x000000, 0x000000, 0x000000, 0x000000, 0x000000, 0x000000, 0xFFFFFF⟩,
  ⟨0x50, 8, 0x0902, [], 0x000000, [], [], 0x000000, 0x000000, 0x000007, 0x000000, 0x000000, 0x000000, 0x000007⟩,
  ⟨0x50, 8, 0x0A00, [], 0x000300, [], [], 0x800003, 0x000000, 0x000000, 0x000000, 0x000000, 0x000330, 0x800333⟩,
  ⟨0x50, 8, 0x0A01, [], 0x000000, [], [], 0x000000, 0x000000, 0x000000, 0x000000, 0x000000, 0xFFFFFF, 0xFFFFFF⟩,
  ⟨0x50, 8, 0x0A02, [], 0x000000, [], [], 0x000000, 0x000000, 0x000000, 0x000000, 0x000000, 0xFFFFFF, 0xFFFFFF⟩,
  ⟨0x50, 8, 0x0A03, [(12, 1)], 0x000000, [(0, 0x4000), (5, 0x4000), (10, 0x4000)], [], 0x000000, 0x000000, 0x000000, 0x000000, 0x000000, 0xFFFFFF, 0xFFFFFF⟩,
  ⟨0x50, 8, 0x0A10, [], 0x000000, [], [], 0x00000F, 0x000000, 0x000000, 0x000000, 0x000000, 0x000000, 0x00000F⟩,
  ⟨0x50, 8, 0x0A11, [], 0x000000, [], [], 0x000000, 0x000000, 0x000000, 0x000000, 0x000000, 0xFFFFFF, 0xFFFFFF⟩,
  ⟨0x50, 8, 0x0A12, [], 0x000000, [], [], 0x000000, 0x000000, 0x000002, 0x000000, 0x000000, 0x000000, 0x000007⟩,
  ⟨0x50, 8, 0x0A14, [], 0x000000, [], [], 0xFFFF80, 0x000000, 0x000000, 0x000000, 0x000003, 0x000000, 0xFFFF83⟩,
  ⟨0x50, 8, 0x0A15, [], 0x000000, [], [], 0xFFFFFF, 0x000000, 0x000000, 0x000000, 0x000000, 0x000000, 0xFFFFFF⟩,
  ⟨0x50, 8, 0x0A17, [], 0x000000, [], [], 0x000000, 0x000000, 0x000000, 0x000000, 0x000000, 0x000000, 0xFFFFFF⟩,
  ⟨0x50, 8, 0x0A16, [], 0x000000, [], [], 0x0000FF, 0x000000, 0x000000, 0x000000, 0x000000, 0x000000, 0x0000FF⟩,
  ⟨0x50, 8, 0x0A18, [], 0x000000, [], [], 0x000000, 0x000000, 0x000000, 0x000000, 0x000000, 0x000000, 0x0000FF⟩,
  ⟨0x50, 8, 0x0A19, [], 0x000000, [], [], 0x000000, 0x000000, 0x000000, 0x000000, 0x000000, 0x000000, 0xFFFFFF⟩,
  ⟨0x50, 8, 0x0A1A, [], 0x000000, [], [], 0x000000, 0x000000, 0x000000, 0x000000, 0x000000, 0x000000, 0x0007FF⟩,
  ⟨0x50, 8, 0x0A1B, [], 0x000000, [], [], 0x000000, 0x000000, 0x000006, 0x000000, 0x000000, 0x000000, 0xFF000F⟩]

/-- The OUT block's register rows, part 2. -/
def rowsOUT2 : List RegRow := [
  ⟨0x50, 8, 0x0A1C, [], 0x000000, [], [], 0x000000, 0x000000, 0x000000, 0x000000, 0x000000, 0x000000, 0xFFFFFF⟩,
  ⟨0x50, 8, 0x0A1D, [], 0x000000, [], [], 0x000000, 0xFFFFFF, 0x000000, 0x000000, 0x000000, 0x000000, 0xFFFFFF⟩,
  ⟨0x50, 8, 0x0A2D, [], 0x000000, [], [], 0x000000, 0xFFFFFF, 0x000000, 0x000000, 0x000000, 0x000000, 0xFFFFFF⟩,
  ⟨0x50, 8, 0x0A2E, [], 0x000000, [], [], 0x000000, 0xFFFFFF, 0x000000, 0x000000, 0x000000, 0x000000, 0xFFFFFF⟩,
  ⟨0x50, 8, 0x0A2F, [], 0x000000, [], [], 0x000000, 0xFFFFFF, 0x000000, 0x000000, 0x000000, 0x000000, 0xFFFFFF⟩,
  ⟨0x50, 8, 0x0A1E, [], 0x000000, [], [], 0x000000, 0x000000, 0x000000, 0x000000, 0x000000, 0x000000, 0xFFFFFF⟩,
  ⟨0x50, 8, 0x0A20, [], 0x000000, [], [], 0x000000, 0x000000, 0x000000, 0x000000, 0x000000, 0x000000, 0xFFFFFF⟩,
  ⟨0x50, 8, 0x0A21, [], 0x000000, [], [], 0x000000, 0x000000, 0x000000, 0x000000, 0x000000, 0x000000, 0xFFFFFF⟩,
  ⟨0x50, 8, 0x0A22, [], 0x000000, [], [], 0x000000, 0x000000, 0x000000, 0x000000, 0x000000, 0x000000, 0xFFFFFF⟩,
  ⟨0x50, 8, 0x0A23, [], 0x000000, [], [], 0x000000, 0x000000, 0x000000, 0x000000, 0x000000, 0x000000, 0xFFFFFF⟩,
  ⟨0x50, 8, 0x0A24, [], 0x000000, [], [], 0x000000, 0x000000, 0x000000, 0xFFFFFF, 0x000000, 0x000000, 0xFFFFFF⟩,
  ⟨0x50, 8, 0x0A25, [], 0x000000, [], [], 0x000000, 0x000000, 0x000000, 0x0000FF, 0x000000, 0x000000, 0x0000FF⟩,
  ⟨0x50, 8, 0x0A28, [], 0x000000, [], [], 0xFFFFFF, 0x000000, 0x000000, 0x000000, 0x000000, 0x000000, 0xFFFFFF⟩,
  ⟨0x50, 8, 0x0A29, [], 0x000000, [], [], 0xFFFFFF, 0x000000, 0x000000, 0x000000, 0x000000, 0x000000, 0xFFFFFF⟩,
  ⟨0x50, 8, 0x0A2A, [], 0x000000, [], [], 0x000000, 0x000000, 0x00003F, 0x000000, 0x000000, 0x000000, 0x00003F⟩,
  ⟨0x50, 8, 0x0A2B, [], 0x000000, [], [], 0x000000, 0x000000, 0x000000, 0x000000, 0x000000, 0x000000, 0xFFFFFF⟩,
  ⟨0x50, 8, 0x0A2C, [], 0x000000, [], [], 0x000000, 0x000000, 0x000000, 0x000000, 0x000000, 0x000000, 0xFFFFFF⟩,
  ⟨0x50, 8, 0x0A30, [], 0x000000, [], [], 0x000000, 0x000000, 0x000000, 0x000000, 0x000000, 0x000000, 0xFFFFFF⟩,
  ⟨0x50, 8, 0x0A31, [], 0x000000, [], [], 0x000000, 0x000000, 0x000000, 0x000000, 0x000000, 0x000000, 0xFFFFFF⟩,
  ⟨0x50, 8, 0x0A40, [(8, 4), (4, 1)], 0x000000, [], [], 0x001FFF, 0x000000, 0x000000, 0x000000, 0x000000, 0x000000, 0x001FFF⟩,
  ⟨0x50, 8, 0x1000, [(32, 32)], 0x000000, [], [], 0x000000, 0x000000, 0x000000, 0x000000, 0x000000, 0xFFFC00, 0xFFFC00⟩,
  ⟨0x50, 8, 0x1001, [(32, 32)], 0x000000, [], [], 0x000000, 0x000000, 0x000000, 0x000000, 0x000000, 0x001FFF, 0x001FFF⟩,
  ⟨0x50, 8, 0x1002, [(32, 32)], 0x000000, [], [], 0x000000, 0x000000, 0x000000, 0x000000, 0x000000, 0x001FFF, 0x001FFF⟩,
  ⟨0x50, 8, 0x1003, [(32, 32)], 0x000000, [], [], 0x000000, 0x000000, 0x000000, 0x000000, 0x000000, 0x001FFF, 0x001FFF⟩]

/-- The OUT block's register rows, part 3. -/
def rowsOUT3 : List RegRow := [
  ⟨0x50, 8, 0x1004, [(32, 32)], 0x000000, [], [], 0x000000, 0x000000, 0x000000, 0x000000, 0x000000, 0x001FFF, 0x001FFF⟩,
  ⟨0x50, 8, 0x1005, [(32, 32)], 0x004000, [], [], 0x000000, 0x000000, 0x000000, 0x000000, 0x000000, 0x00FFFF, 0x00FFFF⟩,
  ⟨0x50, 8, 0x1006, [(32, 32), (12, 1)], 0x000000, [(0, 0x4000), (5, 0x4000), (10, 0x4000)], [], 0x000000, 0x000000, 0x000000, 0x000000, 0x000000, 0xFFFFFF, 0xFFFFFF⟩,
  ⟨0x50, 8, 0x1012, [(32, 32)], 0x000000, [], [], 0x000000, 0x000000, 0x000000, 0x000000, 0x000000, 0xFFFFFF, 0xFFFFFF⟩,
  ⟨0x50, 8, 0x1013, [(32, 32)], 0x000000, [], [], 0x000000, 0x000000, 0x000000, 0x000000, 0x000000, 0xFFFFFF, 0xFFFFFF⟩,
  ⟨0x50, 8, 0x1014, [(32, 32)], 0x000000, [], [], 0x000000, 0x000000, 0x000000, 0x000000, 0x000000, 0xFFFFFF, 0xFFFFFF⟩,
  ⟨0x50, 8, 0x1015, [(32, 32)], 0x000000, [], [], 0x000000, 0x000000, 0x000000, 0x000000, 0x000000, 0xFFFFFF, 0xFFFFFF⟩,
  ⟨0x50, 8, 0x1016, [(32, 32)], 0x000000, [], [], 0x000000, 0x000000, 0x000000, 0x000000, 0x000000, 0xFFFFFF, 0xFFFFFF⟩,
  ⟨0x50, 8, 0x1017, [(32, 32)], 0x000000, [], [], 0x000000, 0x000000, 0x000000, 0x000000, 0x000000, 0xFFFFFF, 0xFFFFFF⟩,
  ⟨0x50, 8, 0x1018, [(32, 32)], 0x000000, [], [], 0x000000, 0xFFFFFF, 0x000000, 0x000000, 0x000000, 0x000000, 0xFFFFFF⟩,
  ⟨0x50, 8, 0x0000, [], 0x000000, [], [], 0x9F3F00, 0x000000, 0x000000, 0x000000, 0x000000, 0x000000, 0x9F3F00⟩,
  ⟨0x50, 8, 0x0001, [], 0x000000, [], [], 0x000000, 0x000000, 0x00003F, 0x000000, 0x000000, 0x000000, 0xF0F03F⟩,
  ⟨0x50, 8, 0x0002, [], 0x000000, [], [(0, 0x0), (1, 0x1), (2, 0x2), (3, 0x3), (4, 0x4), (5, 0x5), (6, 0x6), (7, 0x7)], 0x000000, 0x000000, 0x000000, 0x000000, 0x000000, 0x000000, 0x00000F⟩,
  ⟨0x50, 8, 0x0003, [], 0x000000, [], [], 0x000000, 0x000000, 0x000000, 0x000000, 0x000000, 0x000000, 0x1FFFFF⟩,
  ⟨0x50, 8, 0x0004, [], 0x000000, [], [], 0x000000, 0xFFFFFF, 0x000000, 0x000000, 0x000000, 0x000000, 0xFFFFFF⟩,
  ⟨0x50, 8, 0x0008, [], 0x00000E, [], [], 0x00003F, 0x000000, 0x000000, 0x000000, 0x000000, 0x000000, 0x00003F⟩,
  ⟨0x50, 8, 0x0009, [], 0x8CA103, [], [], 0xFFFF83, 0x000000, 0x000000, 0x000000, 0x000000, 0x000000, 0xFFFF83⟩,
  ⟨0x50, 8, 0x000A, [], 0x000000, [], [], 0x000007, 0x000000, 0x000000, 0x000000, 0x000000, 0x000000, 0x000007⟩,
  ⟨0x50, 8, 0x000B, [], 0x000000, [], [], 0xFFFFFF, 0x000000, 0x000000, 0x000000, 0x000000, 0x000000, 0xFFFFFF⟩,
  ⟨0x50, 8, 0x0010, [], 0x400000, [], [], 0xF00000, 0x000000, 0x000000, 0x000000, 0x000000, 0x000000, 0xF00000⟩,
  ⟨0x50, 8, 0x0011, [], 0x000000, [], [], 0x000000, 0x000000, 0x000000, 0x000000, 0x000000, 0xFFFFFF, 0xFFFFFF⟩,
  ⟨0x50, 8, 0x0012, [], 0x000000, [], [], 0x000000, 0x000000, 0x00000C, 0x000000, 0x000000, 0x000000, 0x00000F⟩,
  ⟨0x50, 8, 0x0018, [], 0x000000, [], [], 0xFFFE00, 0x000000, 0x000000, 0x000000, 0x000000, 0x000000, 0xFFFE00⟩,
  ⟨0x50, 8, 0x0019, [], 0x000000, [], [], 0xFFFFFF, 0x000000, 0x000000, 0x000000, 0x000000, 0x000000, 0xFFFFFF⟩]

/-- The OUT block's register rows, part 4. -/
def rowsOUT4 : List RegRow := [
  ⟨0x50, 8, 0x001A, [], 0x000000, [], [], 0x000000, 0x000000, 0x000000, 0x000000, 0x000000, 0x001FFF, 0x001FFF⟩,
  ⟨0x50, 8, 0x2000, [(64, 16)], 0x00C000, [], [], 0x000000, 0x000000, 0x000000, 0x000000, 0x000000, 0xFFFCFF, 0xFFFCFF⟩,
  ⟨0x50, 8, 0x2001, [(64, 16)], 0x000000, [], [], 0x000000, 0x000000, 0x000000, 0x000000, 0x000000, 0x001FFF, 0x001FFF⟩,
  ⟨0x50, 8, 0x2002, [(64, 16)], 0x000000, [], [], 0x000000, 0x000000, 0x000000, 0x000000, 0x000000, 0x001FFF, 0x001FFF⟩,
  ⟨0x50, 8, 0x2003, [(64, 16)], 0x000000, [], [], 0x000000, 0x000000, 0x000000, 0x000000, 0x000000, 0x001FFF, 0x001FFF⟩,
  ⟨0x50, 8, 0x2004, [(64, 16)], 0x000000, [], [], 0x000000, 0x000000, 0x000000, 0x000000, 0x000000, 0x001FFF, 0x001FFF⟩,
  ⟨0x50, 8, 0x2005, [(64, 16), (4, 2)], 0x000000, [], [], 0x000000, 0x000000, 0x000000, 0x000000, 0x000000, 0xFFFFFF, 0xFFFFFF⟩,
  ⟨0x50, 8, 0x2006, [(64, 16), (4, 2)], 0x000000, [], [], 0x000000, 0x000000, 0x000000, 0x000000, 0x000000, 0x0000FF, 0x0000FF⟩,
  ⟨0x50, 8, 0x200D, [(64, 16)], 0x000000, [], [], 0x000000, 0x000000, 0x000000, 0x000000, 0x000000, 0x000000, 0xFFFFFF⟩,
  ⟨0x50, 8, 0x200E, [(64, 16)], 0x000000, [], [], 0x000000, 0x000000, 0x000000, 0x000000, 0x000000, 0x000000, 0x0000FF⟩,
  ⟨0x50, 8, 0x200F, [(64, 16)], 0x000000, [], [], 0x000000, 0x000000, 0x00001F, 0x000000, 0x000000, 0x000000, 0xFFC01F⟩,
  ⟨0x50, 8, 0x2400, [], 0x000000, [], [], 0x8001FF, 0x000000, 0x000000, 0x000000, 0x000000, 0x000000, 0x8001FF⟩,
  ⟨0x50, 8, 0x2401, [], 0x000000, [], [], 0x000000, 0x000000, 0x000000, 0x000000, 0x000000, 0x000000, 0xFFFFFF⟩,
  ⟨0x50, 8, 0x2402, [], 0x000000, [], [], 0x000000, 0x000000, 0x000000, 0x000000, 0x000000, 0x000000, 0xFFFFFF⟩,
  ⟨0x50, 8, 0x2403, [], 0x000000, [], [], 0x000000, 0x000000, 0x000000, 0x000000, 0x000000, 0x000000, 0xFFFFFF⟩,
  ⟨0x50, 8, 0x2405, [], 0x000000, [], [], 0x000000, 0xFFFFFF, 0x000000, 0x000000, 0x000000, 0x000000, 0xFFFFFF⟩,
  ⟨0x50, 8, 0x2406, [], 0x000000, [], [], 0x000000, 0xFFFFFF, 0x000000, 0x000000, 0x000000, 0x000000, 0xFFFFFF⟩,
  ⟨0x50, 8, 0x2407, [], 0x000000, [], [], 0x000000, 0xFFFFFF, 0x000000, 0x000000, 0x000000, 0x000000, 0xFFFFFF⟩,
  ⟨0x50, 8, 0x2408, [], 0x000000, [], [], 0x000000, 0x000000, 0x000000, 0x000000, 0x000000, 0x000000, 0x00003F⟩,
  ⟨0x50, 8, 0x2409, [], 0x000000, [], [], 0x000000, 0x000000, 0x000000, 0x000000, 0x000000, 0x000000, 0xFFFFFF⟩]

/-- The OUT block's register rows. -/
def rowsOUT : List RegRow := rowsOUT0 ++ rowsOUT1 ++ rowsOUT2 ++ rowsOUT3 ++ rowsOUT4

/-! ### LCC: block 0x60 to 0x67 -/

/-- LCC register CTRL; 06_line_programs.md, line 351. -/
def rLCC_CTRL (b : Nat) : Nat := regAddr (0x60 + b) 0x0000
def fLCC_CTRL_EN : Fld := ⟨23, 1⟩ -- SH
def fLCC_CTRL_LEAD : Fld := ⟨16, 7⟩ -- SH
def fLCC_CTRL_LATE_EV_EN : Fld := ⟨8, 1⟩ -- RW
def fLCC_CTRL_LATE_EV : Fld := ⟨0, 8⟩ -- RW

/-- LCC register PROG_BASE; 06_line_programs.md, line 361. -/
def rLCC_PROG_BASE (b : Nat) : Nat := regAddr (0x60 + b) 0x0001
def fLCC_PROG_BASE_BASE : Fld := ⟨0, 24⟩ -- SH

/-- LCC register PROG_LEN; 06_line_programs.md, line 367. -/
def rLCC_PROG_LEN (b : Nat) : Nat := regAddr (0x60 + b) 0x0002
def fLCC_PROG_LEN_LEN_M1 : Fld := ⟨0, 10⟩ -- SH

/-- LCC register PARAM; 06_line_programs.md, line 374. -/
def rLCC_PARAM (b : Nat) : Nat := regAddr (0x60 + b) 0x0003
def fLCC_PARAM_PARAM : Fld := ⟨0, 24⟩ -- SH

/-- LCC register STATUS; 06_line_programs.md, line 380. -/
def rLCC_STATUS (b : Nat) : Nat := regAddr (0x60 + b) 0x0004
def fLCC_STATUS_LOAD_BAD : Fld := ⟨14, 1⟩ -- W1C
def fLCC_STATUS_LOADED : Fld := ⟨13, 1⟩ -- RO
def fLCC_STATUS_READY : Fld := ⟨12, 1⟩ -- RO
def fLCC_STATUS_LOADING : Fld := ⟨11, 1⟩ -- RO
def fLCC_STATUS_LOAD_RESTART : Fld := ⟨10, 1⟩ -- W1C
def fLCC_STATUS_LEAD_RANGE : Fld := ⟨9, 1⟩ -- W1C
def fLCC_STATUS_VIOL : Fld := ⟨8, 1⟩ -- W1C
def fLCC_STATUS_EXC : Fld := ⟨7, 1⟩ -- W1C
def fLCC_STATUS_BAD_REC : Fld := ⟨6, 1⟩ -- W1C
def fLCC_STATUS_QFULL : Fld := ⟨5, 1⟩ -- W1C
def fLCC_STATUS_FILL_OVF : Fld := ⟨4, 1⟩ -- W1C
def fLCC_STATUS_SPAN_OVF : Fld := ⟨3, 1⟩ -- W1C
def fLCC_STATUS_TILE_LATE : Fld := ⟨2, 1⟩ -- W1C
def fLCC_STATUS_LATE : Fld := ⟨1, 1⟩ -- W1C
def fLCC_STATUS_DELAYED : Fld := ⟨0, 1⟩ -- W1C

/-- LCC register CORES; 06_line_programs.md, line 401. -/
def rLCC_CORES (b : Nat) : Nat := regAddr (0x60 + b) 0x0005
def fLCC_CORES_SPARE_FOR : Fld := ⟨18, 4⟩ -- RO
def fLCC_CORES_HALTED : Fld := ⟨9, 9⟩ -- RO
def fLCC_CORES_RETIRED : Fld := ⟨0, 9⟩ -- RO

/-- LCC register BUDGET; 06_line_programs.md, line 410. -/
def rLCC_BUDGET (b : Nat) : Nat := regAddr (0x60 + b) 0x0006
def fLCC_BUDGET_BUDGET : Fld := ⟨0, 24⟩ -- RO

/-- LCC register LOAD; 06_line_programs.md, line 416. -/
def rLCC_LOAD (b : Nat) : Nat := regAddr (0x60 + b) 0x0007
def fLCC_LOAD_PEAK : Fld := ⟨0, 24⟩ -- RO

/-- LCC register QPEAK; 06_line_programs.md, line 422. -/
def rLCC_QPEAK (b : Nat) : Nat := regAddr (0x60 + b) 0x0008
def fLCC_QPEAK_PEAK : Fld := ⟨0, 12⟩ -- RO

/-- LCC register LATE_CNT; 06_line_programs.md, line 429. -/
def rLCC_LATE_CNT (b : Nat) : Nat := regAddr (0x60 + b) 0x0009
def fLCC_LATE_CNT_COUNT : Fld := ⟨0, 24⟩ -- CT

/-- LCC register DELAY_CNT; 06_line_programs.md, line 429. -/
def rLCC_DELAY_CNT (b : Nat) : Nat := regAddr (0x60 + b) 0x000A
def fLCC_DELAY_CNT_COUNT : Fld := ⟨0, 24⟩ -- CT

/-- LCC register DROP_CNT; 06_line_programs.md, line 429. -/
def rLCC_DROP_CNT (b : Nat) : Nat := regAddr (0x60 + b) 0x000B
def fLCC_DROP_CNT_COUNT : Fld := ⟨0, 24⟩ -- CT

/-- LCC register BAD_CNT; 06_line_programs.md, line 429. -/
def rLCC_BAD_CNT (b : Nat) : Nat := regAddr (0x60 + b) 0x000C
def fLCC_BAD_CNT_COUNT : Fld := ⟨0, 24⟩ -- CT

/-- LCC register EXC_CNT; 06_line_programs.md, line 429. -/
def rLCC_EXC_CNT (b : Nat) : Nat := regAddr (0x60 + b) 0x000D
def fLCC_EXC_CNT_COUNT : Fld := ⟨0, 24⟩ -- CT

/-- LCC register VIOL_CNT; 06_line_programs.md, line 429. -/
def rLCC_VIOL_CNT (b : Nat) : Nat := regAddr (0x60 + b) 0x000E
def fLCC_VIOL_CNT_COUNT : Fld := ⟨0, 24⟩ -- CT

/-- LCC register EVT_LINE; 06_line_programs.md, line 435. -/
def rLCC_EVT_LINE (b : Nat) : Nat := regAddr (0x60 + b) 0x000F
def fLCC_EVT_LINE_CAUSE : Fld := ⟨20, 4⟩ -- RO
def fLCC_EVT_LINE_LINE : Fld := ⟨0, 16⟩ -- RO

/-- LCC register EVT_FRAME; 06_line_programs.md, line 443. -/
def rLCC_EVT_FRAME (b : Nat) : Nat := regAddr (0x60 + b) 0x0010
def fLCC_EVT_FRAME_FRAME : Fld := ⟨0, 24⟩ -- RO

/-- LCC register EXC_INFO; 06_line_programs.md, line 449. -/
def rLCC_EXC_INFO (b : Nat) : Nat := regAddr (0x60 + b) 0x0011
def fLCC_EXC_INFO_CAUSE : Fld := ⟨20, 4⟩ -- RO
def fLCC_EXC_INFO_CORE : Fld := ⟨16, 4⟩ -- RO
def fLCC_EXC_INFO_EPC : Fld := ⟨0, 16⟩ -- RO

/-- The LCC block's register rows. -/
def rowsLCC : List RegRow := [
  ⟨0x60, 8, 0x0000, [], 0x080000, [], [], 0x0001FF, 0x000000, 0x000000, 0x000000, 0x000000, 0xFF0000, 0xFF01FF⟩,
  ⟨0x60, 8, 0x0001, [], 0x000000, [], [], 0x000000, 0x000000, 0x000000, 0x000000, 0x000000, 0xFFFFFF, 0xFFFFFF⟩,
  ⟨0x60, 8, 0x0002, [], 0x0003FF, [], [], 0x000000, 0x000000, 0x000000, 0x000000, 0x000000, 0x0003FF, 0x0003FF⟩,
  ⟨0x60, 8, 0x0003, [], 0x000000, [], [], 0x000000, 0x000000, 0x000000, 0x000000, 0x000000, 0xFFFFFF, 0xFFFFFF⟩,
  ⟨0x60, 8, 0x0004, [], 0x001000, [], [], 0x000000, 0x000000, 0x0047FF, 0x000000, 0x000000, 0x000000, 0x007FFF⟩,
  ⟨0x60, 8, 0x0005, [], 0x3C0000, [], [], 0x000000, 0x000000, 0x000000, 0x000000, 0x000000, 0x000000, 0x3FFFFF⟩,
  ⟨0x60, 8, 0x0006, [], 0x000000, [], [], 0x000000, 0x000000, 0x000000, 0x000000, 0x000000, 0x000000, 0xFFFFFF⟩,
  ⟨0x60, 8, 0x0007, [], 0x000000, [], [], 0x000000, 0x000000, 0x000000, 0x000000, 0x000000, 0x000000, 0xFFFFFF⟩,
  ⟨0x60, 8, 0x0008, [], 0x000000, [], [], 0x000000, 0x000000, 0x000000, 0x000000, 0x000000, 0x000000, 0x000FFF⟩,
  ⟨0x60, 8, 0x0009, [], 0x000000, [], [], 0x000000, 0xFFFFFF, 0x000000, 0x000000, 0x000000, 0x000000, 0xFFFFFF⟩,
  ⟨0x60, 8, 0x000A, [], 0x000000, [], [], 0x000000, 0xFFFFFF, 0x000000, 0x000000, 0x000000, 0x000000, 0xFFFFFF⟩,
  ⟨0x60, 8, 0x000B, [], 0x000000, [], [], 0x000000, 0xFFFFFF, 0x000000, 0x000000, 0x000000, 0x000000, 0xFFFFFF⟩,
  ⟨0x60, 8, 0x000C, [], 0x000000, [], [], 0x000000, 0xFFFFFF, 0x000000, 0x000000, 0x000000, 0x000000, 0xFFFFFF⟩,
  ⟨0x60, 8, 0x000D, [], 0x000000, [], [], 0x000000, 0xFFFFFF, 0x000000, 0x000000, 0x000000, 0x000000, 0xFFFFFF⟩,
  ⟨0x60, 8, 0x000E, [], 0x000000, [], [], 0x000000, 0xFFFFFF, 0x000000, 0x000000, 0x000000, 0x000000, 0xFFFFFF⟩,
  ⟨0x60, 8, 0x000F, [], 0x000000, [], [], 0x000000, 0x000000, 0x000000, 0x000000, 0x000000, 0x000000, 0xF0FFFF⟩,
  ⟨0x60, 8, 0x0010, [], 0x000000, [], [], 0x000000, 0x000000, 0x000000, 0x000000, 0x000000, 0x000000, 0xFFFFFF⟩,
  ⟨0x60, 8, 0x0011, [], 0x000000, [], [], 0x000000, 0x000000, 0x000000, 0x000000, 0x000000, 0x000000, 0xFFFFFF⟩]

/-! ### CAM: block 0x30 to 0x37 -/

/-- CAM register CTRL; 08_camera_passthrough.md, line 213. -/
def rCAM_CTRL (b : Nat) : Nat := regAddr (0x30 + b) 0x0000
def fCAM_CTRL_EN : Fld := ⟨23, 1⟩ -- RW
def fCAM_CTRL_LANES : Fld := ⟨21, 2⟩ -- RW
def fCAM_CTRL_VC_SEL : Fld := ⟨17, 4⟩ -- RW
def fCAM_CTRL_FORMAT : Fld := ⟨15, 2⟩ -- RW
def fCAM_CTRL_LOSS_FRAMES : Fld := ⟨11, 4⟩ -- RW
def fCAM_CTRL_VC_CLR : Fld := ⟨10, 1⟩ -- SC
def fCAM_CTRL_EV_EN : Fld := ⟨9, 1⟩ -- RW
def fCAM_CTRL_EV : Fld := ⟨0, 8⟩ -- RW

/-- CAM register SIZE; 08_camera_passthrough.md, line 227. -/
def rCAM_SIZE (b : Nat) : Nat := regAddr (0x30 + b) 0x0001
def fCAM_SIZE_SW_M1 : Fld := ⟨12, 12⟩ -- RW
def fCAM_SIZE_SH_M1 : Fld := ⟨0, 12⟩ -- RW

/-- CAM register WARP; 08_camera_passthrough.md, line 234. -/
def rCAM_WARP (b : Nat) : Nat := regAddr (0x30 + b) 0x0002
def fCAM_WARP_W : Fld := ⟨17, 7⟩ -- RW
def fCAM_WARP_GX : Fld := ⟨15, 2⟩ -- RW
def fCAM_WARP_GY : Fld := ⟨12, 3⟩ -- RW
def fCAM_WARP_WARP_EN : Fld := ⟨11, 1⟩ -- RW

/-- CAM register WARP_BASE; 08_camera_passthrough.md, line 244. -/
def rCAM_WARP_BASE (b : Nat) : Nat := regAddr (0x30 + b) 0x0003
def fCAM_WARP_BASE_BASE : Fld := ⟨0, 24⟩ -- RW

/-- CAM register MTX; 08_camera_passthrough.md, line 250. -/
def rCAM_MTX (b i0 : Nat) : Nat := regAddr (0x30 + b) (0x0004 + i0)
def fCAM_MTX_COEF : Fld := ⟨0, 24⟩ -- RW

/-- CAM register STATUS; 08_camera_passthrough.md, line 256. -/
def rCAM_STATUS (b : Nat) : Nat := regAddr (0x30 + b) 0x0010
def fCAM_STATUS_READY : Fld := ⟨13, 1⟩ -- RO
def fCAM_STATUS_LOST : Fld := ⟨12, 1⟩ -- RO
def fCAM_STATUS_CFG_BAD : Fld := ⟨11, 1⟩ -- W1C
def fCAM_STATUS_SHARED : Fld := ⟨10, 1⟩ -- W1C
def fCAM_STATUS_VC_OVF : Fld := ⟨9, 1⟩ -- W1C
def fCAM_STATUS_BAD_DT : Fld := ⟨8, 1⟩ -- W1C
def fCAM_STATUS_LEN_ERR : Fld := ⟨7, 1⟩ -- W1C
def fCAM_STATUS_CRC_ERR : Fld := ⟨6, 1⟩ -- W1C
def fCAM_STATUS_OVERRUN : Fld := ⟨5, 1⟩ -- W1C
def fCAM_STATUS_UNDERRUN : Fld := ⟨4, 1⟩ -- W1C
def fCAM_STATUS_NO_FRAME : Fld := ⟨3, 1⟩ -- W1C
def fCAM_STATUS_WARP_CLIP : Fld := ⟨2, 1⟩ -- W1C

/-- CAM register VC_DROP_CNT; 08_camera_passthrough.md, line 275. -/
def rCAM_VC_DROP_CNT (b : Nat) : Nat := regAddr (0x30 + b) 0x0011
def fCAM_VC_DROP_CNT_COUNT : Fld := ⟨0, 24⟩ -- CT

/-- CAM register ECC_CNT; 08_camera_passthrough.md, line 275. -/
def rCAM_ECC_CNT (b : Nat) : Nat := regAddr (0x30 + b) 0x0012
def fCAM_ECC_CNT_COUNT : Fld := ⟨0, 24⟩ -- CT

/-- CAM register CRC_CNT; 08_camera_passthrough.md, line 275. -/
def rCAM_CRC_CNT (b : Nat) : Nat := regAddr (0x30 + b) 0x0013
def fCAM_CRC_CNT_COUNT : Fld := ⟨0, 24⟩ -- CT

/-- CAM register LEN_CNT; 08_camera_passthrough.md, line 275. -/
def rCAM_LEN_CNT (b : Nat) : Nat := regAddr (0x30 + b) 0x0014
def fCAM_LEN_CNT_COUNT : Fld := ⟨0, 24⟩ -- CT

/-- CAM register OVR_CNT; 08_camera_passthrough.md, line 275. -/
def rCAM_OVR_CNT (b : Nat) : Nat := regAddr (0x30 + b) 0x0015
def fCAM_OVR_CNT_COUNT : Fld := ⟨0, 24⟩ -- CT

/-- CAM register UNDR_CNT; 08_camera_passthrough.md, line 275. -/
def rCAM_UNDR_CNT (b : Nat) : Nat := regAddr (0x30 + b) 0x0016
def fCAM_UNDR_CNT_COUNT : Fld := ⟨0, 24⟩ -- CT

/-- CAM register MISS_CNT; 08_camera_passthrough.md, line 275. -/
def rCAM_MISS_CNT (b : Nat) : Nat := regAddr (0x30 + b) 0x0017
def fCAM_MISS_CNT_COUNT : Fld := ⟨0, 24⟩ -- CT

/-- CAM register VC_TRACK; 08_camera_passthrough.md, line 281. -/
def rCAM_VC_TRACK (b : Nat) : Nat := regAddr (0x30 + b) 0x0018
def fCAM_VC_TRACK_VALID : Fld := ⟨20, 4⟩ -- RO
def fCAM_VC_TRACK_VC : Fld := ⟨0, 16⟩ -- RO

/-- CAM register FS_PHASE; 08_camera_passthrough.md, line 289. -/
def rCAM_FS_PHASE (b : Nat) : Nat := regAddr (0x30 + b) 0x0019
def fCAM_FS_PHASE_PHASE : Fld := ⟨0, 24⟩ -- RO

/-- CAM register MARGIN; 08_camera_passthrough.md, line 295. -/
def rCAM_MARGIN (b : Nat) : Nat := regAddr (0x30 + b) 0x001A
def fCAM_MARGIN_MARGIN : Fld := ⟨0, 24⟩ -- RO

/-- CAM register FRAME_CNT; 08_camera_passthrough.md, line 301. -/
def rCAM_FRAME_CNT (b : Nat) : Nat := regAddr (0x30 + b) 0x001B
def fCAM_FRAME_CNT_COUNT : Fld := ⟨0, 24⟩ -- CT

/-- CAM register SERVES; 08_camera_passthrough.md, line 307. -/
def rCAM_SERVES (b : Nat) : Nat := regAddr (0x30 + b) 0x001C
def fCAM_SERVES_BOUND : Fld := ⟨8, 1⟩ -- RO
def fCAM_SERVES_OUT : Fld := ⟨5, 3⟩ -- RO
def fCAM_SERVES_LAYER : Fld := ⟨0, 5⟩ -- RO

/-- The CAM block's register rows. -/
def rowsCAM : List RegRow := [
  ⟨0x30, 8, 0x0000, [], 0x001800, [], [], 0xFFFAFF, 0x000000, 0x000000, 0x000000, 0x000400, 0x000000, 0xFFFEFF⟩,
  ⟨0x30, 8, 0x0001, [], 0x000000, [], [], 0xFFFFFF, 0x000000, 0x000000, 0x000000, 0x000000, 0x000000, 0xFFFFFF⟩,
  ⟨0x30, 8, 0x0002, [], 0x300000, [], [], 0xFFF800, 0x000000, 0x000000, 0x000000, 0x000000, 0x000000, 0xFFF800⟩,
  ⟨0x30, 8, 0x0003, [], 0x000000, [], [], 0xFFFFFF, 0x000000, 0x000000, 0x000000, 0x000000, 0x000000, 0xFFFFFF⟩,
  ⟨0x30, 8, 0x0004, [(12, 1)], 0x000000, [(0, 0x4A86), (1, 0x0), (2, 0x72BC), (3, 0xFFC1BC), (4, 0x4A86), (5, 0xFFF25B), (6, 0xFFDDE5), (7, 0x134C), (8, 0x4A86), (9, 0x8732), (10, 0x0), (11, 0xFFB776)], [], 0xFFFFFF, 0x000000, 0x000000, 0x000000, 0x000000, 0x000000, 0xFFFFFF⟩,
  ⟨0x30, 8, 0x0010, [], 0x000000, [], [], 0x000000, 0x000000, 0x000FFC, 0x000000, 0x000000, 0x000000, 0x003FFC⟩,
  ⟨0x30, 8, 0x0011, [], 0x000000, [], [], 0x000000, 0xFFFFFF, 0x000000, 0x000000, 0x000000, 0x000000, 0xFFFFFF⟩,
  ⟨0x30, 8, 0x0012, [], 0x000000, [], [], 0x000000, 0xFFFFFF, 0x000000, 0x000000, 0x000000, 0x000000, 0xFFFFFF⟩,
  ⟨0x30, 8, 0x0013, [], 0x000000, [], [], 0x000000, 0xFFFFFF, 0x000000, 0x000000, 0x000000, 0x000000, 0xFFFFFF⟩,
  ⟨0x30, 8, 0x0014, [], 0x000000, [], [], 0x000000, 0xFFFFFF, 0x000000, 0x000000, 0x000000, 0x000000, 0xFFFFFF⟩,
  ⟨0x30, 8, 0x0015, [], 0x000000, [], [], 0x000000, 0xFFFFFF, 0x000000, 0x000000, 0x000000, 0x000000, 0xFFFFFF⟩,
  ⟨0x30, 8, 0x0016, [], 0x000000, [], [], 0x000000, 0xFFFFFF, 0x000000, 0x000000, 0x000000, 0x000000, 0xFFFFFF⟩,
  ⟨0x30, 8, 0x0017, [], 0x000000, [], [], 0x000000, 0xFFFFFF, 0x000000, 0x000000, 0x000000, 0x000000, 0xFFFFFF⟩,
  ⟨0x30, 8, 0x0018, [], 0x000000, [], [], 0x000000, 0x000000, 0x000000, 0x000000, 0x000000, 0x000000, 0xF0FFFF⟩,
  ⟨0x30, 8, 0x0019, [], 0x000000, [], [], 0x000000, 0x000000, 0x000000, 0x000000, 0x000000, 0x000000, 0xFFFFFF⟩,
  ⟨0x30, 8, 0x001A, [], 0x000000, [], [], 0x000000, 0x000000, 0x000000, 0x000000, 0x000000, 0x000000, 0xFFFFFF⟩,
  ⟨0x30, 8, 0x001B, [], 0x000000, [], [], 0x000000, 0xFFFFFF, 0x000000, 0x000000, 0x000000, 0x000000, 0xFFFFFF⟩,
  ⟨0x30, 8, 0x001C, [], 0x000000, [], [], 0x000000, 0x000000, 0x000000, 0x000000, 0x000000, 0x000000, 0x0001FF⟩]

/-! ### PIPE: block 0x40 to 0x48 -/

/-- PIPE register CTRL; 09_pipes_ports_and_modes.md, line 469. -/
def rPIPE_CTRL (b : Nat) : Nat := regAddr (0x40 + b) 0x0000
def fPIPE_CTRL_RETIRE : Fld := ⟨0, 1⟩ -- SC

/-- PIPE register STATUS; 09_pipes_ports_and_modes.md, line 476. -/
def rPIPE_STATUS (b : Nat) : Nat := regAddr (0x40 + b) 0x0001
def fPIPE_STATUS_STATE : Fld := ⟨10, 2⟩ -- RO
def fPIPE_STATUS_PLL_LOCK : Fld := ⟨9, 1⟩ -- RO
def fPIPE_STATUS_NO_SPARE : Fld := ⟨8, 1⟩ -- W1C
def fPIPE_STATUS_OUT : Fld := ⟨0, 3⟩ -- RO

/-- The PIPE block's register rows. -/
def rowsPIPE : List RegRow := [
  ⟨0x40, 9, 0x0000, [], 0x000000, [], [], 0x000000, 0x000000, 0x000000, 0x000000, 0x000001, 0x000000, 0x000001⟩,
  ⟨0x40, 9, 0x0001, [], 0x000000, [], [(0, 0x400), (1, 0x401), (2, 0x402), (3, 0x403), (4, 0x404), (5, 0x405), (6, 0x406), (7, 0x407)], 0x000000, 0x000000, 0x000100, 0x000000, 0x000000, 0x000000, 0x000F07⟩]

/-! ### PRP: block 0x5 -/

/-- PRP register CTRL; 10_signatures_and_parapet.md, line 360. -/
def rPRP_CTRL : Nat := regAddr 0x5 0x0000
def fPRP_CTRL_EN : Fld := ⟨23, 1⟩ -- RW
def fPRP_CTRL_HOST_TT_EN : Fld := ⟨22, 1⟩ -- RW
def fPRP_CTRL_CHK_BLANK : Fld := ⟨21, 1⟩ -- RW
def fPRP_CTRL_CHK_LIMIT : Fld := ⟨17, 4⟩ -- RW
def fPRP_CTRL_HB_MS : Fld := ⟨7, 10⟩ -- RW

/-- PRP register STATUS; 10_signatures_and_parapet.md, line 371. -/
def rPRP_STATUS : Nat := regAddr 0x5 0x0001
def fPRP_STATUS_LOADED : Fld := ⟨23, 1⟩ -- RO
def fPRP_STATUS_FRESH : Fld := ⟨22, 1⟩ -- RO
def fPRP_STATUS_HB_ABSENT : Fld := ⟨21, 1⟩ -- RO
def fPRP_STATUS_ATTN : Fld := ⟨20, 1⟩ -- RO
def fPRP_STATUS_LOAD_BAD : Fld := ⟨5, 1⟩ -- W1C
def fPRP_STATUS_DRAW_OVF : Fld := ⟨4, 1⟩ -- W1C
def fPRP_STATUS_CHK_FAULT : Fld := ⟨3, 1⟩ -- W1C
def fPRP_STATUS_CHK_MISS : Fld := ⟨2, 1⟩ -- W1C
def fPRP_STATUS_HB_LOST : Fld := ⟨1, 1⟩ -- W1C
def fPRP_STATUS_FAILSAFE : Fld := ⟨0, 1⟩ -- W1C

/-- PRP register ATTN_MASK; 10_signatures_and_parapet.md, line 387. -/
def rPRP_ATTN_MASK : Nat := regAddr 0x5 0x0002
def fPRP_ATTN_MASK_MASK : Fld := ⟨0, 6⟩ -- RW

/-- PRP register CMD_CNT; 10_signatures_and_parapet.md, line 394. -/
def rPRP_CMD_CNT : Nat := regAddr 0x5 0x0003
def fPRP_CMD_CNT_COUNT : Fld := ⟨0, 24⟩ -- CT

/-- PRP register HB_CNT; 10_signatures_and_parapet.md, line 394. -/
def rPRP_HB_CNT : Nat := regAddr 0x5 0x0004
def fPRP_HB_CNT_COUNT : Fld := ⟨0, 24⟩ -- CT

/-- PRP register CHK_CNT; 10_signatures_and_parapet.md, line 394. -/
def rPRP_CHK_CNT : Nat := regAddr 0x5 0x0005
def fPRP_CHK_CNT_COUNT : Fld := ⟨0, 24⟩ -- CT

/-- PRP register OVF_CNT; 10_signatures_and_parapet.md, line 394. -/
def rPRP_OVF_CNT : Nat := regAddr 0x5 0x0006
def fPRP_OVF_CNT_COUNT : Fld := ⟨0, 24⟩ -- CT

/-- PRP register FAULT_FIRST; 10_signatures_and_parapet.md, line 400. -/
def rPRP_FAULT_FIRST : Nat := regAddr 0x5 0x0007
def fPRP_FAULT_FIRST_NONE : Fld := ⟨8, 1⟩ -- RO
def fPRP_FAULT_FIRST_TT : Fld := ⟨0, 8⟩ -- RO

/-- PRP register ADDR; 10_signatures_and_parapet.md, line 408. -/
def rPRP_ADDR : Nat := regAddr 0x5 0x0008
def fPRP_ADDR_ADDR : Fld := ⟨0, 19⟩ -- RW

/-- PRP register DATA_LO; 10_signatures_and_parapet.md, line 415. -/
def rPRP_DATA_LO : Nat := regAddr 0x5 0x0009
def fPRP_DATA_LO_DATA : Fld := ⟨0, 24⟩ -- RW

/-- PRP register DATA_HI; 10_signatures_and_parapet.md, line 421. -/
def rPRP_DATA_HI : Nat := regAddr 0x5 0x000A
def fPRP_DATA_HI_DATA : Fld := ⟨0, 24⟩ -- RW

/-- The PRP block's register rows. -/
def rowsPRP : List RegRow := [
  ⟨0x5, 1, 0x0000, [], 0xA60000, [], [], 0xFFFF80, 0x000000, 0x000000, 0x000000, 0x000000, 0x000000, 0xFFFF80⟩,
  ⟨0x5, 1, 0x0001, [], 0x000000, [], [], 0x000000, 0x000000, 0x00003F, 0x000000, 0x000000, 0x000000, 0xF0003F⟩,
  ⟨0x5, 1, 0x0002, [], 0x00002B, [], [], 0x00003F, 0x000000, 0x000000, 0x000000, 0x000000, 0x000000, 0x00003F⟩,
  ⟨0x5, 1, 0x0003, [], 0x000000, [], [], 0x000000, 0xFFFFFF, 0x000000, 0x000000, 0x000000, 0x000000, 0xFFFFFF⟩,
  ⟨0x5, 1, 0x0004, [], 0x000000, [], [], 0x000000, 0xFFFFFF, 0x000000, 0x000000, 0x000000, 0x000000, 0xFFFFFF⟩,
  ⟨0x5, 1, 0x0005, [], 0x000000, [], [], 0x000000, 0xFFFFFF, 0x000000, 0x000000, 0x000000, 0x000000, 0xFFFFFF⟩,
  ⟨0x5, 1, 0x0006, [], 0x000000, [], [], 0x000000, 0xFFFFFF, 0x000000, 0x000000, 0x000000, 0x000000, 0xFFFFFF⟩,
  ⟨0x5, 1, 0x0007, [], 0x000100, [], [], 0x000000, 0x000000, 0x000000, 0x000000, 0x000000, 0x000000, 0x0001FF⟩,
  ⟨0x5, 1, 0x0008, [], 0x000000, [], [], 0x07FFFF, 0x000000, 0x000000, 0x000000, 0x000000, 0x000000, 0x07FFFF⟩,
  ⟨0x5, 1, 0x0009, [], 0x000000, [], [], 0xFFFFFF, 0x000000, 0x000000, 0x000000, 0x000000, 0x000000, 0xFFFFFF⟩,
  ⟨0x5, 1, 0x000A, [], 0x000000, [], [], 0xFFFFFF, 0x000000, 0x000000, 0x000000, 0x000000, 0x000000, 0xFFFFFF⟩]

/-! ### SEC: block 0x9 -/

/-- SEC register T_CTRL; 12_stewards_and_interrupts.md, line 264. -/
def rSEC_T_CTRL (i0 : Nat) : Nat := regAddr 0x9 (0x0100 + 16 * (i0 - 1))
def fSEC_T_CTRL_RUN : Fld := ⟨23, 1⟩ -- RW
def fSEC_T_CTRL_AUTO_RESTART : Fld := ⟨22, 1⟩ -- RW
def fSEC_T_CTRL_PAIR : Fld := ⟨21, 1⟩ -- RW
def fSEC_T_CTRL_LOAD : Fld := ⟨20, 1⟩ -- SC
def fSEC_T_CTRL_LEVEL : Fld := ⟨18, 2⟩ -- RW

/-- SEC register T_GRANT; 12_stewards_and_interrupts.md, line 275. -/
def rSEC_T_GRANT (i0 : Nat) : Nat := regAddr 0x9 (0x0101 + 16 * (i0 - 1))
def fSEC_T_GRANT_DDR : Fld := ⟨13, 1⟩ -- RW
def fSEC_T_GRANT_DOORBELL : Fld := ⟨12, 1⟩ -- RW
def fSEC_T_GRANT_PIO_USER : Fld := ⟨11, 1⟩ -- RW
def fSEC_T_GRANT_WEARAN : Fld := ⟨10, 1⟩ -- RW
def fSEC_T_GRANT_EXCH : Fld := ⟨9, 1⟩ -- RW
def fSEC_T_GRANT_TRS : Fld := ⟨8, 1⟩ -- RW
def fSEC_T_GRANT_BTU : Fld := ⟨7, 1⟩ -- RW
def fSEC_T_GRANT_PERIPH : Fld := ⟨6, 1⟩ -- RW
def fSEC_T_GRANT_DMA : Fld := ⟨5, 1⟩ -- RW
def fSEC_T_GRANT_AUD : Fld := ⟨4, 1⟩ -- RW
def fSEC_T_GRANT_CAM : Fld := ⟨3, 1⟩ -- RW
def fSEC_T_GRANT_LCC : Fld := ⟨2, 1⟩ -- RW
def fSEC_T_GRANT_OUT_W : Fld := ⟨1, 1⟩ -- RW
def fSEC_T_GRANT_OUT_R : Fld := ⟨0, 1⟩ -- RW

/-- SEC register T_WIN; 12_stewards_and_interrupts.md, line 295. -/
def rSEC_T_WIN (i0 : Nat) : Nat := regAddr 0x9 (0x0102 + 16 * (i0 - 1))
def fSEC_T_WIN_FIRST : Fld := ⟨12, 12⟩ -- RW
def fSEC_T_WIN_COUNT : Fld := ⟨0, 12⟩ -- RW

/-- SEC register T_LOAD_BASE; 12_stewards_and_interrupts.md, line 302. -/
def rSEC_T_LOAD_BASE (i0 : Nat) : Nat := regAddr 0x9 (0x0103 + 16 * (i0 - 1))
def fSEC_T_LOAD_BASE_BASE : Fld := ⟨0, 24⟩ -- RW

/-- SEC register T_LOAD_LEN; 12_stewards_and_interrupts.md, line 308. -/
def rSEC_T_LOAD_LEN (i0 : Nat) : Nat := regAddr 0x9 (0x0104 + 16 * (i0 - 1))
def fSEC_T_LOAD_LEN_LEN_M1 : Fld := ⟨0, 14⟩ -- RW

/-- SEC register T_RING; 12_stewards_and_interrupts.md, line 315. -/
def rSEC_T_RING (i0 : Nat) : Nat := regAddr 0x9 (0x0105 + 16 * (i0 - 1))
def fSEC_T_RING_BASE : Fld := ⟨0, 24⟩ -- RW

/-- SEC register T_STATUS; 12_stewards_and_interrupts.md, line 321. -/
def rSEC_T_STATUS (i0 : Nat) : Nat := regAddr 0x9 (0x0106 + 16 * (i0 - 1))
def fSEC_T_STATUS_STATE : Fld := ⟨22, 2⟩ -- RO
def fSEC_T_STATUS_LOADING : Fld := ⟨21, 1⟩ -- RO
def fSEC_T_STATUS_LOADED : Fld := ⟨20, 1⟩ -- RO
def fSEC_T_STATUS_LOAD_BAD : Fld := ⟨4, 1⟩ -- W1C
def fSEC_T_STATUS_RESTARTED : Fld := ⟨3, 1⟩ -- W1C
def fSEC_T_STATUS_LOCKSTEP : Fld := ⟨2, 1⟩ -- W1C
def fSEC_T_STATUS_DOUBLE : Fld := ⟨1, 1⟩ -- W1C
def fSEC_T_STATUS_VIOL : Fld := ⟨0, 1⟩ -- W1C

/-- SEC register T_VIOL_CNT; 12_stewards_and_interrupts.md, line 335. -/
def rSEC_T_VIOL_CNT (i0 : Nat) : Nat := regAddr 0x9 (0x0107 + 16 * (i0 - 1))
def fSEC_T_VIOL_CNT_COUNT : Fld := ⟨0, 24⟩ -- CT

/-- SEC register CTRL; 13_command_packets_and_sessions.md, line 392. -/
def rSEC_CTRL : Nat := regAddr 0x9 0x0000
def fSEC_CTRL_IDLE_S : Fld := ⟨12, 12⟩ -- RW

/-- SEC register STATUS; 13_command_packets_and_sessions.md, line 399. -/
def rSEC_STATUS : Nat := regAddr 0x9 0x0001
def fSEC_STATUS_OPEN : Fld := ⟨16, 8⟩ -- RO
def fSEC_STATUS_CHALLENGED : Fld := ⟨8, 8⟩ -- RO
def fSEC_STATUS_LIMIT : Fld := ⟨1, 1⟩ -- W1C
def fSEC_STATUS_PROOF_FAIL : Fld := ⟨0, 1⟩ -- W1C

/-- SEC register PROOF_FAIL_CNT; 13_command_packets_and_sessions.md, line 409. -/
def rSEC_PROOF_FAIL_CNT : Nat := regAddr 0x9 0x0002
def fSEC_PROOF_FAIL_CNT_COUNT : Fld := ⟨0, 24⟩ -- CT

/-- SEC register SERIAL_LO; 13_command_packets_and_sessions.md, line 415. -/
def rSEC_SERIAL_LO : Nat := regAddr 0x9 0x0003
def fSEC_SERIAL_LO_SERIAL : Fld := ⟨0, 24⟩ -- RO

/-- SEC register SERIAL_HI; 13_command_packets_and_sessions.md, line 415. -/
def rSEC_SERIAL_HI : Nat := regAddr 0x9 0x0004
def fSEC_SERIAL_HI_SERIAL : Fld := ⟨0, 24⟩ -- RO

/-- SEC register KEY; 13_command_packets_and_sessions.md, line 421. -/
def rSEC_KEY (i0 : Nat) : Nat := regAddr 0x9 (0x0008 + i0)
def fSEC_KEY_VALID : Fld := ⟨23, 1⟩ -- RO
def fSEC_KEY_MAX_DEBUG : Fld := ⟨2, 2⟩ -- RO
def fSEC_KEY_MAX_LEVEL : Fld := ⟨0, 2⟩ -- RO

/-- SEC register SES; 13_command_packets_and_sessions.md, line 430. -/
def rSEC_SES (i0 : Nat) : Nat := regAddr 0x9 (0x0010 + 2 * i0)
def fSEC_SES_STATE : Fld := ⟨22, 2⟩ -- RO
def fSEC_SES_LEVEL : Fld := ⟨20, 2⟩ -- RO
def fSEC_SES_DEBUG : Fld := ⟨18, 2⟩ -- RO
def fSEC_SES_KEY : Fld := ⟨15, 3⟩ -- RO
def fSEC_SES_TRANSPORT : Fld := ⟨12, 3⟩ -- RO
def fSEC_SES_IDLE : Fld := ⟨0, 12⟩ -- RO

/-- SEC register SES_VIOL_CNT; 13_command_packets_and_sessions.md, line 441. -/
def rSEC_SES_VIOL_CNT (i0 : Nat) : Nat := regAddr 0x9 (0x0011 + 2 * i0)
def fSEC_SES_VIOL_CNT_COUNT : Fld := ⟨0, 24⟩ -- CT

/-- The SEC block's register rows. -/
def rowsSEC : List RegRow := [
  ⟨0x9, 1, 0x0100, [(2, 16)], 0x000000, [], [], 0xEC0000, 0x000000, 0x000000, 0x000000, 0x100000, 0x000000, 0xFC0000⟩,
  ⟨0x9, 1, 0x0101, [(2, 16)], 0x000000, [], [], 0x003FFF, 0x000000, 0x000000, 0x000000, 0x000000, 0x000000, 0x003FFF⟩,
  ⟨0x9, 1, 0x0102, [(2, 16)], 0x000000, [], [], 0xFFFFFF, 0x000000, 0x000000, 0x000000, 0x000000, 0x000000, 0xFFFFFF⟩,
  ⟨0x9, 1, 0x0103, [(2, 16)], 0x000000, [], [], 0xFFFFFF, 0x000000, 0x000000, 0x000000, 0x000000, 0x000000, 0xFFFFFF⟩,
  ⟨0x9, 1, 0x0104, [(2, 16)], 0x003FFF, [], [], 0x003FFF, 0x000000, 0x000000, 0x000000, 0x000000, 0x000000, 0x003FFF⟩,
  ⟨0x9, 1, 0x0105, [(2, 16)], 0x000000, [], [], 0xFFFFFF, 0x000000, 0x000000, 0x000000, 0x000000, 0x000000, 0xFFFFFF⟩,
  ⟨0x9, 1, 0x0106, [(2, 16)], 0x000000, [], [], 0x000000, 0x000000, 0x00001F, 0x000000, 0x000000, 0x000000, 0xF0001F⟩,
  ⟨0x9, 1, 0x0107, [(2, 16)], 0x000000, [], [], 0x000000, 0xFFFFFF, 0x000000, 0x000000, 0x000000, 0x000000, 0xFFFFFF⟩,
  ⟨0x9, 1, 0x0000, [], 0x01E000, [], [], 0xFFF000, 0x000000, 0x000000, 0x000000, 0x000000, 0x000000, 0xFFF000⟩,
  ⟨0x9, 1, 0x0001, [], 0x000000, [], [], 0x000000, 0x000000, 0x000003, 0x000000, 0x000000, 0x000000, 0xFFFF03⟩,
  ⟨0x9, 1, 0x0002, [], 0x000000, [], [], 0x000000, 0xFFFFFF, 0x000000, 0x000000, 0x000000, 0x000000, 0xFFFFFF⟩,
  ⟨0x9, 1, 0x0003, [], 0x000000, [], [], 0x000000, 0x000000, 0x000000, 0x000000, 0x000000, 0x000000, 0xFFFFFF⟩,
  ⟨0x9, 1, 0x0004, [], 0x000000, [], [], 0x000000, 0x000000, 0x000000, 0x000000, 0x000000, 0x000000, 0xFFFFFF⟩,
  ⟨0x9, 1, 0x0008, [(8, 1)], 0x000000, [], [], 0x000000, 0x000000, 0x000000, 0x000000, 0x000000, 0x000000, 0x80000F⟩,
  ⟨0x9, 1, 0x0010, [(8, 2)], 0x000000, [], [], 0x000000, 0x000000, 0x000000, 0x000000, 0x000000, 0x000000, 0xFFFFFF⟩,
  ⟨0x9, 1, 0x0011, [(8, 2)], 0x000000, [], [], 0x000000, 0xFFFFFF, 0x000000, 0x000000, 0x000000, 0x000000, 0xFFFFFF⟩]

/-! ### IRQC: block 0x2 -/

/-- IRQC register SRC; 12_stewards_and_interrupts.md, line 345. -/
def rIRQC_SRC (i0 : Nat) : Nat := regAddr 0x2 (0x0001 + (i0 - 1))
def fIRQC_SRC_PEND : Fld := ⟨16, 1⟩ -- RO
def fIRQC_SRC_TGT : Fld := ⟨8, 3⟩ -- RW
def fIRQC_SRC_PRI : Fld := ⟨0, 4⟩ -- RW

/-- IRQC register SETP; 12_stewards_and_interrupts.md, line 356. -/
def rIRQC_SETP (i0 : Nat) : Nat := regAddr 0x2 (0x0200 + i0)
def fIRQC_SETP_PEND : Fld := ⟨0, 24⟩ -- W1S

/-- IRQC register CLRP; 12_stewards_and_interrupts.md, line 362. -/
def rIRQC_CLRP (i0 : Nat) : Nat := regAddr 0x2 (0x0220 + i0)
def fIRQC_CLRP_PEND : Fld := ⟨0, 24⟩ -- W1C

/-- IRQC register T_CLAIM; 12_stewards_and_interrupts.md, line 368. -/
def rIRQC_T_CLAIM (i0 : Nat) : Nat := regAddr 0x2 (0x0300 + 16 * i0)
def fIRQC_T_CLAIM_SRC : Fld := ⟨0, 9⟩ -- RO

/-- IRQC register T_EOI; 12_stewards_and_interrupts.md, line 375. -/
def rIRQC_T_EOI (i0 : Nat) : Nat := regAddr 0x2 (0x0301 + 16 * i0)
def fIRQC_T_EOI_POP : Fld := ⟨0, 1⟩ -- SC

/-- IRQC register T_RUN; 12_stewards_and_interrupts.md, line 382. -/
def rIRQC_T_RUN (i0 : Nat) : Nat := regAddr 0x2 (0x0302 + 16 * i0)
def fIRQC_T_RUN_DEPTH : Fld := ⟨4, 4⟩ -- RO
def fIRQC_T_RUN_PRI : Fld := ⟨0, 4⟩ -- RO

/-- IRQC register T_STATUS; 12_stewards_and_interrupts.md, line 390. -/
def rIRQC_T_STATUS (i0 : Nat) : Nat := regAddr 0x2 (0x0303 + 16 * i0)
def fIRQC_T_STATUS_SEEN : Fld := ⟨3, 1⟩ -- RO
def fIRQC_T_STATUS_REQ : Fld := ⟨2, 1⟩ -- RO
def fIRQC_T_STATUS_STACK_UFL : Fld := ⟨1, 1⟩ -- W1C
def fIRQC_T_STATUS_STACK_FULL : Fld := ⟨0, 1⟩ -- W1C

/-- IRQC register T_SPUR_CNT; 12_stewards_and_interrupts.md, line 400. -/
def rIRQC_T_SPUR_CNT (i0 : Nat) : Nat := regAddr 0x2 (0x0304 + 16 * i0)
def fIRQC_T_SPUR_CNT_COUNT : Fld := ⟨0, 24⟩ -- CT

/-- IRQC register COAL_CNT; 12_stewards_and_interrupts.md, line 406. -/
def rIRQC_COAL_CNT : Nat := regAddr 0x2 0x0340
def fIRQC_COAL_CNT_COUNT : Fld := ⟨0, 24⟩ -- CT

/-- The IRQC block's register rows. -/
def rowsIRQC : List RegRow := [
  ⟨0x2, 1, 0x0001, [(510, 1)], 0x000000, [], [], 0x00070F, 0x000000, 0x000000, 0x000000, 0x000000, 0x000000, 0x01070F⟩,
  ⟨0x2, 1, 0x0200, [(22, 1)], 0x000000, [], [], 0x000000, 0x000000, 0x000000, 0xFFFFFF, 0x000000, 0x000000, 0xFFFFFF⟩,
  ⟨0x2, 1, 0x0220, [(22, 1)], 0x000000, [], [], 0x000000, 0x000000, 0xFFFFFF, 0x000000, 0x000000, 0x000000, 0xFFFFFF⟩,
  ⟨0x2, 1, 0x0300, [(3, 16)], 0x000000, [], [], 0x000000, 0x000000, 0x000000, 0x000000, 0x000000, 0x000000, 0x0001FF⟩,
  ⟨0x2, 1, 0x0301, [(3, 16)], 0x000000, [], [], 0x000000, 0x000000, 0x000000, 0x000000, 0x000001, 0x000000, 0x000001⟩,
  ⟨0x2, 1, 0x0302, [(3, 16)], 0x000000, [], [], 0x000000, 0x000000, 0x000000, 0x000000, 0x000000, 0x000000, 0x0000FF⟩,
  ⟨0x2, 1, 0x0303, [(3, 16)], 0x000000, [], [], 0x000000, 0x000000, 0x000003, 0x000000, 0x000000, 0x000000, 0x00000F⟩,
  ⟨0x2, 1, 0x0304, [(3, 16)], 0x000000, [], [], 0x000000, 0xFFFFFF, 0x000000, 0x000000, 0x000000, 0x000000, 0xFFFFFF⟩,
  ⟨0x2, 1, 0x0340, [], 0x000000, [], [], 0x000000, 0xFFFFFF, 0x000000, 0x000000, 0x000000, 0x000000, 0xFFFFFF⟩]

/-! ### HOST: block 0x8 -/

/-- HOST register CMD_CTRL; 13_command_packets_and_sessions.md, line 451. -/
def rHOST_CMD_CTRL : Nat := regAddr 0x8 0x0000
def fHOST_CMD_CTRL_UDP_EN : Fld := ⟨23, 1⟩ -- RW
def fHOST_CMD_CTRL_SPI_EN : Fld := ⟨22, 1⟩ -- RW
def fHOST_CMD_CTRL_MACS : Fld := ⟨20, 2⟩ -- RW
def fHOST_CMD_CTRL_UDP_PORT : Fld := ⟨0, 16⟩ -- RW

/-- HOST register CMD_STATUS; 13_command_packets_and_sessions.md, line 461. -/
def rHOST_CMD_STATUS : Nat := regAddr 0x8 0x0001
def fHOST_CMD_STATUS_RING_BAD : Fld := ⟨0, 8⟩ -- W1C

/-- HOST register UDP_DROP_CNT; 13_command_packets_and_sessions.md, line 468. -/
def rHOST_UDP_DROP_CNT : Nat := regAddr 0x8 0x0002
def fHOST_UDP_DROP_CNT_COUNT : Fld := ⟨0, 24⟩ -- CT

/-- HOST register SPI_DROP_CNT; 13_command_packets_and_sessions.md, line 468. -/
def rHOST_SPI_DROP_CNT : Nat := regAddr 0x8 0x0003
def fHOST_SPI_DROP_CNT_COUNT : Fld := ⟨0, 24⟩ -- CT

/-- HOST register RING_DESC; 13_command_packets_and_sessions.md, line 474. -/
def rHOST_RING_DESC (i0 : Nat) : Nat := regAddr 0x8 (0x0010 + i0)
def fHOST_RING_DESC_BASE : Fld := ⟨0, 24⟩ -- RW

/-- HOST register RING_BELL; 13_command_packets_and_sessions.md, line 480. -/
def rHOST_RING_BELL (i0 : Nat) : Nat := regAddr 0x8 (0x0018 + i0)
def fHOST_RING_BELL_BELL : Fld := ⟨0, 1⟩ -- SC

/-- The HOST block's register rows. -/
def rowsHOST : List RegRow := [
  ⟨0x8, 1, 0x0000, [], 0x404B57, [], [], 0xF0FFFF, 0x000000, 0x000000, 0x000000, 0x000000, 0x000000, 0xF0FFFF⟩,
  ⟨0x8, 1, 0x0001, [], 0x000000, [], [], 0x000000, 0x000000, 0x0000FF, 0x000000, 0x000000, 0x000000, 0x0000FF⟩,
  ⟨0x8, 1, 0x0002, [], 0x000000, [], [], 0x000000, 0xFFFFFF, 0x000000, 0x000000, 0x000000, 0x000000, 0xFFFFFF⟩,
  ⟨0x8, 1, 0x0003, [], 0x000000, [], [], 0x000000, 0xFFFFFF, 0x000000, 0x000000, 0x000000, 0x000000, 0xFFFFFF⟩,
  ⟨0x8, 1, 0x0010, [(8, 1)], 0x000000, [], [], 0xFFFFFF, 0x000000, 0x000000, 0x000000, 0x000000, 0x000000, 0xFFFFFF⟩,
  ⟨0x8, 1, 0x0018, [(8, 1)], 0x000000, [], [], 0x000000, 0x000000, 0x000000, 0x000000, 0x000001, 0x000000, 0x000001⟩]

/-! ### MEM: block 0x3 -/

/-- MEM register CTRL; 15_memory_fabric.md, line 210. -/
def rMEM_CTRL : Nat := regAddr 0x3 0x0000
def fMEM_CTRL_SCRUB_S : Fld := ⟨6, 8⟩ -- RW
def fMEM_CTRL_SCRUB_EN : Fld := ⟨0, 1⟩ -- RW

/-- MEM register STATUS; 15_memory_fabric.md, line 219. -/
def rMEM_STATUS : Nat := regAddr 0x3 0x0001
def fMEM_STATUS_INIT : Fld := ⟨20, 4⟩ -- RO
def fMEM_STATUS_COPY : Fld := ⟨16, 4⟩ -- RO
def fMEM_STATUS_SPARE_BAD : Fld := ⟨5, 1⟩ -- W1C
def fMEM_STATUS_SCRUB_LATE : Fld := ⟨4, 1⟩ -- W1C
def fMEM_STATUS_TRK_FULL : Fld := ⟨3, 1⟩ -- W1C
def fMEM_STATUS_DROP : Fld := ⟨2, 1⟩ -- W1C
def fMEM_STATUS_UE : Fld := ⟨1, 1⟩ -- W1C
def fMEM_STATUS_CE : Fld := ⟨0, 1⟩ -- W1C

/-- MEM register CE_CNT; 15_memory_fabric.md, line 233. -/
def rMEM_CE_CNT : Nat := regAddr 0x3 0x0002
def fMEM_CE_CNT_COUNT : Fld := ⟨0, 24⟩ -- CT

/-- MEM register UE_CNT; 15_memory_fabric.md, line 233. -/
def rMEM_UE_CNT : Nat := regAddr 0x3 0x0003
def fMEM_UE_CNT_COUNT : Fld := ⟨0, 24⟩ -- CT

/-- MEM register DROP_CNT; 15_memory_fabric.md, line 233. -/
def rMEM_DROP_CNT : Nat := regAddr 0x3 0x0004
def fMEM_DROP_CNT_COUNT : Fld := ⟨0, 24⟩ -- CT

/-- MEM register SCRUB_PASS; 15_memory_fabric.md, line 233. -/
def rMEM_SCRUB_PASS : Nat := regAddr 0x3 0x0005
def fMEM_SCRUB_PASS_COUNT : Fld := ⟨0, 24⟩ -- CT

/-- MEM register CE_ADDR; 15_memory_fabric.md, line 239. -/
def rMEM_CE_ADDR : Nat := regAddr 0x3 0x0006
def fMEM_CE_ADDR_ADDR : Fld := ⟨0, 24⟩ -- RO

/-- MEM register UE_ADDR; 15_memory_fabric.md, line 239. -/
def rMEM_UE_ADDR : Nat := regAddr 0x3 0x0008
def fMEM_UE_ADDR_ADDR : Fld := ⟨0, 24⟩ -- RO

/-- MEM register CE_INFO; 15_memory_fabric.md, line 245. -/
def rMEM_CE_INFO : Nat := regAddr 0x3 0x0007
def fMEM_CE_INFO_BIT : Fld := ⟨18, 6⟩ -- RO
def fMEM_CE_INFO_MASTER : Fld := ⟨10, 8⟩ -- RO

/-- MEM register UE_INFO; 15_memory_fabric.md, line 245. -/
def rMEM_UE_INFO : Nat := regAddr 0x3 0x0009
def fMEM_UE_INFO_BIT : Fld := ⟨18, 6⟩ -- RO
def fMEM_UE_INFO_MASTER : Fld := ⟨10, 8⟩ -- RO

/-- MEM register SPARE_CTRL; 15_memory_fabric.md, line 253. -/
def rMEM_SPARE_CTRL : Nat := regAddr 0x3 0x000C
def fMEM_SPARE_CTRL_GO : Fld := ⟨23, 1⟩ -- SC
def fMEM_SPARE_CTRL_ABORT : Fld := ⟨22, 1⟩ -- SC
def fMEM_SPARE_CTRL_SPARE : Fld := ⟨12, 4⟩ -- RW
def fMEM_SPARE_CTRL_BANK : Fld := ⟨0, 8⟩ -- RW

/-- MEM register SPARE; 15_memory_fabric.md, line 264. -/
def rMEM_SPARE (i0 : Nat) : Nat := regAddr 0x3 (0x0010 + i0)
def fMEM_SPARE_STATE : Fld := ⟨22, 2⟩ -- RO
def fMEM_SPARE_FOR : Fld := ⟨8, 8⟩ -- RO

/-- MEM register COPY_POS; 15_memory_fabric.md, line 273. -/
def rMEM_COPY_POS (i0 : Nat) : Nat := regAddr 0x3 (0x0020 + i0)
def fMEM_COPY_POS_POS : Fld := ⟨0, 16⟩ -- RO

/-- MEM register TRK_PEAK; 15_memory_fabric.md, line 280. -/
def rMEM_TRK_PEAK (i0 : Nat) : Nat := regAddr 0x3 (0x0030 + i0)
def fMEM_TRK_PEAK_PEAK : Fld := ⟨0, 13⟩ -- RO

/-- MEM register TRK_WAIT_CNT; 15_memory_fabric.md, line 287. -/
def rMEM_TRK_WAIT_CNT (i0 : Nat) : Nat := regAddr 0x3 (0x0038 + i0)
def fMEM_TRK_WAIT_CNT_COUNT : Fld := ⟨0, 24⟩ -- CT

/-- MEM register DDR_CFG; 15_memory_fabric.md, line 293. -/
def rMEM_DDR_CFG : Nat := regAddr 0x3 0x0040
def fMEM_DDR_CFG_EN : Fld := ⟨23, 1⟩ -- RW
def fMEM_DDR_CFG_RATE : Fld := ⟨20, 3⟩ -- RW
def fMEM_DDR_CFG_DENSITY : Fld := ⟨17, 3⟩ -- RW

/-- MEM register DDR_STATUS; 15_memory_fabric.md, line 302. -/
def rMEM_DDR_STATUS : Nat := regAddr 0x3 0x0041
def fMEM_DDR_STATUS_READY : Fld := ⟨23, 1⟩ -- RO
def fMEM_DDR_STATUS_UE : Fld := ⟨2, 1⟩ -- W1C
def fMEM_DDR_STATUS_TRAIN_FAIL : Fld := ⟨1, 1⟩ -- W1C
def fMEM_DDR_STATUS_CFG_BAD : Fld := ⟨0, 1⟩ -- W1C

/-- MEM register DDR_UE_CNT; 15_memory_fabric.md, line 312. -/
def rMEM_DDR_UE_CNT : Nat := regAddr 0x3 0x0042
def fMEM_DDR_UE_CNT_COUNT : Fld := ⟨0, 24⟩ -- CT

/-- MEM register DDR_WORDS_LO; 15_memory_fabric.md, line 318. -/
def rMEM_DDR_WORDS_LO : Nat := regAddr 0x3 0x0043
def fMEM_DDR_WORDS_LO_WORDS : Fld := ⟨0, 24⟩ -- RO

/-- MEM register DDR_WORDS_HI; 15_memory_fabric.md, line 318. -/
def rMEM_DDR_WORDS_HI : Nat := regAddr 0x3 0x0044
def fMEM_DDR_WORDS_HI_WORDS : Fld := ⟨0, 24⟩ -- RO

/-- The MEM block's register rows. -/
def rowsMEM : List RegRow := [
  ⟨0x3, 1, 0x0000, [], 0x000F01, [], [], 0x003FC1, 0x000000, 0x000000, 0x000000, 0x000000, 0x000000, 0x003FC1⟩,
  ⟨0x3, 1, 0x0001, [], 0x000000, [], [], 0x000000, 0x000000, 0x00003F, 0x000000, 0x000000, 0x000000, 0xFF003F⟩,
  ⟨0x3, 1, 0x0002, [], 0x000000, [], [], 0x000000, 0xFFFFFF, 0x000000, 0x000000, 0x000000, 0x000000, 0xFFFFFF⟩,
  ⟨0x3, 1, 0x0003, [], 0x000000, [], [], 0x000000, 0xFFFFFF, 0x000000, 0x000000, 0x000000, 0x000000, 0xFFFFFF⟩,
  ⟨0x3, 1, 0x0004, [], 0x000000, [], [], 0x000000, 0xFFFFFF, 0x000000, 0x000000, 0x000000, 0x000000, 0xFFFFFF⟩,
  ⟨0x3, 1, 0x0005, [], 0x000000, [], [], 0x000000, 0xFFFFFF, 0x000000, 0x000000, 0x000000, 0x000000, 0xFFFFFF⟩,
  ⟨0x3, 1, 0x0006, [], 0x000000, [], [], 0x000000, 0x000000, 0x000000, 0x000000, 0x000000, 0x000000, 0xFFFFFF⟩,
  ⟨0x3, 1, 0x0008, [], 0x000000, [], [], 0x000000, 0x000000, 0x000000, 0x000000, 0x000000, 0x000000, 0xFFFFFF⟩,
  ⟨0x3, 1, 0x0007, [], 0x000000, [], [], 0x000000, 0x000000, 0x000000, 0x000000, 0x000000, 0x000000, 0xFFFC00⟩,
  ⟨0x3, 1, 0x0009, [], 0x000000, [], [], 0x000000, 0x000000, 0x000000, 0x000000, 0x000000, 0x000000, 0xFFFC00⟩,
  ⟨0x3, 1, 0x000C, [], 0x000000, [], [], 0x00F0FF, 0x000000, 0x000000, 0x000000, 0xC00000, 0x000000, 0xC0F0FF⟩,
  ⟨0x3, 1, 0x0010, [(16, 1)], 0x000000, [], [], 0x000000, 0x000000, 0x000000, 0x000000, 0x000000, 0x000000, 0xC0FF00⟩,
  ⟨0x3, 1, 0x0020, [(4, 1)], 0x000000, [], [], 0x000000, 0x000000, 0x000000, 0x000000, 0x000000, 0x000000, 0x00FFFF⟩,
  ⟨0x3, 1, 0x0030, [(7, 1)], 0x000000, [], [], 0x000000, 0x000000, 0x000000, 0x000000, 0x000000, 0x000000, 0x001FFF⟩,
  ⟨0x3, 1, 0x0038, [(7, 1)], 0x000000, [], [], 0x000000, 0xFFFFFF, 0x000000, 0x000000, 0x000000, 0x000000, 0xFFFFFF⟩,
  ⟨0x3, 1, 0x0040, [], 0x000000, [], [], 0xFE0000, 0x000000, 0x000000, 0x000000, 0x000000, 0x000000, 0xFE0000⟩,
  ⟨0x3, 1, 0x0041, [], 0x000000, [], [], 0x000000, 0x000000, 0x000007, 0x000000, 0x000000, 0x000000, 0x800007⟩,
  ⟨0x3, 1, 0x0042, [], 0x000000, [], [], 0x000000, 0xFFFFFF, 0x000000, 0x000000, 0x000000, 0x000000, 0xFFFFFF⟩,
  ⟨0x3, 1, 0x0043, [], 0x000000, [], [], 0x000000, 0x000000, 0x000000, 0x000000, 0x000000, 0x000000, 0xFFFFFF⟩,
  ⟨0x3, 1, 0x0044, [], 0x000000, [], [], 0x000000, 0x000000, 0x000000, 0x000000, 0x000000, 0x000000, 0xFFFFFF⟩]

/-! ### SNP: block 0x4 -/

/-- SNP register CTRL; 15_memory_fabric.md, line 328. -/
def rSNP_CTRL : Nat := regAddr 0x4 0x0000
def fSNP_CTRL_EN : Fld := ⟨0, 1⟩ -- RW

/-- SNP register STATUS; 15_memory_fabric.md, line 335. -/
def rSNP_STATUS : Nat := regAddr 0x4 0x0001
def fSNP_STATUS_CE : Fld := ⟨2, 1⟩ -- W1C
def fSNP_STATUS_UE : Fld := ⟨1, 1⟩ -- W1C
def fSNP_STATUS_RANGE : Fld := ⟨0, 1⟩ -- W1C

/-- SNP register ACC_CNT; 15_memory_fabric.md, line 344. -/
def rSNP_ACC_CNT : Nat := regAddr 0x4 0x0002
def fSNP_ACC_CNT_COUNT : Fld := ⟨0, 24⟩ -- CT

/-- SNP register BUSY_PEAK; 15_memory_fabric.md, line 350. -/
def rSNP_BUSY_PEAK : Nat := regAddr 0x4 0x0003
def fSNP_BUSY_PEAK_CLOCKS : Fld := ⟨0, 24⟩ -- RO

/-- The SNP block's register rows. -/
def rowsSNP : List RegRow := [
  ⟨0x4, 1, 0x0000, [], 0x000001, [], [], 0x000001, 0x000000, 0x000000, 0x000000, 0x000000, 0x000000, 0x000001⟩,
  ⟨0x4, 1, 0x0001, [], 0x000000, [], [], 0x000000, 0x000000, 0x000007, 0x000000, 0x000000, 0x000000, 0x000007⟩,
  ⟨0x4, 1, 0x0002, [], 0x000000, [], [], 0x000000, 0xFFFFFF, 0x000000, 0x000000, 0x000000, 0x000000, 0xFFFFFF⟩,
  ⟨0x4, 1, 0x0003, [], 0x000000, [], [], 0x000000, 0x000000, 0x000000, 0x000000, 0x000000, 0x000000, 0xFFFFFF⟩]

/-! ### DMA: block 0xD -/

/-- DMA register CTRL; 16_dma_and_blitter.md, line 230. -/
def rDMA_CTRL : Nat := regAddr 0xD 0x0000
def fDMA_CTRL_EN : Fld := ⟨23, 1⟩ -- RW
def fDMA_CTRL_RETRY_MAX : Fld := ⟨0, 3⟩ -- RW

/-- DMA register STATUS0; 16_dma_and_blitter.md, line 238. -/
def rDMA_STATUS0 : Nat := regAddr 0xD 0x0001
def fDMA_STATUS0_ERR : Fld := ⟨0, 24⟩ -- W1C

/-- DMA register STATUS1; 16_dma_and_blitter.md, line 238. -/
def rDMA_STATUS1 : Nat := regAddr 0xD 0x0002
def fDMA_STATUS1_ERR : Fld := ⟨0, 24⟩ -- W1C

/-- DMA register RETRY_CNT; 16_dma_and_blitter.md, line 244. -/
def rDMA_RETRY_CNT : Nat := regAddr 0xD 0x0003
def fDMA_RETRY_CNT_COUNT : Fld := ⟨0, 24⟩ -- CT

/-- DMA register VIOL_CNT; 16_dma_and_blitter.md, line 244. -/
def rDMA_VIOL_CNT : Nat := regAddr 0xD 0x0004
def fDMA_VIOL_CNT_COUNT : Fld := ⟨0, 24⟩ -- CT

/-- DMA register CH_CTRL; 16_dma_and_blitter.md, line 250. -/
def rDMA_CH_CTRL (i0 : Nat) : Nat := regAddr 0xD (0x0100 + 8 * i0)
def fDMA_CH_CTRL_START : Fld := ⟨23, 1⟩ -- SC
def fDMA_CH_CTRL_STOP : Fld := ⟨22, 1⟩ -- SC
def fDMA_CH_CTRL_PRI : Fld := ⟨20, 2⟩ -- RW
def fDMA_CH_CTRL_OWNER : Fld := ⟨18, 2⟩ -- RW
def fDMA_CH_CTRL_BURST_M1 : Fld := ⟨12, 6⟩ -- RW

/-- DMA register CH_PROG_LO; 16_dma_and_blitter.md, line 261. -/
def rDMA_CH_PROG_LO (i0 : Nat) : Nat := regAddr 0xD (0x0101 + 8 * i0)
def fDMA_CH_PROG_LO_ADDR : Fld := ⟨0, 24⟩ -- RW

/-- DMA register CH_PROG_HI; 16_dma_and_blitter.md, line 261. -/
def rDMA_CH_PROG_HI (i0 : Nat) : Nat := regAddr 0xD (0x0102 + 8 * i0)
def fDMA_CH_PROG_HI_ADDR : Fld := ⟨0, 24⟩ -- RW

/-- DMA register CH_STATUS; 16_dma_and_blitter.md, line 267. -/
def rDMA_CH_STATUS (i0 : Nat) : Nat := regAddr 0xD (0x0103 + 8 * i0)
def fDMA_CH_STATUS_STATE : Fld := ⟨22, 2⟩ -- RO
def fDMA_CH_STATUS_CAUSE : Fld := ⟨18, 4⟩ -- RO
def fDMA_CH_STATUS_STOPPED : Fld := ⟨6, 1⟩ -- W1C
def fDMA_CH_STATUS_START_BUSY : Fld := ⟨5, 1⟩ -- W1C
def fDMA_CH_STATUS_LATE : Fld := ⟨4, 1⟩ -- W1C
def fDMA_CH_STATUS_VIOL : Fld := ⟨3, 1⟩ -- W1C
def fDMA_CH_STATUS_DEPTH : Fld := ⟨0, 3⟩ -- RO

/-- DMA register CH_PC_LO; 16_dma_and_blitter.md, line 280. -/
def rDMA_CH_PC_LO (i0 : Nat) : Nat := regAddr 0xD (0x0104 + 8 * i0)
def fDMA_CH_PC_LO_ADDR : Fld := ⟨0, 24⟩ -- RO

/-- DMA register CH_PC_HI; 16_dma_and_blitter.md, line 280. -/
def rDMA_CH_PC_HI (i0 : Nat) : Nat := regAddr 0xD (0x0105 + 8 * i0)
def fDMA_CH_PC_HI_ADDR : Fld := ⟨0, 24⟩ -- RO

/-- DMA register CH_ERR_LO; 16_dma_and_blitter.md, line 280. -/
def rDMA_CH_ERR_LO (i0 : Nat) : Nat := regAddr 0xD (0x0106 + 8 * i0)
def fDMA_CH_ERR_LO_ADDR : Fld := ⟨0, 24⟩ -- RO

/-- DMA register CH_ERR_HI; 16_dma_and_blitter.md, line 280. -/
def rDMA_CH_ERR_HI (i0 : Nat) : Nat := regAddr 0xD (0x0107 + 8 * i0)
def fDMA_CH_ERR_HI_ADDR : Fld := ⟨0, 24⟩ -- RO

/-- DMA register CH_LATE_CNT; 16_dma_and_blitter.md, line 286. -/
def rDMA_CH_LATE_CNT (i0 : Nat) : Nat := regAddr 0xD (0x0200 + i0)
def fDMA_CH_LATE_CNT_COUNT : Fld := ⟨0, 24⟩ -- CT

/-- The DMA block's register rows. -/
def rowsDMA : List RegRow := [
  ⟨0xD, 1, 0x0000, [], 0x800003, [], [], 0x800007, 0x000000, 0x000000, 0x000000, 0x000000, 0x000000, 0x800007⟩,
  ⟨0xD, 1, 0x0001, [], 0x000000, [], [], 0x000000, 0x000000, 0xFFFFFF, 0x000000, 0x000000, 0x000000, 0xFFFFFF⟩,
  ⟨0xD, 1, 0x0002, [], 0x000000, [], [], 0x000000, 0x000000, 0xFFFFFF, 0x000000, 0x000000, 0x000000, 0xFFFFFF⟩,
  ⟨0xD, 1, 0x0003, [], 0x000000, [], [], 0x000000, 0xFFFFFF, 0x000000, 0x000000, 0x000000, 0x000000, 0xFFFFFF⟩,
  ⟨0xD, 1, 0x0004, [], 0x000000, [], [], 0x000000, 0xFFFFFF, 0x000000, 0x000000, 0x000000, 0x000000, 0xFFFFFF⟩,
  ⟨0xD, 1, 0x0100, [(32, 8)], 0x03F000, [], [], 0x3FF000, 0x000000, 0x000000, 0x000000, 0xC00000, 0x000000, 0xFFF000⟩,
  ⟨0xD, 1, 0x0101, [(32, 8)], 0x000000, [], [], 0xFFFFFF, 0x000000, 0x000000, 0x000000, 0x000000, 0x000000, 0xFFFFFF⟩,
  ⟨0xD, 1, 0x0102, [(32, 8)], 0x000000, [], [], 0x00FFFF, 0x000000, 0x000000, 0x000000, 0x000000, 0x000000, 0x00FFFF⟩,
  ⟨0xD, 1, 0x0103, [(32, 8)], 0x000000, [], [], 0x000000, 0x000000, 0x000078, 0x000000, 0x000000, 0x000000, 0xFC007F⟩,
  ⟨0xD, 1, 0x0104, [(32, 8)], 0x000000, [], [], 0x000000, 0x000000, 0x000000, 0x000000, 0x000000, 0x000000, 0xFFFFFF⟩,
  ⟨0xD, 1, 0x0105, [(32, 8)], 0x000000, [], [], 0x000000, 0x000000, 0x000000, 0x000000, 0x000000, 0x000000, 0x00FFFF⟩,
  ⟨0xD, 1, 0x0106, [(32, 8)], 0x000000, [], [], 0x000000, 0x000000, 0x000000, 0x000000, 0x000000, 0x000000, 0xFFFFFF⟩,
  ⟨0xD, 1, 0x0107, [(32, 8)], 0x000000, [], [], 0x000000, 0x000000, 0x000000, 0x000000, 0x000000, 0x000000, 0x00FFFF⟩,
  ⟨0xD, 1, 0x0200, [(32, 1)], 0x000000, [], [], 0x000000, 0xFFFFFF, 0x000000, 0x000000, 0x000000, 0x000000, 0xFFFFFF⟩]

/-! ### BLT: block 0xE -/

/-- BLT register CTRL; 16_dma_and_blitter.md, line 296. -/
def rBLT_CTRL : Nat := regAddr 0xE 0x0000
def fBLT_CTRL_GO : Fld := ⟨23, 1⟩ -- SC
def fBLT_CTRL_OP : Fld := ⟨20, 2⟩ -- RW
def fBLT_CTRL_ROT : Fld := ⟨18, 2⟩ -- RW
def fBLT_CTRL_HFLIP : Fld := ⟨17, 1⟩ -- RW
def fBLT_CTRL_VFLIP : Fld := ⟨16, 1⟩ -- RW
def fBLT_CTRL_TRANSP0 : Fld := ⟨15, 1⟩ -- RW
def fBLT_CTRL_EV_EN : Fld := ⟨14, 1⟩ -- RW
def fBLT_CTRL_EV : Fld := ⟨0, 8⟩ -- RW

/-- BLT register SRC_LO; 16_dma_and_blitter.md, line 311. -/
def rBLT_SRC_LO : Nat := regAddr 0xE 0x0001
def fBLT_SRC_LO_BASE : Fld := ⟨0, 24⟩ -- RW

/-- BLT register SRC_HI; 16_dma_and_blitter.md, line 311. -/
def rBLT_SRC_HI : Nat := regAddr 0xE 0x0002
def fBLT_SRC_HI_BASE : Fld := ⟨0, 24⟩ -- RW

/-- BLT register DST_LO; 16_dma_and_blitter.md, line 311. -/
def rBLT_DST_LO : Nat := regAddr 0xE 0x0004
def fBLT_DST_LO_BASE : Fld := ⟨0, 24⟩ -- RW

/-- BLT register DST_HI; 16_dma_and_blitter.md, line 311. -/
def rBLT_DST_HI : Nat := regAddr 0xE 0x0005
def fBLT_DST_HI_BASE : Fld := ⟨0, 24⟩ -- RW

/-- BLT register SRC_FMT; 16_dma_and_blitter.md, line 317. -/
def rBLT_SRC_FMT : Nat := regAddr 0xE 0x0003
def fBLT_SRC_FMT_FORMAT : Fld := ⟨20, 4⟩ -- RW
def fBLT_SRC_FMT_PITCH : Fld := ⟨0, 16⟩ -- RW

/-- BLT register DST_FMT; 16_dma_and_blitter.md, line 317. -/
def rBLT_DST_FMT : Nat := regAddr 0xE 0x0006
def fBLT_DST_FMT_FORMAT : Fld := ⟨20, 4⟩ -- RW
def fBLT_DST_FMT_PITCH : Fld := ⟨0, 16⟩ -- RW

/-- BLT register SX; 16_dma_and_blitter.md, line 325. -/
def rBLT_SX : Nat := regAddr 0xE 0x0007
def fBLT_SX_VALUE : Fld := ⟨0, 13⟩ -- RW

/-- BLT register SY; 16_dma_and_blitter.md, line 325. -/
def rBLT_SY : Nat := regAddr 0xE 0x0008
def fBLT_SY_VALUE : Fld := ⟨0, 13⟩ -- RW

/-- BLT register W; 16_dma_and_blitter.md, line 325. -/
def rBLT_W : Nat := regAddr 0xE 0x0009
def fBLT_W_VALUE : Fld := ⟨0, 13⟩ -- RW

/-- BLT register H; 16_dma_and_blitter.md, line 325. -/
def rBLT_H : Nat := regAddr 0xE 0x000A
def fBLT_H_VALUE : Fld := ⟨0, 13⟩ -- RW

/-- BLT register DX; 16_dma_and_blitter.md, line 325. -/
def rBLT_DX : Nat := regAddr 0xE 0x000B
def fBLT_DX_VALUE : Fld := ⟨0, 13⟩ -- RW

/-- BLT register DY; 16_dma_and_blitter.md, line 325. -/
def rBLT_DY : Nat := regAddr 0xE 0x000C
def fBLT_DY_VALUE : Fld := ⟨0, 13⟩ -- RW

/-- BLT register FILL_LO; 16_dma_and_blitter.md, line 332. -/
def rBLT_FILL_LO : Nat := regAddr 0xE 0x000D
def fBLT_FILL_LO_VALUE : Fld := ⟨0, 24⟩ -- RW

/-- BLT register FILL_HI; 16_dma_and_blitter.md, line 332. -/
def rBLT_FILL_HI : Nat := regAddr 0xE 0x000E
def fBLT_FILL_HI_VALUE : Fld := ⟨0, 24⟩ -- RW

/-- BLT register ALPHA; 16_dma_and_blitter.md, line 338. -/
def rBLT_ALPHA : Nat := regAddr 0xE 0x000F
def fBLT_ALPHA_ALPHA : Fld := ⟨0, 8⟩ -- RW

/-- BLT register DEAD; 16_dma_and_blitter.md, line 345. -/
def rBLT_DEAD : Nat := regAddr 0xE 0x0010
def fBLT_DEAD_DEAD : Fld := ⟨0, 10⟩ -- RW

/-- BLT register CLIP_CTRL; 16_dma_and_blitter.md, line 352. -/
def rBLT_CLIP_CTRL : Nat := regAddr 0xE 0x0011
def fBLT_CLIP_CTRL_INVERT : Fld := ⟨4, 1⟩ -- RW
def fBLT_CLIP_CTRL_EN : Fld := ⟨0, 4⟩ -- RW

/-- BLT register CLIP; 16_dma_and_blitter.md, line 360. -/
def rBLT_CLIP (i0 i1 : Nat) : Nat := regAddr 0xE (0x0014 + 4 * i0 + i1)
def fBLT_CLIP_VALUE : Fld := ⟨0, 13⟩ -- RW

/-- BLT register LIST_LO; 16_dma_and_blitter.md, line 367. -/
def rBLT_LIST_LO : Nat := regAddr 0xE 0x0024
def fBLT_LIST_LO_ADDR : Fld := ⟨0, 24⟩ -- RW

/-- BLT register LIST_HI; 16_dma_and_blitter.md, line 367. -/
def rBLT_LIST_HI : Nat := regAddr 0xE 0x0025
def fBLT_LIST_HI_ADDR : Fld := ⟨0, 24⟩ -- RW

/-- BLT register ORG_LO; 16_dma_and_blitter.md, line 367. -/
def rBLT_ORG_LO : Nat := regAddr 0xE 0x0026
def fBLT_ORG_LO_ADDR : Fld := ⟨0, 24⟩ -- RW

/-- BLT register ORG_HI; 16_dma_and_blitter.md, line 367. -/
def rBLT_ORG_HI : Nat := regAddr 0xE 0x0027
def fBLT_ORG_HI_ADDR : Fld := ⟨0, 24⟩ -- RW

/-- BLT register STATUS; 16_dma_and_blitter.md, line 373. -/
def rBLT_STATUS : Nat := regAddr 0xE 0x0028
def fBLT_STATUS_BUSY : Fld := ⟨23, 1⟩ -- RO
def fBLT_STATUS_LIST : Fld := ⟨22, 1⟩ -- RO
def fBLT_STATUS_CAUSE : Fld := ⟨18, 4⟩ -- RO
def fBLT_STATUS_LIST_BAD : Fld := ⟨4, 1⟩ -- W1C
def fBLT_STATUS_BUS_ERR : Fld := ⟨3, 1⟩ -- W1C
def fBLT_STATUS_BAD : Fld := ⟨2, 1⟩ -- W1C
def fBLT_STATUS_WR_BUSY : Fld := ⟨1, 1⟩ -- W1C
def fBLT_STATUS_GO_BUSY : Fld := ⟨0, 1⟩ -- W1C

/-- BLT register ERR_LO; 16_dma_and_blitter.md, line 387. -/
def rBLT_ERR_LO : Nat := regAddr 0xE 0x0029
def fBLT_ERR_LO_ADDR : Fld := ⟨0, 24⟩ -- RO

/-- BLT register ERR_HI; 16_dma_and_blitter.md, line 387. -/
def rBLT_ERR_HI : Nat := regAddr 0xE 0x002A
def fBLT_ERR_HI_ADDR : Fld := ⟨0, 24⟩ -- RO

/-- BLT register LIST_PC_LO; 16_dma_and_blitter.md, line 387. -/
def rBLT_LIST_PC_LO : Nat := regAddr 0xE 0x002B
def fBLT_LIST_PC_LO_ADDR : Fld := ⟨0, 24⟩ -- RO

/-- BLT register LIST_PC_HI; 16_dma_and_blitter.md, line 387. -/
def rBLT_LIST_PC_HI : Nat := regAddr 0xE 0x002C
def fBLT_LIST_PC_HI_ADDR : Fld := ⟨0, 24⟩ -- RO

/-- BLT register OP_CNT; 16_dma_and_blitter.md, line 393. -/
def rBLT_OP_CNT : Nat := regAddr 0xE 0x002D
def fBLT_OP_CNT_COUNT : Fld := ⟨0, 24⟩ -- CT

/-- The BLT block's register rows, part 0. -/
def rowsBLT0 : List RegRow := [
  ⟨0xE, 1, 0x0000, [], 0x000000, [], [], 0x3FC0FF, 0x000000, 0x000000, 0x000000, 0x800000, 0x000000, 0xBFC0FF⟩,
  ⟨0xE, 1, 0x0001, [], 0x000000, [], [], 0xFFFFFF, 0x000000, 0x000000, 0x000000, 0x000000, 0x000000, 0xFFFFFF⟩,
  ⟨0xE, 1, 0x0002, [], 0x000000, [], [], 0x00FFFF, 0x000000, 0x000000, 0x000000, 0x000000, 0x000000, 0x00FFFF⟩,
  ⟨0xE, 1, 0x0004, [], 0x000000, [], [], 0xFFFFFF, 0x000000, 0x000000, 0x000000, 0x000000, 0x000000, 0xFFFFFF⟩,
  ⟨0xE, 1, 0x0005, [], 0x000000, [], [], 0x00FFFF, 0x000000, 0x000000, 0x000000, 0x000000, 0x000000, 0x00FFFF⟩,
  ⟨0xE, 1, 0x0003, [], 0x000000, [], [], 0xF0FFFF, 0x000000, 0x000000, 0x000000, 0x000000, 0x000000, 0xF0FFFF⟩,
  ⟨0xE, 1, 0x0006, [], 0x000000, [], [], 0xF0FFFF, 0x000000, 0x000000, 0x000000, 0x000000, 0x000000, 0xF0FFFF⟩,
  ⟨0xE, 1, 0x0007, [], 0x000000, [], [], 0x001FFF, 0x000000, 0x000000, 0x000000, 0x000000, 0x000000, 0x001FFF⟩,
  ⟨0xE, 1, 0x0008, [], 0x000000, [], [], 0x001FFF, 0x000000, 0x000000, 0x000000, 0x000000, 0x000000, 0x001FFF⟩,
  ⟨0xE, 1, 0x0009, [], 0x000000, [], [], 0x001FFF, 0x000000, 0x000000, 0x000000, 0x000000, 0x000000, 0x001FFF⟩,
  ⟨0xE, 1, 0x000A, [], 0x000000, [], [], 0x001FFF, 0x000000, 0x000000, 0x000000, 0x000000, 0x000000, 0x001FFF⟩,
  ⟨0xE, 1, 0x000B, [], 0x000000, [], [], 0x001FFF, 0x000000, 0x000000, 0x000000, 0x000000, 0x000000, 0x001FFF⟩,
  ⟨0xE, 1, 0x000C, [], 0x000000, [], [], 0x001FFF, 0x000000, 0x000000, 0x000000, 0x000000, 0x000000, 0x001FFF⟩,
  ⟨0xE, 1, 0x000D, [], 0x000000, [], [], 0xFFFFFF, 0x000000, 0x000000, 0x000000, 0x000000, 0x000000, 0xFFFFFF⟩,
  ⟨0xE, 1, 0x000E, [], 0x000000, [], [], 0xFFFFFF, 0x000000, 0x000000, 0x000000, 0x000000, 0x000000, 0xFFFFFF⟩,
  ⟨0xE, 1, 0x000F, [], 0x0000FF, [], [], 0x0000FF, 0x000000, 0x000000, 0x000000, 0x000000, 0x000000, 0x0000FF⟩,
  ⟨0xE, 1, 0x0010, [], 0x000000, [], [], 0x0003FF, 0x000000, 0x000000, 0x000000, 0x000000, 0x000000, 0x0003FF⟩,
  ⟨0xE, 1, 0x0011, [], 0x000000, [], [], 0x00001F, 0x000000, 0x000000, 0x000000, 0x000000, 0x000000, 0x00001F⟩,
  ⟨0xE, 1, 0x0014, [(4, 4), (4, 1)], 0x000000, [], [], 0x001FFF, 0x000000, 0x000000, 0x000000, 0x000000, 0x000000, 0x001FFF⟩,
  ⟨0xE, 1, 0x0024, [], 0x000000, [], [], 0xFFFFFF, 0x000000, 0x000000, 0x000000, 0x000000, 0x000000, 0xFFFFFF⟩,
  ⟨0xE, 1, 0x0025, [], 0x000000, [], [], 0x00FFFF, 0x000000, 0x000000, 0x000000, 0x000000, 0x000000, 0x00FFFF⟩,
  ⟨0xE, 1, 0x0026, [], 0x000000, [], [], 0xFFFFFF, 0x000000, 0x000000, 0x000000, 0x000000, 0x000000, 0xFFFFFF⟩,
  ⟨0xE, 1, 0x0027, [], 0x000000, [], [], 0x00FFFF, 0x000000, 0x000000, 0x000000, 0x000000, 0x000000, 0x00FFFF⟩,
  ⟨0xE, 1, 0x0028, [], 0x000000, [], [], 0x000000, 0x000000, 0x00001F, 0x000000, 0x000000, 0x000000, 0xFC001F⟩]

/-- The BLT block's register rows, part 1. -/
def rowsBLT1 : List RegRow := [
  ⟨0xE, 1, 0x0029, [], 0x000000, [], [], 0x000000, 0x000000, 0x000000, 0x000000, 0x000000, 0x000000, 0xFFFFFF⟩,
  ⟨0xE, 1, 0x002A, [], 0x000000, [], [], 0x000000, 0x000000, 0x000000, 0x000000, 0x000000, 0x000000, 0x00FFFF⟩,
  ⟨0xE, 1, 0x002B, [], 0x000000, [], [], 0x000000, 0x000000, 0x000000, 0x000000, 0x000000, 0x000000, 0xFFFFFF⟩,
  ⟨0xE, 1, 0x002C, [], 0x000000, [], [], 0x000000, 0x000000, 0x000000, 0x000000, 0x000000, 0x000000, 0x00FFFF⟩,
  ⟨0xE, 1, 0x002D, [], 0x000000, [], [], 0x000000, 0xFFFFFF, 0x000000, 0x000000, 0x000000, 0x000000, 0xFFFFFF⟩]

/-- The BLT block's register rows. -/
def rowsBLT : List RegRow := rowsBLT0 ++ rowsBLT1

/-! ### AUD: block 0xF -/

/-- AUD register CTRL; 17_audio_and_chimes.md, line 205. -/
def rAUD_CTRL : Nat := regAddr 0xF 0x0000
def fAUD_CTRL_EN : Fld := ⟨23, 1⟩ -- RW

/-- AUD register STATUS; 17_audio_and_chimes.md, line 212. -/
def rAUD_STATUS : Nat := regAddr 0xF 0x0001
def fAUD_STATUS_BAD_VOICE : Fld := ⟨5, 1⟩ -- W1C
def fAUD_STATUS_MISS : Fld := ⟨4, 1⟩ -- W1C
def fAUD_STATUS_CLIP : Fld := ⟨3, 1⟩ -- W1C
def fAUD_STATUS_WAVE_LATE : Fld := ⟨2, 1⟩ -- W1C
def fAUD_STATUS_WAVE_UE : Fld := ⟨1, 1⟩ -- W1C
def fAUD_STATUS_DLY_LATE : Fld := ⟨0, 1⟩ -- W1C

/-- AUD register LATE_CNT; 17_audio_and_chimes.md, line 224. -/
def rAUD_LATE_CNT : Nat := regAddr 0xF 0x0002
def fAUD_LATE_CNT_COUNT : Fld := ⟨0, 24⟩ -- CT

/-- AUD register CLIP_CNT; 17_audio_and_chimes.md, line 224. -/
def rAUD_CLIP_CNT : Nat := regAddr 0xF 0x0003
def fAUD_CLIP_CNT_COUNT : Fld := ⟨0, 24⟩ -- CT

/-- AUD register MISS_CNT; 17_audio_and_chimes.md, line 224. -/
def rAUD_MISS_CNT : Nat := regAddr 0xF 0x0004
def fAUD_MISS_CNT_COUNT : Fld := ⟨0, 24⟩ -- CT

/-- AUD register START_CNT; 17_audio_and_chimes.md, line 224. -/
def rAUD_START_CNT : Nat := regAddr 0xF 0x0005
def fAUD_START_CNT_COUNT : Fld := ⟨0, 24⟩ -- CT

/-- AUD register VSTART; 17_audio_and_chimes.md, line 230. -/
def rAUD_VSTART (i0 : Nat) : Nat := regAddr 0xF (0x0010 + i0)
def fAUD_VSTART_VOICES : Fld := ⟨0, 24⟩ -- W1S

/-- AUD register VSTOP; 17_audio_and_chimes.md, line 230. -/
def rAUD_VSTOP (i0 : Nat) : Nat := regAddr 0xF (0x0018 + i0)
def fAUD_VSTOP_VOICES : Fld := ⟨0, 24⟩ -- W1S

/-- AUD register VACTIVE; 17_audio_and_chimes.md, line 236. -/
def rAUD_VACTIVE (i0 : Nat) : Nat := regAddr 0xF (0x0020 + i0)
def fAUD_VACTIVE_VOICES : Fld := ⟨0, 24⟩ -- RO

/-- AUD register VOICE_CTRL; 17_audio_and_chimes.md, line 242. -/
def rAUD_VOICE_CTRL (i0 : Nat) : Nat := regAddr 0xF (0x0100 + 8 * i0)
def fAUD_VOICE_CTRL_TYPE : Fld := ⟨22, 2⟩ -- RW
def fAUD_VOICE_CTRL_DIRECT : Fld := ⟨21, 1⟩ -- RW
def fAUD_VOICE_CTRL_BUS : Fld := ⟨17, 4⟩ -- RW
def fAUD_VOICE_CTRL_WAVE : Fld := ⟨15, 2⟩ -- RW
def fAUD_VOICE_CTRL_LOOPS : Fld := ⟨0, 8⟩ -- RW

/-- AUD register VOICE_BASE; 17_audio_and_chimes.md, line 253. -/
def rAUD_VOICE_BASE (i0 : Nat) : Nat := regAddr 0xF (0x0101 + 8 * i0)
def fAUD_VOICE_BASE_VALUE : Fld := ⟨0, 24⟩ -- RW

/-- AUD register VOICE_LEN; 17_audio_and_chimes.md, line 253. -/
def rAUD_VOICE_LEN (i0 : Nat) : Nat := regAddr 0xF (0x0102 + 8 * i0)
def fAUD_VOICE_LEN_VALUE : Fld := ⟨0, 24⟩ -- RW

/-- AUD register VOICE_LOOP; 17_audio_and_chimes.md, line 253. -/
def rAUD_VOICE_LOOP (i0 : Nat) : Nat := regAddr 0xF (0x0103 + 8 * i0)
def fAUD_VOICE_LOOP_VALUE : Fld := ⟨0, 24⟩ -- RW

/-- AUD register VOICE_STEP; 17_audio_and_chimes.md, line 253. -/
def rAUD_VOICE_STEP (i0 : Nat) : Nat := regAddr 0xF (0x0104 + 8 * i0)
def fAUD_VOICE_STEP_VALUE : Fld := ⟨0, 24⟩ -- RW

/-- AUD register VOICE_GAIN; 17_audio_and_chimes.md, line 259. -/
def rAUD_VOICE_GAIN (i0 : Nat) : Nat := regAddr 0xF (0x0105 + 8 * i0)
def fAUD_VOICE_GAIN_RAMP_M1 : Fld := ⟨10, 10⟩ -- RW
def fAUD_VOICE_GAIN_ATTEN : Fld := ⟨0, 10⟩ -- RW

/-- AUD register BUS_GAIN; 17_audio_and_chimes.md, line 259. -/
def rAUD_BUS_GAIN (i0 : Nat) : Nat := regAddr 0xF (0x0600 + i0)
def fAUD_BUS_GAIN_RAMP_M1 : Fld := ⟨10, 10⟩ -- RW
def fAUD_BUS_GAIN_ATTEN : Fld := ⟨0, 10⟩ -- RW

/-- AUD register DIRECT_GAIN; 17_audio_and_chimes.md, line 259. -/
def rAUD_DIRECT_GAIN : Nat := regAddr 0xF 0x0610
def fAUD_DIRECT_GAIN_RAMP_M1 : Fld := ⟨10, 10⟩ -- RW
def fAUD_DIRECT_GAIN_ATTEN : Fld := ⟨0, 10⟩ -- RW

/-- AUD register HPH_GAIN; 17_audio_and_chimes.md, line 259. -/
def rAUD_HPH_GAIN (i0 : Nat) : Nat := regAddr 0xF (0x0611 + i0)
def fAUD_HPH_GAIN_RAMP_M1 : Fld := ⟨10, 10⟩ -- RW
def fAUD_HPH_GAIN_ATTEN : Fld := ⟨0, 10⟩ -- RW

/-- AUD register VOICE_PAN; 17_audio_and_chimes.md, line 267. -/
def rAUD_VOICE_PAN (i0 : Nat) : Nat := regAddr 0xF (0x0106 + 8 * i0)
def fAUD_VOICE_PAN_PAN : Fld := ⟨0, 9⟩ -- RW

/-- AUD register VOICE_ENV; 17_audio_and_chimes.md, line 274. -/
def rAUD_VOICE_ENV (i0 : Nat) : Nat := regAddr 0xF (0x0107 + 8 * i0)
def fAUD_VOICE_ENV_A : Fld := ⟨18, 6⟩ -- RW
def fAUD_VOICE_ENV_D : Fld := ⟨12, 6⟩ -- RW
def fAUD_VOICE_ENV_S : Fld := ⟨6, 6⟩ -- RW
def fAUD_VOICE_ENV_R : Fld := ⟨0, 6⟩ -- RW

/-- AUD register BUS_CTRL; 17_audio_and_chimes.md, line 283. -/
def rAUD_BUS_CTRL (i0 : Nat) : Nat := regAddr 0xF (0x0800 + i0)
def fAUD_BUS_CTRL_EQ_EN : Fld := ⟨23, 1⟩ -- RW
def fAUD_BUS_CTRL_LIM_EN : Fld := ⟨22, 1⟩ -- RW
def fAUD_BUS_CTRL_DELAY : Fld := ⟨0, 13⟩ -- RW

/-- AUD register BUS_LIM; 17_audio_and_chimes.md, line 292. -/
def rAUD_BUS_LIM (i0 : Nat) : Nat := regAddr 0xF (0x0810 + i0)
def fAUD_BUS_LIM_THRESH : Fld := ⟨14, 10⟩ -- RW
def fAUD_BUS_LIM_RELEASE : Fld := ⟨4, 10⟩ -- RW
def fAUD_BUS_LIM_GR : Fld := ⟨0, 4⟩ -- RO

/-- AUD register DLY_BASE; 17_audio_and_chimes.md, line 300. -/
def rAUD_DLY_BASE : Nat := regAddr 0xF 0x0820
def fAUD_DLY_BASE_BASE : Fld := ⟨0, 24⟩ -- RW

/-- AUD register TDM_CTRL; 17_audio_and_chimes.md, line 306. -/
def rAUD_TDM_CTRL (i0 : Nat) : Nat := regAddr 0xF (0x0900 + 32 * i0)
def fAUD_TDM_CTRL_EN : Fld := ⟨23, 1⟩ -- RW
def fAUD_TDM_CTRL_FMT : Fld := ⟨21, 2⟩ -- RW
def fAUD_TDM_CTRL_SLOTS : Fld := ⟨19, 2⟩ -- RW
def fAUD_TDM_CTRL_W16 : Fld := ⟨18, 1⟩ -- RW

/-- AUD register TDM_SLOT; 17_audio_and_chimes.md, line 316. -/
def rAUD_TDM_SLOT (i0 i1 : Nat) : Nat := regAddr 0xF (0x0901 + 32 * i0 + i1)
def fAUD_TDM_SLOT_DADD : Fld := ⟨23, 1⟩ -- RW
def fAUD_TDM_SLOT_DCH : Fld := ⟨22, 1⟩ -- RW
def fAUD_TDM_SLOT_SRC : Fld := ⟨0, 6⟩ -- RW

/-- AUD register HPH_CTRL; 17_audio_and_chimes.md, line 325. -/
def rAUD_HPH_CTRL (i0 : Nat) : Nat := regAddr 0xF (0x0A00 + 16 * i0)
def fAUD_HPH_CTRL_EN : Fld := ⟨23, 1⟩ -- RW
def fAUD_HPH_CTRL_AUTO : Fld := ⟨22, 1⟩ -- RW
def fAUD_HPH_CTRL_BUS : Fld := ⟨18, 4⟩ -- RW
def fAUD_HPH_CTRL_DADD : Fld := ⟨17, 1⟩ -- RW
def fAUD_HPH_CTRL_EV_EN : Fld := ⟨8, 1⟩ -- RW
def fAUD_HPH_CTRL_EV : Fld := ⟨0, 8⟩ -- RW

/-- AUD register HPH_DET; 17_audio_and_chimes.md, line 337. -/
def rAUD_HPH_DET (i0 : Nat) : Nat := regAddr 0xF (0x0A01 + 16 * i0)
def fAUD_HPH_DET_PLUG_DB : Fld := ⟨16, 8⟩ -- RW
def fAUD_HPH_DET_BTN_DB : Fld := ⟨8, 8⟩ -- RW
def fAUD_HPH_DET_DET_POL : Fld := ⟨7, 1⟩ -- RW
def fAUD_HPH_DET_BTN_EN : Fld := ⟨6, 1⟩ -- RW

/-- AUD register HPH_BTN_THR; 17_audio_and_chimes.md, line 347. -/
def rAUD_HPH_BTN_THR (i0 i1 : Nat) : Nat := regAddr 0xF (0x0A02 + 16 * i0 + i1)
def fAUD_HPH_BTN_THR_THR : Fld := ⟨0, 10⟩ -- RW

/-- AUD register HPH_STATUS; 17_audio_and_chimes.md, line 354. -/
def rAUD_HPH_STATUS (i0 : Nat) : Nat := regAddr 0xF (0x0A06 + 16 * i0)
def fAUD_HPH_STATUS_PLUGGED : Fld := ⟨23, 1⟩ -- RO
def fAUD_HPH_STATUS_ACC : Fld := ⟨20, 3⟩ -- RO
def fAUD_HPH_STATUS_SWAPPED : Fld := ⟨19, 1⟩ -- RO
def fAUD_HPH_STATUS_BTN : Fld := ⟨15, 4⟩ -- RO
def fAUD_HPH_STATUS_PLUG_IN : Fld := ⟨5, 1⟩ -- W1C
def fAUD_HPH_STATUS_PLUG_OUT : Fld := ⟨4, 1⟩ -- W1C
def fAUD_HPH_STATUS_BTN_PRESS : Fld := ⟨3, 1⟩ -- W1C
def fAUD_HPH_STATUS_BTN_REL : Fld := ⟨2, 1⟩ -- W1C
def fAUD_HPH_STATUS_SHORT : Fld := ⟨1, 1⟩ -- W1C
def fAUD_HPH_STATUS_ID_FAIL : Fld := ⟨0, 1⟩ -- W1C

/-- AUD register HPH_MIC_I; 17_audio_and_chimes.md, line 370. -/
def rAUD_HPH_MIC_I (i0 : Nat) : Nat := regAddr 0xF (0x0A07 + 16 * i0)
def fAUD_HPH_MIC_I_CURRENT : Fld := ⟨0, 10⟩ -- RO

/-- AUD register EQ; 17_audio_and_chimes.md, line 377. -/
def rAUD_EQ (i0 i1 i2 : Nat) : Nat := regAddr 0xF (0x1000 + 64 * i0 + 5 * i1 + i2)
def fAUD_EQ_COEF : Fld := ⟨0, 24⟩ -- RW

/-- AUD register MON_CTRL; 17_audio_and_chimes.md, line 383. -/
def rAUD_MON_CTRL (i0 : Nat) : Nat := regAddr 0xF (0x0B00 + 4 * i0)
def fAUD_MON_CTRL_EN : Fld := ⟨23, 1⟩ -- RW
def fAUD_MON_CTRL_VOICE : Fld := ⟨16, 7⟩ -- RW
def fAUD_MON_CTRL_PORT : Fld := ⟨14, 2⟩ -- RW
def fAUD_MON_CTRL_SLOT : Fld := ⟨10, 4⟩ -- RW
def fAUD_MON_CTRL_SRC : Fld := ⟨9, 1⟩ -- RW
def fAUD_MON_CTRL_WINDOW : Fld := ⟨0, 8⟩ -- RW

/-- AUD register MON_THR; 17_audio_and_chimes.md, line 395. -/
def rAUD_MON_THR (i0 : Nat) : Nat := regAddr 0xF (0x0B01 + 4 * i0)
def fAUD_MON_THR_EV : Fld := ⟨16, 8⟩ -- RW
def fAUD_MON_THR_EV_EN : Fld := ⟨15, 1⟩ -- RW
def fAUD_MON_THR_THR : Fld := ⟨0, 10⟩ -- RW

/-- AUD register MON_RESULT; 17_audio_and_chimes.md, line 404. -/
def rAUD_MON_RESULT (i0 : Nat) : Nat := regAddr 0xF (0x0B02 + 4 * i0)
def fAUD_MON_RESULT_ARMED : Fld := ⟨23, 1⟩ -- RO
def fAUD_MON_RESULT_PASS : Fld := ⟨22, 1⟩ -- RO
def fAUD_MON_RESULT_MISS : Fld := ⟨21, 1⟩ -- W1C
def fAUD_MON_RESULT_BEST : Fld := ⟨0, 10⟩ -- RO

/-- The AUD block's register rows, part 0. -/
def rowsAUD0 : List RegRow := [
  ⟨0xF, 1, 0x0000, [], 0x000000, [], [], 0x800000, 0x000000, 0x000000, 0x000000, 0x000000, 0x000000, 0x800000⟩,
  ⟨0xF, 1, 0x0001, [], 0x000000, [], [], 0x000000, 0x000000, 0x00003F, 0x000000, 0x000000, 0x000000, 0x00003F⟩,
  ⟨0xF, 1, 0x0002, [], 0x000000, [], [], 0x000000, 0xFFFFFF, 0x000000, 0x000000, 0x000000, 0x000000, 0xFFFFFF⟩,
  ⟨0xF, 1, 0x0003, [], 0x000000, [], [], 0x000000, 0xFFFFFF, 0x000000, 0x000000, 0x000000, 0x000000, 0xFFFFFF⟩,
  ⟨0xF, 1, 0x0004, [], 0x000000, [], [], 0x000000, 0xFFFFFF, 0x000000, 0x000000, 0x000000, 0x000000, 0xFFFFFF⟩,
  ⟨0xF, 1, 0x0005, [], 0x000000, [], [], 0x000000, 0xFFFFFF, 0x000000, 0x000000, 0x000000, 0x000000, 0xFFFFFF⟩,
  ⟨0xF, 1, 0x0010, [(6, 1)], 0x000000, [], [], 0x000000, 0x000000, 0x000000, 0xFFFFFF, 0x000000, 0x000000, 0xFFFFFF⟩,
  ⟨0xF, 1, 0x0018, [(6, 1)], 0x000000, [], [], 0x000000, 0x000000, 0x000000, 0xFFFFFF, 0x000000, 0x000000, 0xFFFFFF⟩,
  ⟨0xF, 1, 0x0020, [(6, 1)], 0x000000, [], [], 0x000000, 0x000000, 0x000000, 0x000000, 0x000000, 0x000000, 0xFFFFFF⟩,
  ⟨0xF, 1, 0x0100, [(128, 8)], 0x000000, [], [], 0xFF80FF, 0x000000, 0x000000, 0x000000, 0x000000, 0x000000, 0xFF80FF⟩,
  ⟨0xF, 1, 0x0101, [(128, 8)], 0x000000, [], [], 0xFFFFFF, 0x000000, 0x000000, 0x000000, 0x000000, 0x000000, 0xFFFFFF⟩,
  ⟨0xF, 1, 0x0102, [(128, 8)], 0x000000, [], [], 0xFFFFFF, 0x000000, 0x000000, 0x000000, 0x000000, 0x000000, 0xFFFFFF⟩,
  ⟨0xF, 1, 0x0103, [(128, 8)], 0x000000, [], [], 0xFFFFFF, 0x000000, 0x000000, 0x000000, 0x000000, 0x000000, 0xFFFFFF⟩,
  ⟨0xF, 1, 0x0104, [(128, 8)], 0x010000, [], [], 0xFFFFFF, 0x000000, 0x000000, 0x000000, 0x000000, 0x000000, 0xFFFFFF⟩,
  ⟨0xF, 1, 0x0105, [(128, 8)], 0x000000, [], [], 0x0FFFFF, 0x000000, 0x000000, 0x000000, 0x000000, 0x000000, 0x0FFFFF⟩,
  ⟨0xF, 1, 0x0600, [(16, 1)], 0x000000, [], [], 0x0FFFFF, 0x000000, 0x000000, 0x000000, 0x000000, 0x000000, 0x0FFFFF⟩,
  ⟨0xF, 1, 0x0610, [], 0x000000, [], [], 0x0FFFFF, 0x000000, 0x000000, 0x000000, 0x000000, 0x000000, 0x0FFFFF⟩,
  ⟨0xF, 1, 0x0611, [(2, 1)], 0x0003FF, [], [], 0x0FFFFF, 0x000000, 0x000000, 0x000000, 0x000000, 0x000000, 0x0FFFFF⟩,
  ⟨0xF, 1, 0x0106, [(128, 8)], 0x000080, [], [], 0x0001FF, 0x000000, 0x000000, 0x000000, 0x000000, 0x000000, 0x0001FF⟩,
  ⟨0xF, 1, 0x0107, [(128, 8)], 0x000000, [], [], 0xFFFFFF, 0x000000, 0x000000, 0x000000, 0x000000, 0x000000, 0xFFFFFF⟩,
  ⟨0xF, 1, 0x0800, [(16, 1)], 0x000000, [], [], 0xC01FFF, 0x000000, 0x000000, 0x000000, 0x000000, 0x000000, 0xC01FFF⟩,
  ⟨0xF, 1, 0x0810, [(16, 1)], 0x020320, [], [], 0xFFFFF0, 0x000000, 0x000000, 0x000000, 0x000000, 0x000000, 0xFFFFFF⟩,
  ⟨0xF, 1, 0x0820, [], 0x000000, [], [], 0xFFFFFF, 0x000000, 0x000000, 0x000000, 0x000000, 0x000000, 0xFFFFFF⟩,
  ⟨0xF, 1, 0x0900, [(4, 32)], 0x000000, [], [], 0xFC0000, 0x000000, 0x000000, 0x000000, 0x000000, 0x000000, 0xFC0000⟩]

/-- The AUD block's register rows, part 1. -/
def rowsAUD1 : List RegRow := [
  ⟨0xF, 1, 0x0901, [(4, 32), (16, 1)], 0x00003F, [], [], 0xC0003F, 0x000000, 0x000000, 0x000000, 0x000000, 0x000000, 0xC0003F⟩,
  ⟨0xF, 1, 0x0A00, [(2, 16)], 0x400000, [], [], 0xFE01FF, 0x000000, 0x000000, 0x000000, 0x000000, 0x000000, 0xFE01FF⟩,
  ⟨0xF, 1, 0x0A01, [(2, 16)], 0x321440, [], [], 0xFFFFC0, 0x000000, 0x000000, 0x000000, 0x000000, 0x000000, 0xFFFFC0⟩,
  ⟨0xF, 1, 0x0A02, [(2, 16), (4, 1)], 0x000000, [(0, 0x64), (1, 0xFA), (2, 0x190), (3, 0x258)], [], 0x0003FF, 0x000000, 0x000000, 0x000000, 0x000000, 0x000000, 0x0003FF⟩,
  ⟨0xF, 1, 0x0A06, [(2, 16)], 0x000000, [], [], 0x000000, 0x000000, 0x00003F, 0x000000, 0x000000, 0x000000, 0xFF803F⟩,
  ⟨0xF, 1, 0x0A07, [(2, 16)], 0x000000, [], [], 0x000000, 0x000000, 0x000000, 0x000000, 0x000000, 0x000000, 0x0003FF⟩,
  ⟨0xF, 1, 0x1000, [(16, 64), (10, 5), (5, 1)], 0x000000, [(0, 0x400000)], [], 0xFFFFFF, 0x000000, 0x000000, 0x000000, 0x000000, 0x000000, 0xFFFFFF⟩,
  ⟨0xF, 1, 0x0B00, [(8, 4)], 0x000000, [], [], 0xFFFEFF, 0x000000, 0x000000, 0x000000, 0x000000, 0x000000, 0xFFFEFF⟩,
  ⟨0xF, 1, 0x0B01, [(8, 4)], 0x000000, [], [], 0xFF83FF, 0x000000, 0x000000, 0x000000, 0x000000, 0x000000, 0xFF83FF⟩,
  ⟨0xF, 1, 0x0B02, [(8, 4)], 0x000000, [], [], 0x000000, 0x000000, 0x200000, 0x000000, 0x000000, 0x000000, 0xE003FF⟩]

/-- The AUD block's register rows. -/
def rowsAUD : List RegRow := rowsAUD0 ++ rowsAUD1

/-! ### WRN: block 0x10 to 0x12 -/

/-- WRN register CTRL; 18_wearan_viaduct.md, line 219. -/
def rWRN_CTRL (b : Nat) : Nat := regAddr (0x10 + b) 0x0000
def fWRN_CTRL_EN : Fld := ⟨23, 1⟩ -- RW
def fWRN_CTRL_PEER_LOST_EN : Fld := ⟨22, 1⟩ -- RW
def fWRN_CTRL_PEER_LOST_OVL : Fld := ⟨16, 6⟩ -- RW
def fWRN_CTRL_PEER_HOLD : Fld := ⟨8, 8⟩ -- RW

/-- WRN register STATUS; 18_wearan_viaduct.md, line 229. -/
def rWRN_STATUS (b : Nat) : Nat := regAddr (0x10 + b) 0x0001
def fWRN_STATUS_STATE : Fld := ⟨22, 2⟩ -- RO
def fWRN_STATUS_SELF : Fld := ⟨20, 2⟩ -- RO
def fWRN_STATUS_PEER : Fld := ⟨18, 2⟩ -- RO
def fWRN_STATUS_TIME_UP : Fld := ⟨17, 1⟩ -- RO
def fWRN_STATUS_PEER_LOST : Fld := ⟨16, 1⟩ -- RO
def fWRN_STATUS_MASTER : Fld := ⟨14, 2⟩ -- RO
def fWRN_STATUS_IS_MASTER : Fld := ⟨13, 1⟩ -- RO
def fWRN_STATUS_SUCC_MISMATCH : Fld := ⟨6, 1⟩ -- W1C
def fWRN_STATUS_WIRING : Fld := ⟨5, 1⟩ -- W1C
def fWRN_STATUS_LINK_DOWN : Fld := ⟨4, 1⟩ -- W1C
def fWRN_STATUS_LANE_ERR : Fld := ⟨3, 1⟩ -- W1C
def fWRN_STATUS_STR_REFUSED : Fld := ⟨2, 1⟩ -- W1C
def fWRN_STATUS_RX_LATE : Fld := ⟨1, 1⟩ -- W1C
def fWRN_STATUS_MEM_DROP : Fld := ⟨0, 1⟩ -- W1C

/-- WRN register SUCC; 18_wearan_viaduct.md, line 249. -/
def rWRN_SUCC (b : Nat) : Nat := regAddr (0x10 + b) 0x0002
def fWRN_SUCC_COUNT_M1 : Fld := ⟨8, 2⟩ -- RW
def fWRN_SUCC_LIST : Fld := ⟨0, 8⟩ -- RW

/-- WRN register LANES_TX; 18_wearan_viaduct.md, line 257. -/
def rWRN_LANES_TX (b : Nat) : Nat := regAddr (0x10 + b) 0x0003
def fWRN_LANES_TX_SPARE_FOR : Fld := ⟨20, 4⟩ -- RO
def fWRN_LANES_TX_RETIRED : Fld := ⟨9, 9⟩ -- RO
def fWRN_LANES_TX_LOCKED : Fld := ⟨0, 9⟩ -- RO

/-- WRN register LANES_RX; 18_wearan_viaduct.md, line 257. -/
def rWRN_LANES_RX (b : Nat) : Nat := regAddr (0x10 + b) 0x0004
def fWRN_LANES_RX_SPARE_FOR : Fld := ⟨20, 4⟩ -- RO
def fWRN_LANES_RX_RETIRED : Fld := ⟨9, 9⟩ -- RO
def fWRN_LANES_RX_LOCKED : Fld := ⟨0, 9⟩ -- RO

/-- WRN register LANE_CTRL; 18_wearan_viaduct.md, line 266. -/
def rWRN_LANE_CTRL (b : Nat) : Nat := regAddr (0x10 + b) 0x0005
def fWRN_LANE_CTRL_GO : Fld := ⟨23, 1⟩ -- SC
def fWRN_LANE_CTRL_DIR : Fld := ⟨22, 1⟩ -- RW
def fWRN_LANE_CTRL_LANE : Fld := ⟨0, 4⟩ -- RW

/-- WRN register DELAY; 18_wearan_viaduct.md, line 275. -/
def rWRN_DELAY (b : Nat) : Nat := regAddr (0x10 + b) 0x0006
def fWRN_DELAY_DELAY : Fld := ⟨0, 24⟩ -- RO

/-- WRN register REPLAY_CNT; 18_wearan_viaduct.md, line 281. -/
def rWRN_REPLAY_CNT (b : Nat) : Nat := regAddr (0x10 + b) 0x0007
def fWRN_REPLAY_CNT_COUNT : Fld := ⟨0, 24⟩ -- CT

/-- WRN register LANE_ERR_CNT; 18_wearan_viaduct.md, line 281. -/
def rWRN_LANE_ERR_CNT (b : Nat) : Nat := regAddr (0x10 + b) 0x0008
def fWRN_LANE_ERR_CNT_COUNT : Fld := ⟨0, 24⟩ -- CT

/-- WRN register DOWN_CNT; 18_wearan_viaduct.md, line 281. -/
def rWRN_DOWN_CNT (b : Nat) : Nat := regAddr (0x10 + b) 0x0009
def fWRN_DOWN_CNT_COUNT : Fld := ⟨0, 24⟩ -- CT

/-- WRN register TIME_DROP_CNT; 18_wearan_viaduct.md, line 281. -/
def rWRN_TIME_DROP_CNT (b : Nat) : Nat := regAddr (0x10 + b) 0x000A
def fWRN_TIME_DROP_CNT_COUNT : Fld := ⟨0, 24⟩ -- CT

/-- WRN register RX_LATE_CNT; 18_wearan_viaduct.md, line 281. -/
def rWRN_RX_LATE_CNT (b : Nat) : Nat := regAddr (0x10 + b) 0x000B
def fWRN_RX_LATE_CNT_COUNT : Fld := ⟨0, 24⟩ -- CT

/-- WRN register MEM_DROP_CNT; 18_wearan_viaduct.md, line 281. -/
def rWRN_MEM_DROP_CNT (b : Nat) : Nat := regAddr (0x10 + b) 0x000C
def fWRN_MEM_DROP_CNT_COUNT : Fld := ⟨0, 24⟩ -- CT

/-- WRN register TX_CTRL; 18_wearan_viaduct.md, line 287. -/
def rWRN_TX_CTRL (b i0 : Nat) : Nat := regAddr (0x10 + b) (0x0100 + 4 * i0)
def fWRN_TX_CTRL_EN : Fld := ⟨23, 1⟩ -- RW
def fWRN_TX_CTRL_OUT : Fld := ⟨20, 3⟩ -- RW
def fWRN_TX_CTRL_X0 : Fld := ⟨0, 13⟩ -- RW

/-- WRN register TX_Y0; 18_wearan_viaduct.md, line 296. -/
def rWRN_TX_Y0 (b i0 : Nat) : Nat := regAddr (0x10 + b) (0x0101 + 4 * i0)
def fWRN_TX_Y0_VALUE : Fld := ⟨0, 13⟩ -- RW

/-- WRN register TX_W; 18_wearan_viaduct.md, line 296. -/
def rWRN_TX_W (b i0 : Nat) : Nat := regAddr (0x10 + b) (0x0102 + 4 * i0)
def fWRN_TX_W_VALUE : Fld := ⟨0, 13⟩ -- RW

/-- WRN register TX_H; 18_wearan_viaduct.md, line 296. -/
def rWRN_TX_H (b i0 : Nat) : Nat := regAddr (0x10 + b) (0x0103 + 4 * i0)
def fWRN_TX_H_VALUE : Fld := ⟨0, 13⟩ -- RW

/-- WRN register RX; 18_wearan_viaduct.md, line 303. -/
def rWRN_RX (b i0 : Nat) : Nat := regAddr (0x10 + b) (0x0200 + i0)
def fWRN_RX_EN : Fld := ⟨23, 1⟩ -- RW
def fWRN_RX_SLAB : Fld := ⟨0, 12⟩ -- RW

/-- The WRN block's register rows. -/
def rowsWRN : List RegRow := [
  ⟨0x10, 3, 0x0000, [], 0x001E00, [], [], 0xFFFF00, 0x000000, 0x000000, 0x000000, 0x000000, 0x000000, 0xFFFF00⟩,
  ⟨0x10, 3, 0x0001, [], 0x000000, [], [], 0x000000, 0x000000, 0x00007F, 0x000000, 0x000000, 0x000000, 0xFFE07F⟩,
  ⟨0x10, 3, 0x0002, [], 0x00031B, [], [], 0x0003FF, 0x000000, 0x000000, 0x000000, 0x000000, 0x000000, 0x0003FF⟩,
  ⟨0x10, 3, 0x0003, [], 0xF00000, [], [], 0x000000, 0x000000, 0x000000, 0x000000, 0x000000, 0x000000, 0xF3FFFF⟩,
  ⟨0x10, 3, 0x0004, [], 0xF00000, [], [], 0x000000, 0x000000, 0x000000, 0x000000, 0x000000, 0x000000, 0xF3FFFF⟩,
  ⟨0x10, 3, 0x0005, [], 0x000000, [], [], 0x40000F, 0x000000, 0x000000, 0x000000, 0x800000, 0x000000, 0xC0000F⟩,
  ⟨0x10, 3, 0x0006, [], 0x000000, [], [], 0x000000, 0x000000, 0x000000, 0x000000, 0x000000, 0x000000, 0xFFFFFF⟩,
  ⟨0x10, 3, 0x0007, [], 0x000000, [], [], 0x000000, 0xFFFFFF, 0x000000, 0x000000, 0x000000, 0x000000, 0xFFFFFF⟩,
  ⟨0x10, 3, 0x0008, [], 0x000000, [], [], 0x000000, 0xFFFFFF, 0x000000, 0x000000, 0x000000, 0x000000, 0xFFFFFF⟩,
  ⟨0x10, 3, 0x0009, [], 0x000000, [], [], 0x000000, 0xFFFFFF, 0x000000, 0x000000, 0x000000, 0x000000, 0xFFFFFF⟩,
  ⟨0x10, 3, 0x000A, [], 0x000000, [], [], 0x000000, 0xFFFFFF, 0x000000, 0x000000, 0x000000, 0x000000, 0xFFFFFF⟩,
  ⟨0x10, 3, 0x000B, [], 0x000000, [], [], 0x000000, 0xFFFFFF, 0x000000, 0x000000, 0x000000, 0x000000, 0xFFFFFF⟩,
  ⟨0x10, 3, 0x000C, [], 0x000000, [], [], 0x000000, 0xFFFFFF, 0x000000, 0x000000, 0x000000, 0x000000, 0xFFFFFF⟩,
  ⟨0x10, 3, 0x0100, [(32, 4)], 0x000000, [], [], 0xF01FFF, 0x000000, 0x000000, 0x000000, 0x000000, 0x000000, 0xF01FFF⟩,
  ⟨0x10, 3, 0x0101, [(32, 4)], 0x000000, [], [], 0x001FFF, 0x000000, 0x000000, 0x000000, 0x000000, 0x000000, 0x001FFF⟩,
  ⟨0x10, 3, 0x0102, [(32, 4)], 0x000000, [], [], 0x001FFF, 0x000000, 0x000000, 0x000000, 0x000000, 0x000000, 0x001FFF⟩,
  ⟨0x10, 3, 0x0103, [(32, 4)], 0x000000, [], [], 0x001FFF, 0x000000, 0x000000, 0x000000, 0x000000, 0x000000, 0x001FFF⟩,
  ⟨0x10, 3, 0x0200, [(32, 1)], 0x000000, [], [], 0x800FFF, 0x000000, 0x000000, 0x000000, 0x000000, 0x000000, 0x800FFF⟩]

/-! ### PMU: block 0x6 -/

/-- PMU register CTRL; 19_power_clocks_and_startup.md, line 237. -/
def rPMU_CTRL : Nat := regAddr 0x6 0x0000
def fPMU_CTRL_TARGET : Fld := ⟨0, 2⟩ -- RW

/-- PMU register STATUS; 19_power_clocks_and_startup.md, line 244. -/
def rPMU_STATUS : Nat := regAddr 0x6 0x0001
def fPMU_STATUS_DSTATE : Fld := ⟨22, 2⟩ -- RO
def fPMU_STATUS_DEMAND : Fld := ⟨5, 1⟩ -- W1C
def fPMU_STATUS_PIN : Fld := ⟨4, 1⟩ -- W1C
def fPMU_STATUS_CAN0 : Fld := ⟨3, 1⟩ -- W1C
def fPMU_STATUS_CAN1 : Fld := ⟨2, 1⟩ -- W1C
def fPMU_STATUS_SNP : Fld := ⟨1, 1⟩ -- W1C
def fPMU_STATUS_TIMER : Fld := ⟨0, 1⟩ -- W1C

/-- PMU register WAKE_EN; 19_power_clocks_and_startup.md, line 257. -/
def rPMU_WAKE_EN : Nat := regAddr 0x6 0x0002
def fPMU_WAKE_EN_EN : Fld := ⟨0, 5⟩ -- RW

/-- PMU register RESET; 19_power_clocks_and_startup.md, line 264. -/
def rPMU_RESET : Nat := regAddr 0x6 0x0003
def fPMU_RESET_DEVICE : Fld := ⟨23, 1⟩ -- SC
def fPMU_RESET_PIER_GO : Fld := ⟨22, 1⟩ -- SC
def fPMU_RESET_PIER : Fld := ⟨0, 6⟩ -- RW

/-- PMU register RESET_CAUSE; 19_power_clocks_and_startup.md, line 273. -/
def rPMU_RESET_CAUSE : Nat := regAddr 0x6 0x0004
def fPMU_RESET_CAUSE_CAUSE : Fld := ⟨22, 2⟩ -- RO

/-- PMU register STRAPS; 19_power_clocks_and_startup.md, line 280. -/
def rPMU_STRAPS : Nat := regAddr 0x6 0x0005
def fPMU_STRAPS_OSC_WAIT : Fld := ⟨21, 3⟩ -- RO
def fPMU_STRAPS_DEVNUM : Fld := ⟨19, 2⟩ -- RO

/-- PMU register BOOT_MS; 19_power_clocks_and_startup.md, line 288. -/
def rPMU_BOOT_MS : Nat := regAddr 0x6 0x0006
def fPMU_BOOT_MS_PRP : Fld := ⟨12, 12⟩ -- RO
def fPMU_BOOT_MS_LIT : Fld := ⟨0, 12⟩ -- RO

/-- PMU register DEMAND_CNT; 19_power_clocks_and_startup.md, line 295. -/
def rPMU_DEMAND_CNT : Nat := regAddr 0x6 0x0007
def fPMU_DEMAND_CNT_COUNT : Fld := ⟨0, 24⟩ -- CT

/-- PMU register PIER_RST_CNT; 19_power_clocks_and_startup.md, line 295. -/
def rPMU_PIER_RST_CNT : Nat := regAddr 0x6 0x0008
def fPMU_PIER_RST_CNT_COUNT : Fld := ⟨0, 24⟩ -- CT

/-- PMU register PARK_CNT; 19_power_clocks_and_startup.md, line 295. -/
def rPMU_PARK_CNT : Nat := regAddr 0x6 0x0009
def fPMU_PARK_CNT_COUNT : Fld := ⟨0, 24⟩ -- CT

/-- PMU register PIER_CTRL; 19_power_clocks_and_startup.md, line 301. -/
def rPMU_PIER_CTRL (i0 : Nat) : Nat := regAddr 0x6 (0x0010 + 2 * i0)
def fPMU_PIER_CTRL_HOLD : Fld := ⟨22, 2⟩ -- RW
def fPMU_PIER_CTRL_MAX_STATE : Fld := ⟨20, 2⟩ -- RW
def fPMU_PIER_CTRL_GUARD : Fld := ⟨10, 10⟩ -- RW
def fPMU_PIER_CTRL_LINGER : Fld := ⟨0, 10⟩ -- RW

/-- PMU register PIER_STATUS; 19_power_clocks_and_startup.md, line 310. -/
def rPMU_PIER_STATUS (i0 : Nat) : Nat := regAddr 0x6 (0x0011 + 2 * i0)
def fPMU_PIER_STATUS_STATE : Fld := ⟨22, 2⟩ -- RO
def fPMU_PIER_STATUS_EMU : Fld := ⟨21, 1⟩ -- RO
def fPMU_PIER_STATUS_PEND : Fld := ⟨20, 1⟩ -- RO
def fPMU_PIER_STATUS_ON_COND : Fld := ⟨19, 1⟩ -- RO

/-- The PMU block's register rows. -/
def rowsPMU : List RegRow := [
  ⟨0x6, 1, 0x0000, [], 0x000000, [], [], 0x000003, 0x000000, 0x000000, 0x000000, 0x000000, 0x000000, 0x000003⟩,
  ⟨0x6, 1, 0x0001, [], 0x000000, [], [], 0x000000, 0x000000, 0x00003F, 0x000000, 0x000000, 0x000000, 0xC0003F⟩,
  ⟨0x6, 1, 0x0002, [], 0x00001D, [], [], 0x00001F, 0x000000, 0x000000, 0x000000, 0x000000, 0x000000, 0x00001F⟩,
  ⟨0x6, 1, 0x0003, [], 0x000000, [], [], 0x00003F, 0x000000, 0x000000, 0x000000, 0xC00000, 0x000000, 0xC0003F⟩,
  ⟨0x6, 1, 0x0004, [], 0x000000, [], [], 0x000000, 0x000000, 0x000000, 0x000000, 0x000000, 0x000000, 0xC00000⟩,
  ⟨0x6, 1, 0x0005, [], 0x000000, [], [], 0x000000, 0x000000, 0x000000, 0x000000, 0x000000, 0x000000, 0xF80000⟩,
  ⟨0x6, 1, 0x0006, [], 0x000000, [], [], 0x000000, 0x000000, 0x000000, 0x000000, 0x000000, 0x000000, 0xFFFFFF⟩,
  ⟨0x6, 1, 0x0007, [], 0x000000, [], [], 0x000000, 0xFFFFFF, 0x000000, 0x000000, 0x000000, 0x000000, 0xFFFFFF⟩,
  ⟨0x6, 1, 0x0008, [], 0x000000, [], [], 0x000000, 0xFFFFFF, 0x000000, 0x000000, 0x000000, 0x000000, 0xFFFFFF⟩,
  ⟨0x6, 1, 0x0009, [], 0x000000, [], [], 0x000000, 0xFFFFFF, 0x000000, 0x000000, 0x000000, 0x000000, 0xFFFFFF⟩,
  ⟨0x6, 1, 0x0010, [(40, 2)], 0x00C864, [(0, 0xC864), (1, 0xC864), (2, 0x20C864), (3, 0x20C864), (4, 0x20C864), (5, 0x20C864), (6, 0x20C864), (7, 0x20C864), (8, 0x20C864), (9, 0x20C864), (10, 0x20C864), (11, 0x20C864), (12, 0x20C864), (13, 0x10C864), (14, 0x30C864), (15, 0x30C864), (16, 0x30C864), (17, 0x30C864), (18, 0x30C864), (19, 0x30C864), (20, 0x30C864), (21, 0x30C864), (22, 0x20C864), (23, 0x20C864), (24, 0x20C864), (25, 0x20C864), (26, 0x30C864), (27, 0x30C864), (28, 0x30C864), (29, 0x30C864), (30, 0x30C864), (31, 0x30C864), (32, 0x30C864), (33, 0x20C864), (34, 0x20C864), (35, 0x20C864), (36, 0x20C864), (37, 0x30C864), (38, 0x20C864), (39, 0x20C864)], [], 0xFFFFFF, 0x000000, 0x000000, 0x000000, 0x000000, 0x000000, 0xFFFFFF⟩,
  ⟨0x6, 1, 0x0011, [(40, 2)], 0x000000, [], [], 0x000000, 0x000000, 0x000000, 0x000000, 0x000000, 0x000000, 0xF80000⟩]

/-! ### CKG: block 0x7 -/

/-- CKG register BR; 19_power_clocks_and_startup.md, line 324. -/
def rCKG_BR (i0 : Nat) : Nat := regAddr 0x7 (0x0000 + i0)
def fCKG_BR_GATED : Fld := ⟨3, 1⟩ -- RO
def fCKG_BR_EN_PARK : Fld := ⟨2, 1⟩ -- RW
def fCKG_BR_EN_QUIET : Fld := ⟨1, 1⟩ -- RW
def fCKG_BR_EN_RUN : Fld := ⟨0, 1⟩ -- RW

/-- CKG register PLL_STATUS; 19_power_clocks_and_startup.md, line 334. -/
def rCKG_PLL_STATUS (i0 : Nat) : Nat := regAddr 0x7 (0x0040 + i0)
def fCKG_PLL_STATUS_LOSS : Fld := ⟨1, 1⟩ -- W1C
def fCKG_PLL_STATUS_LOCK : Fld := ⟨0, 1⟩ -- RO

/-- CKG register STATUS; 19_power_clocks_and_startup.md, line 342. -/
def rCKG_STATUS : Nat := regAddr 0x7 0x0060
def fCKG_STATUS_GATED_HIT : Fld := ⟨2, 1⟩ -- W1C
def fCKG_STATUS_XTAL_FAIL : Fld := ⟨1, 1⟩ -- W1C
def fCKG_STATUS_XTAL_OK : Fld := ⟨0, 1⟩ -- RO

/-- The CKG block's register rows. -/
def rowsCKG : List RegRow := [
  ⟨0x7, 1, 0x0000, [(32, 1)], 0x000007, [], [], 0x000007, 0x000000, 0x000000, 0x000000, 0x000000, 0x000000, 0x00000F⟩,
  ⟨0x7, 1, 0x0040, [(13, 1)], 0x000000, [], [], 0x000000, 0x000000, 0x000002, 0x000000, 0x000000, 0x000000, 0x000003⟩,
  ⟨0x7, 1, 0x0060, [], 0x000000, [], [], 0x000000, 0x000000, 0x000006, 0x000000, 0x000000, 0x000000, 0x000007⟩]

/-! ### FLT: block 0xB -/

/-- FLT register CTRL; 20_faults_availability_and_updates.md, line 308. -/
def rFLT_CTRL : Nat := regAddr 0xB 0x0000
def fFLT_CTRL_AUTO : Fld := ⟨23, 1⟩ -- RW
def fFLT_CTRL_SIG_RETIRE : Fld := ⟨22, 1⟩ -- RW
def fFLT_CTRL_PERM_COUNT : Fld := ⟨0, 4⟩ -- RW

/-- FLT register WINDOW; 20_faults_availability_and_updates.md, line 317. -/
def rFLT_WINDOW : Nat := regAddr 0xB 0x0001
def fFLT_WINDOW_FRAMES : Fld := ⟨0, 16⟩ -- RW

/-- FLT register STATUS; 20_faults_availability_and_updates.md, line 324. -/
def rFLT_STATUS : Nat := regAddr 0xB 0x0002
def fFLT_STATUS_DEGRADED : Fld := ⟨16, 8⟩ -- RO
def fFLT_STATUS_MEM_DEG : Fld := ⟨12, 4⟩ -- RO
def fFLT_STATUS_BUSY : Fld := ⟨8, 4⟩ -- RO
def fFLT_STATUS_QUEUE_OVF : Fld := ⟨2, 1⟩ -- W1C
def fFLT_STATUS_PERMANENT : Fld := ⟨1, 1⟩ -- W1C
def fFLT_STATUS_ERROR : Fld := ⟨0, 1⟩ -- W1C

/-- FLT register RECOVER; 20_faults_availability_and_updates.md, line 336. -/
def rFLT_RECOVER (i0 : Nat) : Nat := regAddr 0xB (0x0004 + i0)
def fFLT_RECOVER_BUSY : Fld := ⟨23, 1⟩ -- RO
def fFLT_RECOVER_QUEUED : Fld := ⟨19, 4⟩ -- RO
def fFLT_RECOVER_CLASS : Fld := ⟨9, 8⟩ -- RO
def fFLT_RECOVER_INDEX : Fld := ⟨0, 9⟩ -- RO

/-- FLT register LC_RETIRE; 20_faults_availability_and_updates.md, line 346. -/
def rFLT_LC_RETIRE : Nat := regAddr 0xB 0x0008
def fFLT_LC_RETIRE_GO : Fld := ⟨23, 1⟩ -- SC
def fFLT_LC_RETIRE_CORE : Fld := ⟨0, 7⟩ -- RW

/-- FLT register ERR_CNT; 20_faults_availability_and_updates.md, line 354. -/
def rFLT_ERR_CNT : Nat := regAddr 0xB 0x0009
def fFLT_ERR_CNT_COUNT : Fld := ⟨0, 24⟩ -- CT

/-- FLT register PERM_CNT; 20_faults_availability_and_updates.md, line 354. -/
def rFLT_PERM_CNT : Nat := regAddr 0xB 0x000A
def fFLT_PERM_CNT_COUNT : Fld := ⟨0, 24⟩ -- CT

/-- FLT register JOURNAL_NEXT; 20_faults_availability_and_updates.md, line 360. -/
def rFLT_JOURNAL_NEXT : Nat := regAddr 0xB 0x000B
def fFLT_JOURNAL_NEXT_INDEX : Fld := ⟨0, 24⟩ -- RO

/-- The FLT block's register rows. -/
def rowsFLT : List RegRow := [
  ⟨0xB, 1, 0x0000, [], 0x800003, [], [], 0xC0000F, 0x000000, 0x000000, 0x000000, 0x000000, 0x000000, 0xC0000F⟩,
  ⟨0xB, 1, 0x0001, [], 0x0003E8, [], [], 0x00FFFF, 0x000000, 0x000000, 0x000000, 0x000000, 0x000000, 0x00FFFF⟩,
  ⟨0xB, 1, 0x0002, [], 0x000000, [], [], 0x000000, 0x000000, 0x000007, 0x000000, 0x000000, 0x000000, 0xFFFF07⟩,
  ⟨0xB, 1, 0x0004, [(4, 1)], 0x000000, [], [], 0x000000, 0x000000, 0x000000, 0x000000, 0x000000, 0x000000, 0xF9FFFF⟩,
  ⟨0xB, 1, 0x0008, [], 0x000000, [], [], 0x00007F, 0x000000, 0x000000, 0x000000, 0x800000, 0x000000, 0x80007F⟩,
  ⟨0xB, 1, 0x0009, [], 0x000000, [], [], 0x000000, 0xFFFFFF, 0x000000, 0x000000, 0x000000, 0x000000, 0xFFFFFF⟩,
  ⟨0xB, 1, 0x000A, [], 0x000000, [], [], 0x000000, 0xFFFFFF, 0x000000, 0x000000, 0x000000, 0x000000, 0xFFFFFF⟩,
  ⟨0xB, 1, 0x000B, [], 0x000000, [], [], 0x000000, 0x000000, 0x000000, 0x000000, 0x000000, 0x000000, 0xFFFFFF⟩]

/-! ### UPD: block 0xA -/

/-- UPD register CTRL; 20_faults_availability_and_updates.md, line 370. -/
def rUPD_CTRL : Nat := regAddr 0xA 0x0000
def fUPD_CTRL_TRIAL_FRAMES : Fld := ⟨12, 12⟩ -- RW
def fUPD_CTRL_TRIAL_LIMIT_S : Fld := ⟨0, 12⟩ -- RW

/-- UPD register STATUS; 20_faults_availability_and_updates.md, line 377. -/
def rUPD_STATUS : Nat := regAddr 0xA 0x0001
def fUPD_STATUS_STATE : Fld := ⟨21, 3⟩ -- RO
def fUPD_STATUS_ACTIVE : Fld := ⟨20, 1⟩ -- RO
def fUPD_STATUS_FALLBACK : Fld := ⟨19, 1⟩ -- RO
def fUPD_STATUS_TRIES : Fld := ⟨16, 3⟩ -- RO
def fUPD_STATUS_CONFIRM_RCVD : Fld := ⟨15, 1⟩ -- RO
def fUPD_STATUS_REVERTED : Fld := ⟨2, 1⟩ -- W1C
def fUPD_STATUS_INVALID : Fld := ⟨1, 1⟩ -- W1C
def fUPD_STATUS_INCOMPLETE : Fld := ⟨0, 1⟩ -- W1C

/-- UPD register HEALTHY; 20_faults_availability_and_updates.md, line 391. -/
def rUPD_HEALTHY : Nat := regAddr 0xA 0x0002
def fUPD_HEALTHY_COUNT : Fld := ⟨0, 24⟩ -- RO

/-- UPD register RECEIVED; 20_faults_availability_and_updates.md, line 391. -/
def rUPD_RECEIVED : Nat := regAddr 0xA 0x0003
def fUPD_RECEIVED_COUNT : Fld := ⟨0, 24⟩ -- RO

/-- UPD register VER_ACT_LO; 20_faults_availability_and_updates.md, line 397. -/
def rUPD_VER_ACT_LO : Nat := regAddr 0xA 0x0004
def fUPD_VER_ACT_LO_VERSION : Fld := ⟨0, 24⟩ -- RO

/-- UPD register VER_ACT_HI; 20_faults_availability_and_updates.md, line 397. -/
def rUPD_VER_ACT_HI : Nat := regAddr 0xA 0x0005
def fUPD_VER_ACT_HI_VERSION : Fld := ⟨0, 24⟩ -- RO

/-- UPD register VER_INACT_LO; 20_faults_availability_and_updates.md, line 397. -/
def rUPD_VER_INACT_LO : Nat := regAddr 0xA 0x0006
def fUPD_VER_INACT_LO_VERSION : Fld := ⟨0, 24⟩ -- RO

/-- UPD register VER_INACT_HI; 20_faults_availability_and_updates.md, line 397. -/
def rUPD_VER_INACT_HI : Nat := regAddr 0xA 0x0007
def fUPD_VER_INACT_HI_VERSION : Fld := ⟨0, 24⟩ -- RO

/-- The UPD block's register rows. -/
def rowsUPD : List RegRow := [
  ⟨0xA, 1, 0x0000, [], 0x258258, [], [], 0xFFFFFF, 0x000000, 0x000000, 0x000000, 0x000000, 0x000000, 0xFFFFFF⟩,
  ⟨0xA, 1, 0x0001, [], 0x000000, [], [], 0x000000, 0x000000, 0x000007, 0x000000, 0x000000, 0x000000, 0xFF8007⟩,
  ⟨0xA, 1, 0x0002, [], 0x000000, [], [], 0x000000, 0x000000, 0x000000, 0x000000, 0x000000, 0x000000, 0xFFFFFF⟩,
  ⟨0xA, 1, 0x0003, [], 0x000000, [], [], 0x000000, 0x000000, 0x000000, 0x000000, 0x000000, 0x000000, 0xFFFFFF⟩,
  ⟨0xA, 1, 0x0004, [], 0x000000, [], [], 0x000000, 0x000000, 0x000000, 0x000000, 0x000000, 0x000000, 0xFFFFFF⟩,
  ⟨0xA, 1, 0x0005, [], 0x000000, [], [], 0x000000, 0x000000, 0x000000, 0x000000, 0x000000, 0x000000, 0xFFFFFF⟩,
  ⟨0xA, 1, 0x0006, [], 0x000000, [], [], 0x000000, 0x000000, 0x000000, 0x000000, 0x000000, 0x000000, 0xFFFFFF⟩,
  ⟨0xA, 1, 0x0007, [], 0x000000, [], [], 0x000000, 0x000000, 0x000000, 0x000000, 0x000000, 0x000000, 0xFFFFFF⟩]

/-! ### GPIO: block 0x14 -/

/-- GPIO register BANK_CTRL; 21_gpio_pin_mux_and_timers.md, line 174. -/
def rGPIO_BANK_CTRL (i0 : Nat) : Nat := regAddr 0x14 (0x0000 + i0)
def fGPIO_BANK_CTRL_VSEL : Fld := ⟨0, 2⟩ -- RW

/-- GPIO register BANK_STATUS; 21_gpio_pin_mux_and_timers.md, line 181. -/
def rGPIO_BANK_STATUS (i0 : Nat) : Nat := regAddr 0x14 (0x0008 + i0)
def fGPIO_BANK_STATUS_PWR_OK : Fld := ⟨23, 1⟩ -- RO
def fGPIO_BANK_STATUS_CLASS : Fld := ⟨21, 2⟩ -- RO
def fGPIO_BANK_STATUS_OVERRIDE : Fld := ⟨1, 1⟩ -- W1C
def fGPIO_BANK_STATUS_VSEL_BAD : Fld := ⟨0, 1⟩ -- W1C

/-- GPIO register OUT; 21_gpio_pin_mux_and_timers.md, line 191. -/
def rGPIO_OUT (i0 : Nat) : Nat := regAddr 0x14 (0x0010 + i0)
def fGPIO_OUT_PINS : Fld := ⟨0, 16⟩ -- RW

/-- GPIO register OE; 21_gpio_pin_mux_and_timers.md, line 191. -/
def rGPIO_OE (i0 : Nat) : Nat := regAddr 0x14 (0x0018 + i0)
def fGPIO_OE_PINS : Fld := ⟨0, 16⟩ -- RW

/-- GPIO register IN; 21_gpio_pin_mux_and_timers.md, line 191. -/
def rGPIO_IN (i0 : Nat) : Nat := regAddr 0x14 (0x0020 + i0)
def fGPIO_IN_PINS : Fld := ⟨0, 16⟩ -- RO

/-- GPIO register IRQ_STAT; 21_gpio_pin_mux_and_timers.md, line 198. -/
def rGPIO_IRQ_STAT (i0 : Nat) : Nat := regAddr 0x14 (0x0028 + i0)
def fGPIO_IRQ_STAT_PINS : Fld := ⟨0, 16⟩ -- W1C

/-- GPIO register PAD; 21_gpio_pin_mux_and_timers.md, line 205. -/
def rGPIO_PAD (i0 : Nat) : Nat := regAddr 0x14 (0x0100 + i0)
def fGPIO_PAD_OWNER : Fld := ⟨22, 2⟩ -- RO
def fGPIO_PAD_IRQ : Fld := ⟨16, 3⟩ -- RW
def fGPIO_PAD_OD : Fld := ⟨5, 1⟩ -- RW
def fGPIO_PAD_SLEW : Fld := ⟨4, 1⟩ -- RW
def fGPIO_PAD_DRIVE : Fld := ⟨2, 2⟩ -- RW
def fGPIO_PAD_PULL : Fld := ⟨0, 2⟩ -- RW

/-- GPIO register WAKE; 21_gpio_pin_mux_and_timers.md, line 218. -/
def rGPIO_WAKE (i0 : Nat) : Nat := regAddr 0x14 (0x0200 + i0)
def fGPIO_WAKE_EN : Fld := ⟨23, 1⟩ -- RW
def fGPIO_WAKE_POL : Fld := ⟨22, 1⟩ -- RW
def fGPIO_WAKE_DB : Fld := ⟨14, 8⟩ -- RW
def fGPIO_WAKE_PIN : Fld := ⟨0, 7⟩ -- RW

/-- GPIO register WAKE_STAT; 21_gpio_pin_mux_and_timers.md, line 228. -/
def rGPIO_WAKE_STAT : Nat := regAddr 0x14 0x0210
def fGPIO_WAKE_STAT_FIRED : Fld := ⟨0, 16⟩ -- W1C

/-- The GPIO block's register rows. -/
def rowsGPIO : List RegRow := [
  ⟨0x14, 1, 0x0000, [(6, 1)], 0x000003, [], [], 0x000003, 0x000000, 0x000000, 0x000000, 0x000000, 0x000000, 0x000003⟩,
  ⟨0x14, 1, 0x0008, [(6, 1)], 0x000000, [], [], 0x000000, 0x000000, 0x000003, 0x000000, 0x000000, 0x000000, 0xE00003⟩,
  ⟨0x14, 1, 0x0010, [(6, 1)], 0x000000, [], [], 0x00FFFF, 0x000000, 0x000000, 0x000000, 0x000000, 0x000000, 0x00FFFF⟩,
  ⟨0x14, 1, 0x0018, [(6, 1)], 0x000000, [], [], 0x00FFFF, 0x000000, 0x000000, 0x000000, 0x000000, 0x000000, 0x00FFFF⟩,
  ⟨0x14, 1, 0x0020, [(6, 1)], 0x000000, [], [], 0x000000, 0x000000, 0x000000, 0x000000, 0x000000, 0x000000, 0x00FFFF⟩,
  ⟨0x14, 1, 0x0028, [(6, 1)], 0x000000, [], [], 0x000000, 0x000000, 0x00FFFF, 0x000000, 0x000000, 0x000000, 0x00FFFF⟩,
  ⟨0x14, 1, 0x0100, [(96, 1)], 0x000006, [], [], 0x07003F, 0x000000, 0x000000, 0x000000, 0x000000, 0x000000, 0xC7003F⟩,
  ⟨0x14, 1, 0x0200, [(16, 1)], 0x000000, [], [], 0xFFC07F, 0x000000, 0x000000, 0x000000, 0x000000, 0x000000, 0xFFC07F⟩,
  ⟨0x14, 1, 0x0210, [], 0x000000, [], [], 0x000000, 0x000000, 0x00FFFF, 0x000000, 0x000000, 0x000000, 0x00FFFF⟩]

/-! ### XBAR: block 0x15 -/

/-- XBAR register PIN; 21_gpio_pin_mux_and_timers.md, line 237. -/
def rXBAR_PIN (i0 : Nat) : Nat := regAddr 0x15 (0x0000 + i0)
def fXBAR_PIN_TRS : Fld := ⟨23, 1⟩ -- RW
def fXBAR_PIN_INV : Fld := ⟨22, 1⟩ -- RW
def fXBAR_PIN_TRS_STATE : Fld := ⟨20, 2⟩ -- RO
def fXBAR_PIN_SRC_B : Fld := ⟨8, 8⟩ -- RW
def fXBAR_PIN_SRC_A : Fld := ⟨0, 8⟩ -- RW

/-- XBAR register IN; 21_gpio_pin_mux_and_timers.md, line 248. -/
def rXBAR_IN (i0 : Nat) : Nat := regAddr 0x15 (0x0100 + i0)
def fXBAR_IN_EN : Fld := ⟨23, 1⟩ -- RW
def fXBAR_IN_INV : Fld := ⟨22, 1⟩ -- RW
def fXBAR_IN_PIN : Fld := ⟨0, 7⟩ -- RW

/-- XBAR register EVO; 21_gpio_pin_mux_and_timers.md, line 257. -/
def rXBAR_EVO (i0 : Nat) : Nat := regAddr 0x15 (0x0200 + i0)
def fXBAR_EVO_W : Fld := ⟨16, 8⟩ -- RW
def fXBAR_EVO_EV : Fld := ⟨0, 8⟩ -- RW

/-- XBAR register EVI; 21_gpio_pin_mux_and_timers.md, line 265. -/
def rXBAR_EVI (i0 : Nat) : Nat := regAddr 0x15 (0x0210 + i0)
def fXBAR_EVI_EDGE : Fld := ⟨22, 2⟩ -- RW
def fXBAR_EVI_EV : Fld := ⟨0, 8⟩ -- RW

/-- The XBAR block's register rows. -/
def rowsXBAR : List RegRow := [
  ⟨0x15, 1, 0x0000, [(96, 1)], 0x000001, [], [], 0xC0FFFF, 0x000000, 0x000000, 0x000000, 0x000000, 0x000000, 0xF0FFFF⟩,
  ⟨0x15, 1, 0x0100, [(128, 1)], 0x000000, [], [], 0xC0007F, 0x000000, 0x000000, 0x000000, 0x000000, 0x000000, 0xC0007F⟩,
  ⟨0x15, 1, 0x0200, [(8, 1)], 0x010000, [], [], 0xFF00FF, 0x000000, 0x000000, 0x000000, 0x000000, 0x000000, 0xFF00FF⟩,
  ⟨0x15, 1, 0x0210, [(16, 1)], 0x000000, [], [], 0xC000FF, 0x000000, 0x000000, 0x000000, 0x000000, 0x000000, 0xC000FF⟩]

/-! ### TMR: block 0x16 -/

/-- TMR register CTRL; 21_gpio_pin_mux_and_timers.md, line 277. -/
def rTMR_CTRL (i0 : Nat) : Nat := regAddr 0x16 (0x0000 + 16 * i0)
def fTMR_CTRL_EN : Fld := ⟨23, 1⟩ -- RW
def fTMR_CTRL_CLK : Fld := ⟨21, 2⟩ -- RW
def fTMR_CTRL_FRZ : Fld := ⟨19, 2⟩ -- RW
def fTMR_CTRL_RELOAD : Fld := ⟨18, 1⟩ -- RW
def fTMR_CTRL_OUT_ACT : Fld := ⟨16, 2⟩ -- RW
def fTMR_CTRL_OUT_INIT : Fld := ⟨15, 1⟩ -- RW
def fTMR_CTRL_CAP_EDGE : Fld := ⟨13, 2⟩ -- RW
def fTMR_CTRL_CAP_EV : Fld := ⟨12, 1⟩ -- RW
def fTMR_CTRL_CAPTURE : Fld := ⟨11, 1⟩ -- SC
def fTMR_CTRL_IRQ_EN : Fld := ⟨8, 3⟩ -- RW

/-- TMR register PRESC; 21_gpio_pin_mux_and_timers.md, line 293. -/
def rTMR_PRESC (i0 : Nat) : Nat := regAddr 0x16 (0x0001 + 16 * i0)
def fTMR_PRESC_PRESC : Fld := ⟨0, 16⟩ -- RW

/-- TMR register EVT; 21_gpio_pin_mux_and_timers.md, line 300. -/
def rTMR_EVT (i0 : Nat) : Nat := regAddr 0x16 (0x0002 + 16 * i0)
def fTMR_EVT_CAP_LINE : Fld := ⟨16, 8⟩ -- RW
def fTMR_EVT_EV_EN : Fld := ⟨15, 1⟩ -- RW
def fTMR_EVT_EV : Fld := ⟨0, 8⟩ -- RW

/-- TMR register CNT_LO; 21_gpio_pin_mux_and_timers.md, line 309. -/
def rTMR_CNT_LO (i0 : Nat) : Nat := regAddr 0x16 (0x0003 + 16 * i0)
def fTMR_CNT_LO_COUNT : Fld := ⟨0, 24⟩ -- CT

/-- TMR register CNT_HI; 21_gpio_pin_mux_and_timers.md, line 309. -/
def rTMR_CNT_HI (i0 : Nat) : Nat := regAddr 0x16 (0x0004 + 16 * i0)
def fTMR_CNT_HI_COUNT : Fld := ⟨0, 24⟩ -- CT

/-- TMR register CMP_LO; 21_gpio_pin_mux_and_timers.md, line 315. -/
def rTMR_CMP_LO (i0 : Nat) : Nat := regAddr 0x16 (0x0005 + 16 * i0)
def fTMR_CMP_LO_CMP : Fld := ⟨0, 24⟩ -- RW

/-- TMR register CMP_HI; 21_gpio_pin_mux_and_timers.md, line 315. -/
def rTMR_CMP_HI (i0 : Nat) : Nat := regAddr 0x16 (0x0006 + 16 * i0)
def fTMR_CMP_HI_CMP : Fld := ⟨0, 24⟩ -- RW

/-- TMR register CAPQ_LO; 21_gpio_pin_mux_and_timers.md, line 321. -/
def rTMR_CAPQ_LO (i0 : Nat) : Nat := regAddr 0x16 (0x0007 + 16 * i0)
def fTMR_CAPQ_LO_VALUE : Fld := ⟨0, 24⟩ -- RO

/-- TMR register CAPQ_HI; 21_gpio_pin_mux_and_timers.md, line 321. -/
def rTMR_CAPQ_HI (i0 : Nat) : Nat := regAddr 0x16 (0x0008 + 16 * i0)
def fTMR_CAPQ_HI_VALUE : Fld := ⟨0, 24⟩ -- RO

/-- TMR register STATUS; 21_gpio_pin_mux_and_timers.md, line 327. -/
def rTMR_STATUS (i0 : Nat) : Nat := regAddr 0x16 (0x0009 + 16 * i0)
def fTMR_STATUS_DEPTH : Fld := ⟨16, 3⟩ -- RO
def fTMR_STATUS_FROZEN : Fld := ⟨4, 1⟩ -- RO
def fTMR_STATUS_OUT : Fld := ⟨3, 1⟩ -- RO
def fTMR_STATUS_CAP_OVF : Fld := ⟨2, 1⟩ -- W1C
def fTMR_STATUS_CAP : Fld := ⟨1, 1⟩ -- W1C
def fTMR_STATUS_MATCH : Fld := ⟨0, 1⟩ -- W1C

/-- TMR register PWM_CTRL; 21_gpio_pin_mux_and_timers.md, line 340. -/
def rTMR_PWM_CTRL (i0 : Nat) : Nat := regAddr 0x16 (0x0100 + 4 * i0)
def fTMR_PWM_CTRL_EN : Fld := ⟨23, 1⟩ -- RW
def fTMR_PWM_CTRL_POL : Fld := ⟨22, 1⟩ -- RW
def fTMR_PWM_CTRL_DIV : Fld := ⟨0, 16⟩ -- RW

/-- TMR register PWM_PERIOD; 21_gpio_pin_mux_and_timers.md, line 349. -/
def rTMR_PWM_PERIOD (i0 : Nat) : Nat := regAddr 0x16 (0x0101 + 4 * i0)
def fTMR_PWM_PERIOD_TICKS : Fld := ⟨0, 24⟩ -- RW

/-- TMR register PWM_DUTY; 21_gpio_pin_mux_and_timers.md, line 349. -/
def rTMR_PWM_DUTY (i0 : Nat) : Nat := regAddr 0x16 (0x0102 + 4 * i0)
def fTMR_PWM_DUTY_TICKS : Fld := ⟨0, 24⟩ -- RW

/-- The TMR block's register rows. -/
def rowsTMR : List RegRow := [
  ⟨0x16, 1, 0x0000, [(16, 16)], 0x000000, [], [], 0xFFF700, 0x000000, 0x000000, 0x000000, 0x000800, 0x000000, 0xFFFF00⟩,
  ⟨0x16, 1, 0x0001, [(16, 16)], 0x000000, [], [], 0x00FFFF, 0x000000, 0x000000, 0x000000, 0x000000, 0x000000, 0x00FFFF⟩,
  ⟨0x16, 1, 0x0002, [(16, 16)], 0x000000, [], [], 0xFF80FF, 0x000000, 0x000000, 0x000000, 0x000000, 0x000000, 0xFF80FF⟩,
  ⟨0x16, 1, 0x0003, [(16, 16)], 0x000000, [], [], 0x000000, 0xFFFFFF, 0x000000, 0x000000, 0x000000, 0x000000, 0xFFFFFF⟩,
  ⟨0x16, 1, 0x0004, [(16, 16)], 0x000000, [], [], 0x000000, 0xFFFFFF, 0x000000, 0x000000, 0x000000, 0x000000, 0xFFFFFF⟩,
  ⟨0x16, 1, 0x0005, [(16, 16)], 0xFFFFFF, [], [], 0xFFFFFF, 0x000000, 0x000000, 0x000000, 0x000000, 0x000000, 0xFFFFFF⟩,
  ⟨0x16, 1, 0x0006, [(16, 16)], 0xFFFFFF, [], [], 0xFFFFFF, 0x000000, 0x000000, 0x000000, 0x000000, 0x000000, 0xFFFFFF⟩,
  ⟨0x16, 1, 0x0007, [(16, 16)], 0x000000, [], [], 0x000000, 0x000000, 0x000000, 0x000000, 0x000000, 0x000000, 0xFFFFFF⟩,
  ⟨0x16, 1, 0x0008, [(16, 16)], 0x000000, [], [], 0x000000, 0x000000, 0x000000, 0x000000, 0x000000, 0x000000, 0xFFFFFF⟩,
  ⟨0x16, 1, 0x0009, [(16, 16)], 0x000000, [], [], 0x000000, 0x000000, 0x000007, 0x000000, 0x000000, 0x000000, 0x07001F⟩,
  ⟨0x16, 1, 0x0100, [(16, 4)], 0x000000, [], [], 0xC0FFFF, 0x000000, 0x000000, 0x000000, 0x000000, 0x000000, 0xC0FFFF⟩,
  ⟨0x16, 1, 0x0101, [(16, 4)], 0x000000, [], [], 0xFFFFFF, 0x000000, 0x000000, 0x000000, 0x000000, 0x000000, 0xFFFFFF⟩,
  ⟨0x16, 1, 0x0102, [(16, 4)], 0x000000, [], [], 0xFFFFFF, 0x000000, 0x000000, 0x000000, 0x000000, 0x000000, 0xFFFFFF⟩]

/-! ### DBG: block 0xC -/

/-- DBG register STATUS; 22_debug_monitor.md, line 166. -/
def rDBG_STATUS : Nat := regAddr 0xC 0x0000
def fDBG_STATUS_ATTACHED : Fld := ⟨16, 8⟩ -- RO
def fDBG_STATUS_FULL : Fld := ⟨8, 8⟩ -- RO
def fDBG_STATUS_WR_IGNORED : Fld := ⟨0, 1⟩ -- W1C

/-- DBG register TRS_OVW_CNT; 22_debug_monitor.md, line 175. -/
def rDBG_TRS_OVW_CNT : Nat := regAddr 0xC 0x0001
def fDBG_TRS_OVW_CNT_COUNT : Fld := ⟨0, 24⟩ -- CT

/-- DBG register STL_OVW_CNT; 22_debug_monitor.md, line 175. -/
def rDBG_STL_OVW_CNT : Nat := regAddr 0xC 0x0002
def fDBG_STL_OVW_CNT_COUNT : Fld := ⟨0, 24⟩ -- CT

/-- The DBG block's register rows. -/
def rowsDBG : List RegRow := [
  ⟨0xC, 1, 0x0000, [], 0x000000, [], [], 0x000000, 0x000000, 0x000001, 0x000000, 0x000000, 0x000000, 0xFFFF01⟩,
  ⟨0xC, 1, 0x0001, [], 0x000000, [], [], 0x000000, 0xFFFFFF, 0x000000, 0x000000, 0x000000, 0x000000, 0xFFFFFF⟩,
  ⟨0xC, 1, 0x0002, [], 0x000000, [], [], 0x000000, 0xFFFFFF, 0x000000, 0x000000, 0x000000, 0x000000, 0xFFFFFF⟩]

/-- The register rows of block number `n` (R565); none where no block of this manual stands. -/
def rowsOfBlock (n : Nat) : List RegRow :=
  if n = 0x0 then rowsBTU
  else if n = 0x1 then rowsTRS
  else if 0x50 ≤ n ∧ n ≤ 0x57 then rowsOUT
  else if 0x60 ≤ n ∧ n ≤ 0x67 then rowsLCC
  else if 0x30 ≤ n ∧ n ≤ 0x37 then rowsCAM
  else if 0x40 ≤ n ∧ n ≤ 0x48 then rowsPIPE
  else if n = 0x5 then rowsPRP
  else if n = 0x9 then rowsSEC
  else if n = 0x2 then rowsIRQC
  else if n = 0x8 then rowsHOST
  else if n = 0x3 then rowsMEM
  else if n = 0x4 then rowsSNP
  else if n = 0xD then rowsDMA
  else if n = 0xE then rowsBLT
  else if n = 0xF then rowsAUD
  else if 0x10 ≤ n ∧ n ≤ 0x12 then rowsWRN
  else if n = 0x6 then rowsPMU
  else if n = 0x7 then rowsCKG
  else if n = 0xB then rowsFLT
  else if n = 0xA then rowsUPD
  else if n = 0x14 then rowsGPIO
  else if n = 0x15 then rowsXBAR
  else if n = 0x16 then rowsTMR
  else if n = 0xC then rowsDBG
  else []

end Sys2Proof.Machine
end

