-- ==== Sys2Proof/Machine/Sparse.lean ====
section
/-! DEFINITION. A sparse map from addresses to contents, in one canonical form: a list of pairs whose
addresses strictly rise, with no pair whose content is the one an unlisted address reads as. Every
register file and every memory of the model is such a list. -/

namespace Sys2Proof.Machine

/-- The content at address `a`; `d` says what an unlisted address reads as. -/
def spGet {V : Type} (d : Nat → V) (l : List (Nat × V)) (a : Nat) : V :=
  match l with
  | [] => d a
  | (b, v) :: t => if a = b then v else spGet d t a

/-- The list with every pair for `a` left out. -/
def spErase {V : Type} (l : List (Nat × V)) (a : Nat) : List (Nat × V) :=
  match l with
  | [] => []
  | (b, v) :: t => if a = b then spErase t a else (b, v) :: spErase t a

/-- The list with the pair `(a, v)` put in its place. -/
def spInsert {V : Type} (l : List (Nat × V)) (a : Nat) (v : V) : List (Nat × V) :=
  match l with
  | [] => [(a, v)]
  | (b, w) :: t =>
    if a < b then (a, v) :: (b, w) :: t
    else if a = b then (a, v) :: t
    else (b, w) :: spInsert t a v

/-- The map with content `v` at `a`. Storing what an unlisted address reads as removes the pair. -/
def spSet {V : Type} [DecidableEq V] (d : Nat → V) (l : List (Nat × V)) (a : Nat) (v : V) :
    List (Nat × V) :=
  if v = d a then spErase l a else spInsert l a v

/-- Every address of the list is above `a`, and they strictly rise. -/
def spAbove {V : Type} (a : Nat) (l : List (Nat × V)) : Bool :=
  match l with
  | [] => true
  | (b, _) :: t => decide (a < b) && spAbove b t

/-- The addresses of the list strictly rise. -/
def spRising {V : Type} (l : List (Nat × V)) : Bool :=
  match l with
  | [] => true
  | (b, _) :: t => spAbove b t

/-- The canonical form: rising addresses, and no pair that an unlisted address would read as. -/
def spWf {V : Type} [DecidableEq V] (d : Nat → V) (l : List (Nat × V)) : Bool :=
  spRising l && l.all (fun p => decide (p.2 ≠ d p.1))

/-- The pairs whose addresses satisfy `keep`; the others read as unlisted again. -/
def spKeep {V : Type} (keep : Nat → Bool) (l : List (Nat × V)) : List (Nat × V) :=
  l.filter (fun p => keep p.1)

/-- Every listed value changed by `f`, keys kept. -/
def spMapVals {V : Type} (f : V → V) (l : List (Nat × V)) : List (Nat × V) := l.map (fun p => (p.1, f p.2))

end Sys2Proof.Machine
end

