-- ==== Sys2Proof/Machine/Types.lean ====
section
/-! DEFINITION. The plain data of each unit that its registers do not hold: what the spec's chapters give the
beam time unit, the trestle, the outputs, the line-core clusters, the cores and the other units as state. -/

namespace Sys2Proof.Machine

/-! ### Beam time (chapter 2) -/

/-- What the BTU knows of one reference source (R48): the run of good intervals, whether it is qualified, the
error and the extended count less the slew (R57) at its latest message, its frequency offset (units of 1/32 ppb), how many whole
consecutive TG0 frames it has stayed qualified (R53), and whether it qualified within the running one. -/
structure SrcQ where
  code : Nat
  seen : Bool
  run : Nat
  qual : Bool
  lastErr : Int
  lastE : Int
  freq : Int
  high : Nat
  part : Bool
deriving DecidableEq, Repr

/-- The beam time unit. `e` is the 64-bit extended count of R42, `acc` the 40-bit fraction of R38, `clocks`
the fabric clocks since reset. `taken` says that a source other than the crystal has been taken (R52).
`list`, `epoch` and `camPhase` are the values in force (R55); the registers hold the values written.
`held` is the source held over (0 none), `holdDone` that the holdover has ended (R51, R54), `holdAt` the moment at which HOLD_FRAMES
expired, `revert` the higher source that the next frame boundary switches to (R53), and `slewed` what slews have added to the extended count
in the frames that have ended (R57). -/
structure Btu where
  e : Nat
  acc : Nat
  clocks : Nat
  taken : Bool
  list : Nat
  epoch : Nat
  camPhase : Nat
  asCap : List Bool
  q : List SrcQ
  held : Nat
  holdDone : Bool
  holdAt : Option Nat
  revert : Option Nat
  ofs : List (Nat × Int)
  slewed : Int
deriving DecidableEq, Repr

/-! ### The trestle (chapter 3) -/

/-- An entry of the calendar: slot and generation (its handle, R73), the two words (R62), the owning session
its place in insertion order (R68), and whether it has been left waiting when due (R67). The owner is a session slot, 255 when
that session has ended, or 256 + 8 × device + slot for a session of a peer. -/
structure TrsEntry where
  slot : Nat
  gen : Nat
  bt : Nat
  act : Nat
  owner : Nat
  order : Nat
  late : Bool
deriving DecidableEq, Repr

/-- A REGL list that has been read and waits to be applied (R64): the pier it names, the firing serial and the
writes left as (address, value). -/
structure ReglList where
  pier : Nat
  writes : List (Nat × Nat)
deriving DecidableEq, Repr

/-- The trestle: the calendar, the generations of its slots (unlisted 1), the insertion counter, the read
REGL lists in order of firing, the actions held for a pier that is not ON, oldest first (R76), and the repeating entries that the latest firing
clock armed again, each with the beam time at which it was due, and the moment of that clock (R82). -/
structure Trestle where
  entries : List TrsEntry
  gens : List (Nat × Nat)
  nextOrder : Nat
  lists : List ReglList
  held : List Nat
  rearmed : List (Nat × Nat)
  firedAt : Nat
deriving DecidableEq, Repr

/-! ### The interrupt controller (chapter 12) -/

/-- The priority stacks of the three targets (R312), innermost first. -/
structure Irqc where
  rows : List (List Nat)
deriving DecidableEq, Repr

/-! ### Memory (chapter 15) -/

/-- What a fabric request gave its master: the data, and how it ended: 0 served, 1 uncorrectable, 2 no unit. -/
structure Resp where
  master : Nat
  addr : Nat
  data : Word
  status : Nat
deriving DecidableEq, Repr

/-- The memories. Main memory is kept by physical bank (R27, R377): key bank × 65,536 + offset; `mainErr` lists the
stored bits of a physical word that are wrong (R371). The exchange memory is kept by word, LPDDR5X by word offset from
0x80_0000_0000. `exLatch` is the sentinel port's part-0 latch (word, content; R380), `exBusy` the zeroing after power-on
(R382), `scrub` the next offset the patrol reads in each bank, `ddrErr` the words of LPDDR5X that are uncorrectable (R384),
`resp` the answer to the latest fabric request. -/
structure Mem where
  main : List (Nat × Word)
  mainErr : List (Nat × BitVec 55)
  exch : List (Nat × Word)
  exchErr : List (Nat × BitVec 55)
  ddr : List (Nat × Word)
  exLatch : Option (Nat × Word)
  exBusy : Bool
  scrub : List (Nat × Nat)
  ddrErr : List (Nat × BitVec 55)
  ddrTraining : Bool
  resp : Option Resp
deriving DecidableEq, Repr

/-! ### Fault reports (chapter 20) -/

/-- A detected error on its way to the fault manager (R480): detection code, unit class, index and path word, with
what it found and the beam time at which it was detected (R489). -/
structure Report where
  code : Nat
  cls : Nat
  idx : Nat
  path : Nat
  detail : Nat
  bt : Nat
deriving DecidableEq, Repr

/-- The recovery slot of a span (R483): the unit under recovery with its replacement (class, index; replacement class, index)
and the TG0 frame in which it began, the units queued, oldest first, and those held as pending. -/
structure RecSpan where
  busy : Option (List Nat)
  since : Nat
  queue : List (Nat × Nat)
  waiting : List (Nat × Nat)
deriving DecidableEq, Repr

/-- The fault manager (chapter 20): the journal ring, newest first, the records held until LPDDR5X is trained, the flash journal,
the retirement list (class, index; R486), the clock up to which its last entry is being written, each unit's recent error frames (R482), each unit's coalescing of kind 0x01 (frame of the
latest record, errors since; R488), and the recovery slots. -/
structure Flt where
  ring : List (List Word)
  held : List (List Word)
  flash : List (List Word)
  retired : List (Nat × Nat)
  listing : Option Nat
  hist : List ((Nat × Nat) × List Nat)
  merge : List ((Nat × Nat) × (Nat × Nat))
  spans : List RecSpan
deriving DecidableEq, Repr

/-! ### Silis cores (chapters 11, 12 and 22) -/

/-- A transfer whose delay slot is due (R266, R291): the resolved next slot address, whether the transfer was taken,
whether it ends an active loop that its target leaves (R278), and whether RETX brought it back (R290). -/
structure Delay where
  target : Nat
  taken : Bool
  ends : Bool
  ret : Bool
deriving DecidableEq, Repr

/-- A SETS of MODE or BNK whose shadow has not ended (R284): slots left, MODE (true) or BNK, the value. -/
structure Shadow where
  left : Nat
  isMode : Bool
  value : Nat
deriving DecidableEq, Repr

/-- A Silis core. `run`: 0 stopped or idle, 1 running, 2 halted by the debug monitor, 3 stopped by a fault. `slot` is the
slot of word `pc` that executes next. `ds` and `rs` are the cached entries, top first (R268). The special
registers follow (R280, R281). `skip` lists the words whose LOOP took a count of 0 and where each continues (R276).
`wait`: 0 none, 1 WFI, 2 EVWAIT for line `waitArg`, 3 a stalled RECW1 store of `stall` (R139); `woken` says that what
is awaited has come. `posted` are the posted stores not yet landed, oldest first (R272). `cycles` counts R275.
For a line core, `recw0` is the staged record word, and `line` and `frame` name the line whose program runs.
`haltReq` is a halt that has not taken effect (R527), `pass` the kinds of point (bit 0 breakpoints, bit 1 watchpoints) that have halted the core at its
slot and let that slot pass once (R534), `steps` a DBG.STEP under way: whether the core has begun it, and the slots left (R531).
`cur` is the word fetched last with its address, `stale` the words ahead that the core has itself overwritten, with what they
held, and `fenced` that a FENCE has come since (R272). `pioIn`, `pioOut`, `pioOe` are the private port (R303). -/
structure Core where
  run : Nat
  pc : Nat
  slot : Nat
  ds : List Word
  rs : List Word
  mode : Nat
  bnk : Nat
  dsp : Nat
  rsp : Nat
  dsl : Nat
  rsl : Nat
  lcnt : Nat
  lbeg : Nat
  lend : Nat
  cause : Nat
  btTaken : Bool
  dslot : Bool
  ex : Bool
  pie : Bool
  ie : Bool
  epc : Nat
  etgt : Nat
  emode : Nat
  evmask : Nat
  shadow : List Shadow
  delay : Option Delay
  skip : List (Nat × Nat)
  wait : Nat
  waitArg : Nat
  woken : Bool
  stall : Word
  posted : List (Nat × Word)
  cycles : Nat
  recw0 : Word
  line : Nat
  frame : Nat
  haltReq : Bool
  pass : Nat
  steps : Option (Bool × Nat)
  cur : Option (Nat × Word)
  stale : List (Nat × Word)
  fenced : Bool
  pioIn : Nat
  pioOut : Nat
  pioOe : Nat
deriving DecidableEq, Repr

/-- The core-local memories. `words` lists words by key, code × 65,536 + address; `opn` the runs of words whose content the spec leaves open
(first key, how many, the first of their free values; R133, R458). A word in no run and not listed reads zero (log entries 1 and 6). -/
structure Lmem where
  words : List (Nat × Word)
  opn : List (Nat × Nat × Nat)
deriving DecidableEq, Repr

/-! ### Line-core clusters (chapter 6) -/

/-- A line program that has been due: its line and output frame, the logical and physical core that runs it, and
whether it waits (0), runs (1), ended by an exception (2), or its window has ended while its core was halted (3). -/
structure Prog where
  line : Nat
  frame : Nat
  logical : Nat
  phys : Nat
  st : Nat
deriving DecidableEq, Repr

/-- A record in the span queue, tagged with its line and output frame (R139). -/
structure SpanRec where
  line : Nat
  frame : Nat
  w0 : Word
  w1 : Word
deriving DecidableEq, Repr

/-- A line-core cluster: the active code bank (0 A, 1 B), the load that runs (base and length − 1), the image
completed into the inactive bank since the last swap, whether the banks have been lost with their pier (R138),
the programs due, the span queue, the span layers closed (frame, line, span layer; R143), the line and frame whose tile records
have been taken (R103), the logical core whose map has changed with the moment of the change (R157), the frame's highest queue and cycle use so far, whether the last load failed, and whether the active bank holds no code
since its refill failed (R138). -/
structure Cluster where
  bank : Nat
  load : Option (Nat × Nat)
  fresh : Option (Nat × Nat)
  lost : Bool
  progs : List Prog
  queue : List SpanRec
  closed : List (Nat × Nat × Nat)
  tileTaken : Option (Nat × Nat)
  remap : Option (Nat × Nat)
  qNow : Nat
  cycNow : Nat
  bad : Bool
  dead : Bool
deriving DecidableEq, Repr

/-! ### Debug monitor (chapter 22) -/

/-- A breakpoint or watchpoint (R533): the unit (cluster 0–7, or 8 for T1 and 9 for T2), its number, whether it is a
watchpoint, its payload word and the session slot that set it. -/
structure Point where
  unit : Nat
  num : Nat
  watch : Bool
  word : Nat
  owner : Nat
deriving DecidableEq, Repr

/-- A trace log (R535, R536): the records held, newest first, and how many were ever written. -/
structure Log where
  recs : List (List Word)
  total : Nat
deriving DecidableEq, Repr

/-- The debug monitor: points, the two logs, each session's read position in each log (session, log, index), and the attached sessions of
peers with whether they are FULL (R331); a session of a peer is 256 + 8 × device + slot. -/
structure Dbg where
  points : List Point
  trsLog : Log
  stlLog : Log
  pos : List (Nat × Nat × Nat)
  proxies : List (Nat × Bool)
deriving DecidableEq, Repr

/-! ### Layer sources and composition (chapters 4 to 8) -/

/-- A window on the raster: left, top, width, height. -/
structure Win where
  x : Nat
  y : Nat
  w : Nat
  h : Nat
deriving DecidableEq, Repr

/-- One dot of a layer before the colour pipeline (R165): transparent; a palette colour; an A8 pixel of coverage `a`;
encoded channels `r`, `g`, `b` of `nr`, `ng`, `nb` bits with straight alpha `a` in 2.14; a linear opaque colour. -/
inductive Raw where
  | clear
  | pal (p e : Nat)
  | cov (p e a : Nat)
  | enc (nr ng nb r g b a : Nat)
  | lin (r g b : Nat)
deriving DecidableEq, Repr

/-- A colour with alpha, each channel 2.14 (R98); premultiplied where it says so. -/
structure Px where
  r : Nat
  g : Nat
  b : Nat
  a : Nat
deriving DecidableEq, Repr

/-- The line that a tile, bitmap, camera or remote source has made ready for layer `layer`, or that it is stale. -/
structure LineIn where
  layer : Nat
  line : Nat
  frame : Nat
  stale : Bool
  dots : List Raw
deriving DecidableEq, Repr

/-- An entry of a sprite index (R109): the table index and words 0 to 2. -/
structure SprEnt where
  idx : Nat
  w0 : Word
  w1 : Word
  w2 : Word
deriving DecidableEq, Repr

/-- The dots a sprite draws on one line, from raster dot `x` on (R115 to R118), with its opacity. -/
structure SprRun where
  plane : Nat
  x : Nat
  alpha : Nat
  dots : List Raw
deriving DecidableEq, Repr

/-- The sprites kept for a line in rank order (R119 to R122), their dots once rendered on
time, and the planes that a word not readable makes stale. -/
structure SprLine where
  line : Nat
  frame : Nat
  kept : List SprEnt
  runs : List SprRun
  rendered : Bool
  bad : List Nat
deriving DecidableEq, Repr

/-- The colour tables of an output (R170): eight degamma sets, the regamma table and the scaler table; an absent table
holds its reset contents. -/
structure Luts where
  dg : List (Option (List Word))
  rg : Option (List Word)
  sc : Option (List Word)
deriving DecidableEq, Repr

/-- The committed state of an output that its keystone has replaced, kept for the stages that still work on the earlier
frame (R175, R131): the live registers, the live sprite index, the live tables and the cluster's active code bank. -/
structure Commit where
  regs : List (Nat × Reg)
  spr : List SprEnt
  lut : Luts
  bank : Nat
deriving DecidableEq, Repr

/-- A tile raster effect of the frame (R103, R104): the line it names, the line from which it acts, the slot, the parameter
(0 SCROLL_X, 1 SCROLL_Y, 2 to 7 the affine parameters 0 to 5) and the value. -/
structure Fx where
  line : Nat
  eff : Nat
  slot : Nat
  param : Nat
  value : Nat
deriving DecidableEq, Repr

/-- A line on its way to the port (R23): 0 composed, 1 replayed, 2 all background (dark frame), 3 zeros. `px` holds the
packed codes, 12 bits a channel, red highest; `cd` the line colour before the output matrix, for PIX streams (R450). -/
structure LineOut where
  line : Nat
  frame : Nat
  kind : Nat
  px : List Nat
  cd : List Word
deriving DecidableEq, Repr

/-- A signature region's running state (R241 to R248): the CRC register, the lines that have reached the tap in this frame and
how many of them were not replayed, whether some replayed dot lay outside the exact rectangles, whether a judgement is due, the
latest complete signature with its frame and the one before, the run of passes while an action is active, whether an action is
active, whether one begins at the next line 0, and whether the last judged frame passed. -/
structure Sig where
  crc : Nat
  fed : Nat
  comp : Nat
  lossy : Bool
  due : Bool
  last : Option (Nat × Nat)
  prev : Option (Nat × Nat)
  passes : Nat
  act : Bool
  begins : Bool
  lastPass : Bool
deriving DecidableEq, Repr

/-- What an output holds beside its registers. `st`: 0 dark, 1 port initialising, 2 port ready, 3 lit (R226).
`line` and `frame` are the scan position as last entered. `liveFrom` is the first frame that uses the live state, and
`prev` the state before it (R175). `store` and `sr` are the frames not composed for SCAN_STORE (R189) and self-refresh
(R230): from, and until when known. `hand` is the frame and line from which the retiring pipe no longer composes
and the frame from which PIPE8 composes (R235), `switched` that PIPE8 serves. `keyed` is the frame whose keystone point has passed (R174, R176), `flip` that a commit has applied since line 0 (R181), `link` is
the eDP link (R220): 0 up, 1 down with HPD low, 2 training, 3 trained again and waiting for a frame, 4 to stop at line Va, `blDuty`, `blCtrl` and `blPhase` are the backlight settings adopted (R234), `remAt` says
up to which landed row each REMOTE layer has looked (R452), `stepped` that BT
has been stepped since the last line and `stepEnd` the extended count at which the line in scan then ends (R571), `deferred` that this
run of deferrals has reached its limit (R178), `srNext` the first frame of a self-refresh that follows the one that is ending (R230), `tileFrame`, `sprFrame` and `compFrame` the frame that the tile engine, sprite selection and
the compositor have last turned to (their peaks and the effects of raster records belong to it), `srAt` the moment at which entry into self-refresh has begun (R237), `camKey` the camera ports whose pier was ON at
the latest keystone point and `camOn` those of the frame to which the camera input has turned (R209), `forced` that FORCE_PRP acts in this frame (R485), `spareLock` that PIPE8 has locked and switches at the next line (R235), and `degPipe`
and `degCore` why the output is DEGRADED (R484, R485). `binds` holds the frame bound by each CAMERA and REMOTE layer. -/
structure Outp where
  st : Nat
  offPending : Bool
  early : Bool
  line : Nat
  frame : Nat
  darkFrame : Option Nat
  liveFrom : Nat
  prev : Option Commit
  armFlag : Bool
  ovl : Bool
  store : Option (Nat × Option Nat)
  sr : Option (Nat × Option Nat)
  srBlocked : Bool
  psr : Nat
  psrGran : Nat
  link : Nat
  hand : Option (Nat × Nat × Option Nat)
  switched : Bool
  spr : List SprEnt
  sprNew : Option (List SprEnt)
  sprBuild : Option (Nat × Nat)
  lut : Luts
  lutNew : List (Nat × List Word)
  lutCopy : Option (Nat × Nat)
  fsBase : Nat
  exBase : Nat
  valid : List Nat
  fx : List Fx
  tileFrame : Option Nat
  sprFrame : Option Nat
  compFrame : Option Nat
  palFx : List (Nat × Word)
  alphaFx : List (Nat × Nat)
  ins : List LineIn
  sprSel : List SprLine
  fifo : List LineOut
  sent : Option LineOut
  binds : List (Nat × Option Nat)
  ovfFrame : Option Nat
  pkSpr : Nat
  pkCnt : Nat
  pkComp : Nat
  pkTile : List Nat
  pkTileAll : Nat
  sigs : List Sig
  sigEvFrame : Option Nat
  failing : List Nat
  blDuty : Nat
  blCtrl : Nat
  blPhase : Nat
  remAt : List (Nat × Nat)
  keyed : Option Nat
  flip : Bool
  stepped : Bool
  stepEnd : Nat
  deferred : Bool
  srAt : Nat
  srNext : Option Nat
  camKey : List Nat
  camOn : List Nat
  forced : Bool
  spareLock : Bool
  degPipe : Bool
  degCore : Bool
deriving DecidableEq, Repr

/-! ### Camera ports (chapter 8) -/

/-- A camera line: its frame, its number, whether it is bad, its pixels as three 10-bit components each, and the extended count
at which it became valid in the ring. -/
structure CamLine where
  frame : Nat
  y : Nat
  bad : Bool
  px : List Nat
  at' : Nat
deriving DecidableEq, Repr

/-- A virtual channel that a camera port tracks (R195): Frame Starts, whether a frame is open, and its long packets since. -/
structure CamVc where
  vc : Nat
  frames : Nat
  isOpen : Bool
  count : Nat
deriving DecidableEq, Repr

/-- A camera port: tracked virtual channels in order (R195), the camera frame begun last and the lines counted in it, the landing
lines, each with what its check finds or has found (R196: bit 0 bad, bit 1 a corrected header, bit 2 checked), the ring, whether a
Frame Start has come since the last binding point, WARP_BASE as taken there, the bound frame and the lowest line it still needs
(R199), the frames without a Frame Start (R208), the least margin of the frame, and the late window lines whose margin is open: the
deadline, the frame and the source lines still missing (R205). -/
structure Cam where
  track : List CamVc
  frame : Nat
  count : Nat
  landing : List (CamLine × Nat)
  ring : List CamLine
  fsNew : Bool
  warp : Nat
  bound : Option Nat
  low : Nat
  idle : Nat
  margin : Int
  owed : List (Nat × Nat × List Nat)
deriving DecidableEq, Repr

/-- A row of a remote stream that has landed (R452): port, stream, the sender's frame tag, row number, sequence, the width and
height of the stream, its place in the order of landing, and the moment it landed. -/
structure RxRow where
  port : Nat
  stream : Nat
  frame : Nat
  row : Nat
  seq : Nat
  w : Nat
  h : Nat
  order : Nat
  at' : Nat
deriving DecidableEq, Repr

/-- A PIX stream as its output took it at line 0 (R450), and the row it sent last (R451): sequence, frame tag, row and dots. -/
structure TxRow where
  port : Nat
  stream : Nat
  out : Nat
  win : List Nat
  seq : Nat
  frame : Nat
  row : Nat
  dots : List Word
deriving DecidableEq, Repr

/-! ### Pins, timers and PWM (chapter 21) -/

/-- A PWM channel: the fabric clock in which its period began, the period and duty adopted then (R520), and, for a channel locked to
an output, the output phase at which its period began and the phase for which it stays active (R233). -/
structure Pwm where
  start : Nat
  period : Nat
  duty : Nat
  lockAt : Nat
  lockLen : Nat
deriving DecidableEq, Repr

/-- The pads as last synchronised (bit p: pin p), the levels of running pulses (pin, level; R509), the EVO outputs that are high
(R511), the capture queues of the timers, oldest first (R517), the PWM channels, the peripheral blocks that are enabled
(R505), the supplies of the six banks in mV (R501), and the pads held while PIER38 is not ON (R512; 0 not driven, 2 low, 3 high). -/
structure Pins where
  level : Nat
  pulse : List (Nat × Bool)
  evo : Nat
  capq : List (List Nat)
  pwm : List Pwm
  prsOn : List Nat
  supply : List Nat
  held : Option (List Nat)
deriving DecidableEq, Repr

/-! ### Audio (chapter 17) -/

/-- A voice. `st`: 0 not running, 1 attack, 2 decay, 3 sustain, 4 release; `t` the output samples since that phase began. `amp0` is the
amplitude from which the attack began (1.0 = 2^24), `att0` the attenuation at which the release began (1/65,536 of 0.125 dB). `pos` is
the position of a wave (24.16) or the phase, `loops` the loop-backs made, `lfsr` the noise sequence. For ADPCM, `done` codes have been
decoded into `pred` and `idx`, and `save` is what they were after sample LOOP was first decoded (R414). -/
structure Voice where
  st : Nat
  t : Nat
  amp0 : Nat
  att0 : Nat
  pos : Nat
  loops : Nat
  lfsr : Nat
  done : Nat
  pred : Int
  idx : Nat
  save : Option (Int × Nat)
deriving DecidableEq, Repr

/-- A gain on its way (R421): attenuations in 1/65,536 of 0.125 dB, the ramp's length and the samples of it gone. -/
structure Ramp where
  start : Nat
  goal : Nat
  len : Nat
  t : Nat
deriving DecidableEq, Repr

/-- An equaliser band's state, one channel (R424). -/
structure Band where
  x1 : Int
  x2 : Int
  y1 : Int
  y2 : Int
deriving DecidableEq, Repr

/-- A bus (R423 to R425): its latest mixed samples, newest first, the coefficients in force, the bands that take new coefficients at
the next sample, with them, the states of the ten bands for each channel, the 48 samples before the limiter, newest first, each with the reduction it
needs, and the present reduction (1/65,536 of 0.125 dB). -/
structure Bus where
  hist : List (Int × Int)
  coef : List (List Int)
  due : List (Nat × List Int)
  left : List Band
  right : List Band
  look : List (Int × Int × Nat)
  gr : Nat
deriving DecidableEq, Repr

/-- A chime monitor (R434): the sum of squares of the running block and the samples in it. -/
structure Mon where
  sum : Nat
  cnt : Nat
deriving DecidableEq, Repr

/-- The audio unit: the sample period begun last, the voices, the gains (voices 0 to 127, buses from 128, the direct sum 144, the jacks
from 145), the starts (true) and stops placed in the next period, the buses, the words of the TDM frame sent last (port × 16 + slot),
the monitors, what each jack's amplifier drives, the jacks that are in identification, and those whose amplifier a removal has muted (R432). -/
structure Aud where
  n : Nat
  voices : List Voice
  gains : List Ramp
  pend : List (Bool × Nat)
  bus : List Bus
  tdm : List (Nat × Nat)
  mons : List Mon
  drive : List (Option (Int × Int))
  ident : List Nat
  muted : List Nat
deriving DecidableEq, Repr

/-! ### DMA and blitter (chapter 16) -/

/-- A MOVE under way (R390): next source and destination address, the two modes, and the words left. -/
structure Move where
  src : Nat
  dst : Nat
  smode : Nat
  dmode : Nat
  left : Nat
deriving DecidableEq, Repr

/-- A DMA channel beside its registers: SA and DA, the open loops (body address, passes left), innermost first, the MOVE under way, its
burst (0 none, 1 ready, 2 in flight), the retries of that burst, a stop that waits for its end with the fabric clock it came in, a start that
came in that clock (R411), what a WAIT waits for (0 none, 1 an event
line, 2 a BT) and whether its pulse has come. -/
structure Chan where
  sa : Nat
  da : Nat
  loops : List (Nat × Nat)
  move : Option Move
  burst : Nat
  tries : Nat
  stopReq : Bool
  stopAt : Nat
  again : Bool
  wait : Nat
  arg : Nat
  woken : Bool
deriving DecidableEq, Repr

/-- The DMA engine: the channels and the channel last served at each priority (R395). -/
structure Dma where
  ch : List Chan
  last : List Nat
deriving DecidableEq, Repr

/-- A blitter operation under way (R405 to R407): whether it still reads the whole source of a COPY that overlaps, the number of bursts done,
the source words read so, and the address at which the next burst has met a bus error, with the retries made. -/
structure BltRun where
  reading : Bool
  pos : Nat
  old : List (Nat × Word)
  bad : Option Nat
  tries : Nat
deriving DecidableEq, Repr

/-- The blitter beside its registers: the operation that has not yet been declared done, and the unit index of the running list's next
header (R409). -/
structure Blt where
  op : Option BltRun
  unit : Option Int
deriving DecidableEq, Repr

/-! ### Wearan ports (chapter 18) -/

/-- A cell (R441): its class, sequence number, acknowledgement, NAK, class field and payload words, and what a CMD cell brings beside its
words (R331): the originating session's level (bits 1:0) and debug level (bits 3:2), and bit 4 for a violation reported back. -/
structure Cell where
  cls : Nat
  seq : Nat
  ack : Nat
  nak : Bool
  f : Nat
  words : List Word
  mark : Nat
deriving DecidableEq, Repr

/-- A read of a peer window that has been sent (R454): its tag and word, the fabric master that waits for it, and its end: the
word, or a failure. -/
structure PeerRead where
  tag : Nat
  w : Nat
  who : Nat
  got : Option (Option Word)
deriving DecidableEq, Repr

/-- A Wearan port. `txSeq` is the next sequence number, `acked` the last that the peer has acknowledged, `replay` the last 512 sequenced
cells, newest first, `resend` the sequence from which a NAK asked for replay, `nakRun` the cell last answered with NAK and how often in a
row. `rxSeq` is the last number received in order, `bad` that later cells are discarded until the replay. `time` is the TIME cell sent last,
`echo` the last good one received (its TX_BT and the clock of its arrival), `delays` the latest delay samples in 1/16 ns, `alive` that one
has come within 64 µs, `links` and `same` its LINKS field and whether its succession list is this device's. `swap` is a lane swap under
way (receive, lane), `cmd` the words of the packet that is landing, `rows` the rows that are landing (stream, then sequence, frame, row),
`reads` the reads outstanding, `down` the layers (32 × output + layer) that the loss of the link hides, from which frame, and from which frame each
is shown again, and `ovl` that the loss overlay has been
applied (R455). `wire` holds the last 512 cells that left, newest first, as their bits, and `naks` how often in a row the cell awaited has been
answered with NAK. -/
structure Wrn where
  txSeq : Nat
  acked : Nat
  replay : List Cell
  resend : Option Nat
  nakRun : Nat × Nat
  rxSeq : Nat
  bad : Bool
  time : List Word
  echo : Option (Nat × Nat)
  delays : List Nat
  alive : Bool
  links : Nat
  same : Bool
  swap : Option (Bool × Nat)
  cmd : List Word
  rows : List (Nat × (Nat × Nat × Nat))
  reads : List PeerRead
  down : List (Nat × Nat × Option Nat)
  ovl : Bool
  wire : List (BitVec 512)
  naks : Nat
deriving DecidableEq, Repr

/-! ### Power and updates (chapters 19 and 20) -/

/-- The power sequencer beside its registers: the piers that are entering a state (pier, state), those that are waking, those kept ON
after an arrival (R464) and those woken for calendar entries up to a BT, the output fields T0 has written for TARGET (address of the
register, mode 0 REQ or 1 SCAN_STORE; R466), the stage of start-up (0 before power-good, 1 OSC_WAIT, 2 the boot ROM reads, 3 an image is chosen, 4 no
image verifies, 5 T0 restarts), the clock of power-good, the clocks up to which branches are open for an access (branch, clock; R473), and those
up to which the resets of piers run (R475). -/
structure Pwr where
  entering : List (Nat × Nat)
  waking : List Nat
  linger : List Nat
  planned : List (Nat × Nat)
  quieted : List (Nat × Nat)
  stage : Nat
  pg : Nat
  opened : List (Nat × Nat)
  resets : List (Nat × Nat)
deriving DecidableEq, Repr

/-- An image slot in flash (R491): its status word, the words written, and the length and version that UPD.BEGIN gave (log entry 17). -/
structure Slot where
  status : Nat
  words : List (Nat × Word)
  len : Nat
  ver : Nat
deriving DecidableEq, Repr

/-- The update area: the two copies of the boot record (R494), the slots A and B, a live handover that waits (R498: 0 to the new image, 1 back to
the previous one), whether T0 has run throughout the present TG0 frame and the image that runs was started in trial (R497), the copies before a
write of the record that is under way, with the clock at which it ends (R494, R499), and the verification key in OTP (R491). -/
structure Upd where
  br : List (List Word)
  slots : List Slot
  hand : Option Nat
  healthy : Bool
  trial : Bool
  writing : Option (List (List Word) × Nat)
  key : Nat × Nat
deriving DecidableEq, Repr

/-! ### The parapet (chapter 10) -/

/-- A telltale as sampled for a frame of its output (R254): record words 0 to 2, whether it shows ON, and the frames since what
it shows changed. -/
structure Shown where
  tt : Nat
  w0 : Nat
  w1 : Nat
  w2 : Nat
  on : Bool
  since : Nat
deriving DecidableEq, Repr

/-- A telltale drawn on an output, with the windows that clip it: none for one that is always drawn (R255). -/
structure Drawn where
  tt : Shown
  clips : Option (List Win)
deriving DecidableEq, Repr

/-- What the parapet has to draw: the boxes that CHK_BLANK fills (R256), the telltales, and the replaced regions, each with its backing
colour, lowest number first (R255). -/
structure PrpDraw where
  dead : List Win
  tts : List Drawn
  rep : List (Win × Nat)
deriving DecidableEq, Repr

/-- What the parapet has to draw with the store from which it draws (R259). -/
structure PrpShot where
  draw : PrpDraw
  store : List (Nat × Word)
deriving DecidableEq, Repr

/-- The parapet: its store, what the telltales show, the samples for the next frame, the telltales with a checker miss in the
running frame, each telltale's run of such frames, and the faulted telltales (R256), what it had to draw at line 0 of the frame before and of this frame of each
output (R259), and the clock of the latest heartbeat (R260). -/
structure Prp where
  store : List (Nat × Word)
  shown : List Shown
  next : List Shown
  miss : List Nat
  missRun : List (Nat × Nat)
  faulted : List Nat
  shots : List (Nat × PrpShot × PrpShot)
  hbAt : Option Nat
deriving DecidableEq, Repr

/-! ### Configurations and buffers (chapter 14) -/

/-- A buffer (R362, R363): its first slab, its slabs, the session slot that allocated it, and whether that session has ended. -/
structure Buf where
  first : Nat
  count : Nat
  owner : Nat
  orphan : Bool
deriving DecidableEq, Repr

/-- Configurations and buffers: the two base copies in flash and which was written later, the one the start applied (R355), the overlay images in store and
cache, the base in force and whether it has been applied, the active overlays in order with the content applied, the regions (first
slab, slabs), the buffers, the generation of each slab (R362; unlisted 1), the freed slabs not yet scrubbed, each trigger's declared
state and, for CAN FD, its condition, the outputs whose staging has not ended with the layers to arm (R358), the overlays whose
apply is awaited, with each output and its COMMIT_SEQ, and the STEWARD records that wait for their copy (target, CTRL; R351). -/
structure Cfg where
  copies : List (List Word)
  newer : Nat
  used : Option Nat
  store : List (Nat × List Word)
  base : List Word
  applied : Bool
  active : List (Nat × List Word)
  regions : List (Nat × Nat)
  bufs : List Buf
  gens : List (Nat × Nat)
  scrub : List Nat
  trig : List (Bool × Bool)
  staging : List (Nat × Nat)
  waits : List (Nat × List (Nat × Nat))
  stews : List (Nat × Nat)
deriving DecidableEq, Repr

/-! ### Command packets (chapter 13) -/

/-- A session slot beside its register (R335 to R337): the endpoint it is bound to, the nonce it was given, and the fabric clock of its latest
packet. -/
structure Ses where
  ep : Option Endpoint
  nonce : List Word
  at' : Nat
deriving DecidableEq, Repr

/-- A completion reply that is owed (R321): what completes (0 a sprite build, 1 a code load, 2 a commit, 3 lighting, 4 an
overlay, 5 a configuration write, 6 an image check, 7 an activation, 8 an AUX or DCS transaction, 9 a debug step), which one,
and the request's endpoint and word 0. -/
structure Owed where
  kind : Nat
  key : Nat
  ep : Endpoint
  w0 : Nat
deriving DecidableEq, Repr

/-- A packet over UDP executed with RR at 1 (R327): its word 0, the CRC-32 of its words, and its reply once sent. -/
structure UdpSeen where
  ep : Endpoint
  w0 : Nat
  crc : Nat
  reply : Option (List Word)
deriving DecidableEq, Repr

/-- Words sent to an endpoint. -/
structure Sent where
  ep : Endpoint
  words : List Word
deriving DecidableEq, Repr

/-- A packet forwarded to a peer whose reply has not come (R331): the device, the origin endpoint and word 0. -/
structure Fwd where
  dev : Nat
  ep : Endpoint
  w0 : Nat
deriving DecidableEq, Repr

/-- T0's side of the packet transports: session slots, owed replies, repeats over UDP, replies waiting at the SPI port, replies
held for want of room (R325, R329), the latest reply sent, packets forwarded, the endpoints whose proof has failed, with the fabric
clock of the failure (R335), the packets that wait for a live handover (R498), the keys of the eight key slots in OTP (R334), and what the SPI
port sent last (R328), and whether a doorbell has rung that T0 has not yet answered (R325). -/
structure Talk where
  ses : List Ses
  owed : List Owed
  udp : List UdpSeen
  spi : List (List Word)
  held : List Sent
  last : Option Sent
  fwd : List Fwd
  barred : List (Endpoint × Nat)
  later : List Sent
  keys : List Nat
  spiOut : List Nat
  bell : Bool
deriving DecidableEq, Repr

end Sys2Proof.Machine
end

