-- ==== Sys2Proof/Machine/State.lean ====
section
/-! DEFINITION. The state of the block, its faults and refusals, and the state right after reset. -/

namespace Sys2Proof.Machine

/-- The device: every register of the address map (`regs`, one home for each, unlisted registers hold their reset
value), the live copies of the shadowed registers (`live`, R13), the staged low halves and the latched high halves of
register pairs (`stage`, `latch`, R10), the counter of free values taken (the model's own, log entry 1), the most trackers that each class
has held in each slice in this TG0 frame (`trk`, place 7 × slice + class; R368), the source and length of the image copy that runs for a customer target (`loads`; R304), and the state of each unit that is no
register. -/
structure Dev where
  regs : List (Nat × Reg)
  live : List (Nat × Reg)
  stage : List (Nat × Reg)
  latch : List (Nat × Reg)
  free : Nat
  btu : Btu
  trs : Trestle
  irqc : Irqc
  mem : Mem
  trk : List Nat
  reports : List Report
  flt : Flt
  cores : List (Nat × Core)
  loads : List (Nat × Nat × Nat)
  lmem : Lmem
  lcc : List Cluster
  dbg : Dbg
  outs : List Outp
  cams : List Cam
  rx : List RxRow
  rx0 : List RxRow
  tx : List TxRow
  prp : Prp
  pins : Pins
  wrn : List Wrn
  aud : Aud
  pwr : Pwr
  upd : Upd
  dma : Dma
  blt : Blt
  cfg : Cfg
  talk : Talk
deriving DecidableEq, Repr

/-- The block with the commands that wait for it, first in, first out. -/
structure State where
  dev : Dev
  pending : List Instr
deriving DecidableEq, Repr

/-- No command of this block stops it with a fault: every error the spec describes is reported in a register, a
reply or a status, and the block goes on. -/
inductive Fault where
deriving DecidableEq, Repr

/-- Why a command has no meaning. -/
inductive Refusal where
  /-- Raised by `exec` for a row that has no meaning yet. Safe: the machine stops where the hardware goes on. -/
  | notModelled (mnemonic : String)
deriving DecidableEq, Repr

/-- A cluster at reset: bank A active, nothing loaded, nothing due. -/
def Cluster.reset : Cluster where
  bank := 0
  load := none
  fresh := none
  lost := false
  progs := []
  queue := []
  closed := []
  tileTaken := none
  remap := none
  qNow := 0
  cycNow := 0
  bad := false
  dead := false

/-- A camera port at reset: nothing tracked, nothing landed. -/
def Cam.reset : Cam where
  track := []
  frame := 0
  count := 0
  landing := []
  ring := []
  fsNew := false
  warp := 0
  bound := none
  low := 0
  idle := 0
  margin := 0x7FFFFF
  owed := []

/-- An output at reset: dark, nothing committed, the tables at their reset contents. -/
def Outp.reset : Outp where
  st := 0
  offPending := false
  early := false
  line := 0
  frame := 0
  darkFrame := none
  liveFrom := 0
  prev := none
  armFlag := false
  ovl := false
  store := none
  sr := none
  srBlocked := false
  psr := 0
  psrGran := 1
  link := 0
  hand := none
  switched := false
  spr := []
  sprNew := none
  sprBuild := none
  lut := ⟨List.replicate 8 none, none, none⟩
  lutNew := []
  lutCopy := none
  fsBase := 0
  exBase := 0
  valid := []
  fx := []
  tileFrame := none
  sprFrame := none
  compFrame := none
  palFx := []
  alphaFx := []
  ins := []
  sprSel := []
  fifo := []
  sent := none
  binds := []
  ovfFrame := none
  pkSpr := 0
  pkCnt := 0
  pkComp := 0
  pkTile := List.replicate 16 0
  pkTileAll := 0
  sigs := List.replicate 64 ⟨0xFFFFFFFF, 0, 0, false, false, none, none, 0, false, false, false⟩
  sigEvFrame := none
  failing := []
  blDuty := 0
  blCtrl := 0
  blPhase := 0
  remAt := []
  keyed := none
  flip := false
  stepped := false
  stepEnd := 0
  deferred := false
  srAt := 0
  srNext := none
  camKey := []
  camOn := []
  forced := false
  spareLock := false
  degPipe := false
  degCore := false

/-- Right after power-on reset: every register at its reset value, nothing pending (log entry 2 names the values
that the spec does not state). -/
def Dev.reset : Dev where
  regs := []
  live := []
  stage := []
  latch := []
  free := 0
  btu := ⟨0, 0, 0, false, 0x1F, 0, 0, [false, false], [], 0, false, none, none, [], 0⟩
  trs := ⟨[], [], 0, [], [], [], 0⟩
  irqc := ⟨[[], [], []]⟩
  mem := ⟨[], [], [], [], [], none, true, [], [], false, none⟩
  trk := List.replicate 28 0
  reports := []
  flt := ⟨[], [], [], [], none, [], [], List.replicate 4 ⟨none, 0, [], []⟩⟩
  cores := []
  loads := []
  lmem := ⟨[], []⟩
  lcc := List.replicate 8 Cluster.reset
  dbg := ⟨[], ⟨[], 0⟩, ⟨[], 0⟩, [], []⟩
  outs := List.replicate 8 Outp.reset
  cams := List.replicate 8 Cam.reset
  rx := []
  rx0 := []
  tx := []
  prp := ⟨[], [], [], [], [], [], [], none⟩
  pins := ⟨0, [], 0, List.replicate 16 [], List.replicate 16 ⟨0, 0, 0, 0, 0⟩, [], [0, 0, 0, 0, 0, 0], none⟩
  aud := ⟨0, List.replicate 128 ⟨0, 0, 0, 0, 0, 0, 1, 0, 0, 0, none⟩,
    List.replicate 145 ⟨0, 0, 0, 0⟩ ++ List.replicate 2 ⟨1023 * 65536, 1023 * 65536, 0, 0⟩, [],
    List.replicate 16 ⟨[], List.replicate 10 [0x400000, 0, 0, 0, 0], [], List.replicate 10 ⟨0, 0, 0, 0⟩, List.replicate 10 ⟨0, 0, 0, 0⟩,
      [], 0⟩, [], List.replicate 8 ⟨0, 0⟩, [none, none], [], []⟩
  dma := ⟨List.replicate 32 ⟨0, 0, [], none, 0, 0, false, 0, false, 0, 0, false⟩, [31, 31, 31, 31]⟩
  blt := ⟨none, none⟩
  wrn := List.replicate 3 ⟨0, 0xFFF, [], none, (0, 0), 0xFFF, false, [], none, [], false, 0, true, none, [], [], [], [], false, [], 0⟩
  pwr := ⟨[], [], [], [], [], 0, 0, [], []⟩
  upd := ⟨[[], []], [⟨3, [], 0, 0⟩, ⟨3, [], 0, 0⟩], none, false, false, none, Config.otpKey⟩
  cfg := ⟨[[], []], 0, none, [], [], false, [], [], [], [], [], [], [], [], []⟩
  talk := ⟨List.replicate 8 ⟨none, [], 0⟩, [], [], [], [], none, [], [], [], List.replicate 8 0, [], false⟩

def State.reset : State := ⟨Dev.reset, []⟩

end Sys2Proof.Machine
end

