-- ==== Sys2Proof/Machine/Ops.lean ====
section
/-! DEFINITION. The named operations every meaning is built from: registers and their fields, free values, interrupt
sources, event lines, beam time and the scan position, piers. -/

namespace Sys2Proof.Machine

/-! ### Registers -/

/-- Where an offset from a row's first register falls: the innermost index, or nothing when no register of the
row stands there. -/
def dimsHit : List (Nat × Nat) → Nat → Option Nat
  | [], r => if r = 0 then some 0 else none
  | [(c, st)], r => if r % st = 0 ∧ r / st < c then some (r / st) else none
  | (c, st) :: t, r => if r / st < c then dimsHit t (r % st) else none

/-- The row among `rows` whose registers include offset `off`, with the innermost index. -/
def findRow (rows : List RegRow) (off : Nat) : Option (RegRow × Nat) :=
  match rows with
  | [] => none
  | r :: t =>
    if r.off ≤ off then
      match dimsHit r.dims (off - r.off) with
      | some i => some (r, i)
      | none => findRow t off
    else findRow t off

/-- The block number of a register address (R565). -/
def blockOf (a : Nat) : Nat := (a - 0x100000000) / 0x10000

/-- Is `a` in the range of the register blocks (R562)? -/
def isRegAddr (a : Nat) : Bool := decide (0x100000000 ≤ a ∧ a ≤ 0x100FFFFFF)

/-- The register row of a word address; none where no register stands (R563). -/
def rowOf (a : Nat) : Option (RegRow × Nat) :=
  if isRegAddr a then findRow (rowsOfBlock (blockOf a)) ((a - 0x100000000) % 0x10000) else none

/-- The value of the first pair with key `k`. -/
def assocGet {V : Type} (l : List (Nat × V)) (k : Nat) : Option V :=
  match l with
  | [] => none
  | (b, v) :: t => if k = b then some v else assocGet t k

/-- The reset value of the register at `a` (R12). -/
def resetOf (a : Nat) : Reg :=
  match rowOf a with
  | none => 0
  | some (r, i) =>
    match assocGet r.alt i with
    | some v => BitVec.ofNat 24 v
    | none =>
      match assocGet r.altBlk (blockOf a - r.blk) with
      | some v => BitVec.ofNat 24 v
      | none => BitVec.ofNat 24 r.reset

/-- What the register at `a` holds. -/
def Dev.rd (d : Dev) (a : Nat) : Nat := (spGet resetOf d.regs a).toNat

/-- The device with `v` in the register at `a`, as the hardware writes it. -/
def Dev.wr (d : Dev) (a v : Nat) : Dev := { d with regs := spSet resetOf d.regs a (BitVec.ofNat 24 v) }

/-- A field of the register at `a`. -/
def Dev.fld (d : Dev) (a : Nat) (f : Fld) : Nat := natBits (d.rd a) f.lo f.w

/-- A one-bit field of the register at `a`. -/
def Dev.flag (d : Dev) (a : Nat) (f : Fld) : Bool := d.fld a f == 1

/-- The device with `v` in a field of the register at `a`. -/
def Dev.setFld (d : Dev) (a : Nat) (f : Fld) (v : Nat) : Dev := d.wr a (natSetBits (d.rd a) f.lo f.w v)

/-- A field of the live copy of the shadowed register at `a` (R13). -/
def Dev.lv (d : Dev) (a : Nat) (f : Fld) : Nat := natBits (spGet resetOf d.live a).toNat f.lo f.w

/-- The whole live copy of the shadowed register at `a`. -/
def Dev.lrd (d : Dev) (a : Nat) : Nat := (spGet resetOf d.live a).toNat

/-- The device with `v` in the live copy of the register at `a`. -/
def Dev.lwr (d : Dev) (a v : Nat) : Dev := { d with live := spSet resetOf d.live a (BitVec.ofNat 24 v) }

/-- `n` hardware steps of a CT field, which saturates at its all-ones value (R14). -/
def Dev.bumpBy (d : Dev) (a : Nat) (f : Fld) (n : Nat) : Dev :=
  d.setFld a f (min (d.fld a f + n) (2 ^ f.w - 1))

/-- One hardware step of a CT field (R13, R14). -/
def Dev.bump (d : Dev) (a : Nat) (f : Fld) : Dev := d.bumpBy a f 1

/-- A register that keeps the highest value seen. -/
def Dev.peak (d : Dev) (a : Nat) (f : Fld) (v : Nat) : Dev :=
  if d.fld a f < v then d.setFld a f (min v (2 ^ f.w - 1)) else d

/-- `f` applied when `b` holds. -/
def Dev.when (d : Dev) (b : Bool) (f : Dev → Dev) : Dev := if b then f d else d

/-- Signed reading of a 24-bit register content. -/
def sgn24 (x : Nat) : Int := natToInt 24 x

/-! ### Free values (log entry 1) -/

/-- The next free number, and the device that has taken it. -/
def Dev.takeNat (d : Dev) : Nat × Dev := (Config.freeNat d.free, { d with free := d.free + 1 })

/-- The next free word, and the device that has taken it. -/
def Dev.takeWord (d : Dev) : Word × Dev := (Config.freeWord d.free, { d with free := d.free + 1 })

/-- The next free choice, and the device that has taken it. -/
def Dev.takeBool (d : Dev) : Bool × Dev := (Config.freeBool d.free, { d with free := d.free + 1 })

/-! ### Interrupt sources (R309 to R315) -/

/-- The interrupt source of the unit that holds the register at `a`; 0 where it has none, or where the unit's
chapter gives it an enable and the unit raises it itself (R309). -/
def irqOfAddr (a : Nat) : Nat :=
  let n := blockOf a
  if 0x40 ≤ n ∧ n ≤ 0x48 then 257 + (n - 0x40)
  else if 0x50 ≤ n ∧ n ≤ 0x57 then 266 + (n - 0x50)
  else if 0x60 ≤ n ∧ n ≤ 0x67 then 274 + (n - 0x60)
  else if 0x30 ≤ n ∧ n ≤ 0x37 then 282 + (n - 0x30)
  else if n = 0x00 then 290
  else if n = 0x01 then 291
  else if n = 0x05 then 292
  else if n = 0x04 then 293
  else if n = 0x03 then (if rMEM_DDR_CFG ≤ a then 295 else 294)
  else if n = 0x0D then 296
  else if n = 0x0E then 297
  else if n = 0x0F then 298
  else if 0x10 ≤ n ∧ n ≤ 0x12 then 299 + (n - 0x10)
  else if n = 0x08 then 302
  else if n = 0x06 ∨ n = 0x07 then 305
  else 0

/-- The running priority of target `t`. -/
def Dev.irqRunning (d : Dev) (t : Nat) : Nat := d.fld (rIRQC_T_RUN t) fIRQC_T_RUN_PRI

/-- The pending sources, as (number, register content), in ascending number. -/
def Dev.irqPending (d : Dev) : List (Nat × Nat) :=
  (d.regs.filter (fun p => decide (rIRQC_SRC 1 ≤ p.1 ∧ p.1 ≤ rIRQC_SRC 510) && natBit p.2.toNat 16)).map
    (fun p => (p.1 - rIRQC_SRC 1 + 1, p.2.toNat))

/-- Is T1 paired, so that T2 is absent (R299)? -/
def Dev.paired (d : Dev) : Bool := d.flag (rSEC_T_CTRL 1) fSEC_T_CTRL_PAIR

/-- The sources eligible for target `t` (R311); none for T2 while T1 is paired (R299). -/
def Dev.irqEligible (d : Dev) (t : Nat) : List (Nat × Nat) :=
  if t = 2 ∧ d.paired then []
  else d.irqPending.filter (fun p => natBit p.2 (8 + t) && decide (d.irqRunning t < natBits p.2 0 4))

/-- The priority stack of target `t`. -/
def Dev.irqStack (d : Dev) (t : Nat) : List Nat := d.irqc.rows.getD t []

/-- The request line of target `t` (R311). -/
def Dev.irqReq (d : Dev) (t : Nat) : Bool :=
  decide ((d.irqStack t).length < 8) && !(d.irqEligible t).isEmpty

/-- The request line, its SEEN latch and STACK_FULL of target `t` brought up to date (R311, R313, R314). -/
def Dev.irqSettle1 (d : Dev) (t : Nat) : Dev :=
  let el := !(d.irqEligible t).isEmpty
  let full := decide (8 ≤ (d.irqStack t).length)
  let req := el && !full
  let d := d.setFld (rIRQC_T_STATUS t) fIRQC_T_STATUS_REQ req.toNat
  let d := d.when req (·.setFld (rIRQC_T_STATUS t) fIRQC_T_STATUS_SEEN 1)
  d.when (el && full) (·.setFld (rIRQC_T_STATUS t) fIRQC_T_STATUS_STACK_FULL 1)

/-- The three request lines brought up to date. -/
def Dev.irqSettle (d : Dev) : Dev := ((d.irqSettle1 0).irqSettle1 1).irqSettle1 2

/-- The pending bit of source `src` set, or the raise coalesced and counted (R310). 0 and 511 name no source. -/
def Dev.irqRaise (d : Dev) (src : Nat) : Dev :=
  if src = 0 ∨ 510 < src then d
  else if d.flag (rIRQC_SRC src) fIRQC_SRC_PEND then d.bump rIRQC_COAL_CNT fIRQC_COAL_CNT_COUNT
  else (d.setFld (rIRQC_SRC src) fIRQC_SRC_PEND 1).irqSettle

/-- The pending bit of source `src` cleared. -/
def Dev.irqClear (d : Dev) (src : Nat) : Dev := (d.setFld (rIRQC_SRC src) fIRQC_SRC_PEND 0).irqSettle

/-- Target `t`'s stack emptied, its running priority 0 and SEEN clear (R315). -/
def Dev.irqTargetReset (d : Dev) (t : Nat) : Dev :=
  let d := { d with irqc := { rows := d.irqc.rows.set t [] } }
  let d := d.wr (rIRQC_T_RUN t) 0
  (d.setFld (rIRQC_T_STATUS t) fIRQC_T_STATUS_SEEN 0).irqSettle

/-- A W1C flag set by hardware, with the interrupt source of its unit raised (R13, R309). -/
def Dev.raise (d : Dev) (a : Nat) (f : Fld) : Dev := (d.setFld a f 1).irqRaise (irqOfAddr a)

/-! ### Event lines (R79) -/

/-- An event line raised: its latch is set, or the raise is coalesced and counted (R79). -/
def Dev.evRaise (d : Dev) (line : Nat) : Dev :=
  let a := rTRS_EV_LATCH (line / 24)
  if 255 < line then d
  else if natBit (d.rd a) (line % 24) then
    (d.bump rTRS_EV_COAL_CNT fTRS_EV_COAL_CNT_COUNT).raise rTRS_STATUS fTRS_STATUS_COALESCE
  else d.wr a (d.rd a + 2 ^ (line % 24))

/-- The event line of a field raised when the enable field is 1. -/
def Dev.evIf (d : Dev) (a : Nat) (en ev : Fld) : Dev := d.when (d.flag a en) (·.evRaise (d.fld a ev))

/-! ### Beam time (R37 to R44) -/

/-- The frame rate in Hz of a rate code (R40); reserved codes have none. -/
def rateHz (code : Nat) : Option Nat := [24, 25, 30, 48, 50, 60, 75, 80, 96, 100, 120][code]?

/-- The rate code of timing group `g`. -/
def Dev.rateCode (d : Dev) (g : Nat) : Nat := natBits (d.rd rBTU_RATE) (4 * g) 4

/-- The frame rate in Hz of timing group `g`. -/
def Dev.groupHz (d : Dev) (g : Nat) : Nat := (rateHz (d.rateCode g)).getD 60

/-- BT, 48 bits (R37). -/
def Dev.bt (d : Dev) : Nat := d.btu.e % 2 ^ 48

/-- The group beam time GBTg (R42). -/
def Dev.gbt (d : Dev) (g : Nat) : Nat := (d.btu.e * d.groupHz g / d.groupHz 0) % 2 ^ 48

/-- Is `a` later than or equal to `b`, as beam times are ordered (R39)? -/
def btGe (a b : Nat) : Bool := decide ((a + 2 ^ 48 - b % 2 ^ 48) % 2 ^ 48 < 2 ^ 47)

/-- The timing group of output `n`. -/
def Dev.outTg (d : Dev) (n : Nat) : Nat := natBits (d.rd rBTU_OUT_MAP) (2 * n) 2

/-- Is output `n` marked ×2? -/
def Dev.outX2 (d : Dev) (n : Nat) : Bool := natBit (d.rd rBTU_OUT_MAP) (16 + n)

/-- The frame rate of output `n` in Hz (R41). -/
def Dev.outHz (d : Dev) (n : Nat) : Nat := d.groupHz (d.outTg n) * (if d.outX2 n then 2 else 1)

/-- The mode of output `n`. -/
def Dev.outMode (d : Dev) (n : Nat) : Option Mode := modeOf (d.fld (rOUT_CTRL n) fOUT_CTRL_MODE)

/-- Is output `n` lit (R227)? -/
def Dev.lit (d : Dev) (n : Nat) : Bool := d.flag (rOUT_STATUS n) fOUT_STATUS_LIT

/-- The outputs that are lit. -/
def Dev.litOuts (d : Dev) : List Nat := (List.range 8).filter d.lit

/-- The output phase p′ of output `n` (R44). -/
def Dev.outPhase (d : Dev) (n : Nat) : Nat :=
  let p := d.gbt (d.outTg n) % 2 ^ 24
  if d.outX2 n then 2 * p % 2 ^ 24 else p

/-- Line and dot at output phase `p'` in mode `m` (R44). -/
def posOf (m : Mode) (p' : Nat) : Nat × Nat :=
  (p' * m.v / 2 ^ 24, (p' * m.v) % 2 ^ 24 * m.h / 2 ^ 24)

/-- The output frame number that R44 gives at the present beam time. -/
def Dev.outFrame44 (d : Dev) (n : Nat) : Nat :=
  let g := d.gbt (d.outTg n)
  if d.outX2 n then (2 * (g / 2 ^ 24) + 2 * (g % 2 ^ 24) / 2 ^ 24) % 2 ^ 24 else g / 2 ^ 24

/-- Has BT started (R477)? It is held at 0 until the oscillator wait has ended. -/
def Dev.btRuns (d : Dev) : Bool := decide (2 ≤ d.pwr.stage)

/-- The beam time moved on to `e'`, never back and never past the end of the TG0 frame: that wrap is the step
BT_FRAME_BOUNDARY (R37, R38; log entry 4). -/
def Dev.advanceTo (d : Dev) (e' : Nat) : Dev :=
  let lim := (d.btu.e / 2 ^ 24 + 1) * 2 ^ 24 - 1
  if d.btRuns then { d with btu := { d.btu with e := max d.btu.e (min e' lim) } } else d

/-! ### Where an output stands -/

/-- The ceiling of `a / b`. -/
def cdiv (a b : Nat) : Nat := (a + b - 1) / b

def Dev.outp (d : Dev) (n : Nat) : Outp := d.outs.getD n Outp.reset
def Dev.setOutp (d : Dev) (n : Nat) (o : Outp) : Dev := { d with outs := d.outs.set n o }
def Dev.modOutp (d : Dev) (n : Nat) (f : Outp → Outp) : Dev := d.setOutp n (f (d.outp n))

/-- The mode of output `n`, or the first mode where its code names none. -/
def Dev.mode (d : Dev) (n : Nat) : Mode := (d.outMode n).getD ((modeOf 0).getD ⟨1, 0, 0, 0, 1, 1, 0, 0, 0, 1, false, false⟩)

/-- The group beam time at which line `l` of output frame `f` begins to scan (R44, R134). Output frames of a ×2 output do not tell the
highest bit of the group frame: the one that is nearer to the present is meant. -/
def Dev.lineGbt (d : Dev) (n l f : Nat) : Nat :=
  let v := (d.mode n).v
  if d.outX2 n then
    let near := f / 2
    let gap := (near + 2 ^ 24 - d.gbt (d.outTg n) / 2 ^ 24) % 2 ^ 24
    let g := if 2 ^ 22 ≤ gap ∧ gap < 3 * 2 ^ 22 then near + 2 ^ 23 else near
    (g * 2 ^ 24 + f % 2 * 2 ^ 23 + cdiv (l * 2 ^ 24) (2 * v)) % 2 ^ 48
  else (f * 2 ^ 24 + cdiv (l * 2 ^ 24) v) % 2 ^ 48

/-- The extended count at which group beam time has gone `k` units on from the present. -/
def Dev.eOfGbt (d : Dev) (g k : Nat) : Nat :=
  cdiv ((d.btu.e * d.groupHz g / d.groupHz 0 + k) * d.groupHz 0) (d.groupHz g)

/-- The line and frame `k` lines ahead of line `s` of frame `f`. -/
def Dev.ahead (d : Dev) (n s f k : Nat) : Nat × Nat :=
  let v := (d.mode n).v
  if s + k < v then (s + k, f) else (s + k - v, (f + 1) % 2 ^ 24)

/-- The extended count at which output `n` ends the line that it scans: the present one where that time has passed. -/
def Dev.lineEnd (d : Dev) (n : Nat) : Nat :=
  let o := d.outp n
  if o.stepped then o.stepEnd
  else
    let (l, f) := d.ahead n o.line o.frame 1
    let k := (d.lineGbt n l f + 2 ^ 48 - d.gbt (d.outTg n)) % 2 ^ 48
    if k < 2 ^ 47 then d.eOfGbt (d.outTg n) k else d.btu.e

/-- The moment: the fabric clock and the extended count. Commands at one moment meet in one clock. -/
def Dev.now (d : Dev) : Nat := d.btu.clocks * 2 ^ 64 + d.btu.e

/-! ### Piers (R19, R457) -/

/-- The state of pier `p`: 0 ON, 1 DOZE, 2 NAP, 3 OFF (R457). -/
def Dev.pier (d : Dev) (p : Nat) : Nat := d.fld (rPMU_PIER_STATUS p) fPMU_PIER_STATUS_STATE

/-- Does pier `p` only show the state that the sequencer chose, sleep being emulated (R538)? -/
def Dev.emu (d : Dev) (p : Nat) : Bool := d.flag (rPMU_PIER_STATUS p) fPMU_PIER_STATUS_EMU

/-- Is pier `p` ON, as far as its units go? -/
def Dev.awake (d : Dev) (p : Nat) : Bool := d.pier p == 0 || d.emu p

/-- Is pier `p` held OFF and OFF (R462)? -/
def Dev.pierHeldOff (d : Dev) (p : Nat) : Bool :=
  d.pier p == 3 && d.fld (rPMU_PIER_CTRL p) fPMU_PIER_CTRL_HOLD == 2

/-- The pipe that serves output `n` (R211). -/
def Dev.pipeOf (d : Dev) (n : Nat) : Nat := d.fld (rOUT_PIPE n) fOUT_PIPE_PIPE

/-- The pier of the pipe that serves output `n` (R20). -/
def Dev.outPier (d : Dev) (n : Nat) : Nat := 5 + d.pipeOf n

/-- The pier of block `n` (R19, R20, R570). -/
def Dev.pierOfBlock (d : Dev) (n : Nat) : Nat :=
  if n = 0x00 ∨ n = 0x01 ∨ n = 0x02 ∨ n = 0x03 then 39
  else if n = 0x04 ∨ n = 0x06 ∨ n = 0x07 then 0
  else if n = 0x05 then 1
  else if n = 0x08 then 33
  else if 0x09 ≤ n ∧ n ≤ 0x0C then 2
  else if n = 0x0D ∨ n = 0x0E then 29
  else if n = 0x0F then 28
  else if 0x10 ≤ n ∧ n ≤ 0x12 then 30 + (n - 0x10)
  else if 0x14 ≤ n ∧ n ≤ 0x29 then 38
  else if 0x30 ≤ n ∧ n ≤ 0x33 then 26
  else if 0x34 ≤ n ∧ n ≤ 0x37 then 27
  else if 0x40 ≤ n ∧ n ≤ 0x48 then 5 + (n - 0x40)
  else if 0x50 ≤ n ∧ n ≤ 0x57 then d.outPier (n - 0x50)
  else if 0x60 ≤ n ∧ n ≤ 0x67 then 14 + (n - 0x60)
  else 39

/-- The piers that change state together with pier `p`: the memory spans are always in one common state (R461). -/
def withPier (p : Nat) : List Nat := if 22 ≤ p ∧ p ≤ 25 then [22, 23, 24, 25] else [p]

/-- A demand wake of pier `p` (R459): an arrival finds the pier not ON and waits until it is; an entry that has begun is abandoned. A
wake from NAP or OFF is counted. A pier held OFF is not woken. The pier then lingers ON (R464). -/
def Dev.wake (d : Dev) (p : Nat) : Dev :=
  if d.pier p = 0 then
    if d.pwr.entering.any (·.1 == p) then
      { d with pwr := { d.pwr with entering := d.pwr.entering.filter (fun e => !(withPier p).contains e.1), linger := p :: d.pwr.linger.filter (· != p) } }
    else d
  else if d.pierHeldOff p then d
  else
    let deep := decide (2 ≤ d.pier p)
    let d := d.wr (rPMU_PIER_STATUS p) (natSetBits (d.rd (rPMU_PIER_STATUS p)) 20 4 0)
    let d := { d with pwr := { d.pwr with
      entering := d.pwr.entering.filter (fun e => !(withPier p).contains e.1), waking := d.pwr.waking.filter (· != p), linger := p :: d.pwr.linger.filter (· != p) } }
    d.when deep (fun d => (d.bump rPMU_DEMAND_CNT fPMU_DEMAND_CNT_COUNT).raise rPMU_STATUS fPMU_STATUS_DEMAND)

/-- Pier `p` is ON at once: nothing is entered or woken (R475). -/
def Dev.pierUp (d : Dev) (p : Nat) : Dev :=
  { d.wr (rPMU_PIER_STATUS p) (natSetBits (d.rd (rPMU_PIER_STATUS p)) 20 4 0) with pwr := { d.pwr with
    entering := d.pwr.entering.filter (·.1 != p), waking := d.pwr.waking.filter (· != p) } }

/-- A reset of pier `p` runs for a free time of at most `us` µs (R475). -/
def Dev.resetRuns (d : Dev) (p us : Nat) : Dev :=
  let (k, d) := d.takeNat
  { d with pwr := { d.pwr with resets := (p, d.btu.clocks + k % (1000 * us + 1)) :: d.pwr.resets.filter (·.1 != p) } }

/-- Does a reset of pier `p` run? -/
def Dev.resetting (d : Dev) (p : Nat) : Bool := d.pwr.resets.any (fun x => x.1 == p && decide (d.btu.clocks < x.2))

/-- Does pier `p` turn a packet away: held OFF (R462), or being reset (R343)? -/
def Dev.pierShut (d : Dev) (p : Nat) : Bool := d.pierHeldOff p || d.resetting p

/-! ### Device state and clock branches (R465, R473) -/

/-- Is output frame `a` before `b`, modulo 2^24 (R39, R44)? -/
def frameBefore (a b : Nat) : Bool :=
  let k := (b + 2 ^ 24 - a % 2 ^ 24) % 2 ^ 24
  decide (0 < k ∧ k < 2 ^ 23)

/-- Is any session attached? -/
def Dev.anyAttached (d : Dev) : Bool := d.fld rDBG_STATUS fDBG_STATUS_ATTACHED != 0 || !d.dbg.proxies.isEmpty

/-- Is output `n` lit with SR_STATE not 2? -/
def Dev.scans (d : Dev) (n : Nat) : Bool := d.lit n && d.fld (rOUT_SR_STATUS n) fOUT_SR_STATUS_SR_STATE != 2

/-- Every pier other than PIER00 and PIER01 is NAP or OFF. -/
def Dev.parked (d : Dev) : Bool := (List.range 40).all (fun p => decide (p ≤ 1) || decide (2 ≤ d.pier p))

/-- Does output `n` compose? -/
def Dev.composes (d : Dev) (n : Nat) : Bool :=
  d.scans n && !(match (d.outp n).store with | some (f, _) => f == (d.outp n).frame || frameBefore f (d.outp n).frame | none => false)

/-- DSTATE: 0 RUN, 1 QUIET, 2 PARK. -/
def Dev.dstate (d : Dev) : Nat := if d.parked then 2 else if (List.range 8).any d.composes then 0 else 1

/-- Do the enables of branch `b` gate it in the present DSTATE (R473)? While a session is attached, those of the stewards and line cores do not
(R538). -/
def Dev.branchOff (d : Dev) (b : Nat) : Bool :=
  let en := d.rd (rCKG_BR b) % 8
  en != 7 && b != 1 && b != 2 && b != 31 && !natBit en d.dstate && !(d.anyAttached && decide (12 ≤ b ∧ b ≤ 22))

/-- Is branch `b` gated now (R473): by its enables, or a COMP branch whose output is sent from its store or by its panel? An access has it open
for 64 fabric clocks. -/
def Dev.gated (d : Dev) (b : Nat) : Bool :=
  let idle := decide (3 ≤ b ∧ b ≤ 11) && (List.range 8).any (fun n => d.lit n && d.pipeOf n == b - 3 && !d.composes n)
  (d.branchOff b || idle) && !d.pwr.opened.any (fun p => p.1 == b && decide (d.btu.clocks ≤ p.2))

/-- An access reaches a unit on branch `b`: a gated branch opens for it (R473). -/
def Dev.gateOpen (d : Dev) (b : Nat) : Dev :=
  if d.gated b then
    { d with pwr := { d.pwr with opened := (b, d.btu.clocks + 64) :: d.pwr.opened.filter (·.1 != b) } }.raise rCKG_STATUS fCKG_STATUS_GATED_HIT
  else d

/-- What a unit on branch `b` does of its own while its clock runs: nothing where the branch is gated (R473). -/
def Dev.clocked (d : Dev) (b : Nat) (f : Dev → Dev) : Dev := if d.gated b then d else f d

/-- LPDDR5X is reached (R459, R473). -/
def Dev.wakeDdr (d : Dev) : Dev := (d.wake 35).gateOpen 28

/-- The four memory spans and the fabric woken together (R459, R461), their branch opened (R473). Spans that return from OFF are zeroed first
(R374). -/
def Dev.wakeMain (d : Dev) : Dev :=
  let d := (d.wake 39).gateOpen 0
  if d.pier 22 = 0 then d.wake 22
  else
    let lost := d.pier 22 == 3 && !d.emu 22
    let d := d.wake 22
    if d.pier 22 = 0 then
      let d := [23, 24, 25].foldl (fun d p => d.wr (rPMU_PIER_STATUS p) (natSetBits (d.rd (rPMU_PIER_STATUS p)) 21 3 0)) d
      d.when lost (fun d => d.wr rMEM_STATUS (natSetBits (d.rd rMEM_STATUS) 20 4 15))
    else d

/-! ### Lines that follow other state -/

/-- PRP_STATUS.ATTN brought up to date (R257). -/
def Dev.prpAttn (d : Dev) : Dev :=
  let on := (d.rd rPRP_STATUS % 64) &&& (d.rd rPRP_ATTN_MASK % 64) != 0
  d.setFld rPRP_STATUS fPRP_STATUS_ATTN on.toNat

/-- The session slots in state `v`, as a mask. -/
def Dev.slotsIn (d : Dev) (v : Nat) : Nat :=
  (List.range 8).foldl (fun m s => if d.fld (rSEC_SES s) fSEC_SES_STATE = v then m + 2 ^ s else m) 0

/-- OPEN and CHALLENGED of SEC_STATUS brought up to date. -/
def Dev.slotsShow (d : Dev) : Dev :=
  d.wr rSEC_STATUS (natSetBits (natSetBits (d.rd rSEC_STATUS) 16 8 (d.slotsIn 2)) 8 8 (d.slotsIn 1))

/-- The lines that follow other state, brought up to date after every command: the three interrupt requests (R311), the parapet's
attention (R257) and the slots that SEC_STATUS shows (R335). -/
def Dev.settle (d : Dev) : Dev := d.irqSettle.prpAttn.slotsShow

/-! ### Meanings -/

/-- The outcome of a command whose effect on the device is `f`: the queue is left alone, and the lines that follow other state settle. -/
def State.upd (s : State) (f : Dev → Dev) : Host.Outcome State Fault Refusal :=
  .next { s with dev := (f s.dev).settle }

end Sys2Proof.Machine
end

