-- ==== Sys2Proof/Machine/Btu.lean ====
section
/-! DEFINITION. The beam time unit (chapter 2): reference sources, holdover, switches, steps and slew. -/

namespace Sys2Proof.Machine

/-- A source code of R47, with reserved codes treated as 0x00 (none). -/
def srcNorm (c : Nat) : Nat :=
  if c = 1 ∨ c = 2 ∨ (8 ≤ c ∧ c ≤ 0xF) ∨ (0x10 ≤ c ∧ c ≤ 0x12) ∨ c = 0x1F then c else 0

/-- The four entries of a source list value, SRC0 first (R50). -/
def srcEntries (list : Nat) : List Nat := [0, 5, 10, 15].map (fun k => srcNorm (natBits list k 5))

/-- The entries that may be used: those after a crystal entry never are (R50). -/
def srcUsable (list : Nat) : List Nat :=
  let es := srcEntries list
  es.take ((es.takeWhile (fun c => c != 0x1F)).length + 1)

/-- What is known of a source: nothing yet. -/
def SrcQ.fresh (code : Nat) : SrcQ := ⟨code, false, 0, false, 0, 0, 0, 0, false⟩

/-- What the BTU knows of source `code`. -/
def Btu.src (b : Btu) (code : Nat) : SrcQ := (b.q.find? (fun x => x.code == code)).getD (SrcQ.fresh code)

/-- The BTU with `x` as what it knows of its source. -/
def Btu.setSrc (b : Btu) (x : SrcQ) : Btu := { b with q := x :: b.q.filter (fun y => y.code != x.code) }

/-- Is a source qualified (R48)? The crystal always is. -/
def Btu.qualified (b : Btu) (code : Nat) : Bool := code == 0x1F || (code != 0 && (b.src code).qual)

/-- The highest-priority qualified entry, or the crystal (R50). -/
def Btu.best (b : Btu) : Nat := ((srcUsable b.list).find? b.qualified).getD 0x1F

/-- The source in use. -/
def Dev.btuActive (d : Dev) : Nat := d.fld rBTU_STATUS fBTU_STATUS_ACTIVE_SRC

/-- The BTU's state: 0 START, 1 LOCKED, 2 HOLDOVER, 3 FREERUN. -/
def Dev.btuState (d : Dev) : Nat := d.fld rBTU_STATUS fBTU_STATUS_STATE

/-- BTU_STATUS.QUAL brought up to date (R48). -/
def Dev.btuShowQual (d : Dev) : Dev :=
  let bits := (srcEntries d.btu.list).map d.btu.qualified
  let v := (bits.zip [1, 2, 4, 8]).foldl (fun n p => if p.1 then n + p.2 else n) 0
  d.setFld rBTU_STATUS fBTU_STATUS_QUAL v

/-- The largest total line count among lit outputs; 0 when none is lit (R57). -/
def Dev.vmax (d : Dev) : Nat := d.litOuts.foldl (fun m n => max m ((d.outMode n).elim 0 Mode.v)) 0

/-- The slew limit for a largest line count (R57). -/
def Dev.slewLimit (d : Dev) : Nat :=
  if d.vmax = 0 then 0
  else
    let lim := 2 ^ 24 / (64 * d.vmax)
    let cap := d.fld rBTU_SLEW fBTU_SLEW_SLEW_CAP
    if cap ≠ 0 ∧ cap < lim then cap else lim

/-- SLEW_NOW as outputs light and go dark: 0 while none is lit; during a slew it stands until the next frame boundary (R57, R61). -/
def Dev.slewShow (d : Dev) : Dev :=
  if d.litOuts.isEmpty || !d.flag rBTU_STATUS fBTU_STATUS_SLEWING then d.setFld rBTU_SLEW fBTU_SLEW_SLEW_NOW d.slewLimit else d

/-- A phase error brought into −2^23 to 2^23 − 1 (R56). -/
def phaseErr (x : Int) : Int := natToInt 24 (intToNat 24 x)

/-- The error of a source against BT as last measured, frames included; 0 when nothing was measured. -/
def Btu.ofsOf (b : Btu) (code : Nat) : Int := (assocGet b.ofs code).getD 0

/-- The BTU with the measured error of a source. -/
def Btu.setOfs (b : Btu) (code : Nat) (x : Int) : Btu :=
  { b with ofs := (code, x) :: b.ofs.filter (fun p => p.1 != code) }

/-- Every measured error after BT itself has moved on by `n` units. -/
def Btu.shiftOfs (b : Btu) (n : Int) : Btu := { b with ofs := b.ofs.map (fun p => (p.1, p.2 - n)) }

/-- Does source `code` carry frame numbers (R58)? -/
def srcHasFrames (code : Nat) : Bool := code == 1 || code == 2 || (0x10 ≤ code && code ≤ 0x12)

/-- The phase units that the slew adds to the running TG0 frame, or removes from it (R57); none while the fabric sleeps (R469). -/
def Dev.btuSlew (d : Dev) : Int :=
  let err := sgn24 (d.rd rBTU_PHASE_ERR)
  let n : Int := if d.awake 39 then min (d.fld rBTU_SLEW fBTU_SLEW_SLEW_NOW) err.natAbs else 0
  if 0 < err then n else -n

/-- What the slew has added so far in the running TG0 frame, over which it is spread evenly (R57). -/
def Dev.btuSlewPart (d : Dev) : Int := d.btuSlew * ((d.btu.e % 2 ^ 24 : Nat) : Int) / ((2 ^ 24 : Nat) : Int)

/-- The extended count without what slews have added: what the source's frequency alone makes of it (R57). -/
def Dev.btuUnslewed (d : Dev) : Int := (d.btu.e : Int) - (d.btu.slewed + d.btuSlewPart)

/-- BTU_FRAME_OFS: the source's frame number now, minus BT's (R58). -/
def Dev.frameOfs (d : Dev) : Nat :=
  let c := d.btuActive
  if srcHasFrames c then
    let src := ((d.btu.e : Int) + d.btu.ofsOf c - d.btuSlewPart) / ((2 ^ 24 : Nat) : Int)
    intToNat 24 (src - ((d.btu.e / 2 ^ 24 : Nat) : Int))
  else 0

/-- The extended count moved by `n` units in one clock, BT with it (R42, R56). Every lit output ends the line it is scanning and then takes its next line
from R44 (R571).
The intervals of a source are times (R48), so a step of BT lengthens none. -/
def Dev.btuStepBy (d : Dev) (n : Int) : Dev :=
  { d with
    btu := { (d.btu.shiftOfs n) with
      e := intToNat 64 ((d.btu.e : Int) + n)
      q := d.btu.q.map (fun x => { x with lastE := x.lastE + n }) }
    outs := ((List.range d.outs.length).zip d.outs).map (fun p =>
      if p.2.st = 3 then { p.2 with stepped := true, stepEnd := intToNat 64 ((d.lineEnd p.1 : Int) + n) } else p.2) }

/-- A positive or negative phase error removed by a step that never moves BT back (R56). -/
def Dev.btuStep (d : Dev) (err : Int) : Dev :=
  if err = 0 then d
  else
    ((d.btuStepBy (if 0 < err then err else 2 ^ 24 + err)).raise rBTU_STATUS fBTU_STATUS_STEPPED)

/-- The step taken with no output lit from a source that lies `full` units ahead, frames included, its phase `err` units ahead: the
frame number is taken too where the source carries one and BT so comes later, and the extended count with it (R42, R58). -/
def Dev.btuDarkStep (d : Dev) (code : Nat) (full err : Int) : Dev :=
  let ahead := intToNat 48 full
  if srcHasFrames code && decide (0 < ahead ∧ ahead < 2 ^ 47) then (d.btuStepBy full).raise rBTU_STATUS fBTU_STATUS_STEPPED
  else d.btuStep err

/-- The phase error of a newly used or resumed source dealt with: stepped when no output is lit, or when STEP_FIRST
allows it for the first source since reset, and slewed otherwise (R56, R57, R58). -/
def Dev.btuTakeError (d : Dev) (code : Nat) (first : Bool) : Dev :=
  let full := if code = 0x1F then 0 else d.btu.ofsOf code
  let err := phaseErr full
  let dark := d.litOuts.isEmpty
  if dark || (first && d.flag rBTU_CTRL fBTU_CTRL_STEP_FIRST) then
    let d := if dark then d.btuDarkStep code full err else d.btuStep err
    (d.wr rBTU_PHASE_ERR 0).setFld rBTU_STATUS fBTU_STATUS_SLEWING 0
  else
    (d.wr rBTU_PHASE_ERR (intToNat 24 err)).setFld rBTU_STATUS fBTU_STATUS_SLEWING (if err = 0 then 0 else 1)

/-- The frequency correction of a source taken up at once, within ±250 ppm (R49, R57). -/
def Dev.btuTakeFreq (d : Dev) (code : Nat) : Dev :=
  if code = 0x1F then d
  else d.wr rBTU_FREQ_CORR (intToNat 24 (max (-8000000) (min 8000000 (d.btu.src code).freq)))

/-- The phase error that the tracking loop acts on (R49): the error just measured, less what the slew has still to remove of it. -/
def Dev.btuLoopErr (d : Dev) (code : Nat) : Int :=
  phaseErr (d.btu.ofsOf code - (sgn24 (d.rd rBTU_PHASE_ERR) - d.btuSlewPart))

/-- A message of the source in use tracked (R49): the frequency that it reports, and the phase error drawn in by a loop of 0.5 Hz, one
of first order whose rate is π times the error in a second (log entry 24), within ±250 ppm in all. -/
def Dev.btuTrack (d : Dev) (code : Nat) : Dev :=
  let pull := d.btuLoopErr code * (355 * 32000000000) / ((113 * d.groupHz 0 * 2 ^ 24 : Nat) : Int)
  d.wr rBTU_FREQ_CORR (intToNat 24 (max (-8000000) (min 8000000 ((d.btu.src code).freq + pull))))

/-- A switch to source `code` (R50 to R58). -/
def Dev.btuSwitch (d : Dev) (code : Nat) : Dev :=
  let first := !d.btu.taken && code != 0x1F
  let d := { d with btu := { d.btu with taken := d.btu.taken || code != 0x1F, held := 0, holdDone := false, holdAt := none, revert := none } }
  let d := d.setFld rBTU_STATUS fBTU_STATUS_ACTIVE_SRC code
  let d := d.setFld rBTU_STATUS fBTU_STATUS_STATE (if code ≠ 0x1F then 1 else if d.btu.taken then 3 else 0)
  let d := d.bump rBTU_LOSS_CNT fBTU_LOSS_CNT_SWITCHES
  let d := d.raise rBTU_STATUS fBTU_STATUS_SWITCH
  (d.btuTakeFreq code).btuTakeError code first

/-- The source in use is lost: HOLDOVER with the correction held, LOSS set (R51). -/
def Dev.btuHoldover (d : Dev) (code : Nat) : Dev :=
  let d := d.setFld rBTU_STATUS fBTU_STATUS_STATE 2
  let d := d.bump rBTU_LOSS_CNT fBTU_LOSS_CNT_LOSSES
  let d := d.raise rBTU_STATUS fBTU_STATUS_LOSS
  { d with btu := { d.btu with held := code, holdDone := d.fld rBTU_CTRL fBTU_CTRL_HOLD_FRAMES == 0, holdAt := none } }

/-- Source `code` is lost: no longer qualified, and holdover when it was in use (R48, R51). The crystal is never
lost. `range` says that a message has failed its range test (RANGE); that message begins the next interval. -/
def Dev.btuLost (d : Dev) (code : Nat) (range : Bool) : Dev :=
  if code = 0x1F ∨ code = 0 then d
  else
    let x := d.btu.src code
    let d := { d with btu := d.btu.setSrc { x with seen := range && x.seen, run := 0, qual := false, high := 0, part := false } }
    let inUse := d.btuActive == code && d.btuState == 1
    let d := d.when inUse (fun d =>
      (d.when range (·.raise rBTU_STATUS fBTU_STATUS_RANGE)).btuHoldover code)
    d.btuShowQual

/-- Is the holdover still one that its source may end (R51)? It is until HOLD_FRAMES expire, and in that clock too (R61). -/
def Dev.btuHolds (d : Dev) : Bool := !d.btu.holdDone || d.btu.holdAt == some d.now

/-- A source has become qualified: a held source is resumed without a switch (R51). -/
def Dev.btuQualified (d : Dev) (code : Nat) : Dev :=
  if d.btuState = 2 ∧ d.btu.held = code ∧ d.btuHolds then
    let d := { d with btu := { d.btu with held := 0, holdDone := false, holdAt := none } }
    let d := d.setFld rBTU_STATUS fBTU_STATUS_STATE 1
    ((d.btuTakeFreq code).btuTakeError code false).btuShowQual
  else d.btuShowQual

/-- One good or bad message of a source: its interval counted, and the source qualified after 16 consecutive good
intervals, or 16 consecutive messages of a peer (R48). `good` compares the interval with the message before; `err` is the error in
phase units. -/
def Dev.btuMessage (d : Dev) (code : Nat) (good inRange : Bool) (err freq : Int) : Dev :=
  let x := d.btu.src code
  let run := if (x.seen ∨ 0x10 ≤ code) ∧ good then x.run + 1 else 0
  let x' : SrcQ := { x with seen := true, run := run, lastErr := err, lastE := d.btuUnslewed, freq := freq }
  let d := { d with btu := (d.btu.setSrc x').setOfs code err }
  if !inRange then d.btuLost code true
  else
    let d := d.when (d.btuActive == code && d.btuState == 1) (·.btuTrack code)
    if 16 ≤ run ∧ !x.qual then
      let d := { d with btu := d.btu.setSrc { x' with qual := true, high := 0, part := d.btu.e % 2 ^ 24 != 0 } }
      d.btuQualified code
    else d

/-- An 802.1AS Sync and Follow_Up pair (R47, R48): gPTP time in ns of the present instant, and the grandmaster's
frequency offset in units of 1/32 ppb. A pair of another gPTP domain is not used. -/
def Dev.asSync (d : Dev) (mac : Nat) (domain gptpNs : Nat) (freq : Int) : Dev :=
  if domain ≠ d.fld rBTU_REF_CTRL fBTU_REF_CTRL_AS_DOMAIN then d
  else
    let code := mac + 1
    let f0 := d.groupHz 0
    let target : Int := (((gptpNs : Int) - (d.btu.epoch : Int) * 1000000000) * ((f0 * 2 ^ 24 : Nat) : Int)) / 1000000000
    let err := target - (d.btu.e : Int)
    let cap := d.btu.asCap.getD mac false
    let inRange := decide (-8000000 ≤ freq ∧ freq ≤ 8000000)
    let x := d.btu.src code
    let near := decide ((err - x.lastErr).natAbs * 1000000 ≤ f0 * 2 ^ 24)
    d.btuMessage code (cap && inRange && near) (inRange || !x.qual) err freq

/-- A Frame Start of camera `cam` on virtual channel `vc`, as a reference (R47, R48). -/
def Dev.btuCameraFs (d : Dev) (cam vc : Nat) : Dev :=
  if vc ≠ natBits d.btu.list 20 4 then d
  else
    let code := 8 + cam
    let x := d.btu.src code
    let dev := natToInt 64 (intToNat 64 (d.btuUnslewed - x.lastE)) - ((2 ^ 24 : Nat) : Int)
    let near := decide (dev.natAbs * 4000 ≤ 2 ^ 24)
    let far := decide (2 ^ 24 < dev.natAbs * 100)
    let err := phaseErr ((d.btu.camPhase : Int) - ((d.btu.e % 2 ^ 24 : Nat) : Int))
    let freq := sgn24 (d.rd rBTU_FREQ_CORR) - dev * 32000000000 / ((2 ^ 24 : Nat) : Int)
    d.btuMessage code near (!(x.seen && x.qual && far)) err freq

/-- A TIME message of the peer over Wearan port `port`: how far the peer's BT now, link delay removed, lies ahead (R47). -/
def Dev.btuPeer (d : Dev) (port : Nat) (up : Bool) (err : Int) (freq : Int) : Dev :=
  d.btuMessage (0x10 + port) up true err freq

/-- The list, epoch and camera phase written are taken into force (R55); answers whether the target of the source
in use changed. A change of CAM_VC leaves what is known of the camera sources, their run of intervals, their qualification and the Frame
Start before, as it is: R48 does not say (DESIGN CHOICE, log entry 24). -/
def Dev.btuAdopt (d : Dev) : Bool × Dev :=
  let epoch := d.rd rBTU_EPOCH_LO + d.rd rBTU_EPOCH_HI * 2 ^ 24
  let cam := d.rd rBTU_CAM_PHASE
  let a := d.btuActive
  let f0 := d.groupHz 0
  let chgE := (a == 1 || a == 2) && epoch != d.btu.epoch
  let chgC := 8 ≤ a && a ≤ 0xF && cam != d.btu.camPhase
  let moveE : Int := ((d.btu.epoch : Int) - (epoch : Int)) * ((f0 * 2 ^ 24 : Nat) : Int)
  let moveC : Int := (cam : Int) - (d.btu.camPhase : Int)
  let ofs := d.btu.ofs.map (fun p =>
    if p.1 = 1 ∨ p.1 = 2 then (p.1, p.2 + moveE)
    else if 8 ≤ p.1 ∧ p.1 ≤ 0xF then (p.1, phaseErr (p.2 + moveC)) else p)
  (d.btuState == 1 && (chgE || chgC),
    { d with btu := { d.btu with list := d.rd rBTU_SRC_LIST, epoch := epoch, camPhase := cam, ofs := ofs } })

/-- The slew settled at a TG0 frame boundary that BT has just reached: PHASE_ERR falls by SLEW_NOW, or, when no output is lit any more,
the rest is stepped out from the boundary as any step with no output lit is (R56, R57, R58, R61). -/
def Dev.btuSettleSlew (d : Dev) : Dev :=
  let err := sgn24 (d.rd rBTU_PHASE_ERR)
  let code := d.btuActive
  if err = 0 then d.setFld rBTU_STATUS fBTU_STATUS_SLEWING 0
  else if d.litOuts.isEmpty then
    let frames := (d.btu.ofsOf code - err + 2 ^ 23) / 2 ^ 24
    let full := if d.btuState = 1 then err + frames * 2 ^ 24 else err
    ((d.btuDarkStep (if d.btuState = 1 then code else 0) full err).wr rBTU_PHASE_ERR 0).setFld rBTU_STATUS fBTU_STATUS_SLEWING 0
  else
    let moved := d.btuSlew
    let rest := err - moved
    let d := { d with btu := { d.btu.shiftOfs moved with slewed := d.btu.slewed + moved } }
    (d.wr rBTU_PHASE_ERR (intToNat 24 rest)).setFld rBTU_STATUS fBTU_STATUS_SLEWING (if rest = 0 then 0 else 1)

/-- How many whole frames each source has stayed qualified, counted at a frame boundary (R53): the frame within which it qualified
is none. -/
def Btu.countHigh (b : Btu) : Btu :=
  { b with q := b.q.map (fun x => { x with high := if x.qual && !x.part then min (x.high + 1) 1023 else 0, part := false }) }

/-- The higher source that has stayed qualified for REVERT_DELAY frames, if the BTU is to go to it (R53). -/
def Dev.btuDueRevert (d : Dev) : Option Nat :=
  let es := srcUsable d.btu.list
  let a := d.btuActive
  let delay := d.fld rBTU_REF_CTRL fBTU_REF_CTRL_REVERT_DELAY
  if d.flag rBTU_CTRL fBTU_CTRL_REVERT ∧ d.btuState ≠ 2 ∧ es.contains a then
    (es.takeWhile (fun c => c != a)).find? (fun c => d.btu.qualified c && decide (delay ≤ (d.btu.src c).high))
  else none

/-- The switch that falls due at a TG0 frame boundary, if any (R50, R51, R53, R55). -/
def Dev.btuChoose (d : Dev) (retarget : Bool) : Dev :=
  let a := d.btuActive
  let es := srcUsable d.btu.list
  let best := d.btu.best
  if d.btuState = 2 then
    if !es.contains d.btu.held || d.btu.holdDone then d.btuSwitch best else d
  else if a = 0x1F ∧ !es.contains 0x1F then
    if best != 0x1F then d.btuSwitch best else d
  else if !es.contains a then d.btuSwitch best
  else
    match d.btu.revert.bind (fun _ => d.btuDueRevert) with
    | some c => d.btuSwitch c
    | none => if retarget then d.btuSwitch a else d

/-- The TG0 frame boundary (R37): the phase wraps and the frame number steps, the slew is settled, the values written
come into force, a due switch is made, SLEW_NOW is computed again and EV000 is raised. BT that has not started wraps nothing; while the fabric
sleeps, its keeper only carries it on (R469). -/
def Dev.frameBoundary (d : Dev) : Dev :=
  let next := (d.btu.e / 2 ^ 24 + 1) * 2 ^ 24 % 2 ^ 64
  if !d.btRuns then d
  else if !d.awake 39 then { d with btu := { d.btu with e := next } }
  else
  let d := { d with btu := { d.btu.countHigh with e := next } }
  let d := d.btuSettleSlew
  let (retarget, d) := d.btuAdopt
  let d := d.btuShowQual.btuChoose retarget
  let d := { d with btu := { d.btu with revert := none } }
  let d := d.setFld rBTU_SLEW fBTU_SLEW_SLEW_NOW d.slewLimit
  d.evRaise 0

/-- Output `n` belongs to group `g` of an OUT_MAP value. -/
def mapTg (v n : Nat) : Nat := natBits v (2 * n) 2

/-- May group rate code `c` carry ×2 marks (R41)? -/
def rateX2 (c : Nat) : Bool := c ≤ 5

/-- A write of BTU_RATE (R40, R41, R43): each group's code lands or is refused with MAP_REFUSED. What BT and the extended count are when TG0's
rate changes is not said: both stay as they are, unscaled (log entry 24). -/
def Dev.btuRateWrite (d : Dev) (v : Nat) : Dev :=
  let old := d.rd rBTU_RATE
  let ok (g : Nat) : Bool :=
    let c := natBits v (4 * g) 4
    c == natBits old (4 * g) 4 ||
      ((rateHz c).isSome &&
        (List.range 8).all (fun n => !(d.outTg n == g && (d.lit n || (d.outX2 n && !rateX2 c)))))
  let new := [0, 1, 2, 3].foldl (fun acc g => if ok g then natSetBits acc (4 * g) 4 (natBits v (4 * g) 4) else acc) old
  let d := d.wr rBTU_RATE (natBits new 0 16)
  d.when (!([0, 1, 2, 3].all ok)) (·.raise rBTU_STATUS fBTU_STATUS_MAP_REFUSED)

/-- A write of BTU_OUT_MAP (R41, R43): each output's group and mark land together or are refused. -/
def Dev.btuOutMapWrite (d : Dev) (v : Nat) : Dev :=
  let old := d.rd rBTU_OUT_MAP
  let same (n : Nat) : Bool := mapTg v n == mapTg old n && natBit v (16 + n) == natBit old (16 + n)
  let ok (n : Nat) : Bool :=
    same n || (!d.lit n && (!natBit v (16 + n) || rateX2 (d.rateCode (mapTg v n))))
  let new := (List.range 8).foldl (fun acc n =>
    if ok n then natSetBits (natSetBits acc (2 * n) 2 (mapTg v n)) (16 + n) 1 (v >>> (16 + n)) else acc) old
  let d := d.wr rBTU_OUT_MAP new
  d.when (!((List.range 8).all ok)) (·.raise rBTU_STATUS fBTU_STATUS_MAP_REFUSED)

/-- FORCE_NEXT (R54). -/
def Dev.btuForceNext (d : Dev) : Dev :=
  let a := d.btuActive
  if d.btuState = 2 then
    let c := d.btu.held
    let d := { d with btu := { d.btu.setSrc (SrcQ.fresh c) with holdDone := true, holdAt := none } }
    d.btuShowQual
  else if a = 0x1F then d
  else
    let d := { d with btu := d.btu.setSrc (SrcQ.fresh a) }
    (d.btuHoldover a).btuShowQual

/-- A higher source has stayed qualified for REVERT_DELAY frames (R53): it is switched to at this frame boundary when BT stands on one,
and at the next otherwise. -/
def Dev.btuRevert (d : Dev) : Dev :=
  match d.btuDueRevert with
  | some c => if d.btu.e % 2 ^ 24 = 0 then d.btuSwitch c else { d with btu := { d.btu with revert := some c } }
  | none => d

/-- The increment of the 40-bit accumulator in one fabric clock of 1 ns: the nominal rate times one plus the
correction plus the slew (R38), which is spread evenly over the frame (R57), rounded down (log entry 5). -/
def Dev.btuIncrement (d : Dev) : Nat :=
  let corr := sgn24 (d.rd rBTU_FREQ_CORR)
  (d.groupHz 0 * 2 ^ 88 : Nat) * ((32000000000 : Int) + corr).toNat / (32000000000 * 1000000000 * (((2 ^ 24 : Nat) : Int) - d.btuSlew).toNat)

/-- One fabric clock in which no command arrives: BT advances by the accumulator's carry (R38), and waits at the end
of the frame for BT_FRAME_BOUNDARY (log entry 4). -/
def Dev.tick (d : Dev) : Dev :=
  let sum := d.btu.acc + (if d.btRuns then d.btuIncrement else 0)
  let d := d.advanceTo (d.btu.e + sum / 2 ^ 40)
  { d with btu := { d.btu with acc := sum % 2 ^ 40, clocks := d.btu.clocks + 1 } }

/-! ### The commands -/

def execAsSyncReceived (mac : Fin 2) (domain gptpNs : Nat) (freq : Int) (s : State) :=
  s.upd (·.asSync mac domain gptpNs freq)

def execSourceLossTimeout (src : BitVec 5) (s : State) := s.upd (·.btuLost (srcNorm src.toNat) false)

/-- HOLD_FRAMES have expired in HOLDOVER: the switch follows at the next frame boundary (R51). -/
def execHoldoverExpiry (s : State) :=
  s.upd (fun d => d.when (d.btuState == 2 && !d.btu.holdDone) (fun d =>
    { d with btu := { d.btu with holdDone := true, holdAt := some d.now } }))

def execRevertSwitch (s : State) := s.upd Dev.btuRevert

def execForceNext (s : State) := s.upd Dev.btuForceNext

/-- The list written is in force from the next frame boundary (R55). -/
def execBtuSrcListWrite (value : Reg) (s : State) := s.upd (·.wr rBTU_SRC_LIST value.toNat)

/-- The low half staged for a register pair at `lo`: its reset value until one is staged (R10). -/
def Dev.staged (d : Dev) (lo : Nat) : Nat := (spGet resetOf d.stage lo).toNat

/-- The _HI write applies both halves of the epoch (R10); in force from the next frame boundary (R55). -/
def execBtuEpochWrite (value : Reg) (s : State) :=
  s.upd (fun d => (d.wr rBTU_EPOCH_LO (d.staged rBTU_EPOCH_LO)).wr rBTU_EPOCH_HI value.toNat)

def execBtuCamPhaseWrite (value : Reg) (s : State) := s.upd (·.wr rBTU_CAM_PHASE value.toNat)

def execBtuRateWrite (value : Reg) (s : State) := s.upd (·.btuRateWrite value.toNat)

def execBtuOutMapWrite (value : Reg) (s : State) := s.upd (·.btuOutMapWrite value.toNat)

/-- asCapable of a MAC changes; false loses its source (R48). -/
def execAsCapableChange (mac : Fin 2) (capable : Bool) (s : State) :=
  s.upd (fun d =>
    let d := { d with btu := { d.btu with asCap := d.btu.asCap.set mac capable } }
    if capable then d else d.btuLost (mac.val + 1) false)

/-- A group frame begins: EV000 to EV003 (R78), unless the fabric sleeps (R469). -/
def execGroupFrameStart (group : Fin 4) (s : State) := s.upd (fun d => d.when (d.awake 39) (·.evRaise group))

end Sys2Proof.Machine
end

