-- ==== Sys2Proof/Machine/Memory.lean ====
section
/-! DEFINITION. The memory fabric (chapter 15): main memory with its banks, spares and error correction, the exchange
memory with its sentinel port, and LPDDR5X. The word of 48 bits is the smallest unit of every memory here (R4, R370),
and an unlisted word reads as zero (R374, R379; log entry 6). -/

namespace Sys2Proof.Machine

/-- The default of every word memory. -/
def zeroWord (_ : Nat) : Word := 0

/-- The default of every error mask: no stored bit is wrong. -/
def zeroErr (_ : Nat) : BitVec 55 := 0

/-- How many of the low `n` bits of `x` are set. -/
def popCount (n x : Nat) : Nat := (List.range n).foldl (fun c k => if natBit x k then c + 1 else c) 0

/-- The lowest set bit of the low 55 bits of `x`. -/
def lowestBit (x : Nat) : Nat := ((List.range 55).find? (natBit x)).getD 0

/-- The device number strapped (R438). -/
def Dev.devNum (d : Dev) : Nat := d.fld rPMU_STRAPS fPMU_STRAPS_DEVNUM

/-! ### The canonical form -/

/-- Every memory is in its one canonical form: addresses rising, and nothing listed that an unlisted place reads as. -/
def Memory.wf (m : Mem) : Bool :=
  spWf zeroWord m.main && spWf zeroErr m.mainErr && spWf zeroWord m.exch && spWf zeroErr m.exchErr && spWf zeroWord m.ddr &&
    spWf zeroErr m.ddrErr

/-! ### Fault locators (R28, R29) -/

/-- The span of a main-memory bank, spares included (R19). -/
def bankSpan (b : Nat) : Nat := if b < 256 then b / 64 else (b - 256) / 4

/-- The girder of a bank; the spares of a span form girder 4 (R28). -/
def bankGirder (b : Nat) : Nat := if b < 256 then b / 16 % 4 else 4

/-- The path word of one bit of one cell of a physical bank (R28). -/
def cellPath (pkg bank off bit : Nat) : Nat :=
  1 * 2 ^ 45 + pkg * 2 ^ 43 + bankSpan bank * 2 ^ 40 + bankGirder bank * 2 ^ 37 + bank * 2 ^ 28 +
    (off / 4096) * 2 ^ 24 + (off % 4096) * 2 ^ 12 + bit * 2 ^ 6

/-- The span of each unit class and index (R19, R29). -/
def classSpan (cls idx : Nat) : Nat :=
  if cls = 0x03 then idx
  else if cls = 0x04 then bankSpan idx
  else if cls = 0x05 then (if idx = 0 ∨ idx = 1 then 0 else if idx = 2 ∨ idx = 3 then 1 else if idx = 6 ∨ idx = 7 then 3 else 2)
  else if cls = 0x06 then idx / 2
  else if cls = 0x07 then idx / 9 / 2
  else if cls = 0x08 then (if idx < 4 then 1 else 2)
  else if cls = 0x01 ∨ cls = 0x02 ∨ cls = 0x15 ∨ cls = 0x16 then 0
  else if cls = 0x14 ∨ cls = 0x17 then 1
  else if cls = 0x0D ∨ cls = 0x0E ∨ cls = 0x0F ∨ cls = 0x18 then 2
  else 3

/-- The path word of a unit (R26, R28): LEVEL 3 for a main-memory bank, whose girder is 4 if it is a spare; LEVEL 5 for any other, the
span being the deepest level that holds it. -/
def unitPath (pkg cls idx : Nat) : Nat :=
  if cls = 4 then 3 * 2 ^ 45 + pkg * 2 ^ 43 + bankSpan idx * 2 ^ 40 + bankGirder idx * 2 ^ 37 + idx * 2 ^ 28
  else 5 * 2 ^ 45 + pkg * 2 ^ 43 + classSpan cls idx * 2 ^ 40

/-- An error reported to the fault manager (R480). -/
def Dev.report (d : Dev) (code cls idx path detail : Nat) : Dev :=
  { d with reports := d.reports ++ [⟨code, cls, idx, path, detail, d.bt⟩] }

/-- An error of a whole unit reported to the fault manager. -/
def Dev.reportUnit (d : Dev) (code cls idx : Nat) : Dev :=
  d.report code cls idx (unitPath d.devNum cls idx) 0

/-! ### Banks (R27, R377) -/

/-- The physical bank that answers for bank `b`: the spare in service for it, or the bank itself (R377). -/
def Dev.physBank (d : Dev) (b : Nat) : Nat :=
  match (List.range 16).find? (fun j =>
    d.fld (rMEM_SPARE j) fMEM_SPARE_STATE == 2 && d.fld (rMEM_SPARE j) fMEM_SPARE_FOR == b) with
  | some j => 256 + j
  | none => b

/-- The spare onto which bank `b` is being copied, if a replacement of it runs (R377). -/
def Dev.mirrorOf (d : Dev) (b : Nat) : Option Nat :=
  ((List.range 16).find? (fun j =>
    d.fld (rMEM_SPARE j) fMEM_SPARE_STATE == 1 && d.fld (rMEM_SPARE j) fMEM_SPARE_FOR == b)).map (256 + ·)

/-- The key of a physical word. -/
def physKey (bank off : Nat) : Nat := bank * 65536 + off

/-- The physical key of main-memory word `a` (R27). -/
def Dev.mainKey (d : Dev) (a : Nat) : Nat := physKey (d.physBank (a % 256)) (a / 256 % 65536)

/-- What is stored at a physical word, as written. -/
def Dev.cell (d : Dev) (k : Nat) : Word := spGet zeroWord d.mem.main k

/-- The wrong bits of a physical word. -/
def Dev.cellErr (d : Dev) (k : Nat) : Nat := (spGet zeroErr d.mem.mainErr k).toNat

/-- The device with a physical word written whole: its errors are gone (R372). -/
def Dev.setCell (d : Dev) (k : Nat) (w : Word) : Dev :=
  { d with mem := { d.mem with main := spSet zeroWord d.mem.main k w, mainErr := spSet zeroErr d.mem.mainErr k 0 } }

/-- The device with other wrong bits in a physical word. -/
def Dev.setCellErr (d : Dev) (k : Nat) (e : BitVec 55) : Dev :=
  { d with mem := { d.mem with mainErr := spSet zeroErr d.mem.mainErr k e } }

/-- Are the memory spans of main memory able to serve (R461)? They are not while held OFF. -/
def Dev.mainOff (d : Dev) : Bool := d.pierHeldOff 22

/-- A whole-word write of main memory (R370, R377): it lands at the bank that answers, and at the spare too while the bank
is mirrored. -/
def Dev.mainWrite (d : Dev) (a : Nat) (w : Word) : Dev :=
  let d1 := d.setCell (d.mainKey a) w
  match d.mirrorOf (a % 256) with
  | some sp => d1.setCell (physKey sp (a / 256 % 65536)) w
  | none => d1

/-- What a read of main memory gives: the word, and whether it is uncorrectable. -/
structure MemRes where
  val : Word
  ue : Bool
deriving DecidableEq, Repr

/-- What the decoder finds in a stored word (R371). -/
inductive Ecc where
  | valid (w : Word)
  | corrected (w : Word) (bit : Nat)
  | bad
deriving DecidableEq, Repr

/-- A stored word `w` with the wrong bits `e` decoded (R371). With three or more wrong bits the outcome is one of the three the rule allows,
and which one is a free value (log entry 7). -/
def eccDecode (w : Word) (e : BitVec 55) : Ecc :=
  let n := popCount 55 e.toNat
  if e = 0 then .valid w
  else if n = 1 then .corrected w (lowestBit e.toNat)
  else if n = 2 then .bad
  else if Config.eccWild w e % 3 = 0 then .bad
  else if Config.eccWild w e % 3 = 1 then .corrected (Config.eccWord w e) (Config.eccBit w e % 55)
  else .valid (w ^^^ BitVec.ofNat 48 (e.toNat % 2 ^ 48))

/-- The word that a read of it gives; zero where it is uncorrectable. -/
def Ecc.word : Ecc → Word
  | .valid w => w
  | .corrected w _ => w
  | .bad => 0

def Ecc.ue (x : Ecc) : Bool := x == .bad

/-- A single-bit correction recorded, counted and reported (R371). -/
def Dev.noteCe (d : Dev) (master a bank off bit : Nat) : Dev :=
  let d := d.bump rMEM_CE_CNT fMEM_CE_CNT_COUNT
  let d := d.wr rMEM_CE_ADDR a
  let d := d.wr rMEM_CE_INFO (bit * 2 ^ 18 + master * 2 ^ 10)
  let d := d.raise rMEM_STATUS fMEM_STATUS_CE
  d.report 0x01 0x04 bank (cellPath d.devNum bank off bit) a

/-- One of the wrong bits `e`, picked by `b`. -/
def wrongBit (e b : Nat) : Nat :=
  let bits := (List.range 55).filter (natBit e)
  bits.getD (b % bits.length) 0

/-- An uncorrectable read recorded, counted and reported (R372). R28 does not say at which LEVEL an uncorrectable word is named, nor which of
its wrong bits BIT names: LEVEL is 1, the word being a cell, and BIT is one of the wrong bits, picked by a free value (log entry 7). -/
def Dev.noteUe (d : Dev) (master a bank off : Nat) : Dev :=
  let (b, d) := d.takeNat
  let bit := wrongBit (d.cellErr (physKey bank off)) b
  let d := d.bump rMEM_UE_CNT fMEM_UE_CNT_COUNT
  let d := d.wr rMEM_UE_ADDR a
  let d := d.wr rMEM_UE_INFO (master * 2 ^ 10)
  let d := d.raise rMEM_STATUS fMEM_STATUS_UE
  d.report 0x02 0x04 bank (cellPath d.devNum bank off bit) a

/-- A write that merges into an uncorrectable word is not made, and counted (R372). -/
def Dev.memDrop (d : Dev) : Dev := (d.bump rMEM_DROP_CNT fMEM_DROP_CNT_COUNT).raise rMEM_STATUS fMEM_STATUS_DROP

/-- What a read of a physical word would find. -/
def Dev.ecc (d : Dev) (k : Nat) : Ecc := eccDecode (d.cell k) (spGet zeroErr d.mem.mainErr k)

/-- A corrected word written back by its bank (R371). The bank that answers for `a` has its writes mirrored (R377). -/
def Dev.writeBack (d : Dev) (a bank off : Nat) (w : Word) : Dev :=
  if d.physBank (a % 256) = bank then d.mainWrite a w else d.setCell (physKey bank off) w

/-- A read of a physical word under the correction rules (R371, R372): what it corrects is written back. -/
def Dev.physRead (d : Dev) (master a bank off : Nat) : MemRes × Dev :=
  let k := physKey bank off
  match d.ecc k with
  | .valid w => (⟨w, false⟩, d)
  | .corrected w b => (⟨w, false⟩, (d.writeBack a bank off w).noteCe master a bank off b)
  | .bad => (⟨0, true⟩, d.noteUe master a bank off)

/-! ### Masters and trackers (R34, R367, R368) -/

/-- The arbitration class of a master number (R367). -/
def masterClass (m : Nat) : Nat :=
  if m ≤ 0x09 then 0 else if m ≤ 0x18 then 1 else if m ≤ 0x28 then 2 else if m ≤ 0x37 then 3
  else if m ≤ 0x41 then 4 else if m ≤ 0x52 then 5 else if m ≤ 0x63 then 6 else 7

/-- The slice whose trackers a master uses (R367, R368): that of the span where its unit sits (R19). -/
def masterSlice (m : Nat) : Nat :=
  if m ≤ 0x08 then classSpan 0x05 m
  else if m = 0x09 then classSpan 0x02 0
  else if m ≤ 0x18 then classSpan 0x05 (m - 0x10)
  else if m ≤ 0x27 then classSpan 0x08 (m - 0x20)
  else if m = 0x28 then classSpan 0x0D 0
  else if m ≤ 0x37 then classSpan 0x06 (m - 0x30)
  else if m = 0x40 then classSpan 0x0E 0
  else if m = 0x41 then classSpan 0x0F 0
  else if m ≤ 0x52 then classSpan 0x0B 0
  else if m = 0x60 then classSpan 0x12 0
  else classSpan 0x10 0

/-- The trackers each slice gives a class (R34). -/
def trackerLimit (c : Nat) : Nat := [2048, 4096, 1024, 2048, 1536, 512, 1024].getD c 0

/-- The bookkeeping of one tracked request: whether it waited, and how many trackers its class held in its slice (R368). -/
def Dev.track (d : Dev) (master : Nat) (waited : Bool) (held : Nat) : Dev :=
  let c := masterClass master
  if c = 7 then d
  else
    let i := 7 * masterSlice master + c
    let h := max 1 (min held (trackerLimit c))
    let d := { d with trk := d.trk.set i (max h (d.trk.getD i 0)) }
    d.when waited (fun d => (d.bump (rMEM_TRK_WAIT_CNT c) fMEM_TRK_WAIT_CNT_COUNT).raise rMEM_STATUS fMEM_STATUS_TRK_FULL)

/-- The trackers of a store to an alias: whether it waited, and how many trackers its class held, are free values (R368; log entry 50). -/
def Dev.trackAlias (d : Dev) (master : Nat) : Dev :=
  let (waited, d) := d.takeBool
  let (held, d) := d.takeNat
  d.track master waited held

/-- A request that a unit of the part makes of itself: one tracker, for its own time (R368; log entry 50). -/
def Dev.trackOne (d : Dev) (master : Nat) : Dev := d.track master false 1

/-- The tracker peaks of the frame just ended shown, the most that one slice held, and the new frame's begun. -/
def Dev.trackFrame (d : Dev) : Dev :=
  let peak (c : Nat) : Nat := (List.range 4).foldl (fun m s => max m (d.trk.getD (7 * s + c) 0)) 0
  let d' := (List.range 7).foldl (fun d c => d.setFld (rMEM_TRK_PEAK c) fMEM_TRK_PEAK_PEAK (peak c)) d
  { d' with trk := List.replicate 28 0 }

/-! ### Reads and writes of main memory -/

/-- A read of main-memory word `a` by `master`. -/
def Dev.mainRead (d : Dev) (master a : Nat) : MemRes × Dev :=
  (d.trackOne master).physRead master a (d.physBank (a % 256)) (a / 256 % 65536)

/-- The word that a read of `a` gives, without the read's side effects. -/
def Dev.peek (d : Dev) (a : Nat) : Word := (d.ecc (d.mainKey a)).word

/-- The usable LPDDR5X words (R383). -/
def Dev.ddrWords (d : Dev) : Nat := d.rd rMEM_DDR_WORDS_LO + d.rd rMEM_DDR_WORDS_HI * 2 ^ 24

/-- Is word offset `o` of LPDDR5X one of the usable words, trained? -/
def Dev.ddrThere (d : Dev) (o : Nat) : Bool := d.flag rMEM_DDR_STATUS fMEM_DDR_STATUS_READY && decide (o < d.ddrWords)

/-- Does word offset `o` of LPDDR5X answer? -/
def Dev.ddrServes (d : Dev) (o : Nat) : Bool := d.ddrThere o && !d.pierHeldOff 35

/-- Is a word of LPDDR5X uncorrectable (R384)? -/
def Dev.ddrBad (d : Dev) (o : Nat) : Bool := spGet zeroErr d.mem.ddrErr o != 0

/-- Would a read of `a`, a word of main memory or LPDDR5X, find an uncorrectable word? -/
def Dev.peekUe (d : Dev) (a : Nat) : Bool :=
  if a < 0x1000000 then (d.ecc (d.mainKey a)).ue
  else decide (0x8000000000 ≤ a) && d.ddrServes (a - 0x8000000000) && d.ddrBad (a - 0x8000000000)

/-- An uncorrectable LPDDR5X read (R384). -/
def Dev.noteDdrUe (d : Dev) (o : Nat) : Dev :=
  let d := d.bump rMEM_DDR_UE_CNT fMEM_DDR_UE_CNT_COUNT
  let d := d.raise rMEM_DDR_STATUS fMEM_DDR_STATUS_UE
  d.report 0x0D 0x14 0 (unitPath d.devNum 0x14 0) o

/-- The side effects of a run of fetches. -/
def Dev.touch (d : Dev) (master : Nat) (as : List Nat) : Dev :=
  as.foldl (fun d a =>
    if 0x1000000 ≤ a then (if d.peekUe a then d.noteDdrUe (a - 0x8000000000) else d)
    else if d.cellErr (d.mainKey a) = 0 then d else (d.mainRead master a).2) (if as.isEmpty then d else d.trackOne master)

/-- `n` words of main memory from `a`, by `master`; none when one of them is uncorrectable. -/
def Dev.mainReadRun (d : Dev) (master a : Nat) : Nat → List Word × Bool × Dev
  | 0 => ([], false, d)
  | n + 1 =>
    let (r, d) := d.mainRead master a
    let (ws, ue, d) := d.mainReadRun master (a + 1) n
    (r.val :: ws, r.ue || ue, d)

/-- A run of words written to main memory from `a`. -/
def Dev.mainWriteRun (d : Dev) (a : Nat) : List Word → Dev
  | [] => d
  | w :: ws => (d.mainWrite a w).mainWriteRun (a + 1) ws

/-- A whole-word write, and a run of them, as a request of `master` (R367, R368). -/
def Dev.mainPut (d : Dev) (master a : Nat) (w : Word) : Dev := (d.trackOne master).mainWrite a w
def Dev.mainPutRun (d : Dev) (master a : Nat) (ws : List Word) : Dev := (if ws.isEmpty then d else d.trackOne master).mainWriteRun a ws

/-- A write that merges under a mask of bits, one atomic read and write at the bank (R325, R375). Not made, and counted,
when the word is uncorrectable (R372). -/
def Dev.mainMerge (d : Dev) (master a : Nat) (v mask : Word) : Dev :=
  let (r, d) := d.mainRead master a
  if r.ue then d.memDrop else d.mainWrite a ((r.val &&& ~~~mask) ||| (v &&& mask))

/-- A store to the bit-set alias (R375). -/
def Dev.bitSet (d : Dev) (master a : Nat) (v : Word) : Dev := d.mainMerge master a v v

/-- A store to the bit-clear alias (R375). -/
def Dev.bitClear (d : Dev) (master a : Nat) (v : Word) : Dev := d.mainMerge master a 0 v

/-! ### Exchange memory (R379 to R382) -/

/-- The 16-bit part `p` of a word; part 0 is the highest. -/
def wordPart (w : Word) (p : Nat) : BitVec 16 := BitVec.ofNat 16 (natBits w.toNat (32 - 16 * p) 16)

/-- A word with part `p` replaced. -/
def setPart (w : Word) (p : Nat) (v : BitVec 16) : Word :=
  BitVec.ofNat 48 (natSetBits w.toNat (32 - 16 * p) 16 v.toNat)

/-- A word of the exchange memory, as stored. -/
def Dev.exWord (d : Dev) (w : Nat) : Word := spGet zeroWord d.mem.exch w

/-- The exchange memory with one word written whole. -/
def Dev.setExWord (d : Dev) (w : Nat) (v : Word) : Dev :=
  { d with mem := { d.mem with exch := spSet zeroWord d.mem.exch w v, exchErr := spSet zeroErr d.mem.exchErr w 0 } }

/-- What a read of an exchange word would find. -/
def Dev.exEcc (d : Dev) (w : Nat) : Ecc := eccDecode (d.exWord w) (spGet zeroErr d.mem.exchErr w)

/-- Unit `u` of the exchange memory as a read of it gives it (R371, R379), without the read's side effects. -/
def Dev.exUnit (d : Dev) (u : Nat) : Nat := (wordPart (d.exEcc (u / 3)).word (u % 3)).toNat

/-- XBUSY was low for some time up to `limit` ns: the time itself is a free value within the bound (R382, log entry 7). -/
def Dev.busyFor (d : Dev) (limit : Nat) : Dev :=
  let (n, d) := d.takeNat
  d.peak rSNP_BUSY_PEAK fSNP_BUSY_PEAK_CLOCKS (n % (limit + 1))

/-- The master number recorded for a read of the exchange memory: R367 gives the sentinel port and the parapet's sequencer none, so theirs
is a free value (log entry 7). -/
def Dev.exMaster (d : Dev) (m : Option Nat) : Nat × Dev :=
  match m with
  | some m => (m, d)
  | none => let (x, d) := d.takeNat; (x % 256, d)

/-- A single-bit error of exchange word `w` corrected: counted, recorded and reported as every correction is (R371; the locator's unit is the
exchange memory's), and shown by the port (R382). -/
def Dev.exCe (d : Dev) (m : Option Nat) (w bit : Nat) : Dev :=
  let (m, d) := d.exMaster m
  let d := d.bump rMEM_CE_CNT fMEM_CE_CNT_COUNT
  let d := d.wr rMEM_CE_ADDR w
  let d := d.wr rMEM_CE_INFO (bit * 2 ^ 18 + m * 2 ^ 10)
  let d := (d.raise rMEM_STATUS fMEM_STATUS_CE).report 0x01 0x0A 0 (unitPath d.devNum 0x0A 0) w
  (d.raise rSNP_STATUS fSNP_STATUS_CE).busyFor 120

/-- An uncorrectable exchange word read from the fabric: counted, recorded and reported (R372, R382). -/
def Dev.exUe (d : Dev) (m : Option Nat) (w : Nat) : Dev :=
  let (m, d) := d.exMaster m
  let d := d.bump rMEM_UE_CNT fMEM_UE_CNT_COUNT
  let d := d.wr rMEM_UE_ADDR w
  let d := d.wr rMEM_UE_INFO (m * 2 ^ 10)
  (d.raise rMEM_STATUS fMEM_STATUS_UE).report 0x02 0x0A 0 (unitPath d.devNum 0x0A 0) w

/-- A read of an exchange word under the correction rules (R371, R382), by master `m`, none where the reader has no number. -/
def Dev.exRead (d : Dev) (m : Option Nat) (w : Nat) : MemRes × Dev :=
  match d.exEcc w with
  | .valid v => (⟨v, false⟩, d)
  | .corrected v b => (⟨v, false⟩, (d.setExWord w v).exCe m w b)
  | .bad => (⟨0, true⟩, d)

/-- What the mailbox sequencer's read of unit `u` of the exchange memory brings beside its value (R371, R372). -/
def Dev.exSeen (d : Dev) (u : Nat) : Dev :=
  let (r, d) := d.exRead none (u / 3)
  d.when r.ue (·.exUe none (u / 3))

/-- The exchange memory with one unit written: it merges into its word under the word's check bits (R381), a single-bit error of which is
corrected, by master `m`. A merge into an uncorrectable word is not made, and counted (R372). -/
def Dev.setExUnitBy (d : Dev) (m : Option Nat) (u v : Nat) : Dev :=
  let w := u / 3
  let (r, d) := d.exRead m w
  if r.ue then (d.exUe m w).memDrop else d.setExWord w (setPart r.val (u % 3) (BitVec.ofNat 16 v))

/-- A unit of the exchange memory written by one that has no master number: the sentinel port, or the parapet's sequencer. -/
def Dev.setExUnit (d : Dev) (u v : Nat) : Dev := d.setExUnitBy none u v

/-- A fabric write of an exchange word (R379): the mailbox units are left alone; answers whether a part could not be
made, which falls under the silent rule. -/
def Dev.exFabricWrite (d : Dev) (master w : Nat) (v : Word) : Bool × Dev :=
  if 171 ≤ w then (false, d.setExWord w v)
  else if w = 170 then (true, d.setExUnitBy (some master) 512 (wordPart v 2).toNat)
  else (true, d)

/-! ### LPDDR5X (R383, R384) -/

def Dev.ddrWord (d : Dev) (o : Nat) : Word := spGet zeroWord d.mem.ddr o

/-- A word of LPDDR5X written whole: an error in it is gone (R372, R384). -/
def Dev.setDdrWord (d : Dev) (o : Nat) (w : Word) : Dev :=
  { d with mem := { d.mem with ddr := spSet zeroWord d.mem.ddr o w, ddrErr := spSet zeroErr d.mem.ddrErr o 0 } }

/-- LPDDR5X word `o` read (R384). -/
def Dev.ddrRead (d : Dev) (o : Nat) : MemRes × Dev :=
  if d.ddrBad o then (⟨0, true⟩, d.noteDdrUe o) else (⟨d.ddrWord o, false⟩, d)

/-- The bursts of its block that LPDDR5X word `o` lies in, first and last: a block is 16 words of six bytes in three bursts of 32 bytes (R383). -/
def ddrBursts (o : Nat) : Nat × Nat := (6 * (o % 16) / 32, (6 * (o % 16) + 5) / 32)

/-- The other words of LPDDR5X that share a burst with word `o` (R383). -/
def ddrMates (o : Nat) : List Nat :=
  ((List.range 16).map (o / 16 * 16 + ·)).filter (fun p =>
    p != o && decide ((ddrBursts p).1 ≤ (ddrBursts o).2 ∧ (ddrBursts o).1 ≤ (ddrBursts p).2))

/-- LPDDR5X word `o` written under a mask, within a request that writes the words `all` whole. A burst that the request does not cover is
read and merged (R384): an uncorrectable word met there is counted. The write is not made where what stays in the burst cannot be read;
where only the word that is replaced whole is bad, the write replaces it (R372; log entry 7). -/
def Dev.ddrWriteIn (d : Dev) (all : List Nat) (o : Nat) (v mask : Word) : Dev :=
  let whole := mask == BitVec.allOnes 48
  let bad := (ddrMates o).filter (fun p => !all.contains p && d.ddrBad p)
  let merged := !whole || (ddrMates o).any (fun p => !all.contains p)
  let d := d.when (merged && (d.ddrBad o || !bad.isEmpty)) (·.noteDdrUe (if d.ddrBad o then o else bad.headD o))
  if !bad.isEmpty || (!whole && d.ddrBad o) then d.memDrop
  else d.setDdrWord o ((d.ddrWord o &&& ~~~mask) ||| (v &&& mask))

/-- One word of LPDDR5X written under a mask (R384). -/
def Dev.ddrWrite (d : Dev) (o : Nat) (v mask : Word) : Dev := d.ddrWriteIn [] o v mask

/-- Usable words for a density code (R383): 64 × ⌊D / 96⌋. -/
def ddrSize (density : Nat) : Nat :=
  64 * (([1073741824, 1610612736, 2147483648, 3221225472].getD density 0) / 96)

/-- A write of MEM_DDR_CFG: EN starts training, and the other fields ignore writes while EN is 1. A reserved RATE or DENSITY at EN
sets CFG_BAD and nothing is trained. -/
def Dev.ddrCfgWrite (d : Dev) (v : Nat) : Dev :=
  let old := d.rd rMEM_DDR_CFG
  if natBit old 23 then
    if natBit v 23 then d
    else
      let d := d.wr rMEM_DDR_CFG (natSetBits old 23 1 0)
      let d := d.setFld rMEM_DDR_STATUS fMEM_DDR_STATUS_READY 0
      let d := (d.wr rMEM_DDR_WORDS_LO 0).wr rMEM_DDR_WORDS_HI 0
      { d with mem := { d.mem with ddrTraining := false } }
  else
    let d := d.wr rMEM_DDR_CFG (natBits v 17 7 * 2 ^ 17)
    if natBit v 23 then
      if 4 ≤ natBits v 20 3 ∨ 4 ≤ natBits v 17 3 then d.raise rMEM_DDR_STATUS fMEM_DDR_STATUS_CFG_BAD
      else { d with mem := { d.mem with ddrTraining := true } }
    else d

/-! ### Replacement (R376 to R378) -/

/-- Is a replacement running in span `s`? -/
def Dev.copyRunning (d : Dev) (s : Nat) : Bool :=
  (List.range 4).any (fun i => d.fld (rMEM_SPARE (4 * s + i)) fMEM_SPARE_STATE == 1)

/-- MEM_STATUS.COPY bit `s`; MEM_SPARE_CTRL.GO reads 1 while a replacement runs (R13). -/
def Dev.setCopy (d : Dev) (s v : Nat) : Dev :=
  let d := d.wr rMEM_STATUS (natSetBits (d.rd rMEM_STATUS) (16 + s) 1 v)
  d.setFld rMEM_SPARE_CTRL fMEM_SPARE_CTRL_GO (natBits (d.rd rMEM_STATUS) 16 4 != 0).toNat

/-- SPARE and BANK of MEM_SPARE_CTRL written. -/
def Dev.setSpareCtrl (d : Dev) (j b : Nat) : Dev :=
  d.wr rMEM_SPARE_CTRL (d.fld rMEM_SPARE_CTRL fMEM_SPARE_CTRL_GO * 2 ^ 23 + j * 2 ^ 12 + b)

/-- May spare `j` replace bank `b` now (R376)? -/
def Dev.spareFits (d : Dev) (j b : Nat) : Bool :=
  j / 4 == b / 64 && d.fld (rMEM_SPARE j) fMEM_SPARE_STATE == 0 && !d.copyRunning (b / 64)

/-- The replacement of bank `b` by spare `j` starts (R377). -/
def Dev.spareStart (d : Dev) (j b : Nat) : Dev :=
  let d := (d.setSpareCtrl j b).wr (rMEM_SPARE j) (1 * 2 ^ 22 + b * 2 ^ 8)
  (d.wr (rMEM_COPY_POS (b / 64)) 0).setCopy (b / 64) 1

/-- ABORT of the replacement that uses spare `j`; ignored when none runs (R378). -/
def Dev.spareAbort (d : Dev) (j : Nat) : Dev :=
  if d.fld (rMEM_SPARE j) fMEM_SPARE_STATE = 1 then (d.wr (rMEM_SPARE j) 0).setCopy (j / 4) 0 else d

/-- The main-memory address a physical word answers for: its own bank's, or the bank a spare in service stands for. -/
def Dev.physAddr (d : Dev) (bank off : Nat) : Nat :=
  off * 256 + (if bank < 256 then bank else d.fld (rMEM_SPARE (bank - 256)) fMEM_SPARE_FOR)

/-- One word of the copy (R377), by master 0x71: what its read gives, corrected on both sides; an uncorrectable word is counted as every
read of one is (R372), and copied with its wrong bits. -/
def Dev.copyWord (src dst : Nat) (d : Dev) (off : Nat) : Dev :=
  let k := physKey src off
  let e := spGet zeroErr d.mem.mainErr k
  let w := d.cell k
  let (r, d) := d.physRead 0x71 (d.physAddr src off) src off
  if r.ue then (d.setCell (physKey dst off) w).setCellErr (physKey dst off) e else d.setCell (physKey dst off) r.val

/-- A number put into a rising list, once. -/
def insertNat (l : List Nat) (x : Nat) : List Nat :=
  match l with
  | [] => [x]
  | y :: t => if x < y then x :: y :: t else if x = y then y :: t else y :: insertNat t x

/-- The offsets of a bank from `p` up to `q` that hold anything but clean zeros, rising. -/
def Dev.usedOffsets (d : Dev) (bank p q : Nat) : List Nat :=
  let mine (l : List Nat) : List Nat :=
    ((l.filter (fun k => k / 65536 == bank)).map (· % 65536)).filter (fun o => decide (p ≤ o ∧ o < q))
  (mine (d.mem.mainErr.map Prod.fst)).foldl insertNat (mine (d.mem.main.map Prod.fst))

/-- The words of a bank from offset `p` up to `q` zero with valid check bits. -/
def Dev.clearBank (d : Dev) (bank p q : Nat) : Dev :=
  let keep (k : Nat) : Bool := k / 65536 != bank || decide (k % 65536 < p ∨ q ≤ k % 65536)
  { d with mem := { d.mem with main := spKeep keep d.mem.main, mainErr := spKeep keep d.mem.mainErr } }

/-- The copy onto spare `j` goes on up to offset `q`, in ascending order (R377). -/
def Dev.copyTo (d : Dev) (j q : Nat) : Dev :=
  let src := d.physBank (d.fld (rMEM_SPARE j) fMEM_SPARE_FOR)
  let p := d.rd (rMEM_COPY_POS (j / 4))
  let d' := (d.usedOffsets src p q).foldl (Dev.copyWord src (256 + j)) (d.clearBank (256 + j) p q)
  d'.wr (rMEM_COPY_POS (j / 4)) (q % 65536)

/-- How far a running copy in span `s` has come is open within the bounds of R369 and R377: it goes on by a free number of words (log entry 50). -/
def Dev.copyAdvance (d : Dev) (s : Nat) : Dev :=
  match (List.range 4).find? (fun i => d.fld (rMEM_SPARE (4 * s + i)) fMEM_SPARE_STATE == 1) with
  | some i =>
    let (k, d) := d.takeNat
    d.copyTo (4 * s + i) (min 65535 (d.rd (rMEM_COPY_POS s) + k))
  | none => d

/-- The copy is complete and the spare answers for the bank (R377); a former spare is retired. -/
def Dev.spareRemap (d : Dev) (j : Nat) : Dev :=
  if d.fld (rMEM_SPARE j) fMEM_SPARE_STATE = 1 then
    let src := d.physBank (d.fld (rMEM_SPARE j) fMEM_SPARE_FOR)
    let d := d.copyTo j 65536
    let d := d.when (256 ≤ src) (fun d => d.setFld (rMEM_SPARE (src - 256)) fMEM_SPARE_STATE 3)
    let d := d.setFld (rMEM_SPARE j) fMEM_SPARE_STATE 2
    (d.setCopy (j / 4) 0).irqRaise 294
  else d

/-- Span `s` of main memory, spares included, written with zero words (R374). -/
def Dev.zeroSpan (d : Dev) (s : Nat) : Dev :=
  { d with mem := { d.mem with
      main := spKeep (fun k => bankSpan (k / 65536) != s) d.mem.main
      mainErr := spKeep (fun k => bankSpan (k / 65536) != s) d.mem.mainErr } }

/-- MEM_STATUS.INIT bit `s`. -/
def Dev.setInit (d : Dev) (s v : Nat) : Dev := d.wr rMEM_STATUS (natSetBits (d.rd rMEM_STATUS) (20 + s) 1 v)

/-! ### The commands -/

/-- The device with the answer to a fabric request. -/
def Dev.respond (d : Dev) (master a : Nat) (v : Word) (st : Nat) : Dev :=
  { d with mem := { d.mem with resp := some ⟨master, a, v, st⟩ } }

/-- Bits of the stored word at `a` that have gone wrong since it was written. A running copy may have passed the word before (R377). -/
def Dev.flipMain (d : Dev) (a : Nat) (flips : BitVec 55) : Dev :=
  if flips = 0 then d
  else
    let d := d.copyAdvance (a / 64 % 4)
    let k := d.mainKey a
    d.setCellErr k (spGet zeroErr d.mem.mainErr k ^^^ flips)

/-- Wrong bits at fabric word `a` before a read of it: in main memory, the exchange memory, or LPDDR5X, where they make the word
uncorrectable (R384) until it is written whole. -/
def Dev.flipAt (d : Dev) (a : Nat) (flips : BitVec 55) : Dev :=
  if flips = 0 then d
  else if a < 0x3000000 then (if d.mainOff then d else d.flipMain (a % 0x1000000) flips)
  else if 0x200000000 ≤ a ∧ a ≤ 0x200000FFF then
    let w := a - 0x200000000
    { d with mem := { d.mem with exchErr := spSet zeroErr d.mem.exchErr w (spGet zeroErr d.mem.exchErr w ^^^ flips) } }
  else if 0x8000000000 ≤ a ∧ d.ddrServes (a - 0x8000000000) then
    let o := a - 0x8000000000
    { d with mem := { d.mem with ddrErr := spSet zeroErr d.mem.ddrErr o (spGet zeroErr d.mem.ddrErr o ||| flips) } }
  else d

/-- A fabric read (R371, R372, R379, R383): main memory and its aliases, the exchange memory or LPDDR5X. -/
def Dev.fabricRead (d : Dev) (master a : Nat) : Dev :=
  if a < 0x3000000 then
    let d := d.wakeMain
    if d.mainOff then d.respond master a 0 2
    else
      let (r, d) := d.mainRead master (a % 0x1000000)
      d.respond master a r.val (if r.ue then 1 else 0)
  else if 0x200000000 ≤ a ∧ a ≤ 0x200000FFF then
    let w := a - 0x200000000
    let (r, d) := (d.trackOne master).exRead (some master) w
    let d := d.when r.ue (·.exUe (some master) w)
    d.respond master a r.val (if r.ue then 1 else 0)
  else if 0x8000000000 ≤ a ∧ d.ddrServes (a - 0x8000000000) then
    let (r, d) := (d.wakeDdr.trackOne master).ddrRead (a - 0x8000000000)
    d.respond master a r.val (if r.ue then 1 else 0)
  else d.respond master a 0 2

/-- A fabric write (R370, R375, R379, R383). Where `mask` does not cover the word, the write merges (R325). Answers whether a part of it
fell under the silent rule (R379). -/
def Dev.fabricWrite (d : Dev) (master a : Nat) (v mask : Word) : Bool × Dev :=
  if a < 0x3000000 then
    let d := d.wakeMain
    if d.mainOff then (false, d.respond master a 0 2)
    else
      let w := a % 0x1000000
      let d :=
        if a < 0x1000000 then
          (if mask = BitVec.allOnes 48 then (d.trackOne master).mainWrite w v else d.mainMerge master w v mask)
        else if a < 0x2000000 then d.bitSet master w v
        else d.bitClear master w v
      (false, d.respond master a 0 0)
  else if 0x200000000 ≤ a ∧ a ≤ 0x200000FFF then
    let (part, d) := (d.trackOne master).exFabricWrite master (a - 0x200000000) v
    (part, d.respond master a 0 0)
  else if 0x8000000000 ≤ a ∧ d.ddrServes (a - 0x8000000000) then
    (false, ((d.wakeDdr.trackOne master).ddrWrite (a - 0x8000000000) v mask).respond master a 0 0)
  else (false, d.respond master a 0 2)

/-- Who a fabric master is to the exchange memory (R379): a customer steward that must hold GRANT.EXCH in supervisor mode. -/
def masterTarget (m : Nat) : Option Nat := if m = 0x51 then some 1 else if m = 0x52 then some 2 else none

/-- May a master reach the exchange memory (R379): T0, a customer steward with GRANT.EXCH, an inbound Wearan port, or what T0 alone lets
work there (DMA under its own checks, the fill engine)? -/
def Dev.exOpen (d : Dev) (m : Nat) : Bool :=
  match masterTarget m with
  | some t => natBit (d.rd (rSEC_T_GRANT t)) 9
  | none => m == 0x50 || m == 0x40 || decide (0x61 ≤ m ∧ m ≤ 0x63) || m == 0x72

/-- An access of master `m` falls under the silent rule: a customer steward's is counted (R305). -/
def Dev.fabricViol (d : Dev) (m : Nat) : Dev :=
  match masterTarget m with
  | some t => (d.bump (rSEC_T_VIOL_CNT t) fSEC_T_VIOL_CNT_COUNT).raise (rSEC_T_STATUS t) fSEC_T_STATUS_VIOL
  | none => d

/-- Is `a` an exchange word that the master may not reach? -/
def Dev.exShut (d : Dev) (m a : Nat) : Bool := decide (0x200000000 ≤ a ∧ a ≤ 0x200000FFF) && !d.exOpen m

/-- A read that a master makes: of an exchange word that it may not reach it gives zero (R305, R379). -/
def Dev.masterRead (d : Dev) (m a : Nat) (flips : BitVec 55) : Dev :=
  if d.exShut m a then (d.fabricViol m).respond m a 0 0 else (d.flipAt a flips).fabricRead m a

/-- A write that a master makes: none to an exchange word that it may not reach. -/
def Dev.masterWrite (d : Dev) (m a : Nat) (v mask : Word) : Dev :=
  if d.exShut m a then (d.fabricViol m).respond m a 0 0
  else
    let (part, d) := d.fabricWrite m a v mask
    d.when part (·.fabricViol m)

def execBitSetStore (master : BitVec 8) (addr : BitVec 24) (value : Word) (s : State) :=
  s.upd (fun d => ((d.trackAlias master.toNat).fabricWrite master.toNat (0x1000000 + addr.toNat) value (BitVec.allOnes 48)).2)

def execBitClearStore (master : BitVec 8) (addr : BitVec 24) (value : Word) (s : State) :=
  s.upd (fun d => ((d.trackAlias master.toNat).fabricWrite master.toNat (0x2000000 + addr.toNat) value (BitVec.allOnes 48)).2)

/-- The next offset the patrol reads in a bank. -/
def Dev.scrubPos (d : Dev) (b : Nat) : Nat := (assocGet d.mem.scrub b).getD 0

/-- The patrol reads a bank's next word (R373). -/
def Dev.patrol (d : Dev) (b : Nat) (flips : BitVec 55) : Dev :=
  let pos := d.scrubPos b
  if !d.flag rMEM_CTRL fMEM_CTRL_SCRUB_EN || decide (65536 ≤ pos) then d
  else
    let k := physKey b pos
    let d := if flips = 0 then d else (d.copyAdvance (bankSpan b)).setCellErr k (spGet zeroErr d.mem.mainErr k ^^^ flips)
    let d := (d.physRead 0x70 (d.physAddr b pos) b pos).2
    { d with mem := { d.mem with scrub := spInsert d.mem.scrub b (pos + 1) } }

def execPatrolScrubRead (bank : Fin 272) (flips : BitVec 55) (s : State) := s.upd (·.patrol bank flips)

/-- A patrol period ends (R373): a bank that has not finished sets SCRUB_LATE and goes on; the others begin again. -/
def Dev.scrubEnd (d : Dev) : Dev :=
  if !d.flag rMEM_CTRL fMEM_CTRL_SCRUB_EN then d
  else
    let late := (List.range 272).any (fun b => decide (d.scrubPos b < 65536))
    let d := d.wr rMEM_SCRUB_PASS ((d.rd rMEM_SCRUB_PASS + 1) % 2 ^ 24)
    let d := d.when late (·.raise rMEM_STATUS fMEM_STATUS_SCRUB_LATE)
    { d with mem := { d.mem with scrub := d.mem.scrub.filter (fun p => decide (p.2 < 65536)) } }

def execScrubPeriodEnd (s : State) := s.upd Dev.scrubEnd

def execDdrEnable (value : Reg) (s : State) := s.upd (·.ddrCfgWrite value.toNat)

/-- Training ends (R383): READY and the usable space, or TRAIN_FAIL. -/
def Dev.ddrTrained (d : Dev) (ok : Bool) : Dev :=
  if !d.mem.ddrTraining then d
  else
    let d := { d with mem := { d.mem with ddrTraining := false } }
    if ok then
      let n := ddrSize (d.fld rMEM_DDR_CFG fMEM_DDR_CFG_DENSITY)
      let d := (d.wr rMEM_DDR_WORDS_LO (n % 2 ^ 24)).wr rMEM_DDR_WORDS_HI (n / 2 ^ 24)
      d.setFld rMEM_DDR_STATUS fMEM_DDR_STATUS_READY 1
    else d.raise rMEM_DDR_STATUS fMEM_DDR_STATUS_TRAIN_FAIL

/-- Zeroing of the exchange memory after power-on ends (R382): XBUSY rises. -/
def execExchangeZeroed (s : State) :=
  s.upd (fun d =>
    if d.mem.exBusy then
      ({ d with mem := { d.mem with exBusy := false } }).busyFor 20000
    else d)

end Sys2Proof.Machine
end

