-- ==== Sys2Proof/Machine/Cores.lean ====
section
/-! DEFINITION. The Silis cores as state (chapters 11 and 12): their local memories, starts and stops, the private port,
the customer targets' control registers and the interrupt controller. What an instruction does is in Silis.lean. -/

namespace Sys2Proof.Machine

/-- The core code of the debug packets (R341); T0, which they cannot name, follows (0x4A). -/
def coreCode : CoreId → Nat
  | .t0 => 0x4A
  | .t1 => 0x48
  | .t2 => 0x49
  | .lc cl k => 9 * cl.val + k.val

/-- Is a core code a line core's? -/
def isLineCode (c : Nat) : Bool := decide (c < 72)

/-- The interrupt target of a steward's code (R297). -/
def targetOf (c : Nat) : Nat := if c = 0x48 then 1 else if c = 0x49 then 2 else 0

/-- The steward code of a target. -/
def codeOfTarget (t : Nat) : Nat := if t = 1 then 0x48 else if t = 2 then 0x49 else 0x4A

/-- The fabric master a core's requests carry (R367). -/
def masterOfCode (c : Nat) : Nat := if c < 72 then 0x30 + c / 9 else 0x50 + targetOf c

/-- A core that has never been started. -/
def Core.idle : Core where
  run := 0
  pc := 0xFFFF000000
  slot := 0
  ds := []
  rs := []
  mode := 0
  bnk := 0
  dsp := 0
  rsp := 0
  dsl := 0
  rsl := 0
  lcnt := 0
  lbeg := 0
  lend := 0
  cause := 0
  btTaken := false
  dslot := false
  ex := false
  pie := false
  ie := false
  epc := 0
  etgt := 0
  emode := 0
  evmask := 0
  shadow := []
  delay := none
  skip := []
  wait := 0
  waitArg := 0
  woken := false
  stall := 0
  posted := []
  cycles := 0
  recw0 := 0
  line := 0
  frame := 0
  haltReq := false
  pass := 0
  steps := none
  cur := none
  stale := []
  fenced := false
  pioIn := 0
  pioOut := 0
  pioOe := 0

/-- A steward at its start (R300). -/
def Core.stewardStart (c : Core) : Core :=
  { Core.idle with
    run := 1, pc := 0xFFFF000000, mode := 1, bnk := 0xFFFF00
    dsp := 0x3800, dsl := 0x3C003800, rsp := 0x3C00, rsl := 0x40003C00
    posted := c.posted, pioIn := c.pioIn, pioOut := c.pioOut, pioOe := c.pioOe }

/-- A steward's core after a reset or a loss of its supply: its private port still reads its pins (R303). -/
def Core.down (c : Core) : Core := { Core.idle with pioIn := c.pioIn, posted := c.posted }

/-- A line core at the start of line `line` of frame `frame` from the code bank at `base` (R132, R133). What EPC, ETGT, EMODE
and ST hold then is not said: they keep what they held (log entry 8). -/
def Core.lineStart (c : Core) (base line frame : Nat) : Core :=
  { c with
    run := 1, pc := 0xFFFF000000 + base, slot := 0, ds := [], rs := [], mode := 2, bnk := 0xFFFF00
    dsp := 0x0C00, dsl := 0x0E000C00, rsp := 0x0E00, rsl := 0x10000E00
    lcnt := 0, lbeg := 0, lend := 0, shadow := [], delay := none, skip := []
    wait := 0, waitArg := 0, woken := false, stall := 0, cycles := 0, line := line, frame := frame
    pass := 0, cur := none, stale := [], fenced := false }

/-- The core with code `c`. -/
def Dev.core (d : Dev) (c : Nat) : Core := spGet (fun _ => Core.idle) d.cores c

/-- The device with `x` as the core with code `c`. -/
def Dev.setCore (d : Dev) (c : Nat) (x : Core) : Dev :=
  { d with cores := spSet (fun _ => Core.idle) d.cores c x }

/-- The core with code `c` changed by `f`. -/
def Dev.modCore (d : Dev) (c : Nat) (f : Core → Core) : Dev := d.setCore c (f (d.core c))

/-! ### Core-local memory (R133, R301) -/

/-- The words of a core's local memory. -/
def lmemSize (c : Nat) : Nat := if c < 72 then 0x1000 else 0x4000

/-- The free value of the word at key `k`, if the spec leaves its content open. -/
def openAt (l : List (Nat × Nat × Nat)) (k : Nat) : Option Nat :=
  l.findSome? (fun x => if x.1 ≤ k ∧ k < x.1 + x.2.1 then some (x.2.2 + (k - x.1)) else none)

/-- The open runs without the `n` keys from `k` on. -/
def openCut (l : List (Nat × Nat × Nat)) (k n : Nat) : List (Nat × Nat × Nat) :=
  l.flatMap (fun x =>
    let g := max x.1 (k + n)
    [(x.1, min x.2.1 (k - x.1), x.2.2), (g, x.1 + x.2.1 - g, x.2.2 + (g - x.1))].filter (fun y => y.2.1 != 0))

/-- A word of a core's local memory. -/
def Dev.lword (d : Dev) (c a : Nat) : Word :=
  match openAt d.lmem.opn (c * 65536 + a) with
  | some i => Config.freeWord i
  | none => spGet zeroWord d.lmem.words (c * 65536 + a)

/-- A word of one core's local memory written. -/
def Dev.setLword1 (d : Dev) (c a : Nat) (w : Word) : Dev :=
  { d with lmem := ⟨spSet zeroWord d.lmem.words (c * 65536 + a) w, openCut d.lmem.opn (c * 65536 + a) 1⟩ }

/-- `n` words of a core's local memory from `a` on, whose content the spec leaves open from here (R133, R458): free values. -/
def Dev.openLmem (d : Dev) (c a n : Nat) : Dev :=
  let k := c * 65536 + a
  { d with
    free := d.free + n
    lmem := ⟨spKeep (fun j => decide (j < k ∨ k + n ≤ j)) d.lmem.words, (k, n, d.free) :: openCut d.lmem.opn k n⟩ }

/-- A word of a core's local memory written. While T1 is paired, STW3 runs the same code (R298), so its memory takes
the same store. -/
def Dev.setLword (d : Dev) (c a : Nat) (w : Word) : Dev :=
  let d := d.setLword1 c a w
  if c = 0x48 ∧ d.paired then d.setLword1 0x49 a w else d

/-- A core's local memory cleared. -/
def Dev.clearLmem (d : Dev) (c : Nat) : Dev :=
  { d with lmem := ⟨spKeep (fun k => k / 65536 != c) d.lmem.words, openCut d.lmem.opn (c * 65536) 65536⟩ }

/-- A core's local memory lost with its pier's supply (R458): what it holds from here is open. -/
def Dev.loseLmem (d : Dev) (c : Nat) : Dev := d.openLmem c 0 (lmemSize c)

/-! ### Targets (R297 to R307) -/

/-- The state of customer target `t` (1, 2): 0 stopped, 1 running, 2 halted, 3 stopped by a fault. -/
def Dev.secState (d : Dev) (t : Nat) : Nat := d.fld (rSEC_T_STATUS t) fSEC_T_STATUS_STATE

def Dev.setSecState (d : Dev) (t v : Nat) : Dev := d.setFld (rSEC_T_STATUS t) fSEC_T_STATUS_STATE v

/-- A steward started afresh (R300, R315). -/
def Dev.stewardStart (d : Dev) (t : Nat) : Dev :=
  let d := (d.modCore (codeOfTarget t) Core.stewardStart).irqTargetReset t
  if t = 0 then d else d.setSecState t 1

/-- A customer core stopped at once (R304, R315): its posted stores complete, everything else is discarded. -/
def Dev.stewardStop (d : Dev) (t st : Nat) : Dev :=
  let d := d.modCore (codeOfTarget t) (fun c =>
    { c with run := if st = 3 then 3 else 0, ds := [], rs := [], shadow := [], delay := none, skip := [],
             wait := 0, woken := false, haltReq := false, pass := 0, steps := none })
  (d.irqTargetReset t).setSecState t st

/-- The address of the slot a core executes next, in the form of EPC (R282). -/
def Core.slotAddr (x : Core) : Nat := x.slot * 2 ^ 40 + x.pc % 2 ^ 40

/-- ST as a word (R281). -/
def Core.st (x : Core) : Nat :=
  x.cause % 16 * 32 + x.btTaken.toNat * 16 + x.dslot.toNat * 8 + x.ex.toNat * 4 + x.pie.toNat * 2 + x.ie.toNat

/-- The words of an image copied into local memory from word 0 (R304), into both cores' memories while T1 is paired
(R299), and whether it met an uncorrectable word, where the copy ends (R372). -/
def Dev.copyImage (d : Dev) (c base len : Nat) : Bool × Dev :=
  let n := ((List.range len).takeWhile (fun i => !d.peekUe (base + i))).length
  let (ws, _, d) := d.mainReadRun 0x50 base n
  let d := ((List.range n).zip ws).foldl (fun d p => d.setLword c p.1 p.2) d
  if n < len then (true, d.touch 0x50 [base + n]) else (false, d)

/-- Does `t` take no writes of its registers: T2 while T1 is paired (R299)? -/
def Dev.secMuted (d : Dev) (t : Nat) : Bool := t == 2 && d.paired

/-- LOADING, and CTRL.LOAD, which reads 1 while a copy runs (R13). -/
def Dev.setLoading (d : Dev) (t : Nat) (b : Bool) : Dev :=
  (d.setFld (rSEC_T_STATUS t) fSEC_T_STATUS_LOADING b.toNat).setFld (rSEC_T_CTRL t) fSEC_T_CTRL_LOAD b.toNat

/-- A write of 1 to LOAD (R304): the copy runs from the source and length that stand now. One that is written while a copy runs makes it run
again (R13). -/
def Dev.secLoad (d : Dev) (t : Nat) : Dev :=
  if d.secMuted t then d
  else
    let base := d.rd (rSEC_T_LOAD_BASE t)
    let len := d.fld (rSEC_T_LOAD_LEN t) fSEC_T_LOAD_LEN_LEN_M1 + 1
    if d.secState t ≠ 0 ∨ 0x1000000 < base + len then d.setFld (rSEC_T_STATUS t) fSEC_T_STATUS_LOAD_BAD 1
    else { d.setLoading t true with loads := (t, base, len) :: d.loads.filter (·.1 != t) }

/-- The copy completes: LOADED is set, and a start that waited for it begins (R304). A copy that meets an uncorrectable
word ends with LOAD_BAD and starts nothing (R372). -/
def Dev.secLoadDone (d : Dev) (t : Nat) : Dev :=
  match assocGet d.loads t with
  | none => d
  | some (base, len) =>
    let (ue, d) := d.copyImage (codeOfTarget t) base len
    let d : Dev := { d.setLoading t false with loads := d.loads.filter (·.1 != t) }
    if ue then d.setFld (rSEC_T_STATUS t) fSEC_T_STATUS_LOAD_BAD 1
    else
      let d := d.setFld (rSEC_T_STATUS t) fSEC_T_STATUS_LOADED 1
      d.when (d.flag (rSEC_T_CTRL t) fSEC_T_CTRL_RUN) (·.stewardStart t)

/-- RUN written 1 (R304): a start when it was 0, which waits for a running copy. -/
def Dev.secRun (d : Dev) (t : Nat) : Dev :=
  if d.secMuted t ∨ d.flag (rSEC_T_CTRL t) fSEC_T_CTRL_RUN then d
  else
    let d := d.setFld (rSEC_T_CTRL t) fSEC_T_CTRL_RUN 1
    if d.flag (rSEC_T_STATUS t) fSEC_T_STATUS_LOADING then d else d.stewardStart t

/-- RUN written 0 (R304): the core stops at once when it was 1. -/
def Dev.secStop (d : Dev) (t : Nat) : Dev :=
  if d.secMuted t ∨ !d.flag (rSEC_T_CTRL t) fSEC_T_CTRL_RUN then d
  else (d.setFld (rSEC_T_CTRL t) fSEC_T_CTRL_RUN 0).stewardStop t 0

/-- The copy that runs for target `t`, if any, given up: nothing is copied, nothing started, and the record of the base that waits for it is
let go (R351). -/
def Dev.copyDropped (d : Dev) (t : Nat) : Dev :=
  { d.setLoading t false with
    loads := d.loads.filter (·.1 != t), cfg := { d.cfg with stews := d.cfg.stews.filter (·.1 != t) } }

/-- A write of PAIR (R299): taken only while both targets read STATE 0. T2, which is absent from then on (R297), gives up a copy that runs
(log entry 58). -/
def Dev.secPair (d : Dev) (v : Bool) : Dev :=
  if d.secState 1 = 0 ∧ d.secState 2 = 0 then
    ((d.setFld (rSEC_T_CTRL 1) fSEC_T_CTRL_PAIR v.toNat).when v (·.copyDropped 2)).irqSettle
  else d

/-- A customer core stops on a fault (R298, R307): a lockstep mismatch of the pair, or a double fault. -/
def Dev.customerFault (d : Dev) (t : Nat) (lockstep : Bool) : Dev :=
  let d := (d.stewardStop t 3).reportUnit 0x10 0x0B (t + 1)
  if lockstep then (d.setFld (rSEC_T_STATUS t) fSEC_T_STATUS_LOCKSTEP 1).irqRaise 346
  else (d.setFld (rSEC_T_STATUS t) fSEC_T_STATUS_DOUBLE 1).irqRaise (if t = 1 then (if d.paired then 346 else 347) else 348)

/-- T0 reloads the image and starts the core (R307). -/
def Dev.autoRestart (d : Dev) (t : Nat) : Dev :=
  if d.secState t = 3 ∧ d.flag (rSEC_T_CTRL t) fSEC_T_CTRL_AUTO_RESTART then
    let base := d.rd (rSEC_T_LOAD_BASE t)
    let len := d.fld (rSEC_T_LOAD_LEN t) fSEC_T_LOAD_LEN_LEN_M1 + 1
    let (ue, d) := if base + len ≤ 0x1000000 then d.copyImage (codeOfTarget t) base len else (true, d)
    if ue then d.setFld (rSEC_T_STATUS t) fSEC_T_STATUS_LOAD_BAD 1
    else ((d.stewardStart t).setFld (rSEC_T_STATUS t) fSEC_T_STATUS_LOADED 1).setFld (rSEC_T_STATUS t) fSEC_T_STATUS_RESTARTED 1
  else d

/-! ### The private port (R303) -/

/-- The low 16 bits of a stored word. -/
def low16 (w : Word) : Nat := w.toNat % 65536

/-- A load from the private port. -/
def Core.pioLoad (c : Core) (off : Nat) : Word :=
  BitVec.ofNat 48 (if off = 0 then c.pioIn else if off = 1 then c.pioOut else if off = 5 then c.pioOe else 0)

/-- PIO_SET, PIO_CLR and PIO_TGL. -/
def Core.pioSet (c : Core) (v : Nat) : Core := { c with pioOut := c.pioOut ||| v }
def Core.pioClr (c : Core) (v : Nat) : Core := { c with pioOut := c.pioOut &&& (65535 - v) }
def Core.pioTgl (c : Core) (v : Nat) : Core := { c with pioOut := c.pioOut ^^^ v }

/-- A store to the private port. -/
def Core.pioStore (c : Core) (off : Nat) (w : Word) : Core :=
  let v := low16 w
  if off = 1 then { c with pioOut := v }
  else if off = 2 then c.pioSet v
  else if off = 3 then c.pioClr v
  else if off = 4 then c.pioTgl v
  else if off = 5 then { c with pioOe := v }
  else c

/-- A change of a port input: PIO_IN follows, and a wait for that bit ends (R308). -/
def Dev.pioInput (d : Dev) (c bit : Nat) (level : Bool) : Dev :=
  d.modCore c (fun x =>
    let x' := { x with pioIn := natSetBits x.pioIn bit 1 level.toNat }
    if x'.pioIn ≠ x.pioIn ∧ x.wait = 1 ∧ natBit x.evmask 46 ∧ natBits x.evmask 8 4 = bit then { x' with woken := true }
    else x')

/-- Does a pin's crossbar register name a signal whose code lies from `lo` on, `n` codes in all (R507, R508)? -/
def Dev.xbarUses (d : Dev) (lo n : Nat) : Bool :=
  (List.range 96).any (fun p =>
    let a := d.fld (rXBAR_PIN p) fXBAR_PIN_SRC_A
    let b := d.fld (rXBAR_PIN p) fXBAR_PIN_SRC_B
    (decide (lo ≤ a) && decide (a < lo + n)) || (decide (lo ≤ b) && decide (b < lo + n)))

/-- The first crossbar code of a core's private port (R508); none for a core without one. -/
def pioCode (c : Nat) : Option Nat := if c = 0x4A then some 0x40 else if c = 0x48 then some 0x50 else if c = 0x49 then some 0x60 else none

/-- The private port of a core changed: where a pin names it, a crossbar source changes, which wakes the pads' pier (R512). -/
def Dev.pioChange (d : Dev) (c : Nat) (f : Core → Core) : Dev :=
  if f (d.core c) = d.core c then d
  else (d.modCore c f).when ((pioCode c).elim false (fun k => d.xbarUses k 16)) (·.wake 38)

/-! ### Pulses and waiting cores (R136, R308) -/

/-- The pier of the core with code `c`. -/
def corePier (c : Nat) : Nat := if c < 72 then 14 + c / 9 else if c = 0x48 then 3 else if c = 0x49 then 4 else 2

/-- The clock branch of the core with code `c` (R473). -/
def coreBranch (c : Nat) : Nat := if c < 72 then 12 + c / 9 else if c = 0x48 then 21 else if c = 0x49 then 22 else 20

/-- Something arrives at a core: its pier wakes and its branch opens (R459, R473). -/
def Dev.coreReach (d : Dev) (c : Nat) : Dev := (d.wake (corePier c)).gateOpen (coreBranch c)

/-- Does a core wait for event line `ev`? -/
def Core.awaits (c : Core) (ev : Nat) : Bool :=
  (c.wait == 2 && c.waitArg == ev) || (c.wait == 1 && natBit c.evmask 47 && natBits c.evmask 0 8 == ev)

/-- A pulse on event line `ev` reaches the cores that wait for it, and wakes their piers (R459). -/
def Dev.corePulse (d : Dev) (ev : Nat) : Dev :=
  let cs := (d.cores.filter (fun p => p.2.awaits ev)).map (·.1)
  cs.foldl Dev.coreReach { d with cores := spMapVals (fun c => if c.awaits ev then { c with woken := true } else c) d.cores }

/-- What WFI waits for has come: a pending request, or an enabled wake condition (R289, R308). -/
def Dev.wfiReady (d : Dev) (c : Nat) : Bool := d.irqReq (targetOf c) || (d.core c).woken

/-- The wait of a WFI ends (R308). -/
def Dev.wfiWake (d : Dev) (c : Nat) : Dev :=
  if (d.core c).wait = 1 ∧ d.wfiReady c then (d.coreReach c).modCore c (fun x => { x with wait := 0, woken := false }) else d

/-- The wait of an EVWAIT ends (R136). -/
def Dev.evwaitWake (d : Dev) (c : Nat) : Dev :=
  if (d.core c).wait = 2 ∧ (d.core c).woken then d.modCore c (fun x => { x with wait := 0, woken := false }) else d

/-! ### The interrupt controller's registers (R310 to R314) -/

/-- The sources named by the 1 bits of word `k` of SETP or CLRP. -/
def setpSources (k v : Nat) : List Nat :=
  ((List.range 24).filter (natBit v)).map (24 * k + ·)

/-- 1 bits written to IRQC_SETPk (R310). -/
def Dev.setpWrite (d : Dev) (k v : Nat) : Dev := (setpSources k v).foldl Dev.irqRaise d

/-- 1 bits written to IRQC_CLRPk (R310). -/
def Dev.clrpWrite (d : Dev) (k v : Nat) : Dev :=
  ((setpSources k v).filter (fun s => decide (s ≠ 0 ∧ s < 511))).foldl Dev.irqClear d

/-- The eligible source of highest PRI, lowest number among equals (R312, R18), as (number, PRI). -/
def bestSource (l : List (Nat × Nat)) : Option (Nat × Nat) :=
  l.foldl (fun b p =>
    let pri := natBits p.2 0 4
    match b with
    | none => some (p.1, pri)
    | some (_, q) => if q < pri then some (p.1, pri) else b) none

/-- The source a claim of target `t` takes (R312). With the stack full the request line is held low (R314), and a claim
takes nothing (log entry 9). -/
def Dev.claimable (d : Dev) (t : Nat) : Option (Nat × Nat) :=
  if (d.irqStack t).length < 8 then bestSource (d.irqEligible t) else none

/-- What a claim of target `t` would return (R312, R313). -/
def Dev.claimValue (d : Dev) (t : Nat) : Nat :=
  match d.claimable t with
  | some (s, _) => s
  | none => if d.flag (rIRQC_T_STATUS t) fIRQC_T_STATUS_SEEN then 511 else 0

/-- The stack of target `t` and its running priority written together. -/
def Dev.setIrqStack (d : Dev) (t : Nat) (st : List Nat) (pri : Nat) : Dev :=
  let d := { d with irqc := { rows := d.irqc.rows.set t st } }
  d.wr (rIRQC_T_RUN t) (st.length * 2 ^ 4 + pri)

/-- A claim of target `t` (R312, R313): the value shows in the CLAIM register. -/
def Dev.claim (d : Dev) (t : Nat) : Dev :=
  let v := d.claimValue t
  let d' := d.setFld (rIRQC_T_STATUS t) fIRQC_T_STATUS_SEEN 0
  let d' := d'.wr (rIRQC_T_CLAIM t) v
  match d.claimable t with
  | some (s, pri) =>
    let st := d.irqRunning t :: d.irqStack t
    ((d'.setFld (rIRQC_SRC s) fIRQC_SRC_PEND 0).setIrqStack t st pri).irqSettle
  | none => d'.when (v == 511) (·.bump (rIRQC_T_SPUR_CNT t) fIRQC_T_SPUR_CNT_COUNT)

/-- EOI.POP (R314). -/
def Dev.eoi (d : Dev) (t : Nat) : Dev :=
  match d.irqStack t with
  | [] => (d.setIrqStack t [] 0).setFld (rIRQC_T_STATUS t) fIRQC_T_STATUS_STACK_UFL 1 |>.irqSettle
  | p :: rest => (d.setIrqStack t rest p).irqSettle

/-! ### The commands -/

def execWfiWake (core : CoreId) (s : State) := s.upd (·.wfiWake (coreCode core))

def execPioSetWrite (core : CoreId) (value : Word) (s : State) :=
  s.upd (fun d => d.when (!isLineCode (coreCode core)) (·.pioChange (coreCode core) (·.pioSet (low16 value))))

def execPioClrWrite (core : CoreId) (value : Word) (s : State) :=
  s.upd (fun d => d.when (!isLineCode (coreCode core)) (·.pioChange (coreCode core) (·.pioClr (low16 value))))

def execPioTglWrite (core : CoreId) (value : Word) (s : State) :=
  s.upd (fun d => d.when (!isLineCode (coreCode core)) (·.pioChange (coreCode core) (·.pioTgl (low16 value))))

def execSecLoad (t : Fin 2) (s : State) := s.upd (·.secLoad (t.val + 1))

def execSecRunStart (t : Fin 2) (s : State) := s.upd (·.secRun (t.val + 1))

def execSecRunStop (t : Fin 2) (s : State) := s.upd (·.secStop (t.val + 1))

def execSecPairWrite (pair : Bool) (s : State) := s.upd (·.secPair pair)

def execCustomerAutoRestart (t : Fin 2) (s : State) := s.upd (·.autoRestart (t.val + 1))

def execIrqSourceRaise (src : Fin 511) (s : State) := s.upd (·.irqRaise src)

def execIrqcSetpWrite (k : Fin 22) (value : Reg) (s : State) := s.upd (·.setpWrite k value.toNat)

def execIrqcClrpWrite (k : Fin 22) (value : Reg) (s : State) := s.upd (·.clrpWrite k value.toNat)

def execIrqcClaimRead (t : Fin 3) (s : State) := s.upd (·.claim t)

def execIrqcEoiPop (t : Fin 3) (s : State) := s.upd (·.eoi t)

end Sys2Proof.Machine
end

