-- ==== Sys2Proof/Machine/Colour.lean ====
section
/-! DEFINITION. Colour arithmetic (R165 to R170), pixel packing (R87), the frame-store code (R183) and the signature
CRC (R241). Colours are 2.14 with 0x4000 = 1.0 (R98). -/

namespace Sys2Proof.Machine

/-- 1.0 in 2.14. -/
def one14 : Nat := 0x4000

/-- `x / n` rounded to nearest, ties to even (R165). -/
def rne (x : Int) (n : Nat) : Int :=
  let q := x / (n : Int)
  let r := x % (n : Int)
  if 2 * r < (n : Int) then q
  else if (n : Int) < 2 * r then q + 1
  else if q % 2 = 0 then q else q + 1

/-- `x / n` rounded to nearest, ties to even, for naturals. -/
def rneN (x n : Nat) : Nat := (rne (x : Int) n).toNat

/-- A 2.14 product (R165). -/
def mul14 (x y : Nat) : Nat := rneN (x * y) one14

/-- A sum saturated to 0 to 0xFFFF (R165). -/
def sat16 (x : Int) : Nat := (max 0 (min 0xFFFF x)).toNat

/-- `x` clamped to 0 to `hi`. -/
def clampN (x : Int) (hi : Nat) : Nat := (max 0 (min (hi : Int) x)).toNat

/-- The red, green and blue halves of a 48-bit colour word (R98). -/
def wordRgb (w : Nat) : Nat × Nat × Nat := (natBits w 32 16, natBits w 16 16, natBits w 0 16)

/-- The 48-bit colour word of three 2.14 values. -/
def rgbWord (r g b : Nat) : Word := BitVec.ofNat 48 (r % 65536 * 2 ^ 32 + g % 65536 * 2 ^ 16 + b % 65536)

/-- An `n`-bit code widened to 10 bits by bit replication (R165). -/
def widen10 (v n : Nat) : Nat :=
  if n = 0 then 0
  else if 10 ≤ n then v >>> (n - 10)
  else if 10 ≤ 2 * n then (v * 2 ^ n + v) >>> (2 * n - 10)
  else (v * 2 ^ (2 * n) + v * 2 ^ n + v) >>> (3 * n - 10)

/-! ### The tables of R170 -/

/-- The largest `r ≤ hi` with `p r`, for a `p` true up to some point; by bisection with `fuel` steps. -/
def bisect (p : Nat → Bool) : Nat → Nat → Nat → Nat
  | 0, lo, _ => lo
  | fuel + 1, lo, hi =>
    if hi ≤ lo then lo
    else
      let mid := (lo + hi + 1) / 2
      if p mid then bisect p fuel mid hi else bisect p fuel lo (mid - 1)

/-- round(0x4000 × EOTF(i / 1023)) for the sRGB EOTF (R170; log entry 10). Above the linear part the value is
0x4000 × q^2.4 with q = (i / 1023 + 0.055) / 1.055 = (1000 i + 56265) / 1079265, compared by fifth powers. -/
def eotfEntry (i : Nat) : Nat :=
  if i * 100000 ≤ 4045 * 1023 then rneN (one14 * i * 100) (1023 * 1292)
  else
    let num := 1000 * i + 56265
    let den := 1079265
    bisect (fun r => decide ((2 * r - 1) ^ 5 * den ^ 12 ≤ 2 ^ 5 * one14 ^ 5 * num ^ 12)) 20 0 one14

/-- round(65,535 × OETF(j / 4095)) for the sRGB OETF (R170; log entry 10), compared by twelfth powers:
65,535 × (1.055 x^(5/12) − 0.055). -/
def oetfEntry (j : Nat) : Nat :=
  if j * 10000000 ≤ 31308 * 4095 then rneN (65535 * 1292 * j) (100 * 4095)
  else
    bisect (fun r =>
      decide ((2 * r - 1) * 1000 ≤ 0 ∨
        ((2 * r - 1) * 1000 + 2 * 65535 * 55) ^ 12 * 4095 ^ 5 ≤ (2 * 65535 * 1055) ^ 12 * j ^ 5)) 20 0 65535

/-- Entry `i` of degamma set `k`, as a word. -/
def Luts.dgWord (t : Luts) (k i : Nat) : Nat :=
  match (t.dg.getD k none) with
  | some l => (l.getD i 0).toNat
  | none => (rgbWord (eotfEntry i) (eotfEntry i) (eotfEntry i)).toNat

/-- Entry `j` of the regamma table, as a word; entry 4,096 reads as 4,095 (R168). -/
def Luts.rgWord (t : Luts) (j : Nat) : Nat :=
  let j := min j 4095
  match t.rg with
  | some l => (l.getD j 0).toNat
  | none => (rgbWord (oetfEntry j) (oetfEntry j) (oetfEntry j)).toNat

/-- Scaler word `p`: the bilinear taps (0, 1 − p/64, p/64, 0) at reset (R170). -/
def Luts.scWord (t : Luts) (p : Nat) : Nat :=
  match t.sc with
  | some l => (l.getD p 0).toNat
  | none => (one14 - 256 * (p % 64)) * 2 ^ 16 + 256 * (p % 64)

/-- The four taps of scaler word `p`, signed 2.14 (R170). -/
def Luts.taps (t : Luts) (p : Nat) : List Int :=
  let w := t.scWord p
  let a := natToInt 16 (natBits w 32 16)
  let b := natToInt 16 (natBits w 16 16)
  let c := natToInt 16 (natBits w 0 16)
  [a, b, c, (one14 : Int) - (a + b + c)]

/-- One channel of a colour word: 0 red, 1 green, 2 blue. -/
def chan (w c : Nat) : Nat := natBits w (32 - 16 * c) 16

/-! ### The steps of R165 -/

/-- What a layer's registers say of its colour steps: degamma on, its set, matrix on, matrix first, the coefficients. -/
structure LayCol where
  dgEn : Bool
  dgSet : Nat
  mtxEn : Bool
  mtxFirst : Bool
  m : List Int
  alpha : Nat
deriving DecidableEq, Repr

/-- One row of a matrix (R166): each product rounded, the four terms added exactly, the total saturated. -/
def mtxRow (m : List Int) (row : Nat) (r g b a : Nat) : Nat :=
  let t (c v : Nat) : Int := rne (m.getD (4 * row + c) 0 * (v : Int)) one14
  sat16 (t 0 r + t 1 g + t 2 b + t 3 a)

/-- A colour through a matrix (R166). -/
def mtxApply (m : List Int) (p : Px) : Px :=
  ⟨mtxRow m 0 p.r p.g p.b p.a, mtxRow m 1 p.r p.g p.b p.a, mtxRow m 2 p.r p.g p.b p.a, p.a⟩

/-- An `n`-bit code as a linear 2.14 value with no curve (R165). -/
def flat14 (v n : Nat) : Nat := rneN (one14 * v) (2 ^ n - 1)

/-- Steps 1 and, with MTX_FIRST, the matrix before it, for encoded channels (R165): a linear colour, straight alpha. -/
def degammaPx (l : LayCol) (t : Luts) (nr ng nb r g b a : Nat) : Px :=
  if l.mtxFirst then
    let p : Px := ⟨flat14 r nr, flat14 g ng, flat14 b nb, a⟩
    let p := if l.mtxEn then mtxApply l.m p else p
    let p : Px := ⟨min p.r one14, min p.g one14, min p.b one14, a⟩
    if l.dgEn then
      let ix (c : Nat) : Nat := rneN (c * 1023) one14
      ⟨chan (t.dgWord l.dgSet (ix p.r)) 0, chan (t.dgWord l.dgSet (ix p.g)) 1, chan (t.dgWord l.dgSet (ix p.b)) 2, a⟩
    else p
  else if l.dgEn then
    ⟨chan (t.dgWord l.dgSet (widen10 r nr)) 0, chan (t.dgWord l.dgSet (widen10 g ng)) 1,
      chan (t.dgWord l.dgSet (widen10 b nb)) 2, a⟩
  else ⟨flat14 r nr, flat14 g ng, flat14 b nb, a⟩

/-- Step 2: colour multiplied by its alpha (R165). -/
def premul (p : Px) : Px := ⟨mul14 p.r p.a, mul14 p.g p.a, mul14 p.b p.a, p.a⟩

/-- A raw dot as a premultiplied linear colour (steps 1 and 2), with the palette `pal`. -/
def rawPx (l : LayCol) (t : Luts) (pal : Nat → Nat → Nat) : Raw → Px
  | .clear => ⟨0, 0, 0, 0⟩
  | .pal p e => let (r, g, b) := wordRgb (pal p e); ⟨r, g, b, one14⟩
  | .cov p e a => let (r, g, b) := wordRgb (pal p e); premul ⟨r, g, b, rneN (one14 * a) 255⟩
  | .enc nr ng nb r g b a => premul (degammaPx l t nr ng nb r g b a)
  | .lin r g b => ⟨r, g, b, one14⟩

/-- Steps 3 and 4 (R165): layer matrix, unless it acted before degamma, then layer alpha. Dots that are not encoded have no degamma, so the matrix
acts here on them, MTX_FIRST or not (log entry 25). -/
def layerSteps (l : LayCol) (encoded : Bool) (p : Px) : Px :=
  let p := if l.mtxEn && !(l.mtxFirst && encoded) then mtxApply l.m p else p
  let al := min l.alpha one14
  ⟨sat16 (mul14 p.r al), sat16 (mul14 p.g al), sat16 (mul14 p.b al), mul14 p.a al⟩

/-- Is a raw dot an encoded direct pixel? -/
def Raw.encoded : Raw → Bool
  | .enc _ _ _ _ _ _ _ => true
  | _ => false

/-- Premultiplied "over" with saturation (R146, R167). -/
def overPx (s d : Px) : Px :=
  let inv := one14 - min s.a one14
  ⟨sat16 (s.r + mul14 d.r inv), sat16 (s.g + mul14 d.g inv), sat16 (s.b + mul14 d.b inv), sat16 (s.a + mul14 d.a inv)⟩

/-- Step 5: the blend of R167. -/
def blendPx (mode : Nat) (cd s : Px) : Px :=
  if s.a = 0 then cd
  else
    let inv := one14 - min s.a one14
    let f (c d : Nat) : Nat :=
      if mode = 0 then sat16 (c + mul14 d inv)
      else if mode = 1 then sat16 (d + c)
      else if mode = 2 then sat16 (mul14 c d + mul14 d inv)
      else c
    ⟨f s.r cd.r, f s.g cd.g, f s.b cd.b, cd.a⟩

/-! ### Output stages (R168, R169) -/

/-- A channel through the regamma table (R168). -/
def regamma (t : Luts) (c v : Nat) : Nat :=
  let v := min v one14
  let e0 : Int := chan (t.rgWord (v / 4)) c
  let e1 : Int := chan (t.rgWord (v / 4 + 1)) c
  (e0 + ((e1 - e0) * ((v % 4 : Nat) : Int) + 2) / 4).toNat

/-- The three 16-bit codes of a line colour (R168). -/
def codes16 (t : Luts) (omatEn regEn : Bool) (m : List Int) (cd : Px) : Nat × Nat × Nat :=
  let p := if omatEn then mtxApply m ⟨cd.r, cd.g, cd.b, one14⟩ else cd
  if regEn then (regamma t 0 p.r, regamma t 1 p.g, regamma t 2 p.b)
  else (min (4 * p.r) 0xFFFF, min (4 * p.g) 0xFFFF, min (4 * p.b) 0xFFFF)

/-- The panel depth of a DEPTH code. -/
def depthBits (code : Nat) : Nat := 6 + 2 * code

/-- The dither matrix of R169. -/
def ditherM (r c : Nat) : Nat :=
  ([0, 8, 2, 10, 12, 4, 14, 6, 3, 11, 1, 9, 15, 7, 13, 5].getD (4 * (r % 4) + c % 4) 0)

/-- A 16-bit code reduced to depth `dd` by the off rule (R169). -/
def reduceOff (k dd : Nat) : Nat := min (2 ^ dd - 1) ((k + 2 ^ (15 - dd)) / 2 ^ (16 - dd))

/-- A 16-bit code at dot `x` of line `y` of frame `f`, reduced to depth `dd` (R169). -/
def ditherCode (mode dd k x y f : Nat) : Nat :=
  if mode = 0 then reduceOff k dd
  else
    let t := if mode = 2 then ditherM (y + f) (x + 3 * f) else ditherM y x
    min (2 ^ dd - 1) ((k + t * 2 ^ (12 - dd)) / 2 ^ (16 - dd))

/-- Three packed codes as one number, 12 bits a channel, red highest. -/
def packCodes (r g b : Nat) : Nat := r % 4096 * 2 ^ 24 + g % 4096 * 2 ^ 12 + b % 4096

/-- The three codes of a packed dot. -/
def unpackCodes (p : Nat) : Nat × Nat × Nat := (natBits p 24 12, natBits p 12 12, natBits p 0 12)

/-! ### The frame-store code (R183) -/

/-- A packed channel normalised to 10 bits. -/
def to10 (v dd : Nat) : Nat := if dd < 10 then widen10 v dd else if dd = 10 then v else min 1023 (rneN v 4)

/-- A decoded 10-bit channel at panel depth. -/
def from10 (v dd : Nat) : Nat :=
  if dd < 10 then min (2 ^ dd - 1) (rneN v (2 ^ (10 - dd))) else if dd = 10 then v else v * 4 + v / 256

/-- A 10-bit value in 7 bits, and back. -/
def q7 (c : Nat) : Nat := rneN (c * 127) 1023
def d10 (c : Nat) : Nat := rneN (c * 1023) 127

/-- The sum of absolute channel differences of two 10-bit colours. -/
def diff3 (x y : Nat × Nat × Nat) : Nat :=
  ((x.1 : Int) - y.1).natAbs + ((x.2.1 : Int) - y.2.1).natAbs + ((x.2.2 : Int) - y.2.2).natAbs

/-- The mode 0 word of four 10-bit dots. -/
def fsMode0 (px : List (Nat × Nat × Nat)) : Nat :=
  let co (p : Nat × Nat × Nat) : Int := (p.1 : Int) - p.2.2
  let tt (p : Nat × Nat × Nat) : Int := (p.2.2 : Int) + co p / 2
  let cg (p : Nat × Nat × Nat) : Int := (p.2.1 : Int) - tt p
  let yy (p : Nat × Nat × Nat) : Nat := (tt p + cg p / 2).toNat
  let ys := (px.zip [40, 33, 26, 19]).foldl (fun n p => n + q7 (yy p.1) * 2 ^ p.2) 0
  let avg (l : List Int) : Nat := intToNat 9 (max (-256) (min 255 (rne (l.foldl (· + ·) 0) 16)))
  ys + avg (px.map co) * 2 ^ 10 + avg (px.map cg) * 2 ^ 1

/-- The pairs of dots tried by mode 1, in order. -/
def fsPairs : List (Nat × Nat) := [(0, 1), (0, 2), (0, 3), (1, 2), (1, 3), (2, 3)]

/-- Three 10-bit channels through 7 bits and back. -/
def via7 (p : Nat × Nat × Nat) : Nat × Nat × Nat := (d10 (q7 p.1), d10 (q7 p.2.1), d10 (q7 p.2.2))

/-- The mode 1 word of four 10-bit dots. -/
def fsMode1 (px : List (Nat × Nat × Nat)) : Nat :=
  let at' (i : Nat) := px.getD i (0, 0, 0)
  let best := fsPairs.foldl (fun b p => if diff3 (at' b.1) (at' b.2) < diff3 (at' p.1) (at' p.2) then p else b) (0, 1)
  let ca := at' best.1
  let cb := at' best.2
  let seven (p : Nat × Nat × Nat) : Nat := q7 p.1 * 2 ^ 14 + q7 p.2.1 * 2 ^ 7 + q7 p.2.2
  let sel := (px.zip [4, 3, 2, 1]).foldl
    (fun n p => if diff3 p.1 (via7 cb) < diff3 p.1 (via7 ca) then n + 2 ^ p.2 else n) 0
  2 ^ 47 + seven ca * 2 ^ 26 + seven cb * 2 ^ 5 + sel

/-- The four 10-bit dots a frame-store word decodes to. -/
def fsDecode10 (w : Nat) : List (Nat × Nat × Nat) :=
  if natBit w 47 then
    let col (lo : Nat) := (d10 (natBits w (lo + 14) 7), d10 (natBits w (lo + 7) 7), d10 (natBits w lo 7))
    [4, 3, 2, 1].map (fun k => if natBit w k then col 5 else col 26)
  else
    let co : Int := 4 * natToInt 9 (natBits w 10 9)
    let cg : Int := 4 * natToInt 9 (natBits w 1 9)
    [40, 33, 26, 19].map (fun lo =>
      let y : Int := d10 (natBits w lo 7)
      let t := y - cg / 2
      let g := cg + t
      let b := t - co / 2
      (clampN (b + co) 1023, clampN g 1023, clampN b 1023))

/-- The total error of a word against four 10-bit dots. -/
def fsErr (w : Nat) (px : List (Nat × Nat × Nat)) : Nat :=
  ((fsDecode10 w).zip px).foldl (fun n p => n + diff3 p.1 p.2) 0

/-- The frame-store word of four packed dots at depth `dd`. -/
def fsEncode (dd : Nat) (dots : List Nat) : Word :=
  let px := dots.map (fun p => let (r, g, b) := unpackCodes p; (to10 r dd, to10 g dd, to10 b dd))
  let w0 := fsMode0 px
  let w1 := fsMode1 px
  BitVec.ofNat 48 (if fsErr w1 px < fsErr w0 px then w1 else w0)

/-- The four packed dots of a frame-store word at depth `dd`. -/
def fsDecode (dd : Nat) (w : Word) : List Nat :=
  (fsDecode10 w.toNat).map (fun p => packCodes (from10 p.1 dd) (from10 p.2.1 dd) (from10 p.2.2 dd))

/-- Dots 4k to 4k + 3 of a row, a short last block repeating its last dot (R183). -/
def fsBlock (px : List Nat) (k : Nat) : List Nat :=
  let l := (px.drop (4 * k)).take 4
  l ++ List.replicate (4 - l.length) (l.getLast?.getD 0)

/-! ### Pixel runs (R87) -/

/-- `n` bits at stream bit `s` of a run whose word `i` is `word i`. -/
def streamBits (word : Nat → Nat) (s n : Nat) : Nat :=
  let both := word (s / 48) * 2 ^ 48 + word (s / 48 + 1)
  natBits both (96 - s % 48 - n) n

/-! ### The signature (R241) -/

/-- One bit of the reflected CRC-32. -/
def crcBit (c : Nat) : Nat := if c % 2 = 1 then (c / 2) ^^^ 0xEDB88320 else c / 2

/-- One byte of the reflected CRC-32, least significant bit first. -/
def crcByte (c b : Nat) : Nat := (List.range 8).foldl (fun c _ => crcBit c) (c ^^^ (b % 256))

/-- One dot into the signature: each channel aligned to the top of one or two bytes. -/
def crcDot (dd c p : Nat) : Nat :=
  let (r, g, b) := unpackCodes p
  [r, g, b].foldl (fun c v =>
    if dd ≤ 8 then crcByte c (v * 2 ^ (8 - dd))
    else
      let v := v * 2 ^ (16 - dd)
      crcByte (crcByte c (v / 256)) v) c

/-- The signature of a finished CRC register. -/
def crcFinish (c : Nat) : Nat := c ^^^ 0xFFFFFFFF

/-- CRC-32 over the bytes of words, high byte first. -/
def crcWords (ws : List Word) : Nat :=
  crcFinish (ws.foldl (fun c w => [40, 32, 24, 16, 8, 0].foldl (fun c k => crcByte c (natBits w.toNat k 8)) c) 0xFFFFFFFF)

end Sys2Proof.Machine
end

