-- ==== Sys2Proof/Machine/Wire.lean ====
section
/-! DEFINITION. The cells of a Wearan port (R440 to R442): their layout, the lanes that carry them, and the sequenced cells as other units
send them. -/

namespace Sys2Proof.Machine

def Wrn.reset : Wrn := ⟨0, 0xFFF, [], none, (0, 0), 0xFFF, false, [], none, [], false, 0, true, none, [], [], [], [], false, [], 0⟩
def Dev.port (d : Dev) (p : Nat) : Wrn := d.wrn.getD p Wrn.reset
def Dev.modPort (d : Dev) (p : Nat) (f : Wrn → Wrn) : Dev := { d with wrn := d.wrn.set p (f (d.port p)) }

/-- Is the link of port `p` up? -/
def Dev.linkUp (d : Dev) (p : Nat) : Bool := d.fld (rWRN_STATUS p) fWRN_STATUS_STATE == 2

/-! ### The layout of a cell (R440, R441) -/

/-- Word 0, the header. -/
def Cell.header (c : Cell) : Word :=
  BitVec.ofNat 48 (c.cls % 8 * 2 ^ 45 + c.seq % 4096 * 2 ^ 33 + c.ack % 4096 * 2 ^ 21 + c.nak.toNat * 2 ^ 20 + c.f % 2 ^ 20)

/-- Words 0 to 9: the header and the payload. -/
def Cell.block (c : Cell) : List Word := c.header :: (List.range 9).map (fun i => c.words.getD i 0)

/-- The 512 bits of a cell: words 0 to 9, high bit first, and the CRC-32 over them. -/
def Cell.bits (c : Cell) : BitVec 512 :=
  BitVec.ofNat 512 (c.block.foldl (fun v w => v * 2 ^ 48 + w.toNat) 0 * 2 ^ 32 + crcWords c.block)

/-- The 64 bits of a cell that logical lane `i` carries. -/
def laneBits (b : BitVec 512) (i : Nat) : BitVec 64 := BitVec.ofNat 64 (b.toNat / 2 ^ (448 - 64 * i))

/-- The physical lane that carries logical lane `i` of what port `p` sends: lane 8 for a lane that is retired. -/
def Dev.physLane (d : Dev) (p i : Nat) : Nat := if d.fld (rWRN_LANES_TX p) fWRN_LANES_TX_SPARE_FOR = i then 8 else i

/-- What the lanes of port `p` carry while it sends a cell, each with its 64 bits. -/
def Dev.lanesCarry (d : Dev) (p : Nat) (b : BitVec 512) : List (Nat × BitVec 64) :=
  (List.range 8).map (fun i => (d.physLane p i, laneBits b i))

/-! ### Sending (R442) -/

/-- A cell leaves, with the last sequence number received in order and whether a replay is asked for. -/
def Wrn.send (x : Wrn) (c : Cell) : Wrn := { x with wire := (({ c with ack := x.rxSeq, nak := x.bad } : Cell).bits :: x.wire).take 512 }

/-- An IDLE cell, or a TIME cell with its payload. -/
def Wrn.sendFree (x : Wrn) (cls : Nat) (ws : List Word) : Wrn := x.send ⟨cls, 0, 0, false, 0, ws, 0⟩

/-- A sequenced cell sent and kept for replay. -/
def Wrn.push (x : Wrn) (cls f : Nat) (ws : List Word) (mark : Nat := 0) : Wrn :=
  let c : Cell := ⟨cls, x.txSeq, x.rxSeq, x.bad, f, ws, mark⟩
  { x.send c with txSeq := (x.txSeq + 1) % 4096, replay := (c :: x.replay).take 512 }

/-- The cells kept from sequence number `a` + 1 on sent again, in order. -/
def Wrn.sendAgain (x : Wrn) (a : Nat) : Wrn :=
  ((x.replay.filter (fun c => decide ((c.seq + 4095 - a) % 4096 < 512))).reverse).foldl Wrn.send x

/-- A packet or reply sent as CMD cells (R453): CLS [19] first, [18] last, [3:0] the words used. `n` bounds the cells. -/
def Wrn.pushCmd (x : Wrn) (first : Bool) (mark : Nat) (ws : List Word) : Nat → Wrn
  | 0 => x
  | n + 1 =>
    let here := ws.take 9
    let rest := ws.drop 9
    let x := x.push 3 (first.toNat * 2 ^ 19 + rest.isEmpty.toNat * 2 ^ 18 + here.length) here mark
    if rest.isEmpty then x else x.pushCmd false mark rest n

/-- A packet or reply sent over port `p`. -/
def Dev.cmdSend (d : Dev) (p : Nat) (ws : List Word) (mark : Nat) : Dev :=
  if d.linkUp p then d.modPort p (fun x => x.pushCmd true mark ws ws.length) else d

/-- A row of a PIX stream sent as cells (R451): dots 0 to 7 in the first, nine in each later one. -/
def Wrn.pushRow (x : Wrn) (stream : Nat) (w1 : Word) (i : Nat) (dots : List Word) : Nat → Wrn
  | 0 => x
  | n + 1 =>
    let k := if i = 0 then 8 else 9
    let here := dots.take k
    let x := x.push 2 (stream * 2 ^ 15 + (i == 0).toNat * 2 ^ 14 + i) (if i = 0 then w1 :: here else here)
    let rest := dots.drop k
    if rest.isEmpty then x else x.pushRow stream w1 (i + 1) rest n

/-- The row that a stream has sent, as cells. -/
def Dev.rowSend (d : Dev) (t : TxRow) : Dev :=
  if d.linkUp t.port then
    let w1 : Word := BitVec.ofNat 48 (t.seq % 2 ^ 24 * 2 ^ 24 + t.frame % 256 * 2 ^ 16 + t.row % 8192)
    d.modPort t.port (fun x => x.pushRow t.stream w1 0 t.dots (t.dots.length + 1))
  else d

/-- A MEM cell (R454). -/
def Dev.memSend (d : Dev) (p op tag w : Nat) (data : Word) : Dev :=
  d.modPort p (fun x => x.push 4 (op * 2 ^ 18 + tag * 2 ^ 12 + w) [data])

end Sys2Proof.Machine
end

