-- ==== Sys2Proof/Machine/Reply.lean ====
section
/-! DEFINITION. Replies to command packets: their words (R318, R319), the rings, ports and areas they go to (R323 to R329),
and the completion replies that are owed (R321). -/

namespace Sys2Proof.Machine

/-! ### Command rings (R324, R325) -/

/-- A ring descriptor. -/
structure Ring where
  at' : Nat
  req : Nat
  rsp : Nat
  reqLog : Nat
  rspLog : Nat
  evEn : Bool
  ev : Nat
  reqTail : Nat
  reqHead : Nat
  rspTail : Nat
  rspHead : Nat
deriving DecidableEq, Repr

/-- The fabric master of T0 (R367). -/
def masterT0 : Nat := 0x50

/-- The words of the descriptor at `a` read by T0 (R371, R372). -/
def Dev.ringLook (d : Dev) (a : Nat) : Dev :=
  if 0x1000000 < a + 6 then d else d.touch masterT0 ((List.range 6).map (a + ·))

/-- The descriptor at `a`, if it can be served (R324, R325): one with an uncorrectable word is not (log entry 34). -/
def Dev.ringAt (d : Dev) (a : Nat) : Option Ring :=
  if 0x1000000 < a + 6 ∨ (List.range 6).any (fun i => d.peekUe (a + i)) then none
  else
    let w (i : Nat) : Nat := (d.peek (a + i)).toNat
    let r : Ring := ⟨a, natBits (w 0) 24 24, natBits (w 0) 0 24, natBits (w 1) 44 4, natBits (w 1) 40 4, natBit (w 1) 8,
      natBits (w 1) 0 8, natBits (w 2) 0 24, natBits (w 3) 0 24, natBits (w 4) 0 24, natBits (w 5) 0 24⟩
    if 10 ≤ r.reqLog ∧ 10 ≤ r.rspLog ∧ r.req + 2 ^ r.reqLog ≤ 0x1000000 ∧ r.rsp + 2 ^ r.rspLog ≤ 0x1000000 then some r
    else none

/-- The descriptor address of an endpoint's ring; 0 where there is none. -/
def Dev.ringBase (d : Dev) (ep : Endpoint) : Nat :=
  match ep with
  | .ring r => d.rd (rHOST_RING_DESC r)
  | .steward t => if t.val = 1 ∧ d.paired then 0 else d.rd (rSEC_T_RING (t.val + 1))
  | _ => 0

/-- Free words of a reply ring. -/
def Ring.room (r : Ring) : Nat := 2 ^ r.rspLog - (r.rspTail + 2 ^ 24 - r.rspHead) % 2 ^ 24

/-- Words written into a reply ring from index `i` on, wrapping. -/
def Dev.ringPut (d : Dev) (r : Ring) (i : Nat) : List Word → Dev
  | [] => d
  | w :: ws => (d.mainPut masterT0 (r.rsp + i % 2 ^ r.rspLog) w).ringPut r (i + 1) ws

/-- A reply written whole into a ring that has room for it, the tail advanced and the event raised (R325). -/
def Dev.ringReply (d : Dev) (r : Ring) (ws : List Word) : Dev :=
  let d := d.ringPut r r.rspTail ws
  let d := d.mainPut masterT0 (r.at' + 4) (BitVec.ofNat 48 ((r.rspTail + ws.length) % 2 ^ 24))
  d.when r.evEn (·.evRaise r.ev)

/-! ### The sentinel port's mailbox (R329) -/

/-- The three units of a word put at word `k` of an area that begins at unit `base`. -/
def Dev.exPutWord (d : Dev) (base k : Nat) (w : Word) : Dev :=
  (List.range 3).foldl (fun d p => d.setExUnit (base + 3 * k + p) (wordPart w p).toNat) d

/-- The word `k` of an area that begins at unit `base`. -/
def Dev.exGetWord (d : Dev) (base k : Nat) : Word :=
  (List.range 3).foldl (fun w p => setPart w p (BitVec.ofNat 16 (d.exUnit (base + 3 * k + p)))) 0

/-- A reply written into the reply area, with RSP_LEN and RSP_SEQ, and the mailbox free again. -/
def Dev.mailReply (d : Dev) (ws : List Word) : Dev :=
  let d := ((List.range ws.length).zip ws).foldl (fun d p => d.exPutWord 0x100 p.1 p.2) d
  let d := (d.setExUnit 0x1C0 ws.length).setExUnit 0x1C1 ((d.exUnit 0x1C1 + 1) % 65536)
  d.setExUnit 0xC1 0

/-! ### Sending -/

def Dev.modTalk (d : Dev) (f : Talk → Talk) : Dev := { d with talk := f d.talk }

/-- A reply held until its endpoint has room for it. -/
def Dev.hold (d : Dev) (x : Sent) : Dev := d.modTalk (fun t => { t with held := t.held ++ [x] })

/-- Words sent to an endpoint, or held for want of room. -/
def Dev.send (d : Dev) (x : Sent) : Dev :=
  let d' := d.modTalk (fun t => { t with last := some x })
  match x.ep with
  | .ring _ | .steward _ =>
    let look (d : Dev) : Dev := d.ringLook (d.ringBase x.ep)
    match d.ringAt (d.ringBase x.ep) with
    | some r => if x.words.length ≤ r.room then (look d').ringReply r x.words else (look d).hold x
    | none => (look d).hold x
  | .udp _ _ _ _ =>
    let w0 := (x.words.getD 0 0).toNat - 2 ^ 32
    d'.modTalk (fun t => { t with udp := t.udp.map (fun u =>
      if u.ep = x.ep ∧ u.w0 = w0 ∧ u.reply = none then { u with reply := some x.words } else u) })
  | .spi => d'.modTalk (fun t => { t with spi := t.spi ++ [x.words] })
  | .sentinel => if d.exUnit 0x1C0 = 0 then (d'.exSeen 0x1C0).mailReply x.words else (d.exSeen 0x1C0).hold x
  | .peer p _ _ => d'.cmdSend p x.words 0

/-- Word 0 of a request (R318). -/
def Packet.w0 (p : Packet) (op : Nat) : Nat :=
  op * 2 ^ 36 + p.slot.val * 2 ^ 33 + natBits p.rsv.toNat 3 1 * 2 ^ 32 + p.rr.toNat * 2 ^ 31 + p.wait.toNat * 2 ^ 30 +
    p.fwd.toNat * 2 ^ 29 + p.dev.val * 2 ^ 27 + natBits p.rsv.toNat 0 3 * 2 ^ 24 + p.tag.toNat

/-- A reply's words (R319): a status above 0x001 carries no results. -/
def replyWords (w0 status detail : Nat) (res : List Word) : List Word :=
  let res := if status ≤ 1 then res else []
  [BitVec.ofNat 48 (natSetBits w0 32 1 1), BitVec.ofNat 48 (status * 2 ^ 36 + res.length * 2 ^ 24 + detail % 2 ^ 24)] ++ res

/-- A reply to the request with word 0 `w0`; none when RR is 0 (R321). -/
def Dev.reply (d : Dev) (ep : Endpoint) (w0 status detail : Nat) (res : List Word) : Dev :=
  if natBit w0 31 then d.send ⟨ep, replyWords w0 status detail res⟩ else d

/-- A completion reply put on the list of those owed. -/
def Dev.owe (d : Dev) (kind key : Nat) (ep : Endpoint) (w0 : Nat) : Dev :=
  d.modTalk (fun t => { t with owed := t.owed ++ [⟨kind, key, ep, w0⟩] })

/-- Is a completion reply owed? -/
def Dev.isOwed (d : Dev) (kind key : Nat) : Bool := d.talk.owed.any (fun o => o.kind == kind && o.key == key)

/-- What was awaited has completed: every reply owed for it is sent. -/
def Dev.complete (d : Dev) (kind key status detail : Nat) (res : List Word) : Dev :=
  let mine (o : Owed) : Bool := o.kind == kind && o.key == key
  let d' := d.modTalk (fun t => { t with owed := t.owed.filter (fun o => !mine o) })
  (d.talk.owed.filter mine).foldl (fun d o => d.reply o.ep o.w0 status detail res) d'

/-- What was awaited has completed for the earliest of the requests that wait for it: its reply is sent. -/
def Dev.completeFirst (d : Dev) (kind key : Nat) : Dev :=
  match d.talk.owed.find? (fun o => o.kind == kind && o.key == key) with
  | none => d
  | some o => (d.modTalk (fun t => { t with owed := t.owed.erase o })).reply o.ep o.w0 0 0 []

/-- The replies held for want of room tried again, in order. -/
def Dev.sendHeld (d : Dev) : Dev :=
  d.talk.held.foldl (fun d x => d.send x) (d.modTalk (fun t => { t with held := [] }))

end Sys2Proof.Machine
end

