-- ==== Sys2Proof/Machine/Sources.lean ====
section
/-! DEFINITION. The layer sources of an output as functions of its state: layers and windows (R159 to R164), tile slots
(chapter 4), sprites (chapter 5), bitmaps (R162, R163), camera windows (R199 to R203), remote rows (R452) and spans
(R145 to R149). Nothing here changes the state; Compose.lean does. -/

namespace Sys2Proof.Machine

/-! ### Outputs and views -/

/-- Does a register belong to the shadow set of output `n`: its OUTn or LCCn block (R172)? -/
def inShadow (n a : Nat) : Bool := blockOf a == 0x50 + n || blockOf a == 0x60 + n

/-- Copies `l` with those of output `n` taken from `r`. -/
def liveWith (n : Nat) (r l : List (Nat × Reg)) : List (Nat × Reg) :=
  (r.filter (fun p => isRegAddr p.1 && inShadow n p.1)).foldl (fun l p => spSet resetOf l p.1 p.2) (spKeep (fun a => !inShadow n a) l)

/-- The live copies with those of output `n` taken from the registers. -/
def Dev.liveOf (d : Dev) (n : Nat) : List (Nat × Reg) := liveWith n d.regs d.live

/-- The state that a stage working for frame `f` of output `n` uses (R175): the live state, or the one before it for a
frame that began its work earlier. -/
def Dev.view (d : Dev) (n f : Nat) : Dev :=
  let o := d.outp n
  match o.prev with
  | some c =>
    if frameBefore f o.liveFrom then
      { d with live := liveWith n c.regs d.live, outs := d.outs.set n { o with spr := c.spr, lut := c.lut },
               lcc := d.lcc.modify n (fun x => { x with bank := c.bank }) }
    else d
  | none => d

/-- The state being built, read as if it were live (R172). -/
def Dev.shadowView (d : Dev) : Dev := { d with live := d.regs }

/-- The state being built of output `n` beside the live state of the others (R172, R197). -/
def Dev.buildView (d : Dev) (n : Nat) : Dev := { d with live := d.liveOf n }

/-- The live state of each output as its camera and remote inputs use it: they adopt an applied state at line V − 3 (R175, R197). -/
def Dev.inputLive (d : Dev) : Dev :=
  (List.range 8).foldl (fun d n =>
    let o := d.outp n
    match o.prev, o.tileFrame with
    | some c, some f => if frameBefore f o.liveFrom then { d with live := liveWith n c.regs d.live } else d
    | _, _ => d) d

/-- The fetch master of the compositor of output `n`'s pipe (R367). -/
def Dev.fetchMaster (d : Dev) (n : Nat) : Nat := 0x10 + d.pipeOf n

/-! ### Layers (R159 to R164) -/

/-- A layer's window on the raster. -/
def Dev.layWin (v : Dev) (n k : Nat) : Win :=
  ⟨v.lv (rOUT_LAYER_WIN_X0 n k) fOUT_LAYER_WIN_X0_VALUE, v.lv (rOUT_LAYER_WIN_Y0 n k) fOUT_LAYER_WIN_Y0_VALUE,
   v.lv (rOUT_LAYER_WIN_W n k) fOUT_LAYER_WIN_W_VALUE, v.lv (rOUT_LAYER_WIN_H n k) fOUT_LAYER_WIN_H_VALUE⟩

def Dev.layEn (v : Dev) (n k : Nat) : Bool := v.lv (rOUT_LAYER_CTRL n k) fOUT_LAYER_CTRL_EN == 1
def Dev.layKind (v : Dev) (n k : Nat) : Nat := v.lv (rOUT_LAYER_CTRL n k) fOUT_LAYER_CTRL_KIND
def Dev.layOmit (v : Dev) (n k : Nat) : Bool := v.lv (rOUT_LAYER_CTRL n k) fOUT_LAYER_CTRL_STALE == 1

/-- One of SRC0 to SRC5 of a layer (R573). -/
def Dev.laySrc (v : Dev) (n k i : Nat) : Nat :=
  if i = 0 then v.lrd (rOUT_LAYER_SRC0 n k) else if i = 1 then v.lrd (rOUT_LAYER_SRC1 n k)
  else if i = 2 then v.lrd (rOUT_LAYER_SRC2 n k) else if i = 3 then v.lrd (rOUT_LAYER_SRC3 n k)
  else if i = 4 then v.lrd (rOUT_LAYER_SRC4 n k) else v.lrd (rOUT_LAYER_SRC5 n k)

/-- The dots of a window inside a raster `ha` wide (R161). -/
def Win.clipW (w : Win) (ha : Nat) : Nat := min (w.x + w.w) ha - w.x

/-- Does a window lie on line `l` of a raster `ha` wide, with some dot (R161)? -/
def Win.on (w : Win) (ha l : Nat) : Bool :=
  decide (w.w ≠ 0 ∧ w.h ≠ 0 ∧ w.y ≤ l ∧ l < w.y + w.h ∧ w.x < ha)

/-- Is layer `k` shown on line `l` of output `n`? -/
def Dev.layOn (v : Dev) (n k l : Nat) : Bool := v.layEn n k && (v.layWin n k).on (v.mode n).ha l

/-- What the layer's registers say of its colour (R165), with `alpha` the value in force. -/
def Dev.layCol (v : Dev) (n k alpha : Nat) : LayCol :=
  let c := rOUT_LAYER_CTRL n k
  ⟨v.lv c fOUT_LAYER_CTRL_DG_EN == 1, v.lv c fOUT_LAYER_CTRL_DG_SET, v.lv c fOUT_LAYER_CTRL_MTX_EN == 1,
   v.lv c fOUT_LAYER_CTRL_MTX_FIRST == 1, (List.range 12).map (fun i => sgn24 (v.lrd (rOUT_LAYER_MTX n k i))), alpha⟩

/-! ### Pixel formats (R88, R162) -/

/-- The bits per pixel of a format code; 0 for a reserved code. YUV422 codes give the bits of one pixel of a pair. -/
def fmtBits (f : Nat) : Nat := [2, 4, 8, 8, 16, 24, 32, 0, 32, 48, 16, 20, 0, 0, 0, 0].getD f 0

/-- Is a format indexed or A8? -/
def fmtIndexed (f : Nat) : Bool := decide (f ≤ 3)

/-- A pixel value as a raw dot (R88, R99, R100). -/
def rawPixel (f pal idxBase : Nat) (transp0 : Bool) (v : Nat) : Raw :=
  if f ≤ 2 then
    if transp0 && v == 0 then .clear else .pal pal (if f = 2 then v else (idxBase + v) % 256)
  else if f = 3 then (if v = 0 then .clear else .cov pal idxBase v)
  else if f = 4 then .enc 5 6 5 (natBits v 11 5) (natBits v 5 6) (natBits v 0 5) one14
  else if f = 5 then .enc 8 8 8 (natBits v 16 8) (natBits v 8 8) (natBits v 0 8) one14
  else if f = 6 then .enc 8 8 8 (natBits v 24 8) (natBits v 16 8) (natBits v 8 8) (rneN (one14 * natBits v 0 8) 255)
  else if f = 8 then .enc 10 10 10 (natBits v 20 10) (natBits v 10 10) (natBits v 0 10) one14
  else if f = 9 then .lin (natBits v 32 16) (natBits v 16 16) (natBits v 0 16)
  else .clear

/-- The four channel values of an encoded dot; a transparent dot contributes zeros (R97). -/
def Raw.chans : Raw → List Nat
  | .enc _ _ _ r g b a => [r, g, b, a]
  | .lin r g b => [r, g, b, one14]
  | _ => [0, 0, 0, 0]

/-- A dot with other channel values, of the widths of `shape`. -/
def Raw.withChans (shape : Raw) (c : List Nat) : Raw :=
  match shape with
  | .lin _ _ _ => .lin (c.getD 0 0) (c.getD 1 0) (c.getD 2 0)
  | .enc nr ng nb _ _ _ _ => .enc nr ng nb (c.getD 0 0) (c.getD 1 0) (c.getD 2 0) (c.getD 3 0)
  | r => r

/-- The bilinear blend of four dots with 8-bit weights (R97): the weighted mean of each channel, rounded to nearest, ties
to even (log entry 11). -/
def bilinear (fx fy : Nat) (shape p00 p10 p01 p11 : Raw) : Raw :=
  let w := [((256 - fx) * (256 - fy), p00), (fx * (256 - fy), p10), ((256 - fx) * fy, p01), (fx * fy, p11)]
  let ch (i : Nat) : Nat := rneN (w.foldl (fun n p => n + p.1 * p.2.chans.getD i 0) 0) 65536
  if w.all (fun p => p.2 == .clear) then .clear else shape.withChans [ch 0, ch 1, ch 2, ch 3]

/-- A dot of a format, to carry its widths. -/
def fmtShape (f : Nat) : Raw := rawPixel f 0 0 false 0

/-- A 4-tap filter over channel values (R163, R201), rounded and clamped to `hi` (log entry 11). -/
def filter4 (taps : List Int) (vs : List Nat) (hi : Nat) : Nat :=
  clampN (rne ((taps.zip vs).foldl (fun n p => n + p.1 * (p.2 : Int)) 0) one14) hi

/-- What reading a source dot met: addresses read, a word out of range, ROT in a non-square slot, a clip. -/
structure Met where
  addrs : List Nat
  range : Bool
  rot : Bool
deriving DecidableEq, Repr

def Met.none : Met := ⟨[], false, false⟩
def Met.join (a b : Met) : Met := ⟨a.addrs ++ b.addrs, a.range || b.range, a.rot || b.rot⟩

/-- A word of main memory, zero outside it (R91). -/
def Dev.mainOrZero (d : Dev) (a : Nat) : Nat := if a < 0x1000000 then (d.peek a).toNat else 0

/-- A word of main memory or LPDDR5X, as a bitmap fetcher sees it. -/
def Dev.pixWord (d : Dev) (a : Nat) : Nat :=
  if a < 0x1000000 then (d.peek a).toNat
  else if 0x8000000000 ≤ a ∧ d.ddrServes (a - 0x8000000000) then (d.ddrWord (a - 0x8000000000)).toNat
  else 0

/-- The word addresses holding `n` bits at stream bit `s` of a run at `base`. -/
def runAddrs (base s n : Nat) : List Nat :=
  (List.range ((s % 48 + n + 47) / 48)).map (base + s / 48 + ·)

/-! ### Tile slots (chapter 4) -/

/-- A slot's registers in a state. -/
structure Tile where
  filter : Bool
  affine : Bool
  transp0 : Bool
  wrapX : Bool
  wrapY : Bool
  mw : Nat
  mh : Nat
  tw : Nat
  th : Nat
  fmt : Nat
  idx : Nat
  highEn : Bool
  high : Nat
  low : Nat
  map : Nat
  pat : Nat
  sx : Nat
  sy : Nat
  aff : List Int
  sizeOk : Bool
  mapOk : Bool
deriving DecidableEq, Repr

/-- Slot `t` of output `n` in the state `v` (R89, R93). -/
def Dev.tile (v : Dev) (n t : Nat) : Tile :=
  let c := rOUT_TL_CTRL n t
  let l := rOUT_TL_LAYERS n t
  let twc := v.lv c fOUT_TL_CTRL_TW
  let thc := v.lv c fOUT_TL_CTRL_TH
  let mwc := v.lv c fOUT_TL_CTRL_MW
  let mhc := v.lv c fOUT_TL_CTRL_MH
  let mw := 16 * 2 ^ mwc
  let mh := 16 * 2 ^ mhc
  let map := v.lv (rOUT_TL_MAP_BASE n t) fOUT_TL_MAP_BASE_BASE
  let pair (i : Nat) : Int := natToInt 48 (v.lrd (rOUT_TL_AFF_LO n t i) + v.lrd (rOUT_TL_AFF_HI n t i) * 2 ^ 24)
  { filter := v.lv c fOUT_TL_CTRL_FILTER == 1
    affine := v.lv c fOUT_TL_CTRL_AFFINE == 1
    transp0 := v.lv c fOUT_TL_CTRL_TRANSP0 == 1
    wrapX := v.lv c fOUT_TL_CTRL_WRAP_X == 1
    wrapY := v.lv c fOUT_TL_CTRL_WRAP_Y == 1
    mw := mw, mh := mh
    tw := [12, 24, 48, 0].getD twc 0
    th := [8, 12, 16, 24, 32, 48, 0, 0].getD thc 0
    fmt := v.lv c fOUT_TL_CTRL_FORMAT
    idx := v.lv l fOUT_TL_LAYERS_IDX_BASE
    highEn := v.lv l fOUT_TL_LAYERS_HIGH_EN == 1
    high := v.lv l fOUT_TL_LAYERS_HIGH
    low := v.lv l fOUT_TL_LAYERS_LOW
    map := map
    pat := v.lv (rOUT_TL_PAT_BASE n t) fOUT_TL_PAT_BASE_BASE
    sx := v.lv (rOUT_TL_SCROLL_X n t) fOUT_TL_SCROLL_X_SX
    sy := v.lv (rOUT_TL_SCROLL_Y n t) fOUT_TL_SCROLL_Y_SY
    aff := (List.range 6).map pair
    sizeOk := decide (twc < 3 ∧ thc < 6)
    mapOk := decide (mwc ≤ 5 ∧ mhc ≤ 5 ∧ map + mw * mh / 2 ≤ 0x1000000) }

/-- Is slot `t` in use in state `v` (R84)? -/
def Dev.slotUsed (v : Dev) (n t : Nat) : Bool := v.layKind n (v.tile n t).low == 1

/-- The layers a slot in use names. -/
def Tile.names (c : Tile) : List Nat := if c.highEn then [c.low, c.high] else [c.low]

/-- The slots in use that name layer `k`. -/
def Dev.slotsNaming (v : Dev) (n k : Nat) : List Nat :=
  (List.range 16).filter (fun t => v.slotUsed n t && (v.tile n t).names.contains k)

/-- The flags a slot's state sets (R85, R86, R93): a layer conflict, a fifth affine slot, a map out of range. -/
def Dev.slotFlags (v : Dev) (n t : Nat) : List Fld :=
  let c := v.tile n t
  let others := ((List.range 16).filter (fun s => s != t && v.slotUsed n s)).flatMap (fun s => (v.tile n s).names)
  let conflict := (c.highEn && decide (c.high ≤ c.low)) || c.names.any others.contains
  let lower := ((List.range t).filter (fun s => v.slotUsed n s && (v.tile n s).affine)).length
  (if conflict then [fOUT_TL_STATUS_LAYER_CONFLICT] else []) ++
    (if c.affine && decide (4 ≤ lower) then [fOUT_TL_STATUS_AFFINE_LIMIT] else []) ++
    (if c.mapOk then [] else [fOUT_TL_STATUS_MAP_RANGE])

/-- Is slot `t` ready (R85, R86, R88, R89, R93)? -/
def Dev.slotReady (v : Dev) (n t : Nat) : Bool :=
  let c := v.tile n t
  decide (c.fmt ≠ 7) && c.sizeOk && (v.slotFlags n t).isEmpty

/-- The value in force at line `l` of parameter `p` of slot `t`: among the effects that act by then, the one naming
the latest line, the last delivered among equals, or the committed value (R104). -/
def fxValue (fx : List Fx) (t p l committed : Nat) : Nat :=
  let c := fx.filter (fun x => x.slot == t && x.param == p && decide (x.eff ≤ l))
  (c.foldl (fun (b : Nat × Nat) x => if b.1 ≤ x.line + 1 then (x.line + 1, x.value) else b) (0, committed)).2

/-- Does an effect set parameter `p` of slot `t` from exactly line `l` on? -/
def fxSetAt (fx : List Fx) (t p l : Nat) : Bool :=
  fx.any (fun x => x.slot == t && x.param == p && x.eff == l)

/-- A signed 48-bit value reduced modulo 2^48 (R96). -/
def wrap48 (x : Int) : Int := natToInt 48 (intToNat 48 x)

/-- Affine parameter `i` of slot `t` in force at line `l` (R96, R104). -/
def affAt (c : Tile) (fx : List Fx) (t i l : Nat) : Int :=
  natToInt 48 (fxValue fx t (2 + i) l (intToNat 48 (c.aff.getD i 0)))

/-- The running origin (lx, ly) of window line `w` of a window whose top is line `y0` (R96). -/
def affOrigin (c : Tile) (fx : List Fx) (t y0 : Nat) : Nat → Int × Int
  | 0 =>
    let lx := if fxSetAt fx t 2 y0 then affAt c fx t 0 y0 else wrap48 (affAt c fx t 0 y0 + affAt c fx t 3 y0 / 2)
    let ly := if fxSetAt fx t 3 y0 then affAt c fx t 1 y0 else wrap48 (affAt c fx t 1 y0 + affAt c fx t 5 y0 / 2)
    (lx, ly)
  | w + 1 =>
    let (lx, ly) := affOrigin c fx t y0 w
    let l := y0 + w + 1
    let nx := wrap48 (lx + affAt c fx t 3 (y0 + w))
    let ny := wrap48 (ly + affAt c fx t 5 (y0 + w))
    (if fxSetAt fx t 2 l then affAt c fx t 0 l else nx, if fxSetAt fx t 3 l then affAt c fx t 1 l else ny)

/-- The map pixel (X, Y) of a slot as a raw dot for the LOW or HIGH layer (R86, R91 to R95). -/
def Dev.mapPixel (d : Dev) (c : Tile) (wantHigh : Bool) (x y : Int) : Raw × Met :=
  let pw : Int := (c.mw * c.tw : Nat)
  let ph : Int := (c.mh * c.th : Nat)
  let x := if c.wrapX then x % pw else x
  let y := if c.wrapY then y % ph else y
  if x < 0 ∨ y < 0 ∨ pw ≤ x ∨ ph ≤ y then (.clear, Met.none)
  else
    let xn := x.toNat
    let yn := y.toNat
    let e := (yn / c.th) * c.mw + xn / c.tw
    let ma := c.map + e / 2
    let ent := natBits (d.mainOrZero ma) (if e % 2 = 0 then 24 else 0) 24
    let hit := Met.mk [ma] (decide (0x1000000 ≤ ma)) (natBit ent 2 && c.tw != c.th)
    let high := c.highEn && natBit ent 3
    if high != wantHigh then (.clear, hit)
    else
      let px := xn % c.tw
      let py := yn % c.th
      let px := if natBit ent 0 then c.tw - 1 - px else px
      let py := if natBit ent 1 then c.th - 1 - py else py
      let (px, py) := if natBit ent 2 && c.tw == c.th then (py, c.tw - 1 - px) else (px, py)
      let b := fmtBits c.fmt
      let base := c.pat + natBits ent 10 14 * (c.tw * c.th * b / 48)
      let s := (py * c.tw + px) * b
      let as := runAddrs base s b
      let v := streamBits (fun i => d.mainOrZero (base + i)) s b
      (rawPixel c.fmt (natBits ent 4 6) c.idx c.transp0 v,
        hit.join ⟨as.filter (· < 0x1000000), as.any (0x1000000 ≤ ·), false⟩)

/-- A sample of a slot at (sx, sy), signed 24.24 (R97). -/
def Dev.mapSample (d : Dev) (c : Tile) (wantHigh : Bool) (sx sy : Int) : Raw × Met :=
  if c.filter && !fmtIndexed c.fmt then
    let hx := sx - 2 ^ 23
    let hy := sy - 2 ^ 23
    let x := hx / 2 ^ 24
    let y := hy / 2 ^ 24
    let fx := (hx / 2 ^ 16 % 256).toNat
    let fy := (hy / 2 ^ 16 % 256).toNat
    let (a, ma) := d.mapPixel c wantHigh x y
    let (b, mb) := d.mapPixel c wantHigh (x + 1) y
    let (e, me) := d.mapPixel c wantHigh x (y + 1)
    let (f, mf) := d.mapPixel c wantHigh (x + 1) (y + 1)
    (bilinear fx fy (fmtShape c.fmt) a b e f, ((ma.join mb).join me).join mf)
  else d.mapPixel c wantHigh (sx / 2 ^ 24) (sy / 2 ^ 24)

/-- Line `l` of the LOW or HIGH layer of slot `t`: one raw dot for each window dot inside the raster (R95, R96). -/
def Dev.tileLine (v : Dev) (n t : Nat) (fx : List Fx) (wantHigh : Bool) (l : Nat) : List (Raw × Met) :=
  let c := v.tile n t
  let w := v.layWin n (if wantHigh then c.high else c.low)
  let line := l - w.y
  let us := List.range (w.clipW (v.mode n).ha)
  if c.affine then
    let (lx, ly) := affOrigin c fx t w.y line
    let pa := affAt c fx t 2 l
    let pc := affAt c fx t 4 l
    us.map (fun (u : Nat) =>
      v.mapSample c wantHigh (wrap48 (lx + pa * (u : Nat) + pa / 2)) (wrap48 (ly + pc * (u : Nat) + pc / 2)))
  else
    let sx := fxValue fx t 0 l c.sx
    let sy := fxValue fx t 1 l c.sy
    us.map (fun (u : Nat) => v.mapPixel c wantHigh ((sx + u : Nat) : Int) ((sy + line : Nat) : Int))

/-- The worst-case cost in words of a slot over a run of `w` dots (R105); `rot` says that a rotated tile is met. -/
def tileCost (c : Tile) (rot : Bool) (w : Nat) : Nat :=
  if c.affine then (if c.filter && !fmtIndexed c.fmt then 8 * w else 2 * w)
  else
    let t := cdiv w c.tw + 1
    cdiv (t + 1) 2 + t * (if rot then c.th else cdiv (c.tw * fmtBits c.fmt) 48)

/-- The run of dots that holds the clipped windows of a slot's layers visible on line `l` (R105); 0 when none is. -/
def Dev.slotRun (v : Dev) (n t l : Nat) : Nat :=
  let ha := (v.mode n).ha
  let vis := ((v.tile n t).names.filter (fun k => v.layOn n k l && v.layKind n k == 1)).map (v.layWin n)
  match vis with
  | [] => 0
  | w :: ws =>
    let lo := ws.foldl (fun m x => min m x.x) w.x
    let hi := ws.foldl (fun m x => max m (x.x + x.clipW ha)) (w.x + w.clipW ha)
    hi - lo

/-! ### Sprites (chapter 5) -/

def SprEnt.en (e : SprEnt) : Bool := natBit e.w0.toNat 47
def SprEnt.plane (e : SprEnt) : Nat := natBits e.w0.toNat 45 2
def SprEnt.pri (e : SprEnt) : Nat := natBits e.w0.toNat 41 4
def SprEnt.y (e : SprEnt) : Int := natToInt 14 (natBits e.w0.toNat 27 14)
def SprEnt.x (e : SprEnt) : Int := natToInt 14 (natBits e.w0.toNat 13 14)
def SprEnt.dh (e : SprEnt) : Nat := natBits e.w0.toNat 3 10 + 1
def SprEnt.dw (e : SprEnt) : Nat := natBits e.w1.toNat 38 10 + 1
def SprEnt.sw (e : SprEnt) : Nat := natBits e.w1.toNat 30 8 + 1
def SprEnt.sh (e : SprEnt) : Nat := natBits e.w1.toNat 22 8 + 1
def SprEnt.pal (e : SprEnt) : Nat := natBits e.w1.toNat 16 6
def SprEnt.idxBase (e : SprEnt) : Nat := natBits e.w1.toNat 8 8
def SprEnt.fmt (e : SprEnt) : Nat := natBits e.w1.toNat 5 3
def SprEnt.rot (e : SprEnt) : Nat := natBits e.w1.toNat 3 2
def SprEnt.vflip (e : SprEnt) : Bool := natBit e.w1.toNat 2
def SprEnt.hflip (e : SprEnt) : Bool := natBit e.w1.toNat 1
def SprEnt.filt (e : SprEnt) : Bool := natBit e.w1.toNat 0 && !fmtIndexed e.fmt
def SprEnt.pat (e : SprEnt) : Nat := natBits e.w2.toNat 24 24
def SprEnt.aff (e : SprEnt) : Nat := natBits e.w2.toNat 18 6
def SprEnt.transp0 (e : SprEnt) : Bool := natBit e.w2.toNat 17
def SprEnt.alpha (e : SprEnt) : Nat := min (natBits e.w2.toNat 0 16) one14
def SprEnt.pitch (e : SprEnt) : Nat := cdiv (e.sw * fmtBits e.fmt) 48
def SprEnt.turned (e : SprEnt) : Bool := e.rot == 1 || e.rot == 3

/-- SW′ and SH′ of R116. -/
def SprEnt.sw2 (e : SprEnt) : Nat := if e.turned && e.aff == 0 then e.sh else e.sw
def SprEnt.sh2 (e : SprEnt) : Nat := if e.turned && e.aff == 0 then e.sw else e.sh

/-- Does an entry pass the check of R112? -/
def SprEnt.good (e : SprEnt) : Bool :=
  decide (e.fmt ≠ 7) &&
  decide (e.aff ≠ 0 ∨ (e.sw2 ≤ 4 * e.dw ∧ e.dw ≤ 4 * e.sw2 ∧ e.sh2 ≤ 4 * e.dh ∧ e.dh ≤ 4 * e.sh2)) &&
  decide (e.pat + e.sh * e.pitch ≤ 0x1000000)

/-- Is plane `p` enabled in state `v`, and the layer it names? -/
def Dev.planeLayer (v : Dev) (n p : Nat) : Option Nat :=
  let r := v.lrd (rOUT_SPR_PLANE n)
  if natBit r (6 * p + 5) then some (natBits r (6 * p) 5) else none

/-- The enabled planes that name layer `k`. -/
def Dev.planesNaming (v : Dev) (n k : Nat) : List Nat := (List.range 4).filter (fun p => v.planeLayer n p == some k)

/-- Are the planes' layer numbers in conflict (R107)? -/
def Dev.planeConflict (v : Dev) (n : Nat) : Bool :=
  (List.range 4).any (fun p =>
    match v.planeLayer n p with
    | some k => decide ((v.planesNaming n k).length ≠ 1) || !(v.slotsNaming n k).isEmpty
    | none => false)

/-- Does a sprite intersect line `l` (R119)? -/
def SprEnt.onLine (e : SprEnt) (l : Nat) : Bool := decide (e.y ≤ (l : Int) ∧ (l : Int) ≤ e.y + e.dh - 1)

/-- The sprites that intersect a line, in rank order (R119). -/
def sprRank (l : List SprEnt) : List SprEnt :=
  (List.range 16).reverse.flatMap (fun p => l.filter (fun e => e.pri == p))

/-- The box dots of a sprite inside a raster `ha` wide, as (first raster dot, count). -/
def SprEnt.span (e : SprEnt) (ha : Nat) : Nat × Nat :=
  let lo := (max 0 e.x).toNat
  let hi := (max 0 (min (ha : Int) (e.x + e.dw))).toNat
  (lo, hi - lo)

/-- The cost of a sprite on a line (R122). -/
def SprEnt.cost (e : SprEnt) (ha : Nat) : Nat :=
  let slow := (e.aff == 0 && e.turned) || e.aff != 0
  let k := if e.filt && slow then 2 else if e.filt || slow then 4 else 8
  2 + cdiv (e.span ha).2 k

/-- The kept sprites within a budget, their cost, and how many were cut (R122). -/
def sprBudgetCut (ha budget : Nat) : List SprEnt → Nat → List SprEnt × Nat × Nat
  | [], c => ([], c, 0)
  | e :: t, c =>
    if c + e.cost ha ≤ budget then
      let (k, c', n) := sprBudgetCut ha budget t (c + e.cost ha)
      (e :: k, c', n)
    else ([], c, t.length + 1)

/-- A pattern pixel of a sprite (R114); transparent outside the pattern. -/
def Dev.sprPixel (d : Dev) (e : SprEnt) (x y : Int) : Raw × Met :=
  if x < 0 ∨ y < 0 ∨ (e.sw : Int) ≤ x ∨ (e.sh : Int) ≤ y then (.clear, Met.none)
  else
    let b := fmtBits e.fmt
    let base := e.pat + y.toNat * e.pitch
    let s := x.toNat * b
    (rawPixel e.fmt e.pal e.idxBase e.transp0 (streamBits (fun i => d.mainOrZero (base + i)) s b),
      ⟨(runAddrs base s b).filter (· < 0x1000000), false, false⟩)

/-- The display-frame pixel (qx, qy) of a sprite, turned and mirrored into its pattern (R116). -/
def SprEnt.turn (e : SprEnt) (qx qy : Int) : Int × Int :=
  let qx := if e.hflip then (e.sw2 : Int) - 1 - qx else qx
  let qy := if e.vflip then (e.sh2 : Int) - 1 - qy else qy
  if e.rot = 0 then (qx, qy)
  else if e.rot = 1 then (qy, (e.sh : Int) - 1 - qx)
  else if e.rot = 2 then ((e.sw : Int) - 1 - qx, (e.sh : Int) - 1 - qy)
  else ((e.sw : Int) - 1 - qy, qx)

/-- Parameter `i` of affine set `k`, signed 8.16. -/
def Dev.sprAff (v : Dev) (n k i : Nat) : Int := sgn24 (v.lrd (rOUT_SPR_AFF n k i))

/-- A sprite's dot (u, v) (R116, R117). Affine sample points are exact in units of 2^-17. An affine dot whose sample point lies outside the
pattern is transparent by R116 before any filter, where R117 speaks of a soft edge (DESIGN CHOICE, log entry 56). -/
def Dev.sprDot (w : Dev) (n : Nat) (e : SprEnt) (u v : Nat) : Raw × Met :=
  if e.aff = 0 then
    if e.filt then
      let fx : Int := (((2 * u + 1) * e.sw2 : Nat) : Int) * 128 / (e.dw : Int) - 128
      let fy : Int := (((2 * v + 1) * e.sh2 : Nat) : Int) * 128 / (e.dh : Int) - 128
      let x := fx / 256
      let y := fy / 256
      let at' (a b : Int) := let p := e.turn a b; w.sprPixel e p.1 p.2
      let (a, ma) := at' x y
      let (b, mb) := at' (x + 1) y
      let (c, mc) := at' x (y + 1)
      let (f, mf) := at' (x + 1) (y + 1)
      (bilinear (fx % 256).toNat (fy % 256).toNat (fmtShape e.fmt) a b c f, ((ma.join mb).join mc).join mf)
    else
      let p := e.turn (((2 * u + 1) * e.sw2 / (2 * e.dw) : Nat) : Int) (((2 * v + 1) * e.sh2 / (2 * e.dh) : Nat) : Int)
      w.sprPixel e p.1 p.2
  else
    let cu : Int := ((2 * u + 1 : Nat) : Int) - e.dw
    let cv : Int := ((2 * v + 1 : Nat) : Int) - e.dh
    let sx : Int := (e.sw : Int) * 2 ^ 16 + w.sprAff n e.aff 0 * cu + w.sprAff n e.aff 1 * cv
    let sy : Int := (e.sh : Int) * 2 ^ 16 + w.sprAff n e.aff 2 * cu + w.sprAff n e.aff 3 * cv
    if sx < 0 ∨ sy < 0 ∨ (e.sw : Int) * 2 ^ 17 ≤ sx ∨ (e.sh : Int) * 2 ^ 17 ≤ sy then (.clear, Met.none)
    else if e.filt then
      let hx := sx - 2 ^ 16
      let hy := sy - 2 ^ 16
      let x := hx / 2 ^ 17
      let y := hy / 2 ^ 17
      let (a, ma) := w.sprPixel e x y
      let (b, mb) := w.sprPixel e (x + 1) y
      let (c, mc) := w.sprPixel e x (y + 1)
      let (f, mf) := w.sprPixel e (x + 1) (y + 1)
      (bilinear (hx / 2 ^ 9 % 256).toNat (hy / 2 ^ 9 % 256).toNat (fmtShape e.fmt) a b c f,
        ((ma.join mb).join mc).join mf)
    else w.sprPixel e (sx / 2 ^ 17) (sy / 2 ^ 17)

/-- The dots a sprite draws on line `l`, with what its fetch met. -/
def Dev.sprRun (w : Dev) (n : Nat) (e : SprEnt) (l : Nat) : SprRun × Met :=
  let (lo, cnt) := e.span (w.mode n).ha
  let v := ((l : Int) - e.y).toNat
  let dots := (List.range cnt).map (fun i => w.sprDot n e (((lo + i : Nat) : Int) - e.x).toNat v)
  (⟨e.plane, lo, e.alpha, dots.map (·.1)⟩, dots.foldl (fun m x => m.join x.2) Met.none)

/-- A plane's line: its sprites laid over each other, rank 1 on top (R118). `l` is the plane layer's colour state. The matrix acts on the combined
line, MTX_FIRST or not (log entry 25). -/
def planeLine (ha : Nat) (l : LayCol) (t : Luts) (pal : Nat → Nat → Nat) (runs : List SprRun) : List Px :=
  (List.range ha).map (fun x =>
    runs.reverse.foldl (fun (acc : Px) r =>
      if r.x ≤ x ∧ x < r.x + r.dots.length then
        let p := rawPx { l with mtxFirst := false } t pal (r.dots.getD (x - r.x) .clear)
        if p.a = 0 then acc
        else overPx ⟨mul14 p.r r.alpha, mul14 p.g r.alpha, mul14 p.b r.alpha, mul14 p.a r.alpha⟩ acc
      else acc) ⟨0, 0, 0, 0⟩)

/-! ### Bitmaps (R162, R163) -/

/-- A bitmap layer's registers. -/
structure Bmp where
  base : Nat
  fmt : Nat
  pitch : Nat
  sw : Nat
  sh : Nat
  pal : Nat
  idx : Nat
  transp0 : Bool
  filter : Bool
deriving DecidableEq, Repr

def Dev.bmp (v : Dev) (n k : Nat) : Bmp :=
  let s5 := v.laySrc n k 5
  ⟨v.laySrc n k 0 + natBits (v.laySrc n k 1) 0 16 * 2 ^ 24, natBits (v.laySrc n k 2) 20 4, natBits (v.laySrc n k 2) 0 16,
   natBits (v.laySrc n k 3) 0 13 + 1, natBits (v.laySrc n k 4) 0 13 + 1,
   natBits s5 16 6, natBits s5 8 8, natBit s5 1, natBit s5 0⟩

/-- Is a bitmap layer's state invalid (R163)? -/
def Dev.bmpInvalid (v : Dev) (n k : Nat) : Bool :=
  let b := v.bmp n k
  let w := v.layWin n k
  let words := cdiv (b.sw * fmtBits b.fmt) 48
  let last := b.base + (b.sh - 1) * b.pitch + words
  let inMain := decide (last ≤ 0x1000000)
  let inDdr := decide (0x8000000000 ≤ b.base ∧ last ≤ 0x8000000000 + v.ddrWords)
  fmtBits b.fmt == 0 || ((b.fmt == 0xA || b.fmt == 0xB) && b.sw % 2 == 1) || decide (b.pitch < words) ||
    !(inMain || inDdr) || decide (4 * w.w < b.sw ∨ 4 * b.sw < w.w ∨ 4 * w.h < b.sh ∨ 4 * b.sh < w.h)

/-- A source pixel of a bitmap, at a column and row inside the source. -/
def Dev.bmpPixel (d : Dev) (b : Bmp) (x y : Nat) : Raw :=
  let row := b.base + y * b.pitch
  if b.fmt = 0xA ∨ b.fmt = 0xB then
    let c := if b.fmt = 0xA then 8 else 10
    let at' (i : Nat) : Nat := streamBits (fun j => d.pixWord (row + j)) ((x / 2 * 4 + i) * c) c
    .enc c c c (at' (if x % 2 = 0 then 0 else 2)) (at' 1) (at' 3) one14
  else
    let n := fmtBits b.fmt
    rawPixel b.fmt b.pal b.idx b.transp0 (streamBits (fun j => d.pixWord (row + j)) (x * n) n)

/-- The highest value of channel `i` of an encoded or linear dot. -/
def Raw.chanMax (r : Raw) (i : Nat) : Nat :=
  match r with
  | .enc nr ng nb _ _ _ _ => if i = 0 then 2 ^ nr - 1 else if i = 1 then 2 ^ ng - 1 else if i = 2 then 2 ^ nb - 1 else one14
  | _ => if i = 3 then one14 else 0xFFFF

/-- The dot of four columns by four rows under the scaler's taps, columns first (R163, R201). -/
def scale16 (shape : Raw) (tx ty : List Int) (px : Nat → Nat → Raw) : Raw :=
  let ch (i : Nat) : Nat :=
    filter4 ty ((List.range 4).map (fun r =>
      filter4 tx ((List.range 4).map (fun c => (px c r).chans.getD i 0)) (shape.chanMax i))) (shape.chanMax i)
  shape.withChans [ch 0, ch 1, ch 2, ch 3]

/-- Dot `u` of window line `v` of a bitmap layer (R163). -/
def Dev.bmpDot (d : Dev) (t : Luts) (b : Bmp) (w : Win) (u v : Nat) : Raw :=
  if b.filter && !fmtIndexed b.fmt then
    let nx : Int := (((2 * u + 1) * b.sw : Nat) : Int) - w.w
    let ny : Int := (((2 * v + 1) * b.sh : Nat) : Int) - w.h
    let dx : Int := 2 * w.w
    let dy : Int := 2 * w.h
    let cx := nx / dx
    let cy := ny / dy
    let ph (num den : Int) : Nat := (64 * (num % den) / den).toNat
    let px (c r : Nat) : Raw :=
      d.bmpPixel b (clampN (cx - 1 + c) (b.sw - 1)) (clampN (cy - 1 + r) (b.sh - 1))
    scale16 (px 1 1) (t.taps (ph nx dx)) (t.taps (64 + ph ny dy)) px
  else d.bmpPixel b ((2 * u + 1) * b.sw / (2 * w.w)) ((2 * v + 1) * b.sh / (2 * w.h))

/-- The main-memory words read for a window line of a bitmap. -/
def bmpAddrs (b : Bmp) (w : Win) (v : Nat) : List Nat :=
  let cy : Int := ((((2 * v + 1) * b.sh : Nat) : Int) - w.h) / (2 * w.h)
  let rows := if b.filter && !fmtIndexed b.fmt then
      ([-1, 0, 1, 2].map (fun (k : Int) => clampN (cy + k) (b.sh - 1))).eraseDups
    else [(2 * v + 1) * b.sh / (2 * w.h)]
  (rows.flatMap (fun r => (List.range (cdiv (b.sw * fmtBits b.fmt) 48)).map (b.base + r * b.pitch + ·))).filter
    (· < 0x1000000)

/-! ### Camera windows (chapter 8) -/

def Dev.cam (d : Dev) (c : Nat) : Cam := d.cams.getD c Cam.reset
def Dev.modCam (d : Dev) (c : Nat) (f : Cam → Cam) : Dev := { d with cams := d.cams.set c (f (d.cam c)) }

def Dev.camSw (d : Dev) (c : Nat) : Nat := d.fld (rCAM_SIZE c) fCAM_SIZE_SW_M1 + 1
def Dev.camSh (d : Dev) (c : Nat) : Nat := d.fld (rCAM_SIZE c) fCAM_SIZE_SH_M1 + 1
def Dev.camW (d : Dev) (c : Nat) : Nat := d.fld (rCAM_WARP c) fCAM_WARP_W
def Dev.camGx (d : Dev) (c : Nat) : Nat := 16 * 2 ^ d.fld (rCAM_WARP c) fCAM_WARP_GX
def Dev.camGy (d : Dev) (c : Nat) : Nat := 2 ^ d.fld (rCAM_WARP c) fCAM_WARP_GY

/-- The grid of a warp table over a window (R200). -/
def Dev.camNx (d : Dev) (c : Nat) (w : Win) : Nat := (w.w - 1) / d.camGx c + 2
def Dev.camNy (d : Dev) (c : Nat) (w : Win) : Nat := (w.h - 1) / d.camGy c + 2

/-- The word of a grid point of the warp table taken at binding. -/
def Dev.warpAddr (d : Dev) (c : Nat) (w : Win) (j i : Nat) : Nat :=
  (d.cam c).warp + i * cdiv (d.camNx c w) 2 + j / 2

/-- Grid point (j, i): DX in quarter dots, DY in sixteenths of a line (R200). -/
def Dev.warpPoint (d : Dev) (c : Nat) (w : Win) (j i : Nat) : Int × Int :=
  let e := natBits (d.mainOrZero (d.warpAddr c w j i)) (if j % 2 = 0 then 24 else 0) 24
  (natToInt 13 (natBits e 11 13), natToInt 11 (natBits e 0 11))

/-- DX × GX × GY and DY × GX × GY at window dot u of window line v, interpolated exactly (R200). -/
def Dev.warpAt (d : Dev) (c : Nat) (w : Win) (u v : Nat) : Int × Int :=
  if d.flag (rCAM_WARP c) fCAM_WARP_WARP_EN then
    let gx := d.camGx c
    let gy := d.camGy c
    let j := u / gx
    let i := v / gy
    let fx : Int := (u % gx : Nat)
    let fy : Int := (v % gy : Nat)
    let a := d.warpPoint c w j i
    let b := d.warpPoint c w (j + 1) i
    let e := d.warpPoint c w j (i + 1)
    let f := d.warpPoint c w (j + 1) (i + 1)
    let mixv (p q r s : Int) : Int := (p * (gx - fx) + q * fx) * (gy - fy) + (r * (gx - fx) + s * fx) * fy
    (mixv a.1 b.1 e.1 f.1, mixv a.2 b.2 e.2 f.2)
  else (0, 0)

/-- The floor of the nominal source row of window line v (R199). -/
def camYn (sh : Nat) (w : Win) (v : Nat) : Int := ((((2 * v + 1) * sh : Nat) : Int) - w.h) / (2 * w.h)

/-- The source lines window line v needs, as lowest and highest inside the source (R199). -/
def Dev.camNeed (d : Dev) (c : Nat) (w : Win) (v : Nat) : Nat × Nat :=
  let y := camYn (d.camSh c) w v
  let k : Int := d.camW c
  (clampN (y - k + 1) (d.camSh c - 1), clampN (y + k) (d.camSh c - 1))

/-- The ring's line `y` of camera frame `f`, if it is valid there (R196). -/
def Cam.line (x : Cam) (f y : Nat) : Option CamLine :=
  x.ring.find? (fun l => l.frame == f && l.y == y && !l.bad)

/-- Component `i` of a stored pixel, 10 bits. -/
def camComp (p i : Nat) : Nat := natBits p (20 - 10 * i) 10

/-- A dot of a camera window and whether a tap was clipped to the needed range (R201, R202). -/
def Dev.camDot (d : Dev) (t : Luts) (c f : Nat) (w : Win) (u v : Nat) : Raw × Bool :=
  let sw := d.camSw c
  let sh := d.camSh c
  let gg : Int := ((d.camGx c * d.camGy c : Nat) : Int)
  let (wx, wy) := d.warpAt c w u v
  let nx : Int := ((((2 * u + 1) * sw : Nat) : Int) - w.w) * 2 * gg + wx * w.w
  let dx : Int := 4 * w.w * gg
  let ny : Int := ((((2 * v + 1) * sh : Nat) : Int) - w.h) * 8 * gg + wy * w.h
  let dy : Int := 16 * w.h * gg
  let cx := nx / dx
  let cy := ny / dy
  let ph (num den : Int) : Nat := (64 * (num % den) / den).toNat
  let (lo, hi) := d.camNeed c w v
  let row (r : Nat) : Int := cy - 1 + r
  let rows := (List.range 4).map (fun r => (max (lo : Int) (min (hi : Int) (row r))).toNat)
  let clip := (List.range 4).any (fun r =>
    decide ((row r < (lo : Int) ∧ 0 < lo) ∨ ((hi : Int) < row r ∧ hi + 1 < sh)))
  let x := d.cam c
  let px (col r : Nat) : Raw :=
    let y := rows.getD r 0
    let p := ((x.line f y).map (fun l => l.px.getD (clampN (cx - 1 + col) (sw - 1)) 0)).getD 0
    .enc 10 10 10 (camComp p 0) (camComp p 1) (camComp p 2) one14
  let q := scale16 (.enc 10 10 10 0 0 0 one14) (t.taps (ph nx dx)) (t.taps (64 + ph ny dy)) px
  let m := (List.range 12).map (fun i => sgn24 (d.rd (rCAM_MTX c i)))
  let o := mtxApply m ⟨flat14 (q.chans.getD 0 0) 10, flat14 (q.chans.getD 1 0) 10, flat14 (q.chans.getD 2 0) 10, one14⟩
  let q10 (c : Nat) : Nat := rneN (min c one14 * 1023) one14
  (.enc 10 10 10 (q10 o.r) (q10 o.g) (q10 o.b) one14, clip)

/-- The camera port a CAMERA layer names. -/
def Dev.layCam (v : Dev) (n k : Nat) : Nat := natBits (v.laySrc n k 0) 0 3

/-- The layer that port `c` serves: the lowest output, then the lowest layer, among the enabled CAMERA layers that name it
in the state `v` (R197), lit or not, since R197 does not say that an unlit output's layer names no port (DESIGN CHOICE, log entry 56). -/
def Dev.camServed (v : Dev) (c : Nat) : Option (Nat × Nat) :=
  ((List.range 8).flatMap (fun n => (List.range 32).map (fun k => (n, k)))).find?
    (fun p => v.layEn p.1 p.2 && v.layKind p.1 p.2 == 5 && v.layCam p.1 p.2 == c)

/-- The width and height limits of R194. -/
def Dev.camSizeOk (d : Dev) (c : Nat) : Bool :=
  let yuv := decide (d.fld (rCAM_CTRL c) fCAM_CTRL_FORMAT ≤ 1)
  (if yuv then decide (d.camSw c % 2 = 0 ∧ d.camSw c ≤ 2150) else decide (d.camSw c ≤ 1792)) && decide (d.camSh c ≤ 4096)

/-- The ready signal of a CAMERA layer in state `v` but for its pier (R204). -/
def Dev.camValid (v : Dev) (n k : Nat) : Bool :=
  let c := v.layCam n k
  let w := v.layWin n k
  let words := v.camNy c w * cdiv (v.camNx c w) 2
  v.flag (rCAM_CTRL c) fCAM_CTRL_EN &&
    decide (v.fld (rCAM_CTRL c) fCAM_CTRL_LANES ≠ 3) && v.camSizeOk c &&
    decide (1 ≤ v.camW c ∧ v.camW c ≤ 64 ∧ v.fld (rCAM_WARP c) fCAM_WARP_GY ≤ 4) &&
    decide (v.camSw c ≤ 4 * w.w ∧ w.w ≤ 2 * v.camSw c ∧ v.camSh c ≤ 4 * w.h ∧ w.h ≤ 2 * v.camSh c) &&
    decide (v.rd (rCAM_WARP_BASE c) + words ≤ 0x1000000) && v.camServed c == some (n, k)

/-- The ready signal of a CAMERA layer in state `v` (R204). -/
def Dev.camReady (v : Dev) (n k : Nat) : Bool := v.camValid n k && v.awake (26 + v.layCam n k / 4)

/-! ### Remote layers (R452) -/

/-- The peer and stream of a REMOTE layer, and the port that faces the peer. -/
def Dev.remPeer (v : Dev) (n k : Nat) : Nat := natBits (v.laySrc n k 0) 0 2
def Dev.remStream (v : Dev) (n k : Nat) : Nat := natBits (v.laySrc n k 0) 2 5
def Dev.remPort (v : Dev) (n k : Nat) : Nat := (v.remPeer n k + 4 - v.devNum - 1) % 4

/-- Does port `p` feed layer `k` of output `n`? -/
def Dev.remFeeds (v : Dev) (p n k : Nat) : Bool := v.layEn n k && v.layKind n k == 6 && v.remPort n k == p

/-- Is layer `k` of output `n`, which port `p` feeds, hidden in frame `f` for the loss of the link (R455)? -/
def Dev.remHidden (d : Dev) (p n k f : Nat) : Bool :=
  match (d.port p).down.find? (·.1 == 32 * n + k) with
  | none => false
  | some (_, g, b) => !frameBefore f g && !b.elim false (fun b => !frameBefore f b)

/-- The first word of the ring of a stream. -/
def Dev.remRing (d : Dev) (p s : Nat) : Nat := d.fld (rWRN_RX p s) fWRN_RX_SLAB * 0x1000

/-- Is the peer of port `p` lost: its link not up (R445)? -/
def Dev.peerLost (d : Dev) (p : Nat) : Bool := d.fld (rWRN_STATUS p) fWRN_STATUS_STATE != 2

/-- The sequence last received on a stream. -/
def Dev.remSeq (d : Dev) (p s : Nat) : Option Nat :=
  (d.rx.find? (fun r => r.port == p && r.stream == s)).map (·.seq)

/-- The ready signal of a REMOTE layer (R452, R180). Before any row has landed no sequence has been received, so a layer with SEQ_EN is not
ready, and a sequence is received once its row has landed whole (DESIGN CHOICE, log entry 56). -/
def Dev.remReady (v : Dev) (n k : Nat) : Bool :=
  let p := v.remPort n k
  let s := v.remStream n k
  let seqOk := !natBit (v.laySrc n k 0) 23 || v.peerLost p ||
    ((v.remSeq p s).elim false (fun q => !frameBefore q (v.laySrc n k 1)))
  v.remPeer n k != v.devNum && v.flag (rWRN_RX p s) fWRN_RX_EN && decide (v.remRing p s + 8 * 0x1000 ≤ 0x1000000) && seqOk

/-- The dots of row `r` of a stream as landed (R452). -/
def Dev.remDots (d : Dev) (p s r w : Nat) : List Raw :=
  (List.range w).map (fun u =>
    let x := (d.peek (d.remRing p s + (r % 8) * 0x1000 + u)).toNat
    .lin (natBits x 32 16) (natBits x 16 16) (natBits x 0 16))

/-! ### Spans (R141, R145 to R149) -/

/-- Span layer `s`: the layer it names when it is enabled (R147). -/
def Dev.spanLayer (v : Dev) (n s : Nat) : Option Nat :=
  let r := v.lrd (rOUT_SPAN_LAYERS n)
  if natBit r (6 * s + 5) then some (natBits r (6 * s) 5) else none

/-- The enabled span layers that name layer `k`. -/
def Dev.spansNaming (v : Dev) (n k : Nat) : List Nat := (List.range 4).filter (fun s => v.spanLayer n s == some k)

/-- Is a span layer's number also named elsewhere (R147)? -/
def Dev.spanConflict (v : Dev) (n : Nat) : Bool :=
  (List.range 4).any (fun s =>
    match v.spanLayer n s with
    | some k => decide ((v.spansNaming n k).length ≠ 1) || !(v.planesNaming n k).isEmpty || !(v.slotsNaming n k).isEmpty
    | none => false)

/-- A SPAN record's fields (R141), edges and ramps in sixteenths of a dot. -/
def spXs (w0 : Nat) : Nat := natBits w0 26 16
def spXe (w0 : Nat) : Nat := natBits w0 10 16
def spWl (w0 : Nat) : Nat := max (natBits w0 0 10) 16
def spWr (w1 : Nat) : Nat := max (natBits w1 4 10) 16
def spSrc (w1 : Nat) : Nat := natBits w1 46 2
def spRef (w1 : Nat) : Nat := natBits w1 22 24
def spCov (w1 : Nat) : Nat := natBits w1 14 8

/-- The first and last dot a span paints inside a window `ww` wide; none when it paints nothing (R145). -/
def spRange (w0 w1 ww : Nat) : Option (Nat × Nat) :=
  let lo : Int := (2 * (spXs w0 : Int) - spWl w0) / 32
  let hi : Int := -((-(2 * (spXe w0 : Int) + spWr w1)) / 32) - 1
  let lo := max 0 lo
  let hi := min ((ww : Int) - 1) hi
  if hi < lo then none else some (lo.toNat, hi.toNat)

/-- The cost of a span in painter clocks (R149). -/
def spCost (w0 w1 ww : Nat) : Nat :=
  1 + (match spRange w0 w1 ww with
    | some (a, b) => cdiv (b - a + 1) 16
    | none => 0)

/-- The coverage of a span at window dot `x` (R145): the smaller of the two clamped ramps times COV / 255, rounded to
2.14. Both ramps are taken over 2 × wl × wr. -/
def spCoverage (w0 w1 x : Nat) : Nat :=
  let wl : Int := spWl w0
  let wr : Int := spWr w1
  let x16 : Int := ((16 * x + 8 : Nat) : Int)
  let den := 2 * wl * wr
  let l := max 0 (min den ((2 * (x16 - spXs w0) + wl) * wr))
  let r := max 0 (min den ((2 * ((spXe w0 : Int) - x16) + wr) * wl))
  (rne (min l r * (spCov w1 : Int) * one14) (den * 255).toNat).toNat

/-- The four words of a gradient record; a word outside main memory reads zero (R146). -/
def Dev.gradient (d : Dev) (w1 : Nat) : List Nat := (List.range 4).map (fun i => d.mainOrZero (spRef w1 + i))

/-- The addresses of a gradient record. -/
def gradAddrs (w1 : Nat) : List Nat := (List.range 4).map (spRef w1 + ·)

/-- A span's colour at window dot `x` (R146). -/
def Dev.spColour (d : Dev) (pal : Nat → Nat → Nat) (w1 x : Nat) : Nat × Nat × Nat :=
  if spSrc w1 = 0 then wordRgb (pal (natBits w1 40 6) (natBits w1 32 8))
  else
    let g := d.gradient w1
    let gx : Int := natToInt 48 (g.getD 2 0)
    let gk : Int := natToInt 48 (g.getD 3 0)
    let t := max 0 (min (2 ^ 49) (((2 * x + 1 : Nat) : Int) * 2 ^ 24 - 2 * gx) * gk)
    let c (i : Nat) : Nat :=
      let c0 : Int := chan (g.getD 0 0) i
      let c1 : Int := chan (g.getD 1 0) i
      sat16 (c0 + rne ((c1 - c0) * t) (2 ^ 49))
    (c 0, c 1, c 2)

/-- A span layer's line: its spans laid over a transparent line, later spans on top (R145, R146). -/
def Dev.spanLine (d : Dev) (pal : Nat → Nat → Nat) (ww : Nat) (recs : List SpanRec) : List Px :=
  (List.range ww).map (fun x =>
    recs.foldl (fun (acc : Px) r =>
      let w0 := r.w0.toNat
      let w1 := r.w1.toNat
      match spRange w0 w1 ww with
      | some (a, b) =>
        if a ≤ x ∧ x ≤ b then
          let c := spCoverage w0 w1 x
          if c = 0 then acc
          else
            let (r, g, b) := d.spColour pal w1 x
            overPx (premul ⟨r, g, b, c⟩) acc
        else acc
      | none => acc) ⟨0, 0, 0, 0⟩)

/-- The spans kept within a painter budget, in delivery order, and how many the budget drops (R149). -/
def spanCut (ww budget : Nat) : List SpanRec → Nat → List SpanRec × Nat
  | [], _ => ([], 0)
  | r :: t, c =>
    let c' := c + spCost r.w0.toNat r.w1.toNat ww
    if c' ≤ budget then
      let (k, n) := spanCut ww budget t c'
      (r :: k, n)
    else ([], t.length + 1)

end Sys2Proof.Machine
end

