-- ==== Sys2Proof/Machine/Lines.lean ====
section
/-! DEFINITION. Line programs (chapter 6): starts, windows, code loads and records. -/

namespace Sys2Proof.Machine

def Dev.clu (d : Dev) (n : Nat) : Cluster := d.lcc.getD n Cluster.reset
def Dev.modClu (d : Dev) (n : Nat) (f : Cluster → Cluster) : Dev := { d with lcc := d.lcc.set n (f (d.clu n)) }

/-! ### The trace logs (R535 to R537) -/

/-- A record added to a log that keeps the latest 1,024. -/
def Log.push (l : Log) (r : List Word) : Log := ⟨(r :: l.recs).take 1024, l.total + 1⟩

/-- A record of the stale and fault log (R536). -/
def Dev.stlPush (d : Dev) (code out layer line count frame : Nat) : Dev :=
  let w1 := code * 2 ^ 40 + out % 8 * 2 ^ 37 + layer % 32 * 2 ^ 32 + line % 65536 * 2 ^ 16 + min count 65535
  let d := d.when (1024 ≤ d.dbg.stlLog.total) (·.bump rDBG_STL_OVW_CNT fDBG_STL_OVW_CNT_COUNT)
  { d with dbg := { d.dbg with
      stlLog := d.dbg.stlLog.push [BitVec.ofNat 48 d.bt, BitVec.ofNat 48 w1, BitVec.ofNat 48 (frame % 2 ^ 24)] } }

/-- A record of the trestle firing log (R535). -/
def Dev.trsPush (d : Dev) (act : Word) : Dev :=
  let d := d.when (1024 ≤ d.dbg.trsLog.total) (·.bump rDBG_TRS_OVW_CNT fDBG_TRS_OVW_CNT_COUNT)
  { d with dbg := { d.dbg with trsLog := d.dbg.trsLog.push [BitVec.ofNat 48 d.bt, act] } }

/-! ### Cores of a cluster (R127 to R131, R156) -/

/-- The most recent event of a cluster (LCCn_EVT_LINE, LCCn_EVT_FRAME). -/
def Dev.lccEvent (d : Dev) (n cause line frame : Nat) : Dev :=
  (d.wr (rLCC_EVT_LINE n) (cause * 2 ^ 20 + line % 65536)).wr (rLCC_EVT_FRAME n) (frame % 2 ^ 24)

/-- The physical core of logical core `k`, if it has one (R156). -/
def Dev.lccPhys (d : Dev) (n k : Nat) : Option Nat :=
  if d.fld (rLCC_CORES n) fLCC_CORES_SPARE_FOR = k then some 8
  else if natBit (d.rd (rLCC_CORES n)) k then none
  else some k

/-- The lowest idle logical core, with its physical core (R129). One whose map has just changed is none in that clock (R157). -/
def Dev.lccIdle (d : Dev) (n : Nat) : Option (Nat × Nat) :=
  ((List.range 8).filterMap (fun k => (d.lccPhys n k).map (fun p => (k, p)))).find?
    (fun p => (d.core (9 * n + p.2)).run == 0 && (d.clu n).remap != some (p.1, d.now))

/-- The number of active logical cores, halted ones not counted (R152, R155). -/
def Dev.lccActive (d : Dev) (n : Nat) : Nat :=
  ((List.range 8).filter (fun k =>
    match d.lccPhys n k with
    | some p => !natBit (d.rd (rLCC_CORES n)) (9 + p)
    | none => false)).length

/-- LCCn_BUDGET (R152); 0 while the output is unlit. -/
def Dev.lccBudget (d : Dev) (n : Nat) : Dev :=
  let lead := d.lv (rLCC_CTRL n) fLCC_CTRL_LEAD
  let b := min (lead - 2) (d.lccActive n) * 1199600000 / (d.outHz n * (d.mode n).v) - 16
  d.wr (rLCC_BUDGET n) (if d.lit n then b else 0)

/-- The lead in the state `v`, and whether the cluster is enabled there. -/
def Dev.lccLead (v : Dev) (n : Nat) : Nat := v.lv (rLCC_CTRL n) fLCC_CTRL_LEAD
def Dev.lccEn (v : Dev) (n : Nat) : Bool := v.lv (rLCC_CTRL n) fLCC_CTRL_EN == 1

/-- K of the keystone point (R174). -/
def Dev.keyK (d : Dev) (n : Nat) : Nat := if d.lccEn n then d.lccLead n else 4

/-- The first short address of a code bank. -/
def bankBase (b : Nat) : Nat := if b = 0 then 0x400 else 0x800

/-- The LCLK cycles from a start to the window end, the 16 cycles of the start itself taken off (R132, R134). -/
def Dev.lccCycles (d : Dev) (n : Nat) (late : Bool) (l f : Nat) : Nat :=
  let hz := d.outHz n * (d.mode n).v
  if late then
    let fin := if 2 ≤ l then d.lineGbt n (l - 2) f else d.lineGbt n (l + (d.mode n).v - 2) ((f + 2 ^ 24 - 1) % 2 ^ 24)
    let left := (fin + 2 ^ 48 - d.gbt (d.outTg n)) % 2 ^ 48
    (if left < 2 ^ 47 then left * 1200000000 / (d.groupHz (d.outTg n) * 2 ^ 24) else 0) - 16
  else (d.lccLead n - 2) * 1200000000 / hz - 16

/-- The environment block written for line `l` of frame `f` on logical core `k`, physical core `p` (R134), from the state of the line's
frame (R131). -/
def Dev.lccEnv (d : Dev) (n k p : Nat) (late : Bool) (l f : Nat) : Dev :=
  let c := 9 * n + p
  let v := d.view n f
  let vals := [l, f, d.lineGbt n l f, v.lrd (rLCC_PARAM n), v.lccCycles n late l f % 2 ^ 24, k,
    bankBase (v.clu n).bank, v.lccLead n]
  let vals := vals ++ List.replicate 24 0
  ((List.range 32).zip vals).foldl (fun d p => d.setLword c p.1 (BitVec.ofNat 48 p.2)) d

/-- A program begun on a core (R128, R132). What its scratch words hold at the start is open (R133). -/
def Dev.lccBegin (d : Dev) (n k p : Nat) (late : Bool) (l f : Nat) : Dev :=
  let bank := ((d.view n f).clu n).bank
  let d := (d.openLmem (9 * n + p) 0x20 0x3E0).lccEnv n k p late l f
  let d := d.modCore (9 * n + p) (fun c => c.lineStart (bankBase bank) l f)
  d.modClu n (fun x => { x with progs := x.progs ++ [⟨l, f, k, p, 1⟩] })

/-- The start for line `l` of frame `f` (R128, R129): on the lowest idle logical core, or waiting in line order. `late` says that it
comes after the time of R128 (R176). -/
def Dev.lccStart (d : Dev) (n l f : Nat) (late : Bool) : Dev :=
  if !d.flag (rLCC_STATUS n) fLCC_STATUS_LOADED ∨ (d.clu n).lost ∨ (d.clu n).dead then d
  else
    let d := d.wake (14 + n)
    match d.lccIdle n with
    | some (k, p) =>
      if (d.clu n).progs.any (·.st == 0) then
        ((d.modClu n (fun x => { x with progs := x.progs ++ [⟨l, f, 0, 0, 0⟩] })).bump (rLCC_DELAY_CNT n)
          fLCC_DELAY_CNT_COUNT).raise (rLCC_STATUS n) fLCC_STATUS_DELAYED
      else d.lccBegin n k p late l f
    | none =>
      ((d.modClu n (fun x => { x with progs := x.progs ++ [⟨l, f, 0, 0, 0⟩] })).bump (rLCC_DELAY_CNT n)
        fLCC_DELAY_CNT_COUNT).raise (rLCC_STATUS n) fLCC_STATUS_DELAYED

/-- The first waiting start given to a core once one is idle (R129). -/
def Dev.lccStartDelayed (d : Dev) (n : Nat) : Dev :=
  match (d.clu n).progs.find? (·.st == 0), d.lccIdle n with
  | some w, some (k, p) =>
    let d := d.modClu n (fun x => { x with progs := x.progs.filter (fun q => !(q.st == 0 && q.line == w.line && q.frame == w.frame)) })
    d.lccBegin n k p true w.line w.frame
  | _, _ => d

/-- The cycles of a program that has ended, in the frame's peak (R152). -/
def Dev.lccUsed (d : Dev) (n p : Nat) : Dev :=
  let c := (d.core (9 * n + p)).cycles
  d.modClu n (fun x => { x with cycNow := max x.cycNow c })

/-- Does the boundary before the core's next slot permit a halt (R527)? -/
def Core.haltOk (x : Core) : Bool := x.shadow.isEmpty && x.delay.isNone && decide (x.wait ≤ 1)

/-- HALTED of a line core, and the budget that follows (R152, R155); STATE of a customer steward (R528). -/
def Dev.showHalted (d : Dev) (c : Nat) (on : Bool) : Dev :=
  if c < 72 then
    let a := rLCC_CORES (c / 9)
    (d.wr a (natSetBits (d.rd a) (9 + c % 9) 1 on.toNat)).lccBudget (c / 9)
  else if c < 0x4A then d.setSecState (targetOf c) (if on then 2 else 1)
  else d

/-- The replies owed to the steps of a core (R531): its resume address and ST. -/
def Dev.stepReply (d : Dev) (c : Nat) : Dev := d.complete 9 c 0 0 [BitVec.ofNat 48 (d.core c).slotAddr, BitVec.ofNat 48 (d.core c).st]

/-- A core whose posted stores are complete stands halted (R528, R529); a step of it ends with its reply (R531). -/
def Dev.haltShown (d : Dev) (c : Nat) : Dev :=
  ((d.modCore c (fun x => { x with run := 2, haltReq := false, steps := none })).showHalted c true).stepReply c

/-- A halt that was asked of a line core takes effect as the core becomes idle (R527). -/
def Dev.idleHalt (d : Dev) (c : Nat) : Dev :=
  d.when ((d.core c).haltReq || (d.core c).steps.isSome) (·.haltShown c)

/-- The core becomes idle, whatever it was doing (R153). -/
def Dev.lccFree (d : Dev) (n p : Nat) : Dev :=
  (d.modCore (9 * n + p) (fun c =>
    { c with run := 0, wait := 0, woken := false, ds := [], rs := [], shadow := [], delay := none, skip := [], pass := 0 })).idleHalt (9 * n + p)

/-- The program on core `p` is given up with the frame that it belongs to: a core that runs becomes idle, and a halted one keeps its
program, as at the end of a window (R155, R529). -/
def Dev.lccGiveUp (d : Dev) (n : Nat) (q : Prog) : Dev :=
  let drop (d : Dev) : Dev := d.modClu n (fun x => { x with progs := x.progs.erase q })
  if q.st = 1 ∧ (d.core (9 * n + q.phys)).run = 2 then
    d.modClu n (fun x => { x with progs := x.progs.map (fun y => if y = q then { y with st := 3 } else y) })
  else if q.st = 1 then (drop d).lccFree n q.phys
  else if q.st = 3 then d
  else drop d

/-- A late line (R153). -/
def Dev.lccLate (d : Dev) (n l f : Nat) : Dev :=
  let d := d.bump (rLCC_LATE_CNT n) fLCC_LATE_CNT_COUNT
  let d := d.raise (rLCC_STATUS n) fLCC_STATUS_LATE
  let d := d.evIf (rLCC_CTRL n) fLCC_CTRL_LATE_EV_EN fLCC_CTRL_LATE_EV
  d.lccEvent n 1 l f

/-- The record type of word 0. -/
def recType (w0 : Nat) : Nat := natBits w0 44 4

/-- The span layer a SPAN or LAYER_END record names. -/
def recSl (w0 : Nat) : Nat := natBits w0 42 2

/-- The SPAN records of layers of line `l` that are not complete, discarded (R153). -/
def Cluster.discard (x : Cluster) (l f : Nat) : Cluster :=
  { x with queue := x.queue.filter (fun r => !(r.line == l && r.frame == f && recType r.w0.toNat == 1 &&
      !x.closed.contains (f, l, recSl r.w0.toNat))) }

/-- The window of line `l` ends (R130, R153 to R155). A program that runs or still waits is aborted, one that ended by an
exception is counted late, and one whose core is halted, or halts at this very boundary (R539), is only recorded. -/
def Dev.lccWindowEnd (d : Dev) (n l f : Nat) : Dev :=
  match (d.clu n).progs.find? (fun p => p.line == l && p.frame == f && p.st != 3) with
  | none => d
  | some p =>
    let drop (d : Dev) : Dev :=
      d.modClu n (fun x => { x.discard l f with progs := x.progs.filter (fun q => !(q.line == l && q.frame == f && q.st != 3)) })
    let c := 9 * n + p.phys
    let d := d.when (p.st == 1 && (d.core c).run == 1 && (d.core c).haltReq && (d.core c).haltOk) (·.haltShown c)
    if p.st = 1 ∧ (d.core c).run = 2 then
      (d.modClu n (fun x => { x with progs := x.progs.map (fun q => if q.line == l && q.frame == f then { q with st := 3 } else q) })).lccEvent
        n 6 l f
    else if p.st = 1 then ((drop (d.lccUsed n p.phys)).lccFree n p.phys).lccLate n l f
    else (drop d).lccLate n l f

/-! ### Records (R139 to R143) -/

/-- A reserved or malformed record, or one that comes after its layer's end (R140, R141, R143). -/
def Dev.lccBadRec (d : Dev) (n : Nat) : Dev :=
  (d.bump (rLCC_BAD_CNT n) fLCC_BAD_CNT_COUNT).raise (rLCC_STATUS n) fLCC_STATUS_BAD_REC

/-- Is a record well formed, as far as its own words say? -/
def recOk (w0 w1 : Nat) : Bool :=
  let t := recType w0
  if t = 1 then decide (spXs w0 ≤ spXe w0 ∧ spSrc w1 ≤ 1)
  else if t = 3 then decide (natBits w0 37 3 ≤ 5)
  else decide (2 ≤ t ∧ t ≤ 6)

/-- The slot, parameter and value of a SCROLL or AFFINE record (R142). -/
def recFx (w0 w1 : Nat) : Nat × Nat × Nat :=
  if recType w0 = 2 then (natBits w0 40 4, natBits w0 39 1, natBits w0 0 15)
  else (natBits w0 40 4, 2 + natBits w0 37 3, w1)

/-- A tile record stored after the tile engine took line `l` (R103): the layers of a slot in use (R84) are stale for that line, and
the value acts from the next. TLt_STATUS.LATE is set as for any line of the slot that is not complete in time (R102), whether or not a
layer of the slot shows on the line (log entry 48). -/
def Dev.tileLate (d : Dev) (n l f w0 w1 : Nat) : Dev :=
  let (t, p, v) := recFx w0 w1
  let d := (d.raise (rLCC_STATUS n) fLCC_STATUS_TILE_LATE).lccEvent n 2 l f
  let used := (d.view n f).slotUsed n t
  let d := d.when used (·.raise (rOUT_TL_STATUS n t) fOUT_TL_STATUS_LATE)
  let names := if used then ((d.view n f).tile n t).names else []
  d.modOutp n (fun o => { o with
    fx := if o.tileFrame = some f then o.fx ++ [⟨l, l + 1, t, p, v⟩] else o.fx
    ins := o.ins.map (fun x => if x.line == l && x.frame == f && names.contains x.layer then { x with stale := true } else x) })

/-- A record delivered for line `l` of frame `f` (R139 to R143). -/
def Dev.lccRecord (d : Dev) (n l f : Nat) (w0 w1 : Word) : Dev :=
  let a := w0.toNat
  let t := recType a
  let shut := (d.clu n).closed.contains (f, l, recSl a)
  if !recOk a w1.toNat ∨ ((t = 1 ∨ t = 6) ∧ shut) then d.lccBadRec n
  else
    let d := d.modClu n (fun x =>
      { x with queue := x.queue ++ [⟨l, f, w0, w1⟩], qNow := max x.qNow (x.queue.length + 1),
               closed := if t = 6 then (f, l, recSl a) :: x.closed else x.closed })
    if (t = 2 ∨ t = 3) ∧ (d.clu n).tileTaken = some (l, f) then d.tileLate n l f a w1.toNat else d

/-- Has the window of the program on core `p` ended while the core was halted (R529)? -/
def Dev.lccOver (d : Dev) (n p : Nat) : Bool := (d.clu n).progs.any (fun q => q.phys == p && q.st == 3)

/-- Does a line program hold core `p`: one in its run, or one that outlived its window in a halted core (R529)? A core that none
holds stores nothing. -/
def Dev.lccHolds (d : Dev) (n p : Nat) : Bool := (d.clu n).progs.any (fun q => q.phys == p && (q.st == 1 || q.st == 3))

/-- A store to RECW0 (R139). -/
def Dev.recw0 (d : Dev) (n p : Nat) (w : Word) : Dev :=
  d.when (d.lccHolds n p) (·.modCore (9 * n + p) (fun c => { c with recw0 := w }))

/-- A store to RECW1: the record is queued, or the store stalls on a full queue (R139, R529). -/
def Dev.recw1 (d : Dev) (n p : Nat) (w : Word) : Dev :=
  let c := d.core (9 * n + p)
  if !d.lccHolds n p || d.lccOver n p then d
  else if 2048 ≤ (d.clu n).queue.length then
    (d.setCore (9 * n + p) { c with wait := 3, stall := w }).raise (rLCC_STATUS n) fLCC_STATUS_QFULL
  else d.lccRecord n c.line c.frame c.recw0 w

/-- A stalled RECW1 store completes once an entry is free. -/
def Dev.queueRoom (d : Dev) (n p : Nat) : Dev :=
  let c := d.core (9 * n + p)
  if d.lccHolds n p ∧ c.wait = 3 ∧ (d.clu n).queue.length < 2048 then
    (d.setCore (9 * n + p) { c with wait := 0 }).lccRecord n c.line c.frame c.recw0 c.stall
  else d

/-- A store to DONE (R139, R143, R529): every span layer of the line is complete and the core is free. -/
def Dev.lccDone (d : Dev) (n p : Nat) : Dev :=
  if !d.lccHolds n p then d else
  let c := d.core (9 * n + p)
  let ended := d.lccOver n p
  let d := d.lccUsed n p
  let d := d.modClu n (fun x => { x with
    progs := x.progs.filter (fun q => !(q.phys == p && q.st != 0 && q.st != 2))
    closed := if ended then x.closed
      else (((List.range 4).map (fun s => (c.frame, c.line, s))).filter (fun y => !x.closed.contains y)) ++ x.closed })
  d.lccFree n p

/-- A synchronous exception ends a line program (R154, R295). -/
def Dev.lccExcept (d : Dev) (n p cause epc : Nat) : Dev :=
  let c := d.core (9 * n + p)
  let d := d.bump (rLCC_EXC_CNT n) fLCC_EXC_CNT_COUNT
  let d := d.raise (rLCC_STATUS n) fLCC_STATUS_EXC
  let d := d.wr (rLCC_EXC_INFO n) (cause * 2 ^ 20 + p * 2 ^ 16 + epc % 65536)
  let d := d.lccEvent n 5 c.line c.frame
  let d := d.lccUsed n p
  let d := d.modClu n (fun x => { x with
    progs := (x.progs.filter (fun q => !(q.phys == p && q.st == 3))).map
      (fun q => if q.phys == p && q.st == 1 then { q with st := 2 } else q) })
  d.lccFree n p

/-- A store of `ev` to EVWAIT (R136). -/
def Dev.evwait (d : Dev) (n p : Nat) (ev : Word) : Dev :=
  d.when (d.lccHolds n p) (·.modCore (9 * n + p) (fun c => { c with wait := 2, waitArg := ev.toNat, woken := false }))

/-- An access under the silent rule in line mode (R135). -/
def Dev.lccViol (d : Dev) (n : Nat) : Dev :=
  (d.bump (rLCC_VIOL_CNT n) fLCC_VIOL_CNT_COUNT).raise (rLCC_STATUS n) fLCC_STATUS_VIOL

/-! ### Code (R137, R138) -/

/-- LOADING and READY of a cluster. -/
def Dev.lccLoading (d : Dev) (n : Nat) (b : Bool) : Dev :=
  (d.setFld (rLCC_STATUS n) fLCC_STATUS_LOADING b.toNat).setFld (rLCC_STATUS n) fLCC_STATUS_READY (!b).toNat

/-- A write of LCCn_PROG_BASE starts, or restarts, a load (R137). A load that had completed into the same bank and was not swapped in yet counts no
more (log entry 29). -/
def Dev.progBaseWrite (d : Dev) (n v : Nat) : Dev :=
  let d := d.wr (rLCC_PROG_BASE n) v
  let d := d.when ((d.clu n).load.isSome) (·.raise (rLCC_STATUS n) fLCC_STATUS_LOAD_RESTART)
  let d := d.modClu n (fun x => { x with load := some (v % 2 ^ 24, d.fld (rLCC_PROG_LEN n) fLCC_PROG_LEN_LEN_M1), fresh := none })
  d.lccLoading n true

/-- Words copied into a bank of all nine cores (R137); the words past the last keep what they held. -/
def Dev.bankFill (d : Dev) (n b : Nat) (ws : List Word) : Dev :=
  (List.range 9).foldl (fun d p =>
    ((List.range 1024).zip ws).foldl (fun d x => d.setLword (9 * n + p) (bankBase b + x.1) x.2) d) d

/-- Words of an image, or none when it leaves main memory or holds an uncorrectable word (R138). -/
def Dev.imageRead (d : Dev) (n base lenM1 : Nat) : Option (List Word) × Dev :=
  if 0x1000000 < base + lenM1 + 1 then (none, d)
  else
    let (ws, ue, d) := d.mainReadRun (0x30 + n) base (lenM1 + 1)
    (if ue then none else some ws, d)

/-- A code load ends (R137, R138). LPG.LOAD is answered with 0x501 where it fails, for words outside main memory too (log entry 29). -/
def Dev.codeLoaded (d : Dev) (n : Nat) : Dev :=
  match (d.clu n).load with
  | none => d
  | some (base, len) =>
    let (ws, d) := d.imageRead n base len
    let d := d.lccLoading n false
    match ws with
    | some l =>
      let d := d.bankFill n (1 - (d.clu n).bank) l
      let d := d.setFld (rLCC_STATUS n) fLCC_STATUS_LOADED 1
      (d.modClu n (fun x => { x with load := none, fresh := some (base, len), bad := false })).complete 1 n 0 0 []
    | none =>
      let d := d.bankFill n (1 - (d.clu n).bank) (List.replicate 1024 0)
      let d := d.raise (rLCC_STATUS n) fLCC_STATUS_LOAD_BAD
      (d.modClu n (fun x => { x with load := none, fresh := none, bad := true })).complete 1 n 0x501 0 []

/-- The code banks refilled after their pier was OFF (R138). -/
def Dev.codeRefill (d : Dev) (n : Nat) : Dev :=
  if !(d.clu n).lost then d
  else
    let d := d.modClu n (fun x => { x with lost := false })
    let (ws, d) := d.imageRead n (d.lrd (rLCC_PROG_BASE n)) (d.lv (rLCC_PROG_LEN n) fLCC_PROG_LEN_LEN_M1)
    let d :=
      match ws with
      | some l => d.bankFill n (d.clu n).bank l
      | none =>
        ((d.modClu n (fun x => { x with dead := true })).setFld (rLCC_STATUS n) fLCC_STATUS_LOADED 0).raise (rLCC_STATUS n)
          fLCC_STATUS_LOAD_BAD
    match (d.clu n).fresh with
    | none => d
    | some _ =>
      let (ws, d) := d.imageRead n (d.rd (rLCC_PROG_BASE n)) (d.fld (rLCC_PROG_LEN n) fLCC_PROG_LEN_LEN_M1)
      match ws with
      | some l => d.bankFill n (1 - (d.clu n).bank) l
      | none =>
        (d.modClu n (fun x => { x with fresh := none, bad := true })).raise (rLCC_STATUS n) fLCC_STATUS_LOAD_BAD

/-- Is the enabled cluster not ready for a commit of the state being built (R137)? -/
def Dev.lccNotReady (d : Dev) (n : Nat) : Bool :=
  let v := d.shadowView
  v.lccEn n && (d.flag (rLCC_STATUS n) fLCC_STATUS_LOADING || !d.flag (rLCC_STATUS n) fLCC_STATUS_LOADED || (d.clu n).bad ||
    decide (v.lccLead n < 4 ∨ 64 < v.lccLead n))

/-- The keystone swaps the banks when a load has completed since the last swap (R137). -/
def Dev.lccSwap (d : Dev) (n : Nat) : Dev :=
  match (d.clu n).fresh with
  | some _ => d.modClu n (fun x => { x with bank := 1 - x.bank, fresh := none, dead := false })
  | none => d

/-- The records of line `l` of frame `f` and its closed layers taken out of the queue (R151). -/
def Dev.lccTake (d : Dev) (n l f : Nat) : List SpanRec × List Nat × Dev :=
  let c := d.clu n
  let mine (r : SpanRec) : Bool := r.line == l && r.frame == f
  let its (y : Nat × Nat × Nat) : Bool := y.1 == f && y.2.1 == l
  (c.queue.filter mine, (c.closed.filter its).map (·.2.2),
    d.modClu n (fun x => { x with queue := x.queue.filter (fun r => !mine r), closed := x.closed.filter (fun y => !its y) }))

/-! ### The commands -/

def execLineStartDelayed (out : Fin 8) (s : State) := s.upd (·.lccStartDelayed out)

def execLccProgBaseWrite (out : Fin 8) (value : Reg) (s : State) := s.upd (·.progBaseWrite out value.toNat)

def execCodeLoadDone (out : Fin 8) (s : State) := s.upd (·.codeLoaded out)

def execCodeRefill (out : Fin 8) (s : State) := s.upd (·.codeRefill out)

def execRecw0Store (out : Fin 8) (core : Fin 9) (value : Word) (s : State) := s.upd (·.recw0 out core value)

def execRecw1Store (out : Fin 8) (core : Fin 9) (value : Word) (s : State) := s.upd (·.recw1 out core value)

def execSpanQueueRoom (out : Fin 8) (core : Fin 9) (s : State) := s.upd (·.queueRoom out core)

def execDoneStore (out : Fin 8) (core : Fin 9) (s : State) := s.upd (·.lccDone out core)

def execEvwaitStore (out : Fin 8) (core : Fin 9) (ev : Word) (s : State) := s.upd (·.evwait out core ev)

def execEvwaitSatisfied (out : Fin 8) (core : Fin 9) (s : State) := s.upd (·.evwaitWake (9 * out.val + core.val))

end Sys2Proof.Machine
end

