-- ==== Sys2Proof/Machine/Compose.lean ====
section
/-! DEFINITION. Composition of one line, the stale policy and the frame store (chapter 7), with the sprite and table builds
that feed them. -/

namespace Sys2Proof.Machine

/-! ### Sprite builds (R109 to R112) -/

/-- BUILDING and READY of an output's sprite engine. -/
def Dev.sprBusy (d : Dev) (n : Nat) (b : Bool) : Dev :=
  (d.setFld (rOUT_SPR_STATUS n) fOUT_SPR_STATUS_BUILDING b.toNat).setFld (rOUT_SPR_STATUS n) fOUT_SPR_STATUS_READY (!b).toNat

/-- A write of OUTn_SPR_SAT_BASE starts, or restarts, a build (R109, R110). -/
def Dev.satBaseWrite (d : Dev) (n v : Nat) : Dev :=
  let d := d.wr (rOUT_SPR_SAT_BASE n) v
  let d := d.when (d.outp n).sprBuild.isSome (·.raise (rOUT_SPR_STATUS n) fOUT_SPR_STATUS_RESTART)
  let d := d.modOutp n (fun o => { o with
    sprBuild := some (v % 2 ^ 24, d.fld (rOUT_SPR_SAT_COUNT n) fOUT_SPR_SAT_COUNT_COUNT_M1), sprNew := none })
  d.sprBusy n true

/-- Entry `i` of a table at `base` as the build reads it; none when a word of it is uncorrectable. An entry
that leaves main memory reads as zeros (log entry 12). -/
def Dev.satEntry (d : Dev) (base i : Nat) : Option SprEnt :=
  let a := base + 4 * i
  if 0x1000000 < a + 3 then some ⟨i, 0, 0, 0⟩
  else if d.peekUe a || d.peekUe (a + 1) || d.peekUe (a + 2) then none
  else some ⟨i, d.peek a, d.peek (a + 1), d.peek (a + 2)⟩

/-- A build completes (R108, R110 to R112): entries that exist in an enabled plane of the state being built and pass the check form
the index, and those that exist and fail the check are counted, whatever their plane. -/
def Dev.sprBuilt (d : Dev) (n : Nat) : Dev :=
  match (d.outp n).sprBuild with
  | none => d
  | some (base, m1) =>
    let v := d.shadowView
    let all := (List.range (m1 + 1)).map (fun i => (i, d.satEntry base i))
    let fails := (all.filter (fun p =>
      match p.2 with
      | none => true
      | some e => e.en && !e.good)).map (·.1)
    let kept := all.filterMap (fun p =>
      p.2.bind (fun e => if e.en && (v.planeLayer n e.plane).isSome && e.good then some e else none))
    let d := d.touch (d.fetchMaster n) ((List.range (m1 + 1)).flatMap (fun i =>
      ([0, 1, 2].map (base + 4 * i + ·)).filter (· < 0x1000000)))
    let d := d.bumpBy (rOUT_SPR_BAD_CNT n) fOUT_SPR_BAD_CNT_COUNT fails.length
    let d := d.when (!fails.isEmpty) (·.raise (rOUT_SPR_STATUS n) fOUT_SPR_STATUS_BAD_ENTRY)
    let d := d.wr (rOUT_SPR_BAD_FIRST n) (match fails with
      | [] => 0x1000
      | i :: _ => i)
    let d := d.modOutp n (fun o => { o with sprBuild := none, sprNew := some kept })
    (d.sprBusy n false).complete 0 n 0 0 []

/-! ### Colour-table copies (R170) -/

/-- The words of table `t`. -/
def lutSize (t : Nat) : Nat := if t ≤ 7 then 1024 else if t = 8 then 4096 else 128

/-- A write of OUTn_LUT_BASE starts, or restarts, a copy; TABLE codes 10 to 15 ignore it. -/
def Dev.lutBaseWrite (d : Dev) (n v : Nat) : Dev :=
  let t := d.fld (rOUT_LUT_CTRL n) fOUT_LUT_CTRL_TABLE
  if 9 < t then d
  else
    let d := d.wr (rOUT_LUT_BASE n) v
    let d := d.when (d.outp n).lutCopy.isSome (·.raise (rOUT_LUT_STATUS n) fOUT_LUT_STATUS_RESTART)
    let d := d.modOutp n (fun o => { o with lutCopy := some (t, v % 2 ^ 24) })
    d.setFld (rOUT_LUT_STATUS n) fOUT_LUT_STATUS_LOADING 1

/-- A copy ends: the table waits for the keystone, or COPY_BAD holds the output not ready. What an earlier copy of the same table brought, and no
keystone has swapped in yet, stays in wait when this one fails or is restarted (DESIGN CHOICE, log entry 56). -/
def Dev.lutCopied (d : Dev) (n : Nat) : Dev :=
  match (d.outp n).lutCopy with
  | none => d
  | some (t, base) =>
    let d := (d.modOutp n (fun o => { o with lutCopy := none })).setFld (rOUT_LUT_STATUS n) fOUT_LUT_STATUS_LOADING 0
    let (ws, d) :=
      if 0x1000000 < base + lutSize t then (none, d)
      else
        let (ws, ue, d) := d.mainReadRun (d.fetchMaster n) base (lutSize t)
        (if ue then none else some ws, d)
    match ws with
    | some l =>
      (d.modOutp n (fun o => { o with lutNew := (t, l) :: o.lutNew.filter (fun p => p.1 != t) })).setFld
        (rOUT_LUT_STATUS n) fOUT_LUT_STATUS_COPY_BAD 0
    | none => d.setFld (rOUT_LUT_STATUS n) fOUT_LUT_STATUS_COPY_BAD 1

/-- The tables with those that were copied swapped live (R170). -/
def Luts.swap (l : Luts) : List (Nat × List Word) → Luts
  | [] => l
  | (t, ws) :: r =>
    (if t ≤ 7 then { l with dg := l.dg.set t (some ws) }
     else if t = 8 then { l with rg := some ws } else { l with sc := some ws } : Luts).swap r

/-! ### Layers that show nothing (R160, R572) -/

/-- Is a TILE, SPRITE or SPAN layer named by no unit of its kind, or by one of another kind (R160)? -/
def Dev.kindMismatch (v : Dev) (n k : Nat) : Bool :=
  let t := !(v.slotsNaming n k).isEmpty
  let p := !(v.planesNaming n k).isEmpty
  let s := !(v.spansNaming n k).isEmpty
  if v.layKind n k = 1 then !t || p || s
  else if v.layKind n k = 2 then !p || t || s
  else if v.layKind n k = 3 then !s || t || p
  else false

/-- Is the layer's configuration invalid, as R572 lists it? A CAMERA layer whose pier leaves ON during a frame stays valid for the rest of
it (R209). -/
def Dev.layInvalid (v : Dev) (n k : Nat) : Bool :=
  let c := v.layKind n k
  decide (c = 7) || v.kindMismatch n k ||
    (c == 1 && (v.slotsNaming n k).any (fun t => !v.slotReady n t)) ||
    (c == 2 && v.planeConflict n) ||
    (c == 3 && (v.spanConflict n || decide (4096 < (v.layWin n k).w))) ||
    (c == 4 && v.bmpInvalid n k) ||
    (c == 5 && !(v.camReady n k || (v.camValid n k && (v.outp n).camOn.contains (v.layCam n k))))

/-- The layer of an output shown on line `l` with its dots: enabled, its window on the line, its configuration valid. -/
def Dev.layShows (v : Dev) (n k l : Nat) : Bool := v.layOn n k l && !v.layInvalid n k

/-! ### The line under composition -/

/-- P = ⌊10^9 / (F × V)⌋ of an output (R122, R149, R171). -/
def Dev.lineClocks (d : Dev) (n : Nat) : Nat := 1000000000 / (d.outHz n * (d.mode n).v)

/-- The colour of a palette entry, raster effects first (R98, R101). -/
def Dev.palNow (v : Dev) (n : Nat) (fx : List (Nat × Word)) (p e : Nat) : Nat :=
  match assocGet fx (p * 256 + e) with
  | some w => w.toNat
  | none => v.lrd (rOUT_PAL_LO n p e) + v.lrd (rOUT_PAL_HI n p e) * 2 ^ 24

/-- The layer alpha in force, raster effects first (R144, R165). -/
def Dev.alphaNow (v : Dev) (n : Nat) (fx : List (Nat × Nat)) (k : Nat) : Nat :=
  min ((assocGet fx k).getD (v.lv (rOUT_LAYER_ALPHA n k) fOUT_LAYER_ALPHA_ALPHA)) one14

/-- PALETTE records added to the effects in force; the latest stands first (R101, R142). -/
def palRecs (recs : List SpanRec) (fx : List (Nat × Word)) : List (Nat × Word) :=
  recs.foldl (fun fx r =>
    if recType r.w0.toNat = 4 then
      (natBits r.w0.toNat 38 6 * 256 + natBits r.w0.toNat 30 8, r.w1) ::
        fx.filter (fun p => p.1 != natBits r.w0.toNat 38 6 * 256 + natBits r.w0.toNat 30 8)
    else fx) fx

/-- ALPHA records added to the effects in force (R142, R144). -/
def alphaRecs (recs : List SpanRec) (fx : List (Nat × Nat)) : List (Nat × Nat) :=
  recs.foldl (fun fx r =>
    if recType r.w0.toNat = 5 then
      (natBits r.w0.toNat 39 5, natBits r.w0.toNat 0 16) :: fx.filter (fun p => p.1 != natBits r.w0.toNat 39 5)
    else fx) fx

/-- The SPAN records of span layer `s`. -/
def spansOf (recs : List SpanRec) (s : Nat) : List SpanRec :=
  recs.filter (fun r => recType r.w0.toNat == 1 && recSl r.w0.toNat == s)

/-- What composing one line starts from. -/
structure LineJob where
  l : Nat
  f : Nat
  recs : List SpanRec
  closed : List Nat
  pal : List (Nat × Word)
  alpha : List (Nat × Nat)
deriving DecidableEq, Repr

/-- The span layer that feeds SPAN layer `k`. -/
def Dev.spanOf (v : Dev) (n k : Nat) : Nat := ((v.spansNaming n k).getD 0 0)

/-- The spans kept for SPAN layer `k`, and the drops of R148 and R149. A layer that is not complete has none (R153). -/
def Dev.spanKept (v : Dev) (n k : Nat) (j : LineJob) : List SpanRec × Nat × Nat :=
  let all := if j.closed.contains (v.spanOf n k) then spansOf j.recs (v.spanOf n k) else []
  let kept := all.take 1024
  let (paint, fill) := spanCut ((v.layWin n k).w) (v.lineClocks n - 32) kept 0
  (paint, all.length - kept.length, fill)

/-- Does some gradient of a kept span hold an uncorrectable word (R146)? -/
def Dev.spanUe (v : Dev) (rs : List SpanRec) : Bool :=
  rs.any (fun r => spSrc r.w1.toNat == 1 && (gradAddrs r.w1.toNat).any (fun a => decide (a < 0x1000000) && v.peekUe a))

/-- Is layer `k`, shown on the line, stale for it (R186)? -/
def Dev.layStale (v : Dev) (n k : Nat) (j : LineJob) : Bool :=
  let o := v.outp n
  let c := v.layKind n k
  let inp := o.ins.find? (fun x => x.layer == k && x.line == j.l && x.frame == j.f)
  if c = 0 then false
  else if c = 2 then !(o.sprSel.any (fun x => x.line == j.l && x.frame == j.f && x.rendered &&
    !x.bad.contains ((v.planesNaming n k).getD 0 0)))
  else if c = 3 then
    v.lccEn n && (!j.closed.contains (v.spanOf n k) || v.spanUe (v.spanKept n k j).1)
  else inp.elim true (·.stale)

/-- A layer's dots over the raster after steps 1 to 4 (R165); transparent outside its window. -/
def Dev.layLine (v : Dev) (n k : Nat) (j : LineJob) : List Px :=
  let o := v.outp n
  let m := v.mode n
  let w := v.layWin n k
  let c := v.layKind n k
  let col := v.layCol n k (v.alphaNow n j.alpha k)
  let pal := v.palNow n j.pal
  let cw := w.clipW m.ha
  let place (dots : List Px) : List Px :=
    List.replicate w.x ⟨0, 0, 0, 0⟩ ++ dots.take cw ++ List.replicate (m.ha - w.x - cw) ⟨0, 0, 0, 0⟩
  if c = 0 then
    let (r, g, b) := wordRgb (v.laySrc n k 0 + v.laySrc n k 1 * 2 ^ 24)
    place (List.replicate cw (layerSteps col false ⟨r, g, b, one14⟩))
  else if c = 2 then
    let p := (v.planesNaming n k).getD 0 0
    let runs := ((o.sprSel.find? (fun x => x.line == j.l && x.frame == j.f)).elim [] (·.runs)).filter (·.plane == p)
    let line := planeLine m.ha col o.lut pal runs
    place (((line.drop w.x).take cw).map (layerSteps col false))
  else if c = 3 then
    if v.lccEn n then place (((v.spanLine pal w.w (v.spanKept n k j).1).take cw).map (layerSteps col false))
    else place (List.replicate cw ⟨0, 0, 0, 0⟩)
  else
    let dots := (o.ins.find? (fun x => x.layer == k && x.line == j.l && x.frame == j.f)).elim [] (·.dots)
    place (dots.map (fun r => layerSteps col r.encoded (rawPx col o.lut pal r)))

/-- The output line before the output matrix (R167): OUTn_BG, and the layers from LAYER0 upward. -/
def Dev.blendLine (v : Dev) (n : Nat) (layers : List Nat) (j : LineJob) : List Px :=
  let (r, g, b) := wordRgb (v.lrd (rOUT_BG_LO n) + v.lrd (rOUT_BG_HI n) * 2 ^ 24)
  layers.foldl (fun acc k =>
    let bl := v.lv (rOUT_LAYER_CTRL n k) fOUT_LAYER_CTRL_BLEND
    (acc.zip (v.layLine n k j)).map (fun p => blendPx bl p.1 p.2))
    (List.replicate (v.mode n).ha ⟨r, g, b, one14⟩)

/-- A rectangle of the raster. -/
def rectHas (x y w h px py : Nat) : Bool := decide (x ≤ px ∧ px < x + w ∧ y ≤ py ∧ py < y + h)

/-- Signature region `k` of an output: left, top, width, height. -/
def Dev.sigRect (v : Dev) (n k : Nat) : Win :=
  ⟨v.lv (rOUT_SIG_X0 n k) fOUT_SIG_X0_VALUE, v.lv (rOUT_SIG_Y0 n k) fOUT_SIG_Y0_VALUE,
   v.lv (rOUT_SIG_W n k) fOUT_SIG_W_VALUE, v.lv (rOUT_SIG_H n k) fOUT_SIG_H_VALUE⟩

/-- Is region `k` checked: EN at 1 and not empty (R240)? -/
def Dev.sigOn (v : Dev) (n k : Nat) : Bool :=
  v.lv (rOUT_SIG_CTRLk n k) fOUT_SIG_CTRLk_EN == 1 && decide ((v.sigRect n k).w ≠ 0 ∧ (v.sigRect n k).h ≠ 0)

/-- The checked regions that cross line `l`, as (left, right). -/
def Dev.checkedOn (v : Dev) (n l : Nat) : List (Nat × Nat) :=
  ((List.range 64).filter (fun k =>
    v.sigOn n k && decide ((v.sigRect n k).y ≤ l ∧ l < (v.sigRect n k).y + (v.sigRect n k).h))).map
    (fun k => ((v.sigRect n k).x, (v.sigRect n k).x + (v.sigRect n k).w))

/-- The panel depth of an output. -/
def Dev.depth (d : Dev) (n : Nat) : Nat := depthBits (d.fld (rOUT_COMP_CTRL n) fOUT_COMP_CTRL_DEPTH)

/-- A line colour packed to panel depth: output matrix, regamma and dither (R168, R169). -/
def Dev.packLine (v : Dev) (n l f : Nat) (cd : List Px) : List Nat :=
  let c := rOUT_COMP_CTRL n
  let t := (v.outp n).lut
  let m := (List.range 12).map (fun i => sgn24 (v.lrd (rOUT_OMTX n i)))
  let om := v.lv c fOUT_COMP_CTRL_OMAT_EN == 1
  let rg := v.lv c fOUT_COMP_CTRL_REGAMMA_EN == 1
  let di := v.lv c fOUT_COMP_CTRL_DITHER
  let dd := v.depth n
  let chk := v.checkedOn n l
  ((List.range cd.length).zip cd).map (fun p =>
    let (r, g, b) := codes16 t om rg m p.2
    let f := if chk.any (fun q => decide (q.1 ≤ p.1 ∧ p.1 < q.2)) then 0 else f
    let k (x : Nat) : Nat := ditherCode di dd x p.1 l f
    packCodes (k r) (k g) (k b))

/-- A line of OUTn_BG packed (R187, R227). -/
def Dev.bgLine (v : Dev) (n l f : Nat) : List Nat :=
  let (r, g, b) := wordRgb (v.lrd (rOUT_BG_LO n) + v.lrd (rOUT_BG_HI n) * 2 ^ 24)
  v.packLine n l f (List.replicate (v.mode n).ha ⟨r, g, b, one14⟩)

/-! ### The frame store and the exact plane (R182 to R187) -/

/-- Exact rectangle `k`: left, top, width, height; empty when disabled. -/
def Dev.exactRect (d : Dev) (n k : Nat) : Win :=
  ⟨d.rd (rOUT_EXACT n k 0), d.rd (rOUT_EXACT n k 1), d.rd (rOUT_EXACT n k 2), d.rd (rOUT_EXACT n k 3)⟩

def Win.empty (w : Win) : Bool := decide (w.w = 0 ∨ w.h = 0)

/-- The words of a row of an exact rectangle (R184). -/
def Dev.exactPitch (d : Dev) (n : Nat) (w : Win) : Nat := cdiv (w.w * (if d.depth n ≤ 8 then 24 else 48)) 48

/-- The words of an exact rectangle. -/
def Dev.exactWords (d : Dev) (n k : Nat) : Nat :=
  let w := d.exactRect n k
  if w.empty then 0 else w.h * d.exactPitch n w

/-- Where line `l` of exact rectangle `k` is stored. -/
def Dev.exactAddr (d : Dev) (n k l : Nat) : Nat :=
  let w := d.exactRect n k
  (d.outp n).exBase + ((List.range k).map (d.exactWords n)).foldl (· + ·) 0 + (l - w.y) * d.exactPitch n w

/-- The exact rectangles that cross line `l`. -/
def Dev.exactOn (d : Dev) (n l : Nat) : List Nat :=
  (List.range 8).filter (fun k =>
    let w := d.exactRect n k
    !w.empty && decide (w.y ≤ l ∧ l < w.y + w.h))

/-- A run of dots packed losslessly, channels at the top of 8 or 16 bits, red first (R184, R87). -/
def exactPack (dd : Nat) (px : List Nat) : List Word :=
  let c := if dd ≤ 8 then 8 else 16
  let one (p : Nat) : Nat :=
    let (r, g, b) := unpackCodes p
    r * 2 ^ (c - dd) * 2 ^ (2 * c) + g * 2 ^ (c - dd) * 2 ^ c + b * 2 ^ (c - dd)
  let per := 48 / (3 * c)
  (List.range (cdiv px.length per)).map (fun i =>
    let l := (px.drop (per * i)).take per
    BitVec.ofNat 48 (((List.range per).zip (l ++ List.replicate (per - l.length) 0)).foldl
      (fun w p => w + (if p.1 < l.length then one p.2 else 0) * 2 ^ (3 * c * (per - 1 - p.1))) 0))

/-- The dot `u` of an exact row at `a`. -/
def Dev.exactDot (d : Dev) (dd a u : Nat) : Nat :=
  let c := if dd ≤ 8 then 8 else 16
  let v := streamBits (fun i => d.mainOrZero (a + i)) (u * 3 * c) (3 * c)
  packCodes (natBits v (2 * c) c / 2 ^ (c - dd)) (natBits v c c / 2 ^ (c - dd)) (natBits v 0 c / 2 ^ (c - dd))

/-- The words of a row of the frame store. -/
def fsPitch (ha : Nat) : Nat := cdiv ha 4

/-- A composed row written by its pipe to the frame store and the exact plane, and flagged (R182, R184, R367). -/
def Dev.storeRow (d : Dev) (n l : Nat) (px : List Nat) : Dev :=
  let o := d.outp n
  let dd := d.depth n
  let ws := (List.range (fsPitch px.length)).map (fun k => fsEncode dd (fsBlock px k))
  let d := if o.fsBase + (l + 1) * fsPitch px.length ≤ 0x1000000
    then d.mainPutRun (d.pipeOf n) (o.fsBase + l * fsPitch px.length) ws else d
  let d := (d.exactOn n l).foldl (fun d k =>
    let w := d.exactRect n k
    let ws := exactPack dd ((px.drop w.x).take w.w)
    if d.exactAddr n k l + ws.length ≤ 0x1000000 then d.mainPutRun (d.pipeOf n) (d.exactAddr n k l) ws else d) d
  d.modOutp n (fun o => { o with valid := if o.valid.contains l then o.valid else l :: o.valid })

/-- The words that a replay of line `l` reads: its row of the frame store, and the exact rows that cross it. -/
def Dev.replayAddrs (d : Dev) (n l : Nat) : List Nat :=
  let p := fsPitch (d.mode n).ha
  ((List.range p).map ((d.outp n).fsBase + l * p + ·)) ++ (d.exactOn n l).flatMap (fun k =>
    (List.range (d.exactPitch n (d.exactRect n k))).map (d.exactAddr n k l + ·))

/-- The reads of a replay, made by the pipe as master 0x00 to 0x08 (R367). -/
def Dev.replayTouch (d : Dev) (n l : Nat) : Dev :=
  if (d.outp n).valid.contains l then d.touch (d.pipeOf n) (d.replayAddrs n l) else d

/-- A replayed row (R186, R187): OUTn_BG where the row is not valid, else the store, with exact regions from the exact plane. A row with an
uncorrectable word is stale (R372), and is sent as one that is not valid (log entry 51). -/
def Dev.replayRow (d : Dev) (n l f : Nat) : List Nat :=
  let o := d.outp n
  let m := d.mode n
  let dd := d.depth n
  if !o.valid.contains l || (d.replayAddrs n l).any d.peekUe then (d.view n f).bgLine n l f
  else
    let base := o.fsBase + l * fsPitch m.ha
    let px := ((List.range (fsPitch m.ha)).flatMap (fun k => fsDecode dd (BitVec.ofNat 48 (d.mainOrZero (base + k))))).take m.ha
    let ex := d.exactOn n l
    if ex.isEmpty then px
    else ((List.range px.length).zip px).map (fun p =>
      match ex.find? (fun k => decide ((d.exactRect n k).x ≤ p.1 ∧ p.1 < (d.exactRect n k).x + (d.exactRect n k).w)) with
      | some k => d.exactDot dd (d.exactAddr n k l) (p.1 - (d.exactRect n k).x)
      | none => p.2)

/-! ### Composing a line (R171, R186, R188) -/

/-- A line put in the line FIFO. -/
def Dev.fifoPut (d : Dev) (n : Nat) (x : LineOut) : Dev := d.modOutp n (fun o => { o with fifo := o.fifo ++ [x] })

/-- A replayed line put in the line FIFO. -/
def Dev.replayLine (d : Dev) (n l f : Nat) : Dev := (d.replayTouch n l).fifoPut n ⟨l, f, 1, d.replayRow n l f, []⟩

/-- A stale line recorded (R188). -/
def Dev.staleRecord (d : Dev) (n l f : Nat) (stale hold : List Nat) (late : Bool) : Dev :=
  let replay := late || !hold.isEmpty
  let d := stale.foldl (fun d k => d.bump (rOUT_LAYER_STALE_CNT n k) fOUT_LAYER_STALE_CNT_COUNT) d
  let d :=
    if replay then
      let d := (d.bump (rOUT_REPLAY_CNT n) fOUT_REPLAY_CNT_COUNT).raise (rOUT_COMP_STATUS n) fOUT_COMP_STATUS_REPLAY
      d.when late (fun d =>
        (d.bump (rOUT_COMP_LATE_CNT n) fOUT_COMP_LATE_CNT_COUNT).raise (rOUT_COMP_STATUS n) fOUT_COMP_STATUS_COMP_LATE)
    else (d.bump (rOUT_OMIT_CNT n) fOUT_OMIT_CNT_COUNT).raise (rOUT_COMP_STATUS n) fOUT_COMP_STATUS_OMIT
  let low := stale.headD 0
  let cause := if late then 3 else if hold.isEmpty then 2 else 1
  let d := (d.wr (rOUT_STALE_LINE n) (cause * 2 ^ 21 + low * 2 ^ 16 + l % 65536)).wr (rOUT_STALE_FRAME n) (f % 2 ^ 24)
  let d := d.when (!hold.isEmpty) (·.stlPush 1 n low l 0 f)
  let d := d.when late (·.stlPush 3 n low l 0 f)
  d.when (!replay) (·.stlPush 2 n low l 0 f)

/-- The drops of R148 and R149 on a line recorded (R150, R157). -/
def Dev.spanDrops (d : Dev) (n l f cnt fill : Nat) : Dev :=
  if cnt + fill = 0 then d
  else
    let d := d.when (cnt != 0) (·.raise (rLCC_STATUS n) fLCC_STATUS_SPAN_OVF)
    let d := d.when (fill != 0) (·.raise (rLCC_STATUS n) fLCC_STATUS_FILL_OVF)
    let d := d.bumpBy (rLCC_DROP_CNT n) fLCC_DROP_CNT_COUNT (cnt + fill)
    let d := d.lccEvent n (if cnt ≠ 0 then 3 else 4) l f
    let d := d.when (cnt != 0) (·.stlPush 6 n 0 l cnt f)
    d.when (fill != 0) (·.stlPush 7 n 0 l fill f)

/-- The cost of a line (R171). -/
def Dev.composeCost (v : Dev) (n : Nat) (vis : List Nat) : Nat :=
  let ha := (v.mode n).ha
  vis.foldl (fun c k => c + cdiv ((v.layWin n k).clipW ha) 16) (16 + cdiv ha 16)

/-- The compositor at the start of line ℓ − 2 (R171, R186): line `l` of frame `f` is composed, composed without its OMIT
layers, or replayed. `stall` says that it stalls past its point. A sprite plane that has not been rendered by now sets LATE (R120). -/
def Dev.composeLine (d : Dev) (n l f : Nat) (stall : Bool) : Dev :=
  let (recs, closed, d) := d.lccTake n l f
  let v := d.view n f
  let o := d.outp n
  let j : LineJob := ⟨l, f, recs, closed, palRecs recs o.palFx, alphaRecs recs o.alphaFx⟩
  let vis := (List.range 32).filter (fun k => v.layOn n k l)
  let shown := vis.filter (fun k => !v.layInvalid n k)
  let stale := shown.filter (fun k => v.layStale n k j)
  let hold := stale.filter (fun k => !v.layOmit n k)
  let cost := v.composeCost n vis
  let late := stall || decide (d.lineClocks n - 32 < cost)
  let d := d.modOutp n (fun o => { o with pkComp := max o.pkComp cost })
  let unready := stale.any (fun k => v.layKind n k == 2 &&
    !(o.sprSel.any (fun x => x.line == l && x.frame == f && x.rendered)))
  let d := d.when unready (·.raise (rOUT_SPR_STATUS n) fOUT_SPR_STATUS_LATE)
  let spans := (shown.filter (fun k => v.layKind n k == 3 && v.lccEn n)).map (fun k => v.spanKept n k j)
  let d := d.touch (d.fetchMaster n) (spans.flatMap (fun p =>
    (p.1.filter (fun r => spSrc r.w1.toNat == 1)).flatMap (fun r => (gradAddrs r.w1.toNat).filter (· < 0x1000000))))
  let d := if stale.isEmpty && !late then d else d.staleRecord n l f stale hold late
  let d := d.modOutp n (fun o => { o with
    ins := o.ins.filter (fun x => !(x.line == l && x.frame == f))
    sprSel := o.sprSel.filter (fun x => !(x.line == l && x.frame == f)) })
  if late ∨ !hold.isEmpty then d.replayLine n l f
  else
    let cd := v.blendLine n (shown.filter (fun k => !stale.contains k)) j
    let px := v.packLine n l f cd
    let range := spans.any (fun p => p.1.any (fun r =>
      spSrc r.w1.toNat == 1 && (gradAddrs r.w1.toNat).any (fun a => decide (0x1000000 ≤ a))))
    let d := d.when range (·.raise (rOUT_SPAN_STATUS n) fOUT_SPAN_STATUS_RANGE)
    let d := d.spanDrops n l f (spans.foldl (fun c p => c + p.2.1) 0) (spans.foldl (fun c p => c + p.2.2) 0)
    let d := d.modOutp n (fun o => { o with palFx := j.pal, alphaFx := j.alpha })
    (d.storeRow n l px).fifoPut n ⟨l, f, 0, px, cd.map (fun p => rgbWord p.r p.g p.b)⟩

/-! ### The commands -/

def execSprSatBaseWrite (out : Fin 8) (value : Reg) (s : State) := s.upd (·.satBaseWrite out value.toNat)

def execSpriteBuildDone (out : Fin 8) (s : State) := s.upd (·.sprBuilt out)

def execLutBaseWrite (out : Fin 8) (value : Reg) (s : State) := s.upd (·.lutBaseWrite out value.toNat)

def execLutCopyDone (out : Fin 8) (s : State) := s.upd (·.lutCopied out)

end Sys2Proof.Machine
end

