-- ==== Sys2Proof/Machine/Journal.lean ====
section
/-! DEFINITION. The fault journal and the recovery slots (R482 to R490), as far as other units write them. -/

namespace Sys2Proof.Machine

/-- A record put into the ring of 4,096 (R488). -/
def Dev.ringRecord (d : Dev) (r : List Word) : Dev :=
  let d := d.wr rFLT_JOURNAL_NEXT ((d.rd rFLT_JOURNAL_NEXT + 1) % 2 ^ 24)
  { d with flt := { d.flt with ring := (r :: d.flt.ring).take 4096 } }

/-- A record that T0 writes to the ring: the log of R536 notes it by its journal index. -/
def Dev.ringWrite (d : Dev) (r : List Word) : Dev := (d.ringRecord r).stlPush 8 0 0 0 0 (d.rd rFLT_JOURNAL_NEXT)

/-- The kinds that the flash journal takes as well (R488). -/
def flashKind (k : Nat) : Bool := (2 ≤ k && k ≤ 7) || k == 0x10 || k == 0x20 || (0x30 ≤ k && k ≤ 0x33)

/-- A unit entered in the retirement list, once (R486). The two phases of the write take a free time (log entry 17). -/
def Dev.listRetired (d : Dev) (u : Nat × Nat) : Dev :=
  if d.flt.retired.contains u then d
  else
    let (k, d) := d.takeNat
    { d with flt := { d.flt with retired := d.flt.retired ++ [u], listing := some (d.btu.clocks + k) } }

/-- A journal record of an event at beam time `bt` (R488 to R490): held in T0 until LPDDR5X is trained. -/
def Dev.journal (d : Dev) (bt kind cls idx count code path : Nat) (detail : Word) : Dev :=
  let r : List Word := [BitVec.ofNat 48 bt,
    BitVec.ofNat 48 (kind * 2 ^ 40 + cls % 256 * 2 ^ 32 + idx % 512 * 2 ^ 23 + min count 15 * 2 ^ 16 + code % 65536),
    BitVec.ofNat 48 path, detail]
  let d := if d.flag rMEM_DDR_STATUS fMEM_DDR_STATUS_READY then d.ringWrite r
    else { d with flt := { d.flt with held := d.flt.held ++ [r] } }
  let d := if flashKind kind then { d with flt := { d.flt with flash := (r :: d.flt.flash).take 1024 } } else d
  if kind = 2 ∨ kind = 4 then d.listRetired (cls, idx) else d

/-- The errors in a unit's window (R482, R489). -/
def Dev.winCount (d : Dev) (cls idx : Nat) : Nat :=
  let w := max 1 (d.fld rFLT_WINDOW fFLT_WINDOW_FRAMES)
  let fs := ((d.flt.hist.find? (·.1 == (cls, idx))).map (·.2)).getD []
  (fs.filter (fun f => decide (d.btu.e / 2 ^ 24 < f + w))).length

/-- A journal record of a unit, under its own path; COUNT is the errors in its window, `count` of them at least. -/
def Dev.journalWith (d : Dev) (kind cls idx count code : Nat) (detail : Word) : Dev :=
  d.journal d.bt kind cls idx (max count (d.winCount cls idx)) code (unitPath d.devNum cls idx) detail

/-- One of a kind whose DETAIL the spec does not state: a free word. -/
def Dev.journalUnit (d : Dev) (kind cls idx count code : Nat) : Dev :=
  let (w, d) := d.takeWord
  d.journalWith kind cls idx count code w

/-- One of a recovery: DETAIL names the replacement (R489). `u` holds the unit and its replacement. -/
def Dev.journalRec (d : Dev) (kind : Nat) (u : List Nat) : Dev :=
  d.journalWith kind (u.getD 0 0) (u.getD 1 0) 0 0 (Config.journalDetail (u.getD 2 0) (u.getD 3 0))

/-- A journal record of the device (CLASS 0): the package is the level that its path names, by the device number (R26, R28). -/
def Dev.journalDev (d : Dev) (kind code : Nat) (detail : Word) : Dev :=
  d.journal d.bt kind 0 0 0 code (7 * 2 ^ 45 + d.devNum * 2 ^ 43) detail

/-- The records held moved into the ring once LPDDR5X is trained (R488). -/
def Dev.journalDrain (d : Dev) : Dev :=
  let rs := d.flt.held
  rs.foldl Dev.ringWrite { d with flt := { d.flt with held := [] } }

def execDdrTrained (ok : Bool) (s : State) :=
  s.upd (fun d =>
    let d := d.ddrTrained ok
    if d.flag rMEM_DDR_STATUS fMEM_DDR_STATUS_READY then d.journalDrain else d)

/-- The recovery slot of a span changed. -/
def Dev.modSpan (d : Dev) (s : Nat) (f : RecSpan → RecSpan) : Dev :=
  { d with flt := { d.flt with spans := d.flt.spans.set s (f (d.flt.spans.getD s ⟨none, 0, [], []⟩)) } }

/-! ### Recovery slots (R32, R483) -/

/-- The TG0 frame number. -/
def Dev.tg0Frame (d : Dev) : Nat := d.btu.e / 2 ^ 24

def Dev.span (d : Dev) (s : Nat) : RecSpan := d.flt.spans.getD s ⟨none, 0, [], []⟩

/-- FLT_STATUS.BUSY and FLT_RECOVERs brought up to date. -/
def Dev.fltShow (d : Dev) : Dev :=
  (List.range 4).foldl (fun d s =>
    let x := d.span s
    let u := x.busy.getD [0, 0]
    let d := d.wr rFLT_STATUS (natSetBits (d.rd rFLT_STATUS) (8 + s) 1 x.busy.isSome.toNat)
    d.wr (rFLT_RECOVER s) (x.busy.isSome.toNat * 2 ^ 23 + min 8 x.queue.length * 2 ^ 19 + u.getD 0 0 % 256 * 2 ^ 9 + u.getD 1 0 % 512)) d

/-- The frame in which a recovery counts its time: the output's that PIPE8 takes over, for a pipe, and TG0's otherwise (R483). -/
def Dev.recFrame (d : Dev) (u : List Nat) : Nat :=
  (if u.getD 0 0 = 5 then (d.outp (d.fld (rPIPE_STATUS 8) fPIPE_STATUS_OUT)).frame else d.tg0Frame) % 2 ^ 24

/-- The slot of a span taken by a unit and its replacement. -/
def Dev.takeSlot (d : Dev) (s : Nat) (u : List Nat) : Dev :=
  (d.modSpan s (fun x => { x with busy := some u, since := d.recFrame u })).journalRec 3 u

/-- A unit that waits for its span's slot: queued, or held as pending when the queue is full (R483); never twice. -/
def Dev.queueUnit (d : Dev) (s : Nat) (u : Nat × Nat) : Dev :=
  let x := d.span s
  if x.queue.contains u ∨ x.waiting.contains u then d
  else if x.queue.length < 8 then d.modSpan s (fun x => { x with queue := x.queue ++ [u] })
  else
    let d := (d.raise rFLT_STATUS fFLT_STATUS_QUEUE_OVF).journalUnit 8 u.1 u.2 0 0
    d.modSpan s (fun x => { x with waiting := x.waiting ++ [u] })

/-- A GO of MEM_SPARE_CTRL: the replacement of bank `b` by spare `j` starts, or is refused with SPARE_BAD (R376). It holds the span's recovery slot
where no other unit of the span does. -/
def Dev.spareGo (d : Dev) (j b : Nat) : Dev :=
  let s := b / 64
  let u := d.physBank b
  if !d.spareFits j b then (d.setSpareCtrl j b).raise rMEM_STATUS fMEM_STATUS_SPARE_BAD
  else if (d.span s).busy.isSome then d.spareStart j b
  else (d.spareStart j b).takeSlot s [4, u, 4, 256 + j]

/-! ### Degraded outputs (R485) -/

/-- DEGRADED of output `n` shown in both places. -/
def Dev.degShow (d : Dev) (n : Nat) : Dev :=
  let o := d.outp n
  let v := (o.degPipe || o.degCore).toNat
  (d.setFld (rOUT_STATUS n) fOUT_STATUS_DEGRADED v).wr rFLT_STATUS (natSetBits (d.rd rFLT_STATUS) (16 + n) 1 v)

/-- Output `n` becomes DEGRADED, for want of a pipe or of line cores (R485). -/
def Dev.degrade (d : Dev) (n : Nat) (pipe : Bool) : Dev :=
  let o := d.outp n
  let new := !(o.degPipe || o.degCore)
  let d := (d.modOutp n (fun o => { o with degPipe := o.degPipe || pipe, degCore := o.degCore || !pipe })).degShow n
  let d := d.setFld (rOUT_SIG_CTRL n) fOUT_SIG_CTRL_FORCE_PRP 1
  d.when new (·.journalUnit 6 0x05 (d.pipeOf n) 0 0)

/-- A working pipe composes for output `n` again (R485). -/
def Dev.undegrade (d : Dev) (n : Nat) : Dev :=
  if !(d.outp n).degPipe then d
  else
    let d := (d.modOutp n (fun o => { o with degPipe := false })).degShow n
    if (d.outp n).degCore then d
    else (d.setFld (rOUT_SIG_CTRL n) fOUT_SIG_CTRL_FORCE_PRP 0).journalUnit 7 0x05 (d.pipeOf n) 0 0

/-! ### Retirement of pipes (R235, R236) -/

/-- Has the pixel PLL of a pipe lost lock (R470)? -/
def Dev.unlocked (d : Dev) (p : Nat) : Bool :=
  !d.flag (rPIPE_STATUS p) fPIPE_STATUS_PLL_LOCK && !d.flag (rCKG_PLL_STATUS (4 + p)) fCKG_PLL_STATUS_LOCK

/-- The pixel PLL of a pipe locks, within the bound of R45 (R216), or stops. -/
def Dev.pixLock (d : Dev) (p : Nat) (b : Bool) : Dev :=
  (d.setFld (rPIPE_STATUS p) fPIPE_STATUS_PLL_LOCK b.toNat).setFld (rCKG_PLL_STATUS (4 + p)) fCKG_PLL_STATUS_LOCK b.toNat

def Dev.pipeState (d : Dev) (p : Nat) : Nat := d.fld (rPIPE_STATUS p) fPIPE_STATUS_STATE
def Dev.setPipe (d : Dev) (p st n : Nat) : Dev :=
  (d.setFld (rPIPE_STATUS p) fPIPE_STATUS_STATE st).setFld (rPIPE_STATUS p) fPIPE_STATUS_OUT n

/-- The pipe of output `n` composes no line from the third after the present one on: those are replayed (R235). -/
def Dev.handOpen (d : Dev) (n : Nat) : Dev :=
  let o := d.outp n
  if o.st ≠ 3 ∨ o.hand.isSome then d
  else
    let (l, f) := d.ahead n o.line o.frame 3
    d.modOutp n (fun o => { o with hand := some (f, l, none) })

/-- The output that pipe `p` serves, if any: for PIPE8 the one that PIPE8_STATUS.OUT names while it serves one. -/
def Dev.pipeServes (d : Dev) (p : Nat) : Option Nat :=
  let n := d.fld (rPIPE_STATUS 8) fPIPE_STATUS_OUT
  if p = 8 then (if d.pipeState 8 = 1 ∨ (d.pipeState 8 = 3 ∧ d.pipeOf n = 8) then some n else none)
  else (List.range 8).find? (fun n => d.pipeOf n == p)

/-- The handover of the output `n` that pipe `p` serves to PIPE8 begins (R235): it takes the slot of the pipe's span (R32). -/
def Dev.pipeHandover (d : Dev) (p n : Nat) : Dev :=
  (((d.setPipe p 2 n).setPipe 8 2 n).handOpen n).takeSlot (classSpan 5 p) [5, p, 5, 8]

/-- RETIRE of pipe `p`, one of PIPE0 to PIPE7 (R235, R236, R484, R486). A handover waits while another unit of the span recovers (R32). -/
def Dev.pipeRetire (d : Dev) (p : Nat) : Dev :=
  if d.pipeState p = 3 then d
  else
    match d.pipeServes p with
    | none => d.setFld (rPIPE_STATUS p) fPIPE_STATUS_STATE 3
    | some n =>
      if d.pipeState 8 = 0 then
        let d := d.wake 13
        if (d.outp n).st = 3 then
          (if (d.span (classSpan 5 p)).busy.isSome then d.queueUnit (classSpan 5 p) (5, p) else d.pipeHandover p n)
        else ((d.setFld (rPIPE_STATUS p) fPIPE_STATUS_STATE 3).setPipe 8 1 n).setFld (rOUT_PIPE n) fOUT_PIPE_PIPE 8
      else if d.pipeState 8 = 2 ∧ d.pipeState p = 2 ∧ d.fld (rPIPE_STATUS 8) fPIPE_STATUS_OUT = n then d
      else
        let d := d.raise (rPIPE_STATUS p) fPIPE_STATUS_NO_SPARE
        if (d.outp n).st = 3 then ((d.setPipe p 2 n).handOpen n).degrade n true
        else d.setFld (rPIPE_STATUS p) fPIPE_STATUS_STATE 3

/-- RETIRE of PIPE8 (R236). An output it serves goes on until it goes dark, DEGRADED. -/
def Dev.spareRetire (d : Dev) : Dev :=
  let st := d.pipeState 8
  let n := d.fld (rPIPE_STATUS 8) fPIPE_STATUS_OUT
  let d := d.setFld (rPIPE_STATUS 8) fPIPE_STATUS_STATE 3
  if st = 1 then (if (d.outp n).st = 3 then d.degrade n true else d)
  else if st = 2 then
    (d.modOutp n (fun o => { o with spareLock := false })).degrade n true
  else d

/-- The port of the output that PIPE8 takes over switches to it (R235). -/
def Dev.spareSwitch (d : Dev) (n : Nat) : Dev :=
  if !(d.outp n).spareLock then d
  else
    let d := (d.setPipe 8 1 n).setFld (rOUT_PIPE n) fOUT_PIPE_PIPE 8
    let lit := (d.outp n).st == 3
    let d := d.modOutp n (fun o => { o with spareLock := false, switched := lit })
    if lit then d
    else (List.range 8).foldl (fun d p =>
      if d.pipeState p = 2 ∧ d.fld (rPIPE_STATUS p) fPIPE_STATUS_OUT = n then d.setFld (rPIPE_STATUS p) fPIPE_STATUS_STATE 3 else d) d

/-- PIPE8's pixel PLL locks: the switch follows at the next line boundary, at once where the output has gone dark (R235, R237). -/
def Dev.spareLocked (d : Dev) : Dev :=
  if d.pipeState 8 ≠ 2 then d
  else
    let n := d.fld (rPIPE_STATUS 8) fPIPE_STATUS_OUT
    let d := d.pixLock 8 true
    let d := d.modOutp n (fun o => { o with spareLock := true })
    if (d.outp n).st = 3 then d else d.spareSwitch n

/-- PIPE8 serves no output any more (R485): it is idle again, or takes over the lowest output that is still replayed for want of a pipe, once its span's slot is free (R32). -/
def Dev.spareFree (d : Dev) : Dev :=
  let d := d.setPipe 8 0 0
  match (List.range 8).find? (fun k => (d.outp k).degPipe && (d.outp k).st == 3 && d.pipeState (d.pipeOf k) == 2) with
  | some k =>
    let p := d.pipeOf k
    let s := classSpan 5 p
    if (d.span s).busy.isSome then d.queueUnit s (5, p) else ((d.wake 13).pipeHandover p k).fltShow
  | none => d

/-- PIPE8 freed where it serves output `n`, whose lighting ends before it is lit. -/
def Dev.lightFree (d : Dev) (n : Nat) : Dev :=
  if d.pipeState 8 = 1 ∧ d.pipeServes 8 = some n then d.spareFree else d

/-- What the dark output's pipe does (R235, R237, R485): one that only replayed is retired; PIPE8 is idle again, or takes over another
output. A handover whose switch has been made completes, and PIPE8 then serves the dark output. -/
def Dev.pipeDark (d : Dev) (n : Nat) : Dev :=
  let p := d.pipeOf n
  let d := d.pixLock p false
  let taken := d.pipeState 8 == 2 && d.fld (rPIPE_STATUS 8) fPIPE_STATUS_OUT == n
  let left := (List.range 8).filter (fun q => d.pipeState q == 2 && d.fld (rPIPE_STATUS q) fPIPE_STATUS_OUT == n)
  if p = 8 ∧ d.pipeState 8 = 1 ∧ d.pipeServes 8 = some n then
    (if left.isEmpty then d.spareFree else left.foldl (fun d q => d.setFld (rPIPE_STATUS q) fPIPE_STATUS_STATE 3) d)
  else if p ≠ 8 ∧ d.pipeState p = 2 ∧ !taken then d.setFld (rPIPE_STATUS p) fPIPE_STATUS_STATE 3
  else d

/-- Is output `n` without a pipe that composes for it (R485)? -/
def Dev.noPipe (d : Dev) (n : Nat) : Bool :=
  (d.outp n).degPipe && (match (d.outp n).hand with
    | some (_, _, none) => true
    | _ => false)

end Sys2Proof.Machine
end

