-- ==== Sys2Proof/Machine/Keystone.lean ====
section
/-! DEFINITION. Arming and the keystone point (R172 to R181), staging and scanning from the store (R189). -/

namespace Sys2Proof.Machine

/-! ### Arming (R173) -/

/-- The armed set of output `n`. -/
def Dev.armed (d : Dev) (n : Nat) : Nat := d.rd (rOUT_KEY_ARMED_LO n) + d.rd (rOUT_KEY_ARMED_HI n) * 2 ^ 24

/-- Is a commit armed? -/
def Dev.isArmed (d : Dev) (n : Nat) : Bool := d.armed n != 0 || (d.outp n).armFlag

/-- The armed set and the arm flag written. -/
def Dev.setArmed (d : Dev) (n m : Nat) (flag : Bool) : Dev :=
  let d := (d.wr (rOUT_KEY_ARMED_LO n) (m % 2 ^ 24)).wr (rOUT_KEY_ARMED_HI n) (m / 2 ^ 24 % 256)
  let d := d.modOutp n (fun o => { o with armFlag := flag })
  d.setFld (rOUT_KEY_STATUS n) fOUT_KEY_STATUS_ARMED (d.isArmed n).toNat

/-- A mask ORed into the armed set (R173). -/
def Dev.keyArm (d : Dev) (n mask : Nat) : Dev := d.setArmed n (d.armed n ||| mask % 2 ^ 32) true

/-- A disarm (R173, R178); a completion reply owed for the commit carries DISARMED (R343). -/
def Dev.keyDisarm (d : Dev) (n : Nat) : Dev :=
  (((d.setArmed n 0 false).setFld (rOUT_KEY_STATUS n) fOUT_KEY_STATUS_DEFER_RUN 0).modOutp n (fun o => { o with deferred := false })).complete
    2 n 0x404 0 []

/-- A write of OUTn_KEY_CTRL: its plain fields land, a disarm comes before an arm (R173). -/
def Dev.keyCtrlWrite (d : Dev) (n v : Nat) : Dev :=
  let d := d.wr (rOUT_KEY_CTRL n) (natSetBits (v % 2 ^ 24) 0 7 0)
  let d := d.when (natBit v 1) (·.keyDisarm n)
  d.when (natBit v 0) (fun d => d.keyArm n (d.rd (rOUT_KEY_MASK_LO n) + d.rd (rOUT_KEY_MASK_HI n) * 2 ^ 24))

/-- 1 bits written to OUTn_STAGED0 or OUTn_STAGED1 (R177). -/
def Dev.stagedWrite (d : Dev) (n k v : Nat) : Dev :=
  if k = 0 then d.wr (rOUT_STAGED0 n) (d.rd (rOUT_STAGED0 n) ||| v % 2 ^ 24)
  else d.wr (rOUT_STAGED1 n) (d.rd (rOUT_STAGED1 n) ||| v % 256)

/-- The STAGED bit of layer `k`. -/
def Dev.layStaged (d : Dev) (n k : Nat) : Bool :=
  if k < 24 then natBit (d.rd (rOUT_STAGED0 n)) k else natBit (d.rd (rOUT_STAGED1 n)) (k - 24)

/-! ### Which frames are composed (R189, R230, R232, R235) -/

/-- Does an interval of frames, open-ended where `none`, hold frame `f`? -/
def covers (x : Option (Nat × Option Nat)) (f : Nat) : Bool :=
  match x with
  | none => false
  | some (a, b) => !frameBefore f a && b.elim true (fun e => frameBefore f e)

/-- Does PSR2 send only a band in the state `v` (R232)? -/
def Dev.suBand (v : Dev) (n : Nat) : Bool :=
  v.fld (rOUT_SR_CTRL n) fOUT_SR_CTRL_MODE == 2 && v.lv (rOUT_SR_SU n) fOUT_SR_SU_SU_H != 0

/-- Does the PSR2 band of the state `v` obey R232? -/
def Dev.suGood (v : Dev) (n : Nat) : Bool :=
  let y := v.lv (rOUT_SR_SU n) fOUT_SR_SU_SU_Y0
  let h := v.lv (rOUT_SR_SU n) fOUT_SR_SU_SU_H
  let g := max 1 (v.outp n).psrGran
  decide (y % g = 0 ∧ h % g = 0 ∧ y + h ≤ (v.mode n).va)

/-- Is line `l` of frame `f` held by self-refresh: neither composed nor sent (R230, R232)? The band is that of the frame's state. -/
def Dev.srHolds (d : Dev) (n l f : Nat) : Bool :=
  let v := d.view n f
  covers (d.outp n).sr f &&
    (!v.suBand n || !(decide (v.lv (rOUT_SR_SU n) fOUT_SR_SU_SU_Y0 ≤ l ∧
      l < v.lv (rOUT_SR_SU n) fOUT_SR_SU_SU_Y0 + v.lv (rOUT_SR_SU n) fOUT_SR_SU_SU_H)))

/-- Does line `l` of frame `f` fall to the replay of a retirement (R235)? -/
def Dev.handHolds (d : Dev) (n l f : Nat) : Bool :=
  match (d.outp n).hand with
  | none => false
  | some (a, k, b) => (frameBefore a f || (a == f && decide (k ≤ l))) && b.elim true (fun e => frameBefore f e)

/-- How line `l` of frame `f` comes about: 0 composed, 1 replayed and not counted, 2 the dark frame, 3 not at all, 4 replayed as
compositor-late, also while the pixel PLL is out of lock (R470, R481) or the enables of the pipe's branch gate its compositor (R473). A PLL that has only left the bound of R45 is steered back, and
lines are composed meanwhile (R216). -/
def Dev.lineKind (d : Dev) (n l f : Nat) : Nat :=
  let o := d.outp n
  if o.early || o.darkFrame == some f then 2
  else if d.srHolds n l f then 3
  else if covers o.store f then 1
  else if d.handHolds n l f || (o.st == 3 && d.unlocked (d.pipeOf n)) || d.branchOff (3 + d.pipeOf n) then 4
  else 0

/-- A write of SCAN_STORE (R189): 1 from line 0 of the next frame; 0 at the next keystone point. Lines of the next frame that are
already composed are sent from the store as well. A 1 that comes before the frame in which an earlier run of the store ends carries
that run on; one written while the output is unlit waits for its lighting. -/
def Dev.scanStore (d : Dev) (n : Nat) (on : Bool) : Dev :=
  let o := d.outp n
  let open' : Bool := match o.store with
    | some (_, none) => true
    | _ => false
  if !on || o.st != 3 || open' then d
  else
    let f := (o.frame + 1) % 2 ^ 24
    let d' := (o.fifo.filter (fun x => x.frame == f && x.kind == 0)).foldl (fun d x => d.replayTouch n x.line) d
    d'.modOutp n (fun o => { o with
      store := some ((o.store.map (·.1)).getD f, none)
      fifo := o.fifo.map (fun x => if x.frame = f ∧ x.kind = 0 then ⟨x.line, f, 1, d.replayRow n x.line f, []⟩ else x) })

/-- A write of OUTn_COMP_CTRL: DEPTH may not change while the output is lit or lighting (R213). -/
def Dev.compCtrlWrite (d : Dev) (n v : Nat) : Dev :=
  let old := d.fld (rOUT_COMP_CTRL n) fOUT_COMP_CTRL_DEPTH
  let busy := (d.outp n).st != 0 && v % 4 != old
  let v' := natBits v 23 1 * 2 ^ 23 + natBits v 8 2 * 2 ^ 8 + natBits v 4 2 * 2 ^ 4 + (if busy then old else v % 4)
  let d := (d.wr (rOUT_COMP_CTRL n) v').when busy (·.raise (rOUT_STATUS n) fOUT_STATUS_MAP_REFUSED)
  d.scanStore n (natBit v 23)

/-! ### The keystone point (R174 to R181) -/

/-- p_K of a mode with `v` lines (R174). -/
def keyPhase (v k : Nat) : Nat := cdiv ((v - k) * 2 ^ 24) v

/-- Is layer `k` of the state being built not ready (R177)? `v` is that state. -/
def Dev.layNotReady (d v : Dev) (n k : Nat) : Bool :=
  let w := v.layWin n k
  let c := v.layKind n k
  v.layEn n k && !w.empty &&
    (v.layInvalid n k || (c == 2 && d.flag (rOUT_SPR_STATUS n) fOUT_SPR_STATUS_BUILDING) || (c == 6 && !v.remReady n k) ||
      (c == 5 && !v.camReady n k) || (v.lv (rOUT_LAYER_CTRL n k) fOUT_LAYER_CTRL_STAGE_REQ == 1 && !d.layStaged n k))

/-- What a CAMERA layer whose ready signal is low reports (R197, R204). A flag that stands is not set again. -/
def Dev.camFlags (d v : Dev) (n k : Nat) : Dev :=
  let p := v.layCam n k
  let a := rCAM_STATUS p
  if v.camReady n k then d
  else
    let shared := (v.camServed p).elim false (fun q => q != (n, k))
    let d := d.when (shared && !d.flag a fCAM_STATUS_SHARED) (·.raise a fCAM_STATUS_SHARED)
    d.when (!d.flag a fCAM_STATUS_CFG_BAD) (·.raise a fCAM_STATUS_CFG_BAD)

/-- The CAMERA layers of output `n` that are enabled in state `v`, each with what it reports. -/
def Dev.camReport (d v : Dev) (n : Nat) : Dev :=
  ((List.range 32).filter (fun k => v.layEn n k && v.layKind n k == 5 && !(v.layWin n k).empty)).foldl (fun d k => d.camFlags v n k) d

/-- The flags that units of the state being built set as they report not ready, whether or not their layers are armed (R85, R86, R93,
R107, R147, R160, R163, R197, R204). -/
def Dev.readyFlags (d v : Dev) (n : Nat) : Dev :=
  let d := (List.range 16).foldl (fun d t =>
    if v.slotUsed n t then (v.slotFlags n t).foldl (fun d f => d.raise (rOUT_TL_STATUS n t) f) d else d) d
  let d := d.when (v.planeConflict n) (·.raise (rOUT_SPR_STATUS n) fOUT_SPR_STATUS_LAYER_CONFLICT)
  let d := d.when (v.spanConflict n) (·.raise (rOUT_SPAN_STATUS n) fOUT_SPAN_STATUS_LAYER_CONFLICT)
  let wide := (List.range 4).any (fun s => (v.spanLayer n s).elim false (fun k => v.layEn n k && decide (4096 < (v.layWin n k).w)))
  let d := d.when wide (·.raise (rOUT_SPAN_STATUS n) fOUT_SPAN_STATUS_WIDTH)
  let ks := (List.range 32).filter (fun k => v.layEn n k && !(v.layWin n k).empty)
  let d := d.when (ks.any (v.kindMismatch n)) (·.raise (rOUT_COMP_STATUS n) fOUT_COMP_STATUS_KIND_MISMATCH)
  let d := d.when (ks.any (fun k => v.layKind n k == 4 && v.bmpInvalid n k)) (·.raise (rOUT_COMP_STATUS n) fOUT_COMP_STATUS_BM_INVALID)
  d.camReport v n

/-- A deferral (R178). DEFER_LIMIT is reported once in a run. -/
def Dev.keyDefer (d : Dev) (n : Nat) (ks : List Nat) (lut lpg ovl : Bool) : Dev :=
  let m := ks.foldl (fun m k => m + 2 ^ k) 0
  let prev := d.fld (rOUT_KEY_STATUS n) fOUT_KEY_STATUS_DEFER_RUN
  let run := min (prev + 1) 255
  let lim := d.fld (rOUT_KEY_CTRL n) fOUT_KEY_CTRL_DEFER_LIMIT
  let d := d.raise (rOUT_KEY_STATUS n) fOUT_KEY_STATUS_DEFERRED
  let d := (d.bump (rOUT_KEY_DEFER_CNT n) fOUT_KEY_DEFER_CNT_COUNT).setFld (rOUT_KEY_STATUS n) fOUT_KEY_STATUS_DEFER_RUN run
  let d := d.wr (rOUT_KEY_NR_LO n) (m % 2 ^ 24)
  let d := d.wr (rOUT_KEY_NR_HI n) (m / 2 ^ 24 + lut.toNat * 2 ^ 8 + lpg.toNat * 2 ^ 9 + ovl.toNat * 2 ^ 10)
  d.when (lim != 0 && prev != run && run == lim && !(d.outp n).deferred) (fun d =>
    ((d.modOutp n (fun o => { o with deferred := true })).raise (rOUT_KEY_STATUS n) fOUT_KEY_STATUS_DEFER_LIMIT).evIf (rOUT_KEY_CTRL n) fOUT_KEY_CTRL_DEFER_EV_EN
      fOUT_KEY_CTRL_DEFER_EV)

/-- The registers of an output that report on its mode while it is lit, and read 0 otherwise (R105, R122, R149, R152, R171,
R174, R215). -/
def Dev.figures (d : Dev) (n : Nat) : Dev :=
  let m := d.mode n
  let lit := d.lit n
  let p := d.lineClocks n
  let put (d : Dev) (a v : Nat) : Dev := d.wr a (if lit then v else 0)
  let d := put d (rOUT_PIXEL_RATE n) (m.h * m.v * d.outHz n / 1000)
  let d := put d (rOUT_TILE_BUDGET n) (3000000000 / (d.outHz n * m.v))
  let d := put d (rOUT_SPR_BUDGET n) (p - 64)
  let d := put d (rOUT_SPAN_BUDGET n) (p - 32)
  let d := put d (rOUT_COMP_BUDGET n) (p - 32)
  let d := put d (rOUT_KEY_POINT n) (keyPhase m.v (d.keyK n))
  d.lccBudget n

/-- The starts that a larger K would have placed before this keystone point, in line order (R176). -/
def Dev.extraStarts (d : Dev) (n f oldK : Nat) : Dev :=
  let newK := d.keyK n
  if !d.lccEn n ∨ newK ≤ oldK then d
  else
    let f' := (f + 1) % 2 ^ 24
    ((List.range (newK - oldK)).filter (fun l => decide (l < (d.mode n).va) && d.lineKind n l f' != 3 &&
      d.lineKind n l f' != 1)).foldl (fun d l => d.lccStart n l f' true) d

/-- A band that breaks R232 in the state just committed, adopted at line 0 of frame `f`, ends self-refresh at that frame; an entry that
has not come by then is withdrawn, and refused. -/
def Dev.suEnd (d : Dev) (n f : Nat) : Dev :=
  match (d.outp n).sr with
  | some (a, none) =>
    if !d.suBand n || d.suGood n then d
    else if frameBefore a f then d.modOutp n (fun o => { o with sr := some (a, some f) })
    else ((d.modOutp n (fun o => { o with sr := none })).setFld (rOUT_SR_STATUS n) fOUT_SR_STATUS_SR_STATE 0).raise (rOUT_SR_STATUS n)
      fOUT_SR_STATUS_ENTER_REFUSED
  | _ => d

/-- A commit applies in frame `f` (R172, R175, R176, R181, R232). -/
def Dev.keyApply (d : Dev) (n f : Nat) : Dev :=
  let o := d.outp n
  let oldK := d.keyK n
  let d := { d with live := d.liveOf n }.setOutp n { o with
    prev := some ⟨d.live, o.spr, o.lut, (d.clu n).bank⟩
    early := false
    darkFrame := if o.early then some f else o.darkFrame
    liveFrom := (f + 1) % 2 ^ 24
    spr := o.sprNew.getD o.spr
    sprNew := none
    lut := o.lut.swap o.lutNew
    lutNew := [] }
  let d := (d.lccSwap n).suEnd n ((f + 1) % 2 ^ 24)
  let d := d.setArmed n 0 false
  let req := (List.range 32).filter (fun k => d.lv (rOUT_LAYER_CTRL n k) fOUT_LAYER_CTRL_STAGE_REQ == 1)
  let d := req.foldl (fun d k =>
    if k < 24 then d.wr (rOUT_STAGED0 n) (natSetBits (d.rd (rOUT_STAGED0 n)) k 1 0)
    else d.wr (rOUT_STAGED1 n) (natSetBits (d.rd (rOUT_STAGED1 n)) (k - 24) 1 0)) d
  let d := d.wr (rOUT_COMMIT_SEQ n) ((d.rd (rOUT_COMMIT_SEQ n) + 1) % 2 ^ 24)
  let d := d.setFld (rOUT_KEY_STATUS n) fOUT_KEY_STATUS_DEFER_RUN 0
  let d := d.evRaise (4 + n)
  let d := (d.figures n).modOutp n (fun o => { o with flip := true, deferred := false })
  let d := d.complete 2 n 0 0 [BitVec.ofNat 48 (d.rd (rOUT_COMMIT_SEQ n)), BitVec.ofNat 48 d.bt]
  d.extraStarts n f oldK

/-- The armed commit evaluated (R177, R178): the state being built of this output against the live state of the others (R197). The moment at
which a unit's flags are set the spec does not give: here, with a commit armed (DESIGN CHOICE, log entry 56). -/
def Dev.keyEvaluate (d : Dev) (n f : Nat) : Dev :=
  if !d.isArmed n then d
  else
    let v := d.buildView n
    let o := d.outp n
    let ks := (List.range 32).filter (fun k => natBit (d.armed n) k && d.layNotReady v n k)
    let lut := o.lutCopy.isSome || d.flag (rOUT_LUT_STATUS n) fOUT_LUT_STATUS_COPY_BAD
    let lpg := d.lccNotReady n
    let d := d.readyFlags v n
    let d := d.when (v.lccEn n && decide (v.lccLead n < 4 ∨ 64 < v.lccLead n))
      (·.raise (rLCC_STATUS n) fLCC_STATUS_LEAD_RANGE)
    if ks.isEmpty && !lut && !lpg && !o.ovl then d.keyApply n f else d.keyDefer n ks lut lpg o.ovl

/-- The state of self-refresh shown. -/
def Dev.setSr (d : Dev) (n v : Nat) : Dev := d.setFld (rOUT_SR_STATUS n) fOUT_SR_STATUS_SR_STATE v

/-- PIPE8 takes up the stages at the first keystone point after the switch (R235): the retired pipe is marked. -/
def Dev.handTake (d : Dev) (n f : Nat) : Dev :=
  let o := d.outp n
  match o.hand with
  | some (a, l, none) =>
    if o.switched then
      let d := d.modOutp n (fun o => { o with hand := some (a, l, some ((f + 1) % 2 ^ 24)), switched := false })
      (List.range 8).foldl (fun d p =>
        if d.fld (rPIPE_STATUS p) fPIPE_STATUS_STATE = 2 ∧ d.fld (rPIPE_STATUS p) fPIPE_STATUS_OUT = n then
          d.setFld (rPIPE_STATUS p) fPIPE_STATUS_STATE 3
        else d) d
    else d
  | _ => d

/-- Are the piers ON that output `n` needs to leave self-refresh (R467): its pipe's, its cluster's, its PHY's, PIER39 and the spans'? -/
def Dev.srPiers (d : Dev) (n : Nat) : Bool :=
  let port := d.fld (rOUT_CTRL n) fOUT_CTRL_PORT
  let clu := if d.lccEn n then [14 + n] else []
  ([d.outPier n, if port = 9 ∨ port = 10 then 37 else 36, 39, 22, 23, 24, 25] ++ clu).all d.awake

/-- The keystone point of frame `f` (R174, R177, R189, R230, R485): suspended while the store is scanned, the panel refreshes itself or no
pipe composes, and evaluated at the point that ends either, which for self-refresh is the first that finds its piers ON (R467). The camera ports'
piers are looked at here (R209). -/
def Dev.keystone (d : Dev) (n f : Nat) : Dev :=
  let f' := (f + 1) % 2 ^ 24
  let cams := (List.range 8).filter (fun c => d.awake (26 + c / 4))
  let d := (d.modOutp n (fun o => { o with keyed := some f, camKey := cams })).handTake n f
  let o := d.outp n
  let scan := d.flag (rOUT_COMP_CTRL n) fOUT_COMP_CTRL_SCAN_STORE
  let st := d.fld (rOUT_SR_STATUS n) fOUT_SR_STATUS_SR_STATE
  let store := match o.store with
    | some (a, none) => if scan then o.store else if a = f' then none else some (a, some f')
    | x => x
  let srLast := match o.sr with
    | some (a, none) => !d.suBand n && !frameBefore f' a
    | _ => false
  let leave := srLast && st == 3 && d.srPiers n
  let sr := match o.sr with
    | some (a, none) => if leave then (if a = f' then none else some (a, some f')) else o.sr
    | x => x
  let d := d.modOutp n (fun o => { o with store := store, sr := sr })
  let stop := (scan && covers store f) || (srLast && !leave) || d.noPipe n
  let d := d.when (srLast && st == 0) (fun d => (d.setSr n 1).modOutp n (fun o => { o with srAt := d.now }))
  let d := d.setFld (rOUT_KEY_STATUS n) fOUT_KEY_STATUS_SUSPENDED stop.toNat
  if stop then d else d.keyEvaluate n f

/-! ### The commands -/

def execKeyCtrlArm (out : Fin 8) (value : Reg) (s : State) := s.upd (·.keyCtrlWrite out (value.toNat ||| 1))

def execKeyCtrlDisarm (out : Fin 8) (value : Reg) (s : State) := s.upd (·.keyCtrlWrite out (value.toNat ||| 2))

def execStagedWrite (out : Fin 8) (k : Fin 2) (value : Reg) (s : State) := s.upd (·.stagedWrite out k value.toNat)

def execScanStoreWrite (out : Fin 8) (value : Reg) (s : State) := s.upd (·.compCtrlWrite out value.toNat)

end Sys2Proof.Machine
end

