-- ==== Sys2Proof/Machine/Tap.lean ====
section
/-! DEFINITION. The parapet and its multiplexer (R250 to R260), and the signature tap with its judgement (R239 to R249). -/

namespace Sys2Proof.Machine

/-! ### The parapet store (R251 to R253) -/

/-- A word of the parapet store; reserved places, and places past the store, read zero (R251). -/
def Dev.prpWord (d : Dev) (a : Nat) : Word :=
  if (0x40100 ≤ a ∧ a < 0x40400) ∨ (0x40800 ≤ a ∧ a < 0x41000) ∨ 0x42000 ≤ a then 0 else spGet zeroWord d.prp.store a

/-- A word of the parapet store set. -/
def Dev.prpSet (d : Dev) (a : Nat) (w : Word) : Dev :=
  { d with prp := { d.prp with store := spSet zeroWord d.prp.store a w } }

/-- A write through PRP_DATA or TTL.LOAD: reserved places and word 3 of a telltale record ignore it (R251, R253). -/
def Dev.prpStore (d : Dev) (a : Nat) (w : Word) : Dev :=
  if a < 0x40100 ∨ (0x40400 ≤ a ∧ a < 0x40800 ∧ a % 4 ≠ 3) ∨ (0x41000 ≤ a ∧ a < 0x42000) then d.prpSet a w else d

/-- Word `i` of telltale record `t`. -/
def Dev.ttWord (d : Dev) (t i : Nat) : Nat := (d.prpWord (0x40400 + 4 * t + i)).toNat

/-- Does telltale `t` exist, and on which output? -/
def Dev.ttEn (d : Dev) (t : Nat) : Bool := natBit (d.ttWord t 0) 47
def Dev.ttOut (d : Dev) (t : Nat) : Nat := natBits (d.ttWord t 0) 44 3

/-- The commanded state of a telltale: 0 OFF, 1 ON, 2 BLINK (R253). -/
def Dev.ttState (d : Dev) (t : Nat) : Nat := natBits (d.ttWord t 3) 46 2

/-- The commanded state of a telltale written (R254): only BLINK brings a phase, and the others keep the one that stands. -/
def Dev.setTt (d : Dev) (t st phase : Nat) : Dev :=
  let ph := if st = 2 then phase % 2 ^ 24 else natBits (d.ttWord t 3) 22 24
  d.prpSet (0x40400 + 4 * t + 3) (BitVec.ofNat 48 (st * 2 ^ 46 + ph * 2 ^ 22))

/-- A W1C flag of PRP_STATUS set. -/
def Dev.prpRaise (d : Dev) (f : Fld) : Dev := (d.raise rPRP_STATUS f).prpAttn

/-- A telltale state packet accepted: SET, CLEAR or BLINK (R254, R258). -/
def Dev.ttCommand (d : Dev) (t st phase : Nat) : Dev :=
  let d := (d.setTt t st phase).bump rPRP_CMD_CNT fPRP_CMD_CNT_COUNT
  d.setFld rPRP_STATUS fPRP_STATUS_FRESH 0

/-- A heartbeat (R257). -/
def Dev.heartbeat (d : Dev) : Dev :=
  { (d.bump rPRP_HB_CNT fPRP_HB_CNT_COUNT).setFld rPRP_STATUS fPRP_STATUS_HB_ABSENT 0 with prp := { d.prp with hbAt := some d.now } }

/-- A heartbeat is missed (R257): fail-safe states, BLINK from the output's next frame. One that arrives in this very clock counts as
arrived (R260). -/
def Dev.heartbeatMissed (d : Dev) : Dev :=
  if d.fld rPRP_CTRL fPRP_CTRL_HB_MS = 0 ∨ d.prp.hbAt = some d.now then d
  else
    let d := (d.setFld rPRP_STATUS fPRP_STATUS_HB_ABSENT 1).prpRaise fPRP_STATUS_HB_LOST
    let safe := (List.range 256).filter (fun t => natBits (d.ttWord t 0) 38 2 != 0)
    let d := safe.foldl (fun d t =>
      let fs := natBits (d.ttWord t 0) 38 2
      if fs = 3 then d.setTt t 2 (d.outFrame44 (d.ttOut t) + 1) else d.setTt t (fs - 1) 0) d
    d.when (!safe.isEmpty) (·.prpRaise fPRP_STATUS_FAILSAFE)

/-- ADDR steps by 1. -/
def Dev.prpStep (d : Dev) : Dev := d.wr rPRP_ADDR ((d.rd rPRP_ADDR + 1) % 2 ^ 19)

/-- A write of PRP_DATA_HI (R251, R253). -/
def Dev.prpDataHi (d : Dev) (v : Nat) : Dev :=
  (d.prpStore (d.rd rPRP_ADDR) (BitVec.ofNat 48 (v % 2 ^ 24 * 2 ^ 24 + d.staged rPRP_DATA_LO))).prpStep

/-- A read of PRP_DATA_LO: the low half shows in the register and the high half is latched (R10, R251). -/
def Dev.prpDataLo (d : Dev) : Dev :=
  let w := (d.prpWord (d.rd rPRP_ADDR)).toNat
  let d := d.wr rPRP_DATA_LO (w % 2 ^ 24)
  { d with latch := spInsert d.latch rPRP_DATA_HI (BitVec.ofNat 24 (w / 2 ^ 24)) }.prpStep

/-! ### What telltales show (R254) -/

/-- Does a telltale show ON in frame `f`? -/
def Dev.ttOn (d : Dev) (t f : Nat) : Bool :=
  let w1 := d.ttWord t 1
  let w3 := d.ttWord t 3
  let per := max 4 (natBits w1 21 10)
  let on := max 1 (min (natBits w1 11 10) (per - 1))
  if d.ttState t = 1 then true
  else if d.ttState t = 2 then decide ((f + 2 ^ 24 - natBits w3 22 24) % 2 ^ 24 % per < on)
  else false

/-- The telltales of output `n` sampled at line Va of the frame before `f` (R254). -/
def Dev.ttSample (d : Dev) (n f : Nat) : Dev :=
  let mine := (List.range 256).filter (fun t => d.ttEn t && d.ttOut t == n)
  let s := mine.map (fun t =>
    let on := d.ttOn t f
    let since := match d.prp.shown.find? (fun x => x.tt == t && natBits x.w0 44 3 == n) with
      | some x => if x.on = on then x.since + 1 else 0
      | none => 2
    (⟨t, d.ttWord t 0, d.ttWord t 1, d.ttWord t 2, on, since⟩ : Shown))
  { d with prp := { d.prp with next := d.prp.next.filter (fun x => natBits x.w0 44 3 != n) ++ s } }

/-- The samples of an output that goes dark are gone. -/
def Dev.ttDrop (d : Dev) (n : Nat) : Dev :=
  let mine (x : Shown) : Bool := natBits x.w0 44 3 == n
  { d with prp := { d.prp with
      shown := d.prp.shown.filter (fun x => !mine x), next := d.prp.next.filter (fun x => !mine x)
      shots := d.prp.shots.filter (fun x => x.1 != n) } }

/-- The samples of output `n` come into use at line 0. -/
def Dev.ttAdopt (d : Dev) (n : Nat) : Dev :=
  let mine (x : Shown) : Bool := natBits x.w0 44 3 == n
  { d with prp := { d.prp with
      shown := d.prp.shown.filter (fun x => !mine x) ++ d.prp.next.filter mine
      next := d.prp.next.filter (fun x => !mine x) } }

/-- The sample of telltale `t` for output `n`, if one is in use. -/
def Dev.ttShown (d : Dev) (n t : Nat) : Option Shown := d.prp.shown.find? (fun x => x.tt == t && natBits x.w0 44 3 == n)

/-! ### Regions and their actions (R239, R240, R248, R249) -/

/-- Is region `k` invalid (R240)? -/
def Dev.sigBad (d v : Dev) (n k : Nat) : Bool :=
  let r := v.sigRect n k
  let c := rOUT_SIG_CTRLk n k
  let tt := v.lv c fOUT_SIG_CTRLk_TT
  let m := v.mode n
  decide (m.ha < r.x + r.w ∨ m.va < r.y + r.h) ||
    ((v.lv c fOUT_SIG_CTRLk_ACTION == 1 || v.lv c fOUT_SIG_CTRLk_TRUTH == 1) && !(d.ttEn tt && d.ttOut tt == n))

/-- The regions of an output whose REPLACE is in force, or that FORCE_PRP, as it stood at line 0 of the frame, draws (R248, R249, R485). -/
def Dev.sigReplaced (d v : Dev) (n : Nat) : List Nat :=
  let force := (d.outp n).forced
  (List.range 64).filter (fun k =>
    let c := rOUT_SIG_CTRLk n k
    let s := (d.outp n).sigs.getD k ⟨0, 0, 0, false, false, none, none, 0, false, false, false⟩
    let tt := v.lv c fOUT_SIG_CTRLk_TT
    v.sigOn n k && ((s.act && v.lv c fOUT_SIG_CTRLk_ACTION == 1) ||
      (force && !d.sigBad v n k && d.ttEn tt && d.ttOut tt == n)))

/-- The regions of an output whose BLANK is in force (R248). -/
def Dev.sigBlanked (d v : Dev) (n : Nat) : List Nat :=
  (List.range 64).filter (fun k =>
    let s := (d.outp n).sigs.getD k ⟨0, 0, 0, false, false, none, none, 0, false, false, false⟩
    v.sigOn n k && s.act && v.lv (rOUT_SIG_CTRLk n k) fOUT_SIG_CTRLk_ACTION == 2)

def Win.has (w : Win) (x y : Nat) : Bool := decide (w.x ≤ x ∧ x < w.x + w.w ∧ w.y ≤ y ∧ y < w.y + w.h)

/-! ### The multiplexer (R255, R256) -/

/-- A 16-bit-code colour word at panel depth by the off rule (R252). -/
def prpCodes (dd w : Nat) : Nat :=
  packCodes (reduceOff (natBits w 32 16) dd) (reduceOff (natBits w 16 16) dd) (reduceOff (natBits w 0 16) dd)

/-- The icon a telltale shows, if it shows one (R253). -/
def Shown.icon (x : Shown) : Option Nat :=
  if x.on then some (natBits x.w1 40 8) else if natBit x.w1 31 then none else some (natBits x.w1 32 8)

def Shown.x (x : Shown) : Nat := natBits x.w0 25 13
def Shown.y (x : Shown) : Nat := natBits x.w0 12 13

/-- The box of the icon a telltale shows; an icon of the reserved format is never drawn (R252). -/
def Dev.iconBox (d : Dev) (x : Shown) : Win :=
  match x.icon with
  | none => ⟨0, 0, 0, 0⟩
  | some i =>
    let w := (d.prpWord (0x40000 + i)).toNat
    if natBits w 44 2 = 3 then ⟨0, 0, 0, 0⟩ else ⟨x.x, x.y, natBits w 33 7 + 1, natBits w 26 7 + 1⟩

/-- The opaque code of a shown icon at a raster dot; none where it is transparent or not there (R252). -/
def Dev.iconDot (d : Dev) (dd : Nat) (x : Shown) (px py : Nat) : Option Nat :=
  match x.icon with
  | none => none
  | some i =>
    let w := (d.prpWord (0x40000 + i)).toNat
    let f := natBits w 44 2
    let b := [2, 4, 8, 0].getD f 0
    if f = 3 ∨ !(d.iconBox x).has px py then none
    else
      let base := natBits w 8 18 + (py - x.y) * cdiv ((natBits w 33 7 + 1) * b) 48
      let v := streamBits (fun j => (d.prpWord (base + j)).toNat) ((px - x.x) * b) b
      if v = 0 then none else some (prpCodes dd (d.prpWord (0x41000 + natBits w 40 4 * 256 + v)).toNat)

/-- Is the draw engine at work (R258)? -/
def Dev.prpDraws (d : Dev) : Bool :=
  d.flag rPRP_CTRL fPRP_CTRL_EN && d.flag rPRP_STATUS fPRP_STATUS_LOADED && decide (d.pier 1 = 0)

/-- The telltales drawn on output `n` (R255), in ascending number. -/
def Dev.ttDrawn (d v : Dev) (n : Nat) : List Drawn :=
  let rs := d.sigReplaced v n
  (List.range 256).filterMap (fun t =>
    (d.ttShown n t).bind (fun x =>
      let named := (rs.filter (fun k => v.lv (rOUT_SIG_CTRLk n k) fOUT_SIG_CTRLk_TT == t)).map (v.sigRect n)
      if natBits x.w0 42 2 = 1 then some ⟨x, none⟩
      else if named.isEmpty then none else some ⟨x, some named⟩))

/-- Is a drawn telltale drawn on line `l` of `ha` dots: does its clipped box cover a dot of it? -/
def Dev.drawnOn (d : Dev) (x : Drawn) (l ha : Nat) : Bool :=
  let b := d.iconBox x.tt
  decide (b.y ≤ l ∧ l < b.y + b.h ∧ b.x < ha) && x.clips.elim true (fun ws => ws.any (fun w =>
    decide (w.y ≤ l ∧ l < w.y + w.h ∧ w.x < b.x + b.w ∧ b.x < w.x + w.w)))

/-- The code a drawn telltale puts at a dot. -/
def Dev.drawnDot (d : Dev) (dd : Nat) (x : Drawn) (px py : Nat) : Option Nat :=
  if x.clips.elim true (fun ws => ws.any (fun w => w.has px py)) then d.iconDot dd x.tt px py else none

/-- The backing colour of a telltale on output `n`: that of its sample (R251), or of its record where none has been taken. -/
def Dev.ttBacking (d : Dev) (n t : Nat) : Nat := (d.ttShown n t).elim (d.ttWord t 2) (·.w2)

/-- What the parapet draws in a frame of output `n` in the state `v`; how long a telltale has shown the same plays no part. -/
def Dev.prpFrame (d v : Dev) (n : Nat) : PrpDraw :=
  let draws := d.prpDraws
  { dead := if d.flag rPRP_CTRL fPRP_CTRL_CHK_BLANK && d.flag rPRP_STATUS fPRP_STATUS_CHK_FAULT then
      (d.prp.shown.filter (fun x => d.prp.faulted.contains x.tt && natBits x.w0 44 3 == n)).map d.iconBox else []
    tts := if draws then (d.ttDrawn v n).map (fun x => { x with tt := { x.tt with since := 0 } }) else []
    rep := if draws then (d.sigReplaced v n).map (fun k =>
      (v.sigRect n k, d.ttBacking n (v.lv (rOUT_SIG_CTRLk n k) fOUT_SIG_CTRLk_TT))) else [] }

/-- The part of it on line `l`, `ha` dots wide: 32 telltales at most. -/
def Dev.prpOn (d : Dev) (p : PrpDraw) (l ha : Nat) : PrpDraw :=
  let crosses (w : Win) : Bool := decide (w.y ≤ l ∧ l < w.y + w.h)
  ⟨p.dead.filter crosses, (p.tts.filter (fun x => d.drawnOn x l ha)).take 32, p.rep.filter (fun q => crosses q.1)⟩

/-- The code that the parapet puts at dot `x` of a line; none where it leaves the dot alone (R255, R256). -/
def Dev.prpDot (d : Dev) (p : PrpDraw) (dd x l : Nat) : Option Nat :=
  if p.dead.any (fun w => w.has x l) then some 0
  else
    match p.tts.findSome? (fun t => d.drawnDot dd t x l) with
    | some c => some c
    | none => (p.rep.find? (fun q => q.1.has x l)).map (fun q => prpCodes dd q.2)

/-- Line `l` of output `n` behind the multiplexer (R255, R256), from the pipe's dots. -/
def Dev.muxLine (d v : Dev) (n l : Nat) (px : List Nat) : List Nat :=
  let dd := d.depth n
  let p := d.prpOn (d.prpFrame v n) l px.length
  let blank := ((d.sigBlanked v n).map (v.sigRect n)).filter (fun w => decide (w.y ≤ l ∧ l < w.y + w.h))
  if p.rep.isEmpty && blank.isEmpty && p.tts.isEmpty && p.dead.isEmpty then px
  else ((List.range px.length).zip px).map (fun q =>
    (d.prpDot p dd q.1 l).getD (if blank.any (fun w => w.has q.1 l) then 0 else q.2))

/-- What output `n` has to draw in the state `v`, with the store it draws from (R259). -/
def Dev.prpShot (d v : Dev) (n : Nat) : PrpShot := ⟨d.prpFrame v n, d.prp.store⟩

/-- The lines of output `n` on which `b` covers a dot that `a` does not, or the other way round, or gives one another code (R259). -/
def Dev.shotDiffer (d : Dev) (n : Nat) (a b : PrpShot) : List Nat :=
  let m := d.mode n
  let dd := d.depth n
  let da := { d with prp := { d.prp with store := a.store } }
  let db := { d with prp := { d.prp with store := b.store } }
  if a = b then []
  else (List.range m.va).filter (fun l =>
    let p := da.prpOn a.draw l m.ha
    let q := db.prpOn b.draw l m.ha
    (a.store != b.store || p != q) && (List.range m.ha).any (fun x => da.prpDot p dd x l != db.prpDot q dd x l))

/-- The lines on which output `n` draws otherwise now than in the frame before this one (R259): none where no frame has been before. -/
def Dev.prpMoved (d : Dev) (n : Nat) : List Nat :=
  match assocGet d.prp.shots n with
  | none => []
  | some (was, _) => d.shotDiffer n was (d.prpShot (d.view n (d.outp n).frame) n)

/-- What output `n` has to draw as frame `f` starts is held for comparison (R259). -/
def Dev.prpKeep (d : Dev) (n f : Nat) : Dev :=
  let now := d.prpShot (d.view n f) n
  let was := (assocGet d.prp.shots n).elim now (·.2)
  { d with prp := { d.prp with shots := (n, was, now) :: d.prp.shots.filter (fun x => x.1 != n) } }

/-- The telltales left out on a line past the 32 lowest (R255), and the checker misses reported on it (R256). -/
def Dev.prpLine (d v : Dev) (n l : Nat) (chk : List Nat) : Dev :=
  if !d.prpDraws then d
  else
    let on := (d.ttDrawn v n).filter (fun x => d.drawnOn x l (v.mode n).ha)
    let d := if 32 < on.length then
        (d.bumpBy rPRP_OVF_CNT fPRP_OVF_CNT_COUNT (on.length - 32)).prpRaise fPRP_STATUS_DRAW_OVF
      else d
    let bad := ((on.take 32).map (·.tt.tt)).filter (fun t => chk.contains t && !d.prp.miss.contains t)
    { d with prp := { d.prp with miss := d.prp.miss ++ bad } }

/-- The checker judges the telltales of output `n` at the end of a frame (R256). -/
def Dev.checkFrame (d : Dev) (n : Nat) : Dev :=
  let mine := (d.prp.shown.filter (fun x => natBits x.w0 44 3 == n)).map (·.tt)
  let lim := max 1 (d.fld rPRP_CTRL fPRP_CTRL_CHK_LIMIT)
  let run (t : Nat) : Nat := (assocGet d.prp.missRun t).getD 0
  let missed := mine.filter d.prp.miss.contains
  let fresh := missed.filter (fun t => decide (lim ≤ run t + 1) && !d.prp.faulted.contains t)
  let d := missed.foldl (fun d _ => (d.bump rPRP_CHK_CNT fPRP_CHK_CNT_COUNT).prpRaise fPRP_STATUS_CHK_MISS) d
  let runs := d.prp.missRun.filter (fun p => !mine.contains p.1) ++ missed.map (fun t => (t, run t + 1))
  let d := { d with prp := { d.prp with
    miss := d.prp.miss.filter (fun t => !mine.contains t), missRun := runs, faulted := d.prp.faulted ++ fresh } }
  fresh.foldl (fun d t =>
    let d := d.prpRaise fPRP_STATUS_CHK_FAULT
    let d := if d.flag rPRP_FAULT_FIRST fPRP_FAULT_FIRST_NONE ∨ t < d.fld rPRP_FAULT_FIRST fPRP_FAULT_FIRST_TT
      then d.wr rPRP_FAULT_FIRST t else d
    d.reportUnit 0x0B 0x09 0) d

/-! ### The tap (R241, R242, R245, R246) -/

def Dev.sig (d : Dev) (n k : Nat) : Sig :=
  (d.outp n).sigs.getD k ⟨0xFFFFFFFF, 0, 0, false, false, none, none, 0, false, false, false⟩
def Dev.modSig (d : Dev) (n k : Nat) (f : Sig → Sig) : Dev :=
  d.modOutp n (fun o => { o with sigs := o.sigs.set k (f (d.sig n k)) })

/-- Do the exact rectangles cover the dots `x` to `x + w − 1` of line `l`? -/
def Dev.exactCovers (d : Dev) (n l x w : Nat) : Bool :=
  let rs := (d.exactOn n l).map (d.exactRect n)
  (List.range w).all (fun i => rs.any (fun r => decide (r.x ≤ x + i ∧ x + i < r.x + r.w)))

/-- Line `x` of frame `f` at the tap: each region on it takes its dots (R241, R246). None says that no line reaches the tap. A region below the
raster is due with the last line, and one that reaches past it never has its last dot pass the tap: its LAST stands (R242). -/
def Dev.tapLine (d v : Dev) (n l f : Nat) (x : Option LineOut) : Dev :=
  (List.range 64).foldl (fun d k =>
    let r := v.sigRect n k
    let endL := min (r.y + r.h) (v.mode n).va
    let y0 := min r.y ((v.mode n).va - 1)
    if !v.sigOn n k || !decide (y0 ≤ l ∧ l < endL) then d
    else
      let d := d.when (l == y0) (·.modSig n k (fun s =>
        { s with crc := 0xFFFFFFFF, fed := 0, comp := 0, lossy := false, due := false }))
      let d := match x with
        | none => d
        | some o => d.when (decide (r.y ≤ l)) (·.modSig n k (fun s => { s with
            crc := ((o.px.drop r.x).take r.w).foldl (crcDot (d.depth n)) s.crc
            fed := s.fed + 1
            comp := if o.kind = 1 then s.comp else s.comp + 1
            lossy := s.lossy || (o.kind == 1 && !d.exactCovers n l r.x r.w) }))
      if l + 1 ≠ endL then d
      else
        let s := d.sig n k
        let d := d.modSig n k (fun s => { s with due := true })
        if s.fed ≠ r.h ∨ (v.mode n).ha < r.x + r.w then d
        else
          let sg := crcFinish s.crc
          let d := d.modSig n k (fun s => { s with prev := s.last, last := some (f, sg) })
          (d.wr (rOUT_SIG_LAST_LO n k) (sg % 2 ^ 24)).wr (rOUT_SIG_LAST_HI n k) (sg / 2 ^ 24)) d

/-! ### Judging (R243 to R248) -/

/-- An expected signature of a region. -/
def Dev.sigExp (v : Dev) (n k j : Nat) : Nat := v.lrd (rOUT_SIG_EXP_LO n k j) + v.lrd (rOUT_SIG_EXP_HI n k j) % 256 * 2 ^ 24

/-- The slots a MATCH region accepts in this frame (R243). -/
def Dev.sigSlots (d v : Dev) (n k : Nat) : List Nat :=
  let c := rOUT_SIG_CTRLk n k
  let valid := (List.range 4).filter (natBit (v.lv c fOUT_SIG_CTRLk_EXP_VALID))
  if v.lv c fOUT_SIG_CTRLk_TRUTH = 0 then valid
  else
    match d.ttShown n (v.lv c fOUT_SIG_CTRLk_TT) with
    | none => valid
    | some x => if x.since ≤ 1 then valid else valid.filter (fun j => decide (j % 2 = x.on.toNat))

/-- A failed judgement (R247). The region trips once in a run: when RUN reaches the limit, or first stands past one that was lowered. -/
def Dev.sigFail (d v : Dev) (n k f cause : Nat) : Dev :=
  let a := rOUT_SIG_STATUSk n k
  let lim := max 1 (v.lv (rOUT_SIG_CTRLk n k) fOUT_SIG_CTRLk_MISS_LIMIT)
  let run := d.fld a fOUT_SIG_STATUSk_RUN
  let d := d.raise a fOUT_SIG_STATUSk_MISMATCH
  let d := (d.setFld a fOUT_SIG_STATUSk_CAUSE cause).setFld a fOUT_SIG_STATUSk_RUN (min (run + 1) 15)
  let d := (d.setFld a fOUT_SIG_STATUSk_PASS 0).bump (rOUT_SIG_MISS_CNT n) fOUT_SIG_MISS_CNT_COUNT
  let d := d.modSig n k (fun s => { s with passes := 0, lastPass := false })
  if lim ≤ run + 1 ∧ (run < lim ∨ !((d.sig n k).act || (d.sig n k).begins)) then
    let d := (d.raise a fOUT_SIG_STATUSk_TRIPPED).bump (rOUT_SIG_TRIP_CNT n) fOUT_SIG_TRIP_CNT_COUNT
    let d := (d.wr (rOUT_SIG_TRIP n) k).wr (rOUT_SIG_TRIP_FRAME n) (f % 2 ^ 24)
    let d := d.modSig n k (fun s => { s with begins := true })
    let once := (d.outp n).sigEvFrame != some f && d.flag (rOUT_SIG_CTRL n) fOUT_SIG_CTRL_EV_EN
    let d := d.when once (fun d =>
      (d.evIf (rOUT_SIG_CTRL n) fOUT_SIG_CTRL_EV_EN fOUT_SIG_CTRL_EV).modOutp n (fun o => { o with sigEvFrame := some f }))
    d.reportUnit 0x06 0x05 (d.pipeOf n)
  else d

/-- A passed judgement (R243, R247); MATCHED records the slot that passed, where one did. -/
def Dev.sigPass (d : Dev) (n k : Nat) (slot : Option Nat) : Dev :=
  let a := rOUT_SIG_STATUSk n k
  let d := (d.setFld a fOUT_SIG_STATUSk_RUN 0).setFld a fOUT_SIG_STATUSk_PASS 1
  let d := slot.elim d (d.setFld a fOUT_SIG_STATUSk_MATCHED)
  d.modSig n k (fun s => { s with passes := if s.act then s.passes + 1 else 0, lastPass := true })

/-- A frame that is not judged for a region (R245). -/
def Dev.sigSkip (d : Dev) (n k : Nat) : Dev :=
  (d.raise (rOUT_SIG_STATUSk n k) fOUT_SIG_STATUSk_UNJUDGED).bump (rOUT_SIG_UNJ_CNT n) fOUT_SIG_UNJ_CNT_COUNT

/-- Lines `lo` to `hi − 1` of frame `f` are passed over at a step (R571): a region whose last line is among them is not judged in that frame
(R245), and one that begins among them starts over. -/
def Dev.sigPassed (d : Dev) (n f lo hi : Nat) : Dev :=
  let v := d.view n f
  (List.range 64).foldl (fun d k =>
    let r := v.sigRect n k
    let endL := min (r.y + r.h) (v.mode n).va
    if !v.sigOn n k then d
    else if lo < endL ∧ endL ≤ hi then
      let d := d.when (d.sigBad v n k) (·.raise (rOUT_SIG_STATUSk n k) fOUT_SIG_STATUSk_CFG_BAD)
      (d.modSig n k (fun s => { s with fed := 0, due := false })).sigSkip n k
    else if lo ≤ r.y ∧ r.y < hi then
      d.modSig n k (fun s => { s with crc := 0xFFFFFFFF, fed := 0, comp := 0, lossy := false, due := false })
    else d) d

/-- A region judged once its last dot has passed the tap (R243 to R246). -/
def Dev.sigJudge (d : Dev) (n k : Nat) : Dev :=
  let o := d.outp n
  let f := o.frame
  let v := d.view n f
  let s := d.sig n k
  if !s.due || !v.sigOn n k then d
  else
    let d := d.modSig n k (fun s => { s with due := false })
    let live := v.lv (rOUT_SIG_CTRLk n k) fOUT_SIG_CTRLk_KIND == 1
    let bad := d.sigBad v n k
    let d := d.when bad (·.raise (rOUT_SIG_STATUSk n k) fOUT_SIG_STATUSk_CFG_BAD)
    let full := decide (s.fed = (v.sigRect n k).h)
    let cur := s.last.elim 0 (·.2)
    let before := match s.prev with
      | some (g, x) => if (g + 1) % 2 ^ 24 = f then some x else none
      | none => none
    if o.darkFrame == some f || o.early || !full || bad || (live && before.isNone) || (covers o.store f && (live || s.lossy)) then
      d.sigSkip n k
    else if live then
      if s.comp = 0 ∨ before = some cur then d.sigFail v n k f 3 else d.sigPass n k none
    else if s.lossy then d.sigFail v n k f 2
    else
      match (d.sigSlots v n k).find? (fun j => v.sigExp n k j == cur) with
      | some j => d.sigPass n k (some j)
      | none => d.sigFail v n k f 1

/-- SIG_ACTIVEm brought up to date. -/
def Dev.sigShow (d : Dev) (n : Nat) : Dev :=
  let m (lo cnt : Nat) : Nat := (List.range cnt).foldl (fun x i => if (d.sig n (lo + i)).act then x + 2 ^ i else x) 0
  ((d.wr (rOUT_SIG_ACTIVE0 n) (m 0 24)).wr (rOUT_SIG_ACTIVE1 n) (m 24 24)).wr (rOUT_SIG_ACTIVE2 n) (m 48 16)

/-- The actions that begin and end at line 0 of a frame (R248). -/
def Dev.sigLine0 (d v : Dev) (n : Nat) : Dev :=
  ((List.range 64).foldl (fun d k =>
    let s := d.sig n k
    let a := rOUT_SIG_STATUSk n k
    let c := rOUT_SIG_CTRLk n k
    let lim := max 1 (v.lv c fOUT_SIG_CTRLk_MISS_LIMIT)
    let release := s.act && !s.begins &&
      (if v.lv c fOUT_SIG_CTRLk_STICKY = 0 then decide (lim ≤ s.passes) else !d.flag a fOUT_SIG_STATUSk_TRIPPED && s.lastPass)
    if s.begins then
      (d.modSig n k (fun s => { s with begins := false, act := true, passes := 0 })).setFld a fOUT_SIG_STATUSk_ACTIVE 1
    else if release then
      let d := d.modSig n k (fun s => { s with act := false, passes := 0 })
      (d.setFld a fOUT_SIG_STATUSk_ACTIVE 0).raise a fOUT_SIG_STATUSk_RELEASED
    else d) d).sigShow n

/-! ### The commands -/

def execSignatureJudge (out : Fin 8) (region : Fin 64) (s : State) := s.upd (·.sigJudge out region)

def execPrpDataHiWrite (value : Reg) (s : State) := s.upd (·.prpDataHi value.toNat)

def execPrpDataLoRead (s : State) := s.upd Dev.prpDataLo

def execHeartbeatTimeout (s : State) := s.upd Dev.heartbeatMissed

end Sys2Proof.Machine
end

