-- ==== Sys2Proof/Machine/Scan.lean ====
section
/-! DEFINITION. The scan of an output: what each of its lines brings (R44, R175 and the stages of chapters 4 to 10). -/

namespace Sys2Proof.Machine

/-! ### Moving beam time to a line (R44) -/

/-- BT moved on to the start of line `l` of frame `f`, and whether it could be: a start beyond the TG0 frame waits for
BT_FRAME_BOUNDARY (log entry 4). -/
def Dev.advanceToLine (d : Dev) (n l f : Nat) : Bool × Dev :=
  let g := d.outTg n
  let ahead := (d.lineGbt n l f + 2 ^ 48 - d.gbt g) % 2 ^ 48
  if 2 ^ 47 ≤ ahead ∨ ahead = 0 then (true, d)
  else
    let e := d.eOfGbt g ahead
    if e ≤ (d.btu.e / 2 ^ 24 + 1) * 2 ^ 24 - 1 then (true, d.advanceTo e) else (false, d)

/-! ### Sprites (R119 to R123) -/

/-- Sprites dropped on a line recorded (R121 to R123). -/
def Dev.sprDrops (d : Dev) (n l f cnt fill : Nat) : Dev :=
  if cnt + fill = 0 then d
  else
    let a := rOUT_SPR_STATUS n
    let first := (d.outp n).ovfFrame != some f
    let d := d.when (cnt != 0) (·.raise a fOUT_SPR_STATUS_CNT_OVF)
    let d := d.when (fill != 0) (·.raise a fOUT_SPR_STATUS_FILL_OVF)
    let d := d.bumpBy (rOUT_SPR_DROP_CNT n) fOUT_SPR_DROP_CNT_COUNT (cnt + fill)
    let d := d.bump (rOUT_SPR_OVF_LINES n) fOUT_SPR_OVF_LINES_COUNT
    let d := (d.wr (rOUT_SPR_OVF_LINE n) l).wr (rOUT_SPR_OVF_FRAME n) (f % 2 ^ 24)
    let d := d.when (cnt != 0) (·.stlPush 4 n 0 l cnt f)
    let d := d.when (fill != 0) (·.stlPush 5 n 0 l fill f)
    d.when first (fun d =>
      ((d.wr (rOUT_SPR_OVF_FIRST n) l).evIf (rOUT_SPR_CTRL n) fOUT_SPR_CTRL_OVF_EV_EN fOUT_SPR_CTRL_OVF_EV).modOutp n
        (fun o => { o with ovfFrame := some f }))

/-- Sprite selection turns to frame `f`, with the figures of the frame before (R122; log entry 48). -/
def Dev.sprTurn (d : Dev) (n f : Nat) : Dev :=
  let o := d.outp n
  if o.sprFrame = some f then d
  else ((d.wr (rOUT_SPR_LOAD n) o.pkSpr).wr (rOUT_SPR_PEAK_COUNT n) o.pkCnt).setOutp n { o with pkSpr := 0, pkCnt := 0, sprFrame := some f }

/-- Sprite selection for line `l` of frame `f`, during line ℓ − 4 (R119 to R123). -/
def Dev.sprSelect (d : Dev) (n l f : Nat) : Dev :=
  let v := d.view n f
  let ha := (v.mode n).ha
  let all := sprRank ((v.outp n).spr.filter (fun e => e.onLine l))
  let kept := all.take 512
  let (draw, cost, fill) := sprBudgetCut ha (d.lineClocks n - 64) kept 0
  let d := d.sprDrops n l f (all.length - kept.length) fill
  d.modOutp n (fun o => { o with
    pkSpr := max o.pkSpr cost, pkCnt := max o.pkCnt all.length, sprSel := o.sprSel ++ [⟨l, f, draw, [], false, []⟩] })

/-- The planes rendered for line `l` during line ℓ − 3 (R120). -/
def Dev.sprRender (d : Dev) (n l f : Nat) : Dev :=
  match (d.outp n).sprSel.find? (fun x => x.line == l && x.frame == f) with
  | none => d
  | some x =>
    let v := d.view n f
    let rs := x.kept.map (fun e => v.sprRun n e l)
    let bad := ((x.kept.zip rs).filter (fun p => p.2.2.addrs.any d.peekUe)).map (·.1.plane)
    let d := d.touch (d.fetchMaster n) (rs.flatMap (fun r => r.2.addrs))
    let d := d.when (!bad.isEmpty) (·.raise (rOUT_SPR_STATUS n) fOUT_SPR_STATUS_LATE)
    d.modOutp n (fun o => { o with sprSel := o.sprSel.map (fun y =>
      if y.line == l && y.frame == f then { y with runs := rs.map (·.1), rendered := true, bad := bad } else y) })

/-! ### Sources that deliver a line -/

/-- A source's line put before the compositor. -/
def Dev.deliver (d : Dev) (n : Nat) (x : LineIn) : Dev := d.modOutp n (fun o => { o with ins := o.ins ++ [x] })

/-- Does the map entry at a map pixel carry ROT in a square slot (R105)? Outside a map that does not wrap there is no tile. -/
def Dev.rotAt (d : Dev) (c : Tile) (x y : Nat) : Bool :=
  if c.tw ≠ c.th ∨ c.tw = 0 ∨ (!c.wrapX ∧ c.mw * c.tw ≤ x) ∨ (!c.wrapY ∧ c.mh * c.th ≤ y) then false
  else
    let e := y / c.th % c.mh * c.mw + x / c.tw % c.mw
    natBit (natBits (d.mainOrZero (c.map + e / 2)) (if e % 2 = 0 then 24 else 0) 24) 2

/-- The cost of slot `t` on line `l` (R105); 0 when it is not visible. The line has ROT tiles when one of the T tiles from SCROLL_X on in
the map row of a visible layer is one (log entry 48). -/
def Dev.slotCost (v : Dev) (n t l : Nat) (fx : List Fx) : Nat :=
  let c := v.tile n t
  let run := v.slotRun n t l
  if run = 0 then 0
  else
    let ha := (v.mode n).ha
    let sx := fxValue fx t 0 l c.sx
    let sy := fxValue fx t 1 l c.sy
    let rot := !c.affine && (c.names.filter (fun k => v.layOn n k l && v.layKind n k == 1)).any (fun k =>
      let w := v.layWin n k
      (List.range (cdiv (w.clipW ha) (max c.tw 1) + 1)).any (fun i => v.rotAt c (sx + i * c.tw) (sy + (l - w.y))))
    tileCost c rot run

/-- One slot works its layers for line `l` (R84 to R105). `late` says that it misses its point. An uncorrectable word makes the layer stale that
needs it, and the slot's other layer is delivered: R102 speaks of the slot's layers, R372 of the line needing the word (DESIGN CHOICE, log
entry 56). -/
def Dev.tileSlot (d v : Dev) (n t l f : Nat) (fx : List Fx) (late : Bool) : Dev :=
  let c := v.tile n t
  c.names.foldl (fun d k =>
    if !v.layShows n k l ∨ v.layKind n k ≠ 1 then d
    else
      let line := v.tileLine n t fx (c.highEn && k == c.high) l
      let met := line.foldl (fun m x => m.join x.2) Met.none
      let bad := late || met.addrs.any d.peekUe
      let d := d.touch (d.fetchMaster n) met.addrs.eraseDups
      let d := d.when met.range (·.raise (rOUT_TL_STATUS n t) fOUT_TL_STATUS_RANGE)
      let d := d.when met.rot (·.raise (rOUT_TL_STATUS n t) fOUT_TL_STATUS_ROT_IGNORED)
      let d := d.when bad (·.raise (rOUT_TL_STATUS n t) fOUT_TL_STATUS_LATE)
      d.deliver n ⟨k, l, f, bad, line.map (·.1)⟩) d

/-- The tile engine turns to frame `f` with the peaks of the frame before (R105); the effects of that frame end (R104). -/
def Dev.tileTurn (d : Dev) (n f : Nat) : Dev :=
  let o := d.outp n
  if o.tileFrame = some f then d
  else
    let d := (List.range 16).foldl (fun d t => d.wr (rOUT_TL_LOAD n t) (o.pkTile.getD t 0)) d
    (d.wr (rOUT_TILE_LOAD n) o.pkTileAll).setOutp n
      { o with
        pkTile := List.replicate 16 0, pkTileAll := 0, fx := [], tileFrame := some f
        camOn := o.camKey }

/-- The tile engine during line ℓ − 3 (R102 to R105): it takes the SCROLL and AFFINE records of line `l` and works its slots in
ascending order. Past the budget, which slots are late is a free choice; the words fetched are free within the cost. A slot
that is not ready is left out of the sum of costs, and a layer invalid by its KIND alone is counted; values that records gave stay in force for
the later lines when line `l` is then replayed (both DESIGN CHOICE, log entry 56). -/
def Dev.tileStage (d : Dev) (n l f : Nat) : Dev :=
  let recs := (d.clu n).queue.filter (fun r => r.line == l && r.frame == f && (recType r.w0.toNat == 2 || recType r.w0.toNat == 3))
  let new := recs.map (fun r => let (t, p, x) := recFx r.w0.toNat r.w1.toNat; (⟨l, l, t, p, x⟩ : Fx))
  let d := d.modOutp n (fun o => { o with fx := o.fx ++ new })
  let v := d.view n f
  let fx := (d.outp n).fx
  let budget := 3000000000 / (d.outHz n * (d.mode n).v)
  let slots := (List.range 16).filter (fun t => v.slotUsed n t && v.slotReady n t && v.slotRun n t l != 0)
  let (d, _, all) := slots.foldl (fun (acc : Dev × Nat × Nat) t =>
    let (d, c, sum) := acc
    let cost := v.slotCost n t l fx
    let (late, d) := if c + cost ≤ budget then (false, d) else d.takeBool
    let (k, d) := d.takeNat
    let used := k % (cost + 1)
    let d := d.modOutp n (fun o => { o with pkTile := o.pkTile.set t (max (o.pkTile.getD t 0) used) })
    (d.tileSlot v n t l f fx late, c + cost, sum + used)) (d, 0, 0)
  d.modOutp n (fun o => { o with pkTileAll := max o.pkTileAll all })

/-- The bitmap fetchers start line `l` during line ℓ − 4 (R163). -/
def Dev.bitmapStage (d : Dev) (n l f : Nat) : Dev :=
  let v := d.view n f
  (List.range 32).foldl (fun d k =>
    if v.layKind n k = 4 ∧ v.layShows n k l then
      let b := v.bmp n k
      let w := v.layWin n k
      let as := bmpAddrs b w (l - w.y)
      let dots := (List.range (w.clipW (v.mode n).ha)).map (fun u => v.bmpDot (v.outp n).lut b w u (l - w.y))
      let d' := d.touch (d.fetchMaster n) as
      d'.deliver n ⟨k, l, f, as.any d.peekUe, dots⟩
    else d) d

/-! ### Cameras (R197 to R205) -/

/-- Fabric clocks of 1 ns in `n` units of TG0 phase. -/
def Dev.clocksOf (d : Dev) (n : Nat) : Nat := n * 1000000000 / (d.groupHz 0 * 2 ^ 24)

/-- The least margin of a port so far, with the margin of one window line (R205). -/
def Dev.camMargin (d : Dev) (c : Nat) (m : Int) : Dev := d.modCam c (fun x => { x with margin := min x.margin m })

/-- The margin of the window lines whose last source line has not come by the binding point (R205): they are late by more than the time since
their deadline, and how much more is free. -/
def Dev.camOwed (d : Dev) (c : Nat) : Dev :=
  (d.cam c).owed.foldl (fun d q =>
    let (k, d) := d.takeNat
    d.camMargin c (-((d.clocksOf (d.btu.e - q.1) + 1 + k : Nat) : Int))) d

/-- The binding point of port `c`, which serves layer `k` (R198). -/
def Dev.camBind (d : Dev) (n k c : Nat) : Dev :=
  let d := d.camOwed c
  let x := d.cam c
  let b := if x.fsNew then some x.frame else none
  let d := d.modOutp n (fun o => { o with binds := (k, b) :: o.binds.filter (fun p => p.1 != k) })
  let d := d.wr (rCAM_MARGIN c) (intToNat 24 (max (-8388608) (min 8388607 x.margin)))
  let d := d.modCam c (fun x => { x with
    fsNew := false, warp := d.rd (rCAM_WARP_BASE c), bound := b, low := 0, margin := 0x7FFFFF, owed := [] })
  if b.isSome then d
  else (d.bump (rCAM_MISS_CNT c) fCAM_MISS_CNT_COUNT).raise (rCAM_STATUS c) fCAM_STATUS_NO_FRAME

/-- The window of a CAMERA layer has been passed as the input comes to line `l`: its port needs no line of the bound frame any more. -/
def Dev.camPassed (d v : Dev) (n l : Nat) : Dev :=
  ((List.range 32).filter (fun k => v.layEn n k && v.layKind n k == 5 && d.inputLive.camServed (v.layCam n k) == some (n, k) &&
    decide (l = min ((v.layWin n k).y + (v.layWin n k).h) (v.mode n).va))).foldl
    (fun d k => d.modCam (v.layCam n k) (fun x => { x with low := 0x10000 })) d

/-- Window line `l − WIN_Y0` of a CAMERA layer during line ℓ − 3 (R199 to R205). The margin of a late line is known when its last source
line comes (R205). -/
def Dev.camWindow (d v : Dev) (n k l f : Nat) : Dev :=
  let c := v.layCam n k
  let w := v.layWin n k
  let y := l - w.y
  let on := d.awake (26 + c / 4) && !d.flag (rCAM_STATUS c) fCAM_STATUS_LOST
  match if on then (assocGet (d.outp n).binds k).getD none else none with
  | none => d.deliver n ⟨k, l, f, true, []⟩
  | some fr =>
    let (lo, hi) := d.camNeed c w y
    let x := d.cam c
    let have' := (List.range (hi + 1 - lo)).map (fun i => x.line fr (lo + i))
    let ok := have'.all (·.isSome)
    let d := d.modCam c (fun x => { x with low := lo })
    if !ok then
      let gone := ((List.range (hi + 1 - lo)).map (lo + ·)).filter (fun i => (x.line fr i).isNone)
      let d := (d.modCam c (fun x => { x with owed := x.owed ++ [(d.btu.e, fr, gone)] })).deliver n ⟨k, l, f, true, []⟩
      (d.bump (rCAM_UNDR_CNT c) fCAM_UNDR_CNT_COUNT).raise (rCAM_STATUS c) fCAM_STATUS_UNDERRUN
    else
      let at' := have'.foldl (fun m y => max m (y.elim 0 (·.at'))) 0
      let d := d.camMargin c (d.clocksOf (d.btu.e - at'))
      let grid := if d.flag (rCAM_WARP c) fCAM_WARP_WARP_EN then
        let i := y / d.camGy c
        (List.range (cdiv (d.camNx c w) 2)).flatMap (fun j =>
          [x.warp + i * cdiv (d.camNx c w) 2 + j, x.warp + (i + 1) * cdiv (d.camNx c w) 2 + j]) else []
      let grid := grid.filter (· < 0x1000000)
      let dots := (List.range (w.clipW (v.mode n).ha)).map (fun u => d.camDot (v.outp n).lut c fr w u y)
      let ue := grid.any d.peekUe
      let d := d.touch (0x20 + c) grid
      let d := d.when (dots.any (·.2)) (·.raise (rCAM_STATUS c) fCAM_STATUS_WARP_CLIP)
      d.deliver n ⟨k, l, f, ue, dots.map (·.1)⟩

/-! ### Remote layers (R452) -/

/-- A REMOTE layer of output `n` has bound a frame again: it is shown from line 0 of frame `f` (R455). -/
def Dev.remShown (d : Dev) (p n k f : Nat) : Dev :=
  d.modPort p (fun x => { x with down := x.down.map (fun q => if q.1 = 32 * n + k ∧ q.2.2 = none then (q.1, q.2.1, some f) else q) })

/-- The binding point of a REMOTE layer for frame `f`: the frame of the latest row 0 to have landed since the last one; none while the link is
down (R456). -/
def Dev.remBind (d v : Dev) (n k f : Nat) : Dev :=
  let p := v.remPort n k
  let s := v.remStream n k
  let seen := (assocGet (d.outp n).remAt k).getD 0
  let b := if d.linkUp p then (d.rx0.find? (fun r => r.port == p && r.stream == s && decide (seen < r.order))).map (·.frame) else none
  let now := d.rx0.foldl (fun m r => max m r.order) seen
  let d := d.modOutp n (fun o => { o with
    binds := (k, b) :: o.binds.filter (fun q => q.1 != k), remAt := (k, now) :: o.remAt.filter (fun q => q.1 != k) })
  if b.isSome then d.remShown p n k f else d

/-- Window line `l − WIN_Y0` of a REMOTE layer during line ℓ − 3. -/
def Dev.remWindow (d v : Dev) (n k l f : Nat) : Dev :=
  let p := v.remPort n k
  let s := v.remStream n k
  let w := v.layWin n k
  let y := l - w.y
  let cw := w.clipW (v.mode n).ha
  let late (d : Dev) : Dev :=
    ((d.bump (rWRN_RX_LATE_CNT p) fWRN_RX_LATE_CNT_COUNT).raise (rWRN_STATUS p) fWRN_STATUS_RX_LATE).deliver n ⟨k, l, f, true, []⟩
  let b := (assocGet (d.outp n).binds k).getD none
  if d.remHidden p n k f then d.deliver n ⟨k, l, f, false, List.replicate cw .clear⟩ else
  match b with
  | none => late d
  | some fr =>
    if d.rx.any (fun r => r.port == p && r.stream == s && r.frame == fr && decide (r.h ≤ y)) then
      d.deliver n ⟨k, l, f, false, List.replicate cw .clear⟩
    else
      match d.rx.find? (fun r => r.port == p && r.stream == s && r.frame == fr && r.row == y) with
      | none => late d
      | some r =>
        let m := min cw r.w
        d.deliver n ⟨k, l, f, false, d.remDots p s y m ++ List.replicate (cw - m) .clear⟩

/-- The camera and remote inputs during line ℓ − 3. -/
def Dev.inputStage (d : Dev) (n l f : Nat) : Dev :=
  let v := d.view n f
  (List.range 32).foldl (fun d k =>
    if !v.layShows n k l then d
    else if v.layKind n k = 5 then d.camWindow v n k l f
    else if v.layKind n k = 6 then d.remWindow v n k l f
    else d) d

/-- The binding points that fall on line `s` of frame `f` (R198, R452). -/
def Dev.bindStage (d : Dev) (n s f : Nat) : Dev :=
  let vm := (d.mode n).v
  let f' := (f + 1) % 2 ^ 24
  let at' (v : Dev) (k : Nat) (back : Bool) : Bool :=
    let y := (v.layWin n k).y
    v.layEn n k && !(v.layWin n k).empty && (v.layKind n k == 5 || v.layKind n k == 6) &&
      (if back then decide (y < 3 ∧ vm + y = s + 3) else decide (y = s + 3))
  let go (d v : Dev) (k g : Nat) : Dev :=
    if v.layKind n k = 6 then d.remBind v n k g
    else if d.inputLive.camServed (v.layCam n k) = some (n, k) then d.camBind n k (v.layCam n k) else d
  let d := ((List.range 32).filter (fun k => at' (d.view n f) k false)).foldl (fun d k => go d (d.view n f) k f) d
  ((List.range 32).filter (fun k => at' (d.view n f') k true)).foldl (fun d k => go d (d.view n f') k f') d

/-! ### The frame (R181, R227, R230, R234, R254) -/

/-- The streams of PIX cells as output `n` takes them at line 0 (R450). -/
def Dev.txAdopt (d : Dev) (n : Nat) : Dev :=
  let mine := ([0, 1, 2].flatMap (fun p => (List.range 32).map (fun s => (p, s)))).filter (fun q =>
    d.flag (rWRN_TX_CTRL q.1 q.2) fWRN_TX_CTRL_EN && d.fld (rWRN_TX_CTRL q.1 q.2) fWRN_TX_CTRL_OUT == n)
  let old (p s : Nat) : TxRow :=
    (d.tx.find? (fun t => t.port == p && t.stream == s)).getD ⟨p, s, n, [], 0, 0, 0, []⟩
  { d with tx := d.tx.filter (fun t => t.out != n) ++ mine.map (fun q =>
      { old q.1 q.2 with
        out := n
        win := [d.fld (rWRN_TX_CTRL q.1 q.2) fWRN_TX_CTRL_X0, d.rd (rWRN_TX_Y0 q.1 q.2), d.rd (rWRN_TX_W q.1 q.2),
          d.rd (rWRN_TX_H q.1 q.2)] }) }

/-- The rows of PIX streams sent during line `s`: those of line s + 1, if it was composed (R451). A row of the state before an applied keystone
carries the sequence of that state (R180). -/
def Dev.txSend (d : Dev) (n l f : Nat) : Dev :=
  match (d.outp n).fifo.find? (fun x => x.line == l && x.frame == f && x.kind == 0) with
  | none => d
  | some x =>
    let o := d.outp n
    let seq := (d.rd (rOUT_COMMIT_SEQ n) + (if o.prev.isSome && frameBefore f o.liveFrom then 2 ^ 24 - 1 else 0)) % 2 ^ 24
    let on (t : TxRow) : Bool := t.out == n && decide (t.win.getD 1 0 ≤ l ∧ l < t.win.getD 1 0 + t.win.getD 3 0)
    let d := { d with tx := d.tx.map (fun t =>
        if on t then
          { t with seq := seq, frame := f % 256, row := l - t.win.getD 1 0,
                   dots := (x.cd.drop (t.win.getD 0 0)).take (t.win.getD 2 0) }
        else t) }
    (d.tx.filter on).foldl Dev.rowSend d

/-- The output goes dark (R228). -/
def Dev.goDark (d : Dev) (n : Nat) : Dev :=
  let o := d.outp n
  let d := (d.clu n).progs.foldl (fun d p => d.lccGiveUp n p) d
  let d := d.modClu n (fun x => { x with queue := [], closed := [], tileTaken := none })
  let d := d.setOutp n { Outp.reset with
    spr := o.spr, sprNew := o.sprNew, sprBuild := o.sprBuild, lut := o.lut, lutNew := o.lutNew, lutCopy := o.lutCopy
    armFlag := o.armFlag, deferred := o.deferred, ovl := o.ovl, sigs := o.sigs, frame := o.frame, spareLock := o.spareLock
    valid := o.valid, fsBase := o.fsBase, exBase := o.exBase, degPipe := o.degPipe, degCore := o.degCore }
  let a := rOUT_STATUS n
  let d := ((d.setFld a fOUT_STATUS_LIT 0).setFld a fOUT_STATUS_DARK_FRAME 0).setFld a fOUT_STATUS_PORT_READY 0
  let d := (d.setSr n 0).setFld (rOUT_KEY_STATUS n) fOUT_KEY_STATUS_SUSPENDED 0
  let d := ((d.wr (rOUT_COMP_LOAD n) 0).wr (rOUT_SPR_LOAD n) 0).wr (rOUT_TILE_LOAD n) 0
  ((d.ttDrop n).figures n).slewShow.pipeDark n

/-- The PWM channel that a lit output has locked (R233). -/
def Outp.lockCh (o : Outp) : Option Nat :=
  if o.st = 3 ∧ natBit o.blCtrl 23 ∧ natBits o.blCtrl 9 10 ≠ 0 then some (natBits o.blCtrl 19 4) else none

/-- The backlight settings of output `n` taken up at its frame boundary (R234): of two outputs that lock one channel the higher
sets BL_CONFLICT (R233). -/
def Dev.blAdopt (d : Dev) (n : Nat) : Dev :=
  let was := (d.outp n).lockCh
  let d := d.modOutp n (fun o => { o with
    blDuty := d.lv (rOUT_BL_DUTY n) fOUT_BL_DUTY_DUTY, blCtrl := d.rd (rOUT_BL_CTRL n), blPhase := d.rd (rOUT_BL_PHASE n) })
  let now := (d.outp n).lockCh
  if now = was ∨ now = none then d
  else (((List.range 8).filter (fun k => k != n && (d.outp k).lockCh == now)).map (max n)).eraseDups.foldl
    (fun d k => d.raise (rOUT_STATUS k) fOUT_STATUS_BL_CONFLICT) d

/-- What the first clock of line 0 of frame `f` brings. -/
def Dev.frameStart (d : Dev) (n f : Nat) : Dev :=
  let o := d.outp n
  let cnt := d.rd (rOUT_FRAME_LO n) + d.rd (rOUT_FRAME_HI n) * 2 ^ 24 + 1
  let d := (d.wr (rOUT_FRAME_LO n) (cnt % 2 ^ 24)).wr (rOUT_FRAME_HI n) (cnt / 2 ^ 24 % 2 ^ 24)
  let d := d.when o.flip (fun d => (d.wr (rOUT_FLIP_BT_LO n) (d.bt % 2 ^ 24)).wr (rOUT_FLIP_BT_HI n) (d.bt / 2 ^ 24))
  let d := d.evRaise (12 + n)
  let ends (x : Option (Nat × Option Nat)) : Option (Nat × Option Nat) :=
    match x with
    | some (_, some b) => if b = f then none else x
    | x => x
  let ended := (ends o.sr).isNone && o.sr.isSome
  let hand := match o.hand with
    | some (_, _, some b) => if b = f then none else o.hand
    | x => x
  let refused := ended && d.suBand n && !d.suGood n && d.flag (rOUT_SR_CTRL n) fOUT_SR_CTRL_REQ
  let d := d.modOutp n (fun o => { o with
    flip := false
    darkFrame := if o.darkFrame == some f then o.darkFrame else none
    store := ends o.store
    sr := if ended then o.srNext.map (·, none) else ends o.sr
    srNext := if ended then none else o.srNext
    hand := hand
    link := if o.link = 3 then 0 else o.link })
  let d := d.blAdopt n
  let dark := (d.outp n).early || (d.outp n).darkFrame == some f
  let d := d.setFld (rOUT_STATUS n) fOUT_STATUS_DARK_FRAME dark.toNat
  let d := d.when refused (·.raise (rOUT_SR_STATUS n) fOUT_SR_STATUS_ENTER_REFUSED)
  let d := d.when ended (·.setSr n 0)
  let d := d.when (d.pipeState (d.pipeOf n) == 1 && !d.noPipe n && !dark && d.lineKind n 0 f == 0) (·.undegrade n)
  let d := d.when (covers (d.outp n).sr f && d.fld (rOUT_SR_STATUS n) fOUT_SR_STATUS_SR_STATE != 3) (·.setSr n 2)
  let d := d.when (d.flag (rOUT_COMP_CTRL n) fOUT_COMP_CTRL_SCAN_STORE && covers (d.outp n).store f)
    (·.setFld (rOUT_KEY_STATUS n) fOUT_KEY_STATUS_SUSPENDED 1)
  let d := (d.wr (rLCC_QPEAK n) (d.clu n).qNow).wr (rLCC_LOAD n) (d.clu n).cycNow
  let d := d.modClu n (fun x => { x with qNow := x.queue.length, cycNow := 0 })
  let d := d.modOutp n (fun o => { o with forced := d.flag (rOUT_SIG_CTRL n) fOUT_SIG_CTRL_FORCE_PRP })
  let d := ((d.ttAdopt n).sigLine0 (d.view n f) n).prpKeep n f
  let served := d.inputLive
  let d := (List.range 8).foldl (fun d c =>
    if (served.camServed c).elim false (fun q => q.1 == n) && d.flag (rCAM_CTRL c) fCAM_CTRL_EN
    then d.modCam c (fun x => { x with idle := min (x.idle + 1) 255 }) else d) d
  d.txAdopt n

/-! ### One line -/

/-- The line FIFO gives line `s` to the port (R23): the tap, the multiplexer and the checker. -/
def Dev.scanLine (d : Dev) (n s f : Nat) (chk : List Nat) : Dev :=
  let v := d.view n f
  let m := d.mode n
  let o := d.outp n
  let d := d.modOutp n (fun o => { o with fifo := o.fifo.filter (fun x => !(x.frame == f && decide (x.line ≤ s))) })
  if m.va ≤ s then d
  else if d.srHolds n s f then (d.tapLine v n s f none).modOutp n (fun o => { o with sent := none })
  else
    let (x, d) := match o.fifo.find? (fun x => x.line == s && x.frame == f) with
      | some x => (x, d)
      | none => ((⟨s, f, 3, List.replicate m.ha 0, []⟩ : LineOut), d.raise (rOUT_STATUS n) fOUT_STATUS_PORT_UNDERRUN)
    let d := d.tapLine v n s f (some x)
    let out := d.muxLine v n s x.px
    let d := d.prpLine v n s chk
    d.modOutp n (fun o => { o with sent := if 1 ≤ o.link ∧ o.link ≤ 3 then none else some { x with px := out } })

/-- The compositor turns to frame `f` with the peak of the frame before (R171); that frame's palette and alpha records end (R101, R144). -/
def Dev.compTurn (d : Dev) (n f : Nat) : Dev :=
  let o := d.outp n
  if o.compFrame = some f then d
  else (d.wr (rOUT_COMP_LOAD n) o.pkComp).setOutp n { o with pkComp := 0, palFx := [], alphaFx := [], compFrame := some f }

/-- A halted pipe renders no sprite plane (R120): LATE where a SPRITE layer is shown on the line. -/
def Dev.sprHalted (d : Dev) (n l f : Nat) : Dev :=
  let v := d.view n f
  d.when ((List.range 32).any (fun k => v.layKind n k == 2 && v.layShows n k l)) (·.raise (rOUT_SPR_STATUS n) fOUT_SPR_STATUS_LATE)

/-- The compositor for line `l` of frame `f`, in whichever way that line comes about. -/
def Dev.composeStage (d : Dev) (n l f : Nat) (stall : Bool) : Dev :=
  let d := d.compTurn n f
  let k := d.lineKind n l f
  let drop (d : Dev) : Dev := (d.lccTake n l f).2.2
  if k = 0 then d.composeLine n l f stall
  else if k = 1 then (drop d).replayLine n l f
  else if k = 2 then (drop d).fifoPut n ⟨l, f, 2, (d.view n f).bgLine n l f, []⟩
  else if k = 4 then (((drop d).sprHalted n l f).staleRecord n l f [] [] true).replayLine n l f
  else drop d

/-- Layers whose fetch the fabric has held past its point (R34, R120, R163): their line is stale. A tile layer is none of them: what the
fabric does falls inside the figure that R105 guarantees. -/
def Dev.holdBack (d : Dev) (n l f : Nat) (late : Nat) : Dev :=
  if late = 0 then d
  else
    let v := d.view n f
    let spr := (List.range 32).filter (fun k => natBit late k && v.layKind n k == 2)
    let planes := spr.flatMap (v.planesNaming n)
    let d := d.when (!planes.isEmpty) (·.raise (rOUT_SPR_STATUS n) fOUT_SPR_STATUS_LATE)
    d.modOutp n (fun o => { o with
      ins := o.ins.map (fun x => if x.line == l && x.frame == f && natBit late x.layer && v.layKind n x.layer != 1 then { x with stale := true } else x)
      sprSel := o.sprSel.map (fun x => if x.line == l && x.frame == f then { x with bad := x.bad ++ planes } else x) })

/-- Is a stage at work for line `l` of frame `f`: an active line that is composed? -/
def Dev.works (d : Dev) (n l f : Nat) : Bool := decide (l < (d.mode n).va) && d.lineKind n l f == 0

/-- What the first clock of line Va of frame `f` brings (R254, R256, R220): the telltales' sample, the checker and a link that stops there. -/
def Dev.blankBegins (d : Dev) (n f : Nat) : Dev :=
  let d := (d.ttSample n ((f + 1) % 2 ^ 24)).checkFrame n
  d.when ((d.outp n).link == 4) (·.modOutp n (fun o => { o with link := 2 }))

/-- Everything the first clock of line `s` of frame `f` brings, in order. -/
def Dev.lineWork (d : Dev) (n s f : Nat) (late : Nat) (stall : Bool) (chk : List Nat) : Dev :=
  let m := d.mode n
  let d := d.when (s == 0) (·.frameStart n f)
  let d := d.when (s == m.va) (·.blankBegins n f)
  let d := d.when (decide (s + d.keyK n = m.v) && (d.outp n).keyed != some f) (·.keystone n f)
  let (l2, f2) := d.ahead n s f 2
  let (l3, f3) := d.ahead n s f 3
  let (l4, f4) := d.ahead n s f 4
  let d := d.lccWindowEnd n l2 f2
  let d := d.when (decide (l2 < m.va)) (fun d => (d.holdBack n l2 f2 late).composeStage n l2 f2 stall)
  let d := d.when (decide (l3 < m.va)) (fun d => (d.tileTurn n f3).modClu n (fun x => { x with tileTaken := some (l3, f3) }))
  let d := (d.bindStage n s f).camReport d.inputLive n
  let d := d.when (decide (l4 < m.va)) (·.sprTurn n f4)
  let d := d.camPassed (d.view n f3) n l3
  let d := d.when (d.works n l3 f3) (fun d => ((d.tileStage n l3 f3).inputStage n l3 f3).sprRender n l3 f3)
  let d := d.when (d.works n l4 f4) (fun d => (d.sprSelect n l4 f4).bitmapStage n l4 f4)
  let lead := d.lccLead n
  let (ls, fs) := d.ahead n s f lead
  let passed := (d.outp n).keyed == some f
  let starts := d.lccEn n && decide (ls < m.va) && !(passed && fs == f) &&
    (d.lineKind n ls fs == 0 || d.lineKind n ls fs == 4)
  let d := d.when starts (·.lccStart n ls fs false)
  let d := d.txSend n (d.ahead n s f 1).1 (d.ahead n s f 1).2
  d.scanLine n s f chk

/-- After a step taken with outputs lit (R571): work for lines passed over is discarded, and the two lines whose composition is
past their point are replayed as compositor-late. -/
def Dev.stepOver (d : Dev) (n l f : Nat) : Dev :=
  let before (x g : Nat) : Bool := frameBefore g f || (g == f && decide (x < l))
  let late (x g : Nat) : Bool := frameBefore g f || (g == f && decide (x ≤ l + 1))
  let gone := (d.clu n).progs.filter (fun p => before p.line p.frame)
  let d := gone.foldl (fun d p => d.lccGiveUp n p) d
  let d := d.modClu n (fun x => { x with
    queue := x.queue.filter (fun r => !before r.line r.frame)
    closed := x.closed.filter (fun y => !before y.2.1 y.1) })
  let d := d.modOutp n (fun o => { o with
    stepped := false
    ins := o.ins.filter (fun x => !late x.line x.frame)
    sprSel := o.sprSel.filter (fun x => !late x.line x.frame)
    fifo := o.fifo.filter (fun x => !before x.line x.frame) })
  let due := ((d.clu n).progs.filter (fun p => late p.line p.frame)).map (fun p => (p.line, p.frame))
  let d := due.foldl (fun d p => d.lccWindowEnd n p.1 p.2) d
  [l, l + 1].foldl (fun d x =>
    if d.works n x f && !((d.outp n).fifo.any (fun y => y.line == x && y.frame == f)) then
      (((d.lccTake n x f).2.2.sprHalted n x f).staleRecord n x f [] [] true).replayLine n x f
    else d) d

/-- What the lines passed over between line `l0` of frame `f0` and line `l` of frame `f` do to what is seen line by line (R571): the regions of
the tap, and where line Va of the frame before `f` is among them, or of `f` itself where no frame boundary is, what that line brings. -/
def Dev.stepSample (d : Dev) (n l0 f0 l f : Nat) : Dev :=
  let va := (d.mode n).va
  let d := if f = f0 then d.sigPassed n f (l0 + 1) (min l va) else (d.sigPassed n f0 (l0 + 1) va).sigPassed n f 0 (min l va)
  if f = f0 then d.when (decide (l0 < va ∧ va < l)) (·.blankBegins n f)
  else d.when (decide (l0 < va) || f != (f0 + 1) % 2 ^ 24) (·.blankBegins n ((f + 2 ^ 24 - 1) % 2 ^ 24))

/-- The scan position of output `n` reaches its next line (R44). After a step the line in scan runs to its end, and the line that R44 gives
there follows (R571). -/
def Dev.lineBoundary (d : Dev) (n late : Nat) (stall : Bool) (chk : List Nat) : Dev :=
  let o := d.outp n
  if o.st ≠ 3 then d
  else
    let m := d.mode n
    if o.stepped then
      if (d.btu.e / 2 ^ 24 + 1) * 2 ^ 24 - 1 < o.stepEnd then d else
      let d := (d.advanceTo o.stepEnd).spareSwitch n
      let (l, _) := posOf m (d.outPhase n)
      let f := d.outFrame44 n
      let d := d.modOutp n (fun o => { o with line := l, frame := f })
      if o.offPending && f != o.frame then d.goDark n
      else
        let d := d.stepSample n o.line o.frame l f
        let d := d.stepOver n l f
        let d := d.when (f != o.frame && l != 0) (·.frameStart n f)
        let d := d.when (f != o.frame && decide ((d.mode n).va < l)) (·.blankBegins n f)
        d.lineWork n l f late stall chk
    else
      let (l, f) := d.ahead n o.line o.frame 1
      let (ok, d) := d.advanceToLine n l f
      if !ok then d
      else
        let d := d.spareSwitch n
        let d := d.modOutp n (fun o => { o with line := l, frame := f })
        if o.offPending && l == 0 then d.goDark n else d.lineWork n l f late stall chk

/-! ### The commands -/

end Sys2Proof.Machine
end

