-- ==== Sys2Proof/Machine/Outputs.lean ====
section
/-! DEFINITION. Outputs, ports and pipes (chapter 9): lighting and turning dark, the eDP link, self-refresh, retirement of
pipes. -/

namespace Sys2Proof.Machine

/-! ### What R226 checks -/

/-- The pixel rate of a mode at `hz` frames a second (R215). -/
def Mode.rate (m : Mode) (hz : Nat) : Nat := m.h * m.v * hz

/-- Bits per pixel in sixteenths (R219, R222). -/
def Dev.bpp16 (d : Dev) (n : Nat) : Nat :=
  if d.flag (rOUT_DSC n) fOUT_DSC_EN then d.fld (rOUT_DSC n) fOUT_DSC_BPP else 48 * d.depth n

/-- The kind of a port code (R212): 0 none or reserved, 1 eDP, 2 DSI, 3 LVDS. -/
def portKind (p : Nat) : Nat :=
  if 1 ≤ p ∧ p ≤ 4 then 1 else if 5 ≤ p ∧ p ≤ 8 then 2 else if p = 9 ∨ p = 10 then 3 else 0

def Dev.outPort (d : Dev) (n : Nat) : Nat := d.fld (rOUT_CTRL n) fOUT_CTRL_PORT

/-- eDP lane rates in Mb/s. -/
def edpRate (code : Nat) : Nat := [1620, 2700, 5400, 8100, 2160, 2430, 3240, 4320].getD code 0

/-- Does the output exceed its link (R219, R222, R223)? -/
def Dev.linkExceeded (d : Dev) (n rate : Nat) : Bool :=
  let bits := rate * d.bpp16 n
  match portKind (d.outPort n) with
  | 1 =>
    let l := d.fld (rOUT_EDP n) fOUT_EDP_LANES
    l != 3 && decide (792 * 16 * 2 ^ l * edpRate (d.fld (rOUT_EDP n) fOUT_EDP_RATE) * 1000 < bits)
  | 2 =>
    let l := d.fld (rOUT_DSI n) fOUT_DSI_LANES + 1
    let lr := d.fld (rOUT_DSI n) fOUT_DSI_LANE_RATE
    if d.fld (rOUT_DSI n) fOUT_DSI_VMODE < 2 then
      decide (bits < 80 * 1000000 * 16 * l ∨ 4500 * 1000000 * 16 * l < bits)
    else decide (lr < 80 ∨ 4500 < lr ∨ 95 * 16 * l * lr * 1000000 < bits * 100)
  | 3 =>
    let k := if d.flag (rOUT_LVDS n) fOUT_LVDS_DUAL then 2 else 1
    decide (rate < 20000000 * k ∨ 112000000 * k < rate)
  | _ => false

/-- Does the port refuse the depth, the DSC settings or the lane count (R217, R225)? -/
def Dev.formatRefused (d : Dev) (n : Nat) (m : Mode) : Bool :=
  let k := portKind (d.outPort n)
  let dd := d.depth n
  let dsc := d.flag (rOUT_DSC n) fOUT_DSC_EN
  let bpp := d.fld (rOUT_DSC n) fOUT_DSC_BPP
  let sl := 2 ^ d.fld (rOUT_DSC n) fOUT_DSC_SLICES
  let sh := d.fld (rOUT_DSC n) fOUT_DSC_SLICE_H
  (k == 1 && d.fld (rOUT_EDP n) fOUT_EDP_LANES == 3) ||
  (!dsc && ((k == 2 && dd == 12) || (k == 3 && decide (8 < dd)))) ||
  (dsc && (k == 3 || !(dd == 8 || dd == 10) ||
    decide (bpp < 128 ∨ 24 * dd < bpp ∨ m.ha % sl ≠ 0 ∨ 2560 < m.ha / sl ∨ sh = 0 ∨ m.va % (max sh 1) ≠ 0)))

/-- The words of an output's frame store and of its exact planes (R182, R184). -/
def Dev.storeWords (d : Dev) (n : Nat) : Nat × Nat :=
  ((d.mode n).va * fsPitch (d.mode n).ha, ((List.range 8).map (d.exactWords n)).foldl (· + ·) 0)

/-- Do the exact rectangles obey R184 in a raster? -/
def Dev.exactGood (d : Dev) (n : Nat) (m : Mode) : Bool :=
  let rs := ((List.range 8).map (d.exactRect n)).filter (fun r => !r.empty)
  let apart (a b : Win) : Bool := decide (a.x + a.w ≤ b.x ∨ b.x + b.w ≤ a.x ∨ a.y + a.h ≤ b.y ∨ b.y + b.h ≤ a.y)
  rs.all (fun r => decide (r.x + r.w ≤ m.ha ∧ r.y + r.h ≤ m.va)) &&
    (List.range rs.length).all (fun i => (List.range i).all (fun j =>
      apart (rs.getD i ⟨0, 0, 0, 0⟩) (rs.getD j ⟨0, 0, 0, 0⟩))) &&
    decide ((rs.map (fun r => r.w * r.h)).foldl (· + ·) 0 ≤ 262144)

/-- Has output `n` no working pipe (R226 cause 0xA, R236)? -/
def Dev.pipeless (d : Dev) (n : Nat) : Bool :=
  let p := d.pipeOf n
  let spare := d.pipeState 8 == 0
  if p = 8 then !(spare || (d.pipeState 8 == 1 && d.fld (rPIPE_STATUS 8) fPIPE_STATUS_OUT == n))
  else d.pipeState p == 3 && !spare

/-- The lowest cause that refuses to light output `n` (R226, R185); 0 when none does. -/
def Dev.refuseCause (d : Dev) (n : Nat) : Nat :=
  let others := (List.range 8).filter (fun k => k != n && (d.outp k).st != 0)
  let port := d.outPort n
  match d.outMode n with
  | none => 1
  | some m =>
    let rate := m.rate (d.outHz n)
    let sum (f : Nat → Nat) : Nat := (others.map f).foldl (· + ·) 0
    let st := d.storeWords n
    if portKind port = 0 ∨ others.any (fun k => d.outPort k == port) then 2
    else if 1200000000 < rate then 3
    else if 4800000000 < rate + sum (fun k => (d.mode k).rate (d.outHz k)) then 4
    else if 40000000 < m.ha * m.va + sum (fun k => (d.mode k).ha * (d.mode k).va) then 5
    else if d.linkExceeded n rate then 6
    else if d.formatRefused n m then 7
    else if !d.exactGood n m ∨ 10 * 1048576 < st.1 + sum (fun k => (d.storeWords k).1) ∨
        1048576 < st.2 + sum (fun k => (d.storeWords k).2) then 8
    else if d.pipeless n then 10
    else 0

/-! ### Lighting (R226 to R228) -/

/-- Lighting is refused: the cause is written, and a reply that awaits the lighting is sent (R226, R341). -/
def Dev.lightRefuse (d : Dev) (n cause : Nat) : Dev :=
  let d := d.modOutp n (fun o => { o with st := 0 })
  let d := (d.setFld (rOUT_STATUS n) fOUT_STATUS_REFUSE_CAUSE cause).setFld (rOUT_STATUS n) fOUT_STATUS_PORT_READY 0
  let d := d.raise (rOUT_STATUS n) fOUT_STATUS_LIGHT_REFUSED
  let d := d.when (cause == 8) (·.raise (rOUT_COMP_STATUS n) fOUT_COMP_STATUS_CFG_REFUSED)
  d.complete 3 n 0x405 cause []

/-- The pipe of an output that begins to light: PIPE8 where its own is retired (R236, R486). -/
def Dev.lightPipe (d : Dev) (n : Nat) : Dev :=
  let p := d.pipeOf n
  if p = 8 ∨ d.pipeState p = 3 then ((d.setPipe 8 1 n).setFld (rOUT_PIPE n) fOUT_PIPE_PIPE 8) else d

/-- Lighting starts, or is refused (R226). -/
def Dev.lightStart (d : Dev) (n : Nat) : Dev :=
  match d.refuseCause n with
  | 0 =>
    let d := d.lightPipe n
    let d := d.wake (d.outPier n)
    let d := d.wake (if portKind (d.outPort n) = 3 then 37 else 36)
    d.modOutp n (fun o => { o with st := 1 })
  | c => d.lightRefuse n c

/-- LIGHT written 1. While T0 has no image to run, no output lights but those that the parapet lights early (R496). -/
def Dev.lightOn (d : Dev) (n : Nat) : Dev :=
  let o := d.outp n
  if d.pwr.stage = 4 ∧ !o.early then d
  else if o.st = 0 then d.lightStart n
  else if o.st = 3 ∧ o.offPending then d.modOutp n (fun o => { o with offPending := false })
  else d

/-- LIGHT written 0 (R228). -/
def Dev.lightOff (d : Dev) (n : Nat) : Dev :=
  let o := d.outp n
  if o.st = 3 then d.modOutp n (fun o => { o with offPending := true })
  else if o.st = 0 then d
  else
    let d := d.modOutp n (fun o => { o with st := 0 })
    (d.lightFree n).setFld (rOUT_STATUS n) fOUT_STATUS_PORT_READY 0

/-- A write that would change fields guarded by R213 in the register at `a`: the value that lands, `mask` being the guarded bits. -/
def Dev.guarded (d : Dev) (n a mask v : Nat) : Nat × Dev :=
  let old := d.rd a
  if (d.outp n).st ≠ 0 ∧ old &&& mask ≠ v &&& mask then
    ((v &&& (0xFFFFFF ^^^ mask)) ||| (old &&& mask), d.raise (rOUT_STATUS n) fOUT_STATUS_MAP_REFUSED)
  else (v, d)

/-- A write of OUTn_CTRL (R213, R226, R228). -/
def Dev.outCtrlWrite (d : Dev) (n v : Nat) : Dev :=
  let v := v &&& 0x9F3F00
  let (v, d) := d.guarded n (rOUT_CTRL n) 0x1F3F00 v
  let d := d.wr (rOUT_CTRL n) v
  if natBit v 23 then d.lightOn n else d.lightOff n

/-- A write of OUTn_EDP, OUTn_DSI, OUTn_LVDS or OUTn_DSC (R213); `mask` are the register's fields. -/
def Dev.outPortWrite (d : Dev) (n a mask v : Nat) : Dev :=
  let (v, d) := d.guarded n a mask (v &&& mask)
  d.wr a v

/-- The port is ready (R226); an eDP sink's PSR (bit 0) and PSR2 (bit 1) capability and its Y granularity are read (R229, R232). -/
def Dev.portReady (d : Dev) (n psr gran : Nat) : Dev :=
  if (d.outp n).st = 1 then
    (d.modOutp n (fun o => { o with st := 2, psr := psr, psrGran := max gran 1 })).setFld (rOUT_STATUS n)
      fOUT_STATUS_PORT_READY 1
  else d

/-- The output lights in frame `f`: the dark frame begins, its first two lines already in the line FIFO (R226, R227, R182).
Its telltales are sampled as it lights. -/
def Dev.lightNow (d : Dev) (n f : Nat) : Dev :=
  let early := (d.outp n).early
  let d := d.modOutp n (fun o => { o with
    st := 3, offPending := false, line := 0, frame := f, darkFrame := some f, liveFrom := 0, prev := none
    fsBase := d.rd (rOUT_FS_BASE n), exBase := d.rd (rOUT_EX_BASE n), valid := [], early := early
    store := if d.flag (rOUT_COMP_CTRL n) fOUT_COMP_CTRL_SCAN_STORE then some ((f + 1) % 2 ^ 24, none) else none })
  let d := (d.setFld (rOUT_STATUS n) fOUT_STATUS_LIT 1).slewShow
  let d := (d.wr (rOUT_FRAME_LO n) 0).wr (rOUT_FRAME_HI n) 0
  let d := d.pixLock (d.pipeOf n) true
  let d := (d.figures n).ttSample n f
  let d := [0, 1].foldl (fun d l => d.fifoPut n ⟨l, f, 2, (d.view n f).bgLine n l f, []⟩) d
  (d.lineWork n 0 f 0 false []).complete 3 n 0 0 []

/-- The output lights at its next frame boundary once its port is ready. -/
def Dev.lights (d : Dev) (n : Nat) : Dev :=
  if (d.outp n).st ≠ 2 then d
  else if d.outPhase n = 0 then d.lightNow n (d.outFrame44 n % 2 ^ 24)
  else
    let f := (d.outFrame44 n + 1) % 2 ^ 24
    let (ok, d) := d.advanceToLine n 0 f
    if ok then d.lightNow n f else d

/-- PORT_READY has not come within 100 ms (R226 cause 0x9). -/
def Dev.lightTimeout (d : Dev) (n : Nat) : Dev := if (d.outp n).st = 1 then (d.lightRefuse n 9).lightFree n else d

/-- The frame boundary at which a pending turn-dark takes place (R228); a switch to PIPE8 that has locked is made there as well (R237). -/
def Dev.goesDark (d : Dev) (n : Nat) : Dev :=
  let o := d.outp n
  if o.st ≠ 3 ∨ !o.offPending then d
  else if d.outPhase n = 0 then (d.spareSwitch n).goDark n
  else
    let (ok, d) := d.advanceToLine n 0 ((d.outFrame44 n + 1) % 2 ^ 24)
    if ok then (d.spareSwitch n).goDark n else d

/-! ### The eDP link (R220) -/

def Dev.isEdp (d : Dev) (n : Nat) : Bool := portKind (d.outPort n) == 1

def Dev.hpdLoss (d : Dev) (n : Nat) : Dev :=
  if (d.outp n).st = 3 ∧ d.isEdp n then
    (d.modOutp n (fun o => { o with link := 1 })).raise (rOUT_STATUS n) fOUT_STATUS_LINK_LOST
  else d

def Dev.retrain (d : Dev) (n k : Nat) : Dev :=
  (d.modOutp n (fun o => { o with link := k })).bump (rOUT_RETRAIN_CNT n) fOUT_RETRAIN_CNT_COUNT

def Dev.hpdReturn (d : Dev) (n : Nat) : Dev :=
  if (d.outp n).st = 3 ∧ (d.outp n).link = 1 then d.retrain n 2 else d

/-- IRQ_HPD: when a lane has lost lock, video stops from line Va and the port retrains. A port that has trained and whose video has not
resumed yet trains again. -/
def Dev.irqHpd (d : Dev) (n : Nat) (lost : Bool) : Dev :=
  let o := d.outp n
  if o.st ≠ 3 ∨ !d.isEdp n ∨ !lost then d
  else if o.link = 0 then d.retrain n (if o.line < (d.mode n).va then 4 else 2)
  else if o.link = 3 then d.retrain n 2
  else d

def Dev.retrainDone (d : Dev) (n : Nat) : Dev :=
  if (d.outp n).st = 3 ∧ (d.outp n).link = 2 then d.modOutp n (fun o => { o with link := 3 }) else d

/-! ### Self-refresh (R229 to R232) -/

/-- Does MODE suit the port and the sink (R229)? -/
def Dev.srSuits (d : Dev) (n : Nat) : Bool :=
  let o := d.outp n
  match d.fld (rOUT_SR_CTRL n) fOUT_SR_CTRL_MODE with
  | 1 => d.isEdp n && natBit o.psr 0
  | 2 => d.isEdp n && natBit o.psr 1 && (!d.suBand n || d.suGood n)
  | 3 => portKind (d.outPort n) == 2 && d.fld (rOUT_DSI n) fOUT_DSI_VMODE == 3
  | _ => false

/-- Entry requested (R229, R230): the last frame sent in full is the present one before its keystone point, the next one after. -/
def Dev.srEnter (d : Dev) (n : Nat) : Dev :=
  let o := d.outp n
  if o.st ≠ 3 ∨ o.sr.isSome ∨ o.srBlocked then d
  else if !d.srSuits n then d.raise (rOUT_SR_STATUS n) fOUT_SR_STATUS_ENTER_REFUSED
  else
    let k := if o.keyed = some o.frame then 2 else 1
    d.modOutp n (fun o => { o with sr := some ((o.frame + k) % 2 ^ 24, none) })

/-- REQ becomes 1 while an exit is under way (R230, R231): the frame that the exit composes is the last sent in full, and self-refresh follows it.
That a request before the exit's own keystone point leaves the exit standing is DEDUCED (log entry 56). -/
def Dev.srReenter (d : Dev) (n : Nat) : Dev :=
  let o := d.outp n
  let next : Option Nat := match o.sr with
    | some (_, some b) => some ((b + 1) % 2 ^ 24)
    | some (_, none) =>
      if d.fld (rOUT_SR_STATUS n) fOUT_SR_STATUS_SR_STATE = 3 then some ((o.frame + (if o.keyed = some o.frame then 3 else 2)) % 2 ^ 24)
      else none
    | none => none
  if o.st ≠ 3 ∨ next.isNone ∨ o.srBlocked then d
  else if !d.srSuits n then d.raise (rOUT_SR_STATUS n) fOUT_SR_STATUS_ENTER_REFUSED
  else d.modOutp n (fun o => { o with srNext := next })

/-- Exit (R231): at the next keystone point, which is evaluated; a request whose last frame has not come is withdrawn. A band
ends with the frame after that point. -/
def Dev.srExit (d : Dev) (n : Nat) : Dev :=
  let o := d.outp n
  match o.sr with
  | some (a, none) =>
    let k := if o.keyed = some o.frame then 2 else 1
    let b := (o.frame + k) % 2 ^ 24
    if d.suBand n then
      if frameBefore a b then (d.modOutp n (fun o => { o with sr := some (a, some b) })).setSr n 3
      else d.modOutp n (fun o => { o with sr := none })
    else if d.fld (rOUT_SR_STATUS n) fOUT_SR_STATUS_SR_STATE = 0 then d.modOutp n (fun o => { o with sr := none })
    else d.setSr n 3
  | _ => d

/-- A write of OUTn_SR_CTRL. -/
def Dev.srCtrlWrite (d : Dev) (n v : Nat) : Dev :=
  let rise := natBit v 23 && !d.flag (rOUT_SR_CTRL n) fOUT_SR_CTRL_REQ
  let d := d.wr (rOUT_SR_CTRL n) (v &&& 0xF00000)
  if natBit v 23 then (d.when rise (·.srReenter n)).srEnter n
  else (d.srExit n).modOutp n (fun o => { o with srBlocked := false, srNext := none })

/-- The lines on which the parapet draws otherwise than in the frame before (R259): in this frame, or in the next as its telltales stand. -/
def Dev.prpChanged (d : Dev) (n : Nat) : List Nat :=
  let o := d.outp n
  let v := d.view n o.frame
  let e := if d.prp.next.any (fun x => natBits x.w0 44 3 == n) then d else d.ttSample n ((o.frame + 1) % 2 ^ 24)
  let e := (e.modOutp n (fun o => { o with forced := d.flag (rOUT_SIG_CTRL n) fOUT_SIG_CTRL_FORCE_PRP })).ttAdopt n
  d.prpMoved n ++ d.shotDiffer n (d.prpShot v n) (e.prpShot v n)

/-- Entry into self-refresh has begun in this very clock and is abandoned (R237): the keystone point of the last frame is evaluated after
all, and the program of the next frame's first line starts. -/
def Dev.srAbandon (d : Dev) (n : Nat) : Dev :=
  let o := d.outp n
  let d := (d.modOutp n (fun o => { o with sr := none })).setSr n 0
  let d := (d.setFld (rOUT_KEY_STATUS n) fOUT_KEY_STATUS_SUSPENDED 0).keyEvaluate n o.frame
  d.when (d.lccEn n && d.lccLead n == d.keyK n) (·.lccStart n 0 ((o.frame + 1) % 2 ^ 24) false)

/-- The parapet changes what it draws on the lines `ls` of the output (R231, R232, R237, R259). Inside a band the change goes out. -/
def Dev.parapetChange (d : Dev) (n : Nat) (ls : List Nat) : Dev :=
  let o := d.outp n
  let y := d.lv (rOUT_SR_SU n) fOUT_SR_SU_SU_Y0
  let out := !d.suBand n || ls.any (fun l => !decide (y ≤ l ∧ l < y + d.lv (rOUT_SR_SU n) fOUT_SR_SU_SU_H))
  let st := d.fld (rOUT_SR_STATUS n) fOUT_SR_STATUS_SR_STATE
  let held : Bool := match o.sr with
    | some (_, none) => out && st != 0
    | _ => false
  if o.st = 3 ∧ !ls.isEmpty ∧ held ∧ d.flag (rOUT_SR_CTRL n) fOUT_SR_CTRL_PRP_EXIT then
    let d := if st = 1 ∧ o.srAt = d.now then d.srAbandon n else d.srExit n
    (d.raise (rOUT_SR_STATUS n) fOUT_SR_STATUS_PRP_EXITED).modOutp n (fun o => { o with srBlocked := true })
  else d

/-- The parapet says that it changes what it draws: every line where it does, or those of the band alone where `inBand` says so. -/
def Dev.parapetSays (d : Dev) (n : Nat) (inBand : Bool) : Dev :=
  let y := d.lv (rOUT_SR_SU n) fOUT_SR_SU_SU_Y0
  d.parapetChange n ((d.prpChanged n).filter (fun l => !inBand || decide (y ≤ l ∧ l < y + d.lv (rOUT_SR_SU n) fOUT_SR_SU_SU_H)))

/-- The scan position has left the bound of R45 (R216): PLL_LOCK reads 0 until the PLL has been steered back (PLL_RELOCK). -/
def Dev.posErr (d : Dev) (n : Nat) : Dev :=
  if (d.outp n).st = 3 then
    let d := d.setFld (rPIPE_STATUS (d.pipeOf n)) fPIPE_STATUS_PLL_LOCK 0
    (d.raise (rOUT_STATUS n) fOUT_STATUS_POS_ERR).reportUnit 0x03 0x05 (d.pipeOf n)
  else d

/-! ### The commands -/

def execLightOnWrite (out : Fin 8) (value : Reg) (s : State) := s.upd (·.outCtrlWrite out (value.toNat ||| 0x800000))

def execLightOffWrite (out : Fin 8) (value : Reg) (s : State) := s.upd (·.outCtrlWrite out (value.toNat &&& 0x7FFFFF))

def execPortReady (out : Fin 8) (psr : BitVec 2) (gran : Nat) (s : State) := s.upd (·.portReady out psr.toNat gran)

def execLightTimeout (out : Fin 8) (s : State) := s.upd (·.lightTimeout out)

def execOutputGoesDark (out : Fin 8) (s : State) := s.upd (·.goesDark out)

def execHpdLoss (out : Fin 8) (s : State) := s.upd (·.hpdLoss out)

def execHpdReturn (out : Fin 8) (s : State) := s.upd (·.hpdReturn out)

def execIrqHpd (out : Fin 8) (lost : Bool) (s : State) := s.upd (·.irqHpd out lost)

def execEdpRetrainDone (out : Fin 8) (s : State) := s.upd (·.retrainDone out)

def execSrReqWrite (out : Fin 8) (value : Reg) (s : State) := s.upd (·.srCtrlWrite out value.toNat)

def execParapetChangeExit (out : Fin 8) (inBand : Bool) (s : State) := s.upd (·.parapetSays out inBand)

def execPipeRetire (pipe : Fin 8) (s : State) := s.upd (fun d => (d.pipeRetire pipe).fltShow)

def execSparePipeRetire (s : State) := s.upd Dev.spareRetire

def execSparePipeLocked (s : State) := s.upd Dev.spareLocked

def execPositionError (out : Fin 8) (s : State) := s.upd (·.posErr out)

end Sys2Proof.Machine
end

