-- ==== Sys2Proof/Machine/Cameras.lean ====
section
/-! DEFINITION. Camera ports (chapter 8): packets, virtual channels, landing lines, the ring and loss of stream. -/

namespace Sys2Proof.Machine

/-! ### Pixels (R193, R194). The byte orders are those of MIPI CSI-2 (log entry 13). -/

/-- A component of 5, 6 or 8 bits stored at 8 bits by bit replication, taken as 10 bits. -/
def camWiden (w v : Nat) : Nat :=
  widen10 (if w = 5 then v * 8 + v / 4 else if w = 6 then v * 4 + v / 16 else v) 8

/-- Three 10-bit components of a stored pixel. -/
def camPixel (a b c : Nat) : Nat := a * 2 ^ 20 + b * 2 ^ 10 + c

/-- YUV422 8-bit: U, Y, V, Y. Each dot takes its pair's U and V (R201). -/
def yuv8 : List Nat → List Nat
  | u :: y0 :: v :: y1 :: t =>
    camPixel (camWiden 8 y0) (camWiden 8 u) (camWiden 8 v) :: camPixel (camWiden 8 y1) (camWiden 8 u) (camWiden 8 v) :: yuv8 t
  | _ => []

/-- YUV422 10-bit: four bytes of high bits, then one of the four low pairs. -/
def yuv10 : List Nat → List Nat
  | u :: y0 :: v :: y1 :: l :: t =>
    let c (b k : Nat) : Nat := b * 4 + natBits l (2 * k) 2
    camPixel (c y0 1) (c u 0) (c v 2) :: camPixel (c y1 3) (c u 0) (c v 2) :: yuv10 t
  | _ => []

/-- RGB565: low byte first, blue lowest. -/
def rgb565 : List Nat → List Nat
  | a :: b :: t =>
    let w := a + b * 256
    camPixel (camWiden 5 (natBits w 11 5)) (camWiden 6 (natBits w 5 6)) (camWiden 5 (natBits w 0 5)) :: rgb565 t
  | _ => []

/-- RGB888: blue, green, red. -/
def rgb888 : List Nat → List Nat
  | b :: g :: r :: t => camPixel (camWiden 8 r) (camWiden 8 g) (camWiden 8 b) :: rgb888 t
  | _ => []

/-- The data type a format stores (R193). -/
def camType (fmt : Nat) : Nat := [0x1E, 0x1F, 0x22, 0x24].getD fmt 0

/-- The payload bytes of a line of `sw` pixels. -/
def camBytes (fmt sw : Nat) : Nat := if fmt = 0 then 2 * sw else if fmt = 1 then sw * 5 / 2 else if fmt = 2 then 2 * sw else 3 * sw

def camPixels (fmt : Nat) (bytes : List Nat) : List Nat :=
  if fmt = 0 then yuv8 bytes else if fmt = 1 then yuv10 bytes else if fmt = 2 then rgb565 bytes else rgb888 bytes

/-! ### Virtual channels (R195) -/

def Dev.camFmt (d : Dev) (c : Nat) : Nat := d.fld (rCAM_CTRL c) fCAM_CTRL_FORMAT
def Dev.camVc (d : Dev) (c : Nat) : Nat := d.fld (rCAM_CTRL c) fCAM_CTRL_VC_SEL

/-- Does the port take packets: enabled, its pier ON? -/
def Dev.camOn (d : Dev) (c : Nat) : Bool := d.flag (rCAM_CTRL c) fCAM_CTRL_EN && d.awake (26 + c / 4)

/-- CAMn_VC_TRACK brought up to date. -/
def Dev.camShow (d : Dev) (c : Nat) : Dev :=
  let ts := (d.cam c).track
  let v := ((List.range ts.length).zip ts).foldl (fun x p => x + p.2.vc * 2 ^ (4 * p.1) + 2 ^ (20 + p.1)) 0
  d.wr (rCAM_VC_TRACK c) v

/-- The tracking slots freed. -/
def Dev.camUntrack (d : Dev) (c : Nat) : Dev := (d.modCam c (fun x => { x with track := [] })).camShow c

/-- A packet on channel `vc`: the channel takes a slot if there is one, and the packet is discarded and counted otherwise. -/
def Dev.camTrack (d : Dev) (c vc : Nat) : Bool × Dev :=
  let ts := (d.cam c).track
  if ts.any (·.vc == vc) then (true, d)
  else if ts.length < 4 then
    (true, (d.modCam c (fun x => { x with track := x.track ++ [⟨vc, 0, false, 0⟩] })).camShow c)
  else (false, (d.bump (rCAM_VC_DROP_CNT c) fCAM_VC_DROP_CNT_COUNT).raise (rCAM_STATUS c) fCAM_STATUS_VC_OVF)

def Cam.onVc (x : Cam) (vc : Nat) (f : CamVc → CamVc) : Cam :=
  { x with track := x.track.map (fun t => if t.vc = vc then f t else t) }

/-- A write of CAMn_CTRL whose plain fields have landed: EN rising and VC_CLR restart tracking (R195). -/
def Dev.camCtrlWrite (d : Dev) (c v : Nat) : Dev :=
  let rise := natBit v 23 && !d.flag (rCAM_CTRL c) fCAM_CTRL_EN
  let d := d.wr (rCAM_CTRL c) (v &&& 0xFFFAFF)
  let d := if rise then d.modCam c (fun x => { x with idle := 0 }) else d
  if rise || natBit v 10 then d.camUntrack c else d

/-! ### Packets (R193 to R196) -/

/-- Frame Start on channel `vc` (R195, R47, R208). -/
def Dev.camFrameStart (d : Dev) (c vc : Nat) : Dev :=
  if !d.camOn c then d
  else
    let (ok, d) := d.camTrack c vc
    if !ok then d
    else
      let d := d.modCam c (·.onVc vc (fun t => { t with frames := t.frames + 1, isOpen := true, count := 0 }))
      let d := d.btuCameraFs c vc
      if vc ≠ d.camVc c then d
      else
        let d := d.modCam c (fun x => { x with frame := x.frame + 1, count := 0, fsNew := true, idle := 0 })
        let d := d.setFld (rCAM_STATUS c) fCAM_STATUS_LOST 0
        let d := d.wr (rCAM_FS_PHASE c) (d.bt % 2 ^ 24)
        d.wr (rCAM_FRAME_CNT c) ((d.rd (rCAM_FRAME_CNT c) + 1) % 2 ^ 24)

def Dev.camFrameEnd (d : Dev) (c vc : Nat) : Dev :=
  if !d.camOn c then d
  else
    let (ok, d) := d.camTrack c vc
    if ok then d.modCam c (·.onVc vc (fun t => { t with isOpen := false })) else d

/-- Long packet types that are ignored: embedded data and the user-defined types (R193), by their MIPI codes. -/
def camIgnored (dt : Nat) : Bool := dt == 0x12 || (0x30 ≤ dt && dt ≤ 0x37)

/-- The number of the line that a stored long packet brings. -/
def Dev.camCount (d : Dev) (c : Nat) : Nat × Dev :=
  let y := (d.cam c).count
  (y, d.modCam c (fun x => { x with count := y + 1 }))

/-- A long packet of channel `vc` and type `dt`; `hdr` is 0 for a good header, 1 for a corrected one, 2 for an uncorrectable one. -/
def Dev.camLong (d : Dev) (c vc dt hdr : Nat) (crcOk : Bool) (bytes : List Nat) : Dev :=
  if !d.camOn c then d
  else
    let (ok, d) := d.camTrack c vc
    if !ok ∨ camIgnored dt then d
    else if dt ≠ camType (d.camFmt c) then d.raise (rCAM_STATUS c) fCAM_STATUS_BAD_DT
    else
      let d := d.modCam c (·.onVc vc (fun t => { t with count := t.count + 1 }))
      if vc ≠ d.camVc c then d
      else
        let (y, d) := d.camCount c
        if bytes.length ≠ camBytes (d.camFmt c) (d.camSw c) then
          (d.bump (rCAM_LEN_CNT c) fCAM_LEN_CNT_COUNT).raise (rCAM_STATUS c) fCAM_STATUS_LEN_ERR
        else if 2 ≤ (d.cam c).landing.length then
          (d.bump (rCAM_OVR_CNT c) fCAM_OVR_CNT_COUNT).raise (rCAM_STATUS c) fCAM_STATUS_OVERRUN
        else
          let bad := !crcOk || decide (2 ≤ hdr)
          let code := bad.toNat + (if hdr = 1 then 2 else 0)
          d.modCam c (fun x => { x with landing := x.landing ++ [(⟨x.frame, y, bad, camPixels (d.camFmt c) bytes, 0⟩, code)] })

/-- A bad line counted and reported (R196, R481). -/
def Dev.camBad (d : Dev) (c : Nat) : Dev :=
  ((d.bump (rCAM_CRC_CNT c) fCAM_CRC_CNT_COUNT).raise (rCAM_STATUS c) fCAM_STATUS_CRC_ERR).reportUnit 0x0A 0x08 c

/-- The oldest landing line not yet checked is checked (R196): a bad one leaves its landing line, a good one is valid. A corrected header
counts in CAMn_ECC_CNT here, so that of a packet which takes no landing line does not (DESIGN CHOICE, log entry 56). -/
def Dev.camLanded (d : Dev) (c : Nat) : Dev :=
  match (d.cam c).landing.find? (fun p => !natBit p.2 2) with
  | none => d
  | some (l, code) =>
    let d := d.when (natBit code 1) (·.bump (rCAM_ECC_CNT c) fCAM_ECC_CNT_COUNT)
    if natBit code 0 then
      (d.modCam c (fun x => { x with landing := x.landing.filter (fun p => !(p.1 == l && p.2 == code)) })).camBad c
    else
      d.modCam c (fun x => { x with landing := x.landing.map (fun p =>
        if p.1 == l && p.2 == code then (l, code + 4) else p) })

/-- Is a line of the ring still needed (R196, R199)? Lines of the bound frame are until the window has passed them; lines of the
latest frame are while it can still be bound. -/
def Dev.camNeeded (d : Dev) (c : Nat) (l : CamLine) : Bool :=
  let x := d.cam c
  (d.inputLive.camServed c).isSome &&
    (if x.bound = some l.frame then decide (x.low ≤ l.y) else l.frame == x.frame && x.fsNew)

/-- A line has become valid in the ring: the late window lines whose last source line it is get their margin, a negative one (R205). -/
def Dev.camArrived (d : Dev) (c : Nat) (l : CamLine) : Dev :=
  let now := (d.cam c).owed.map (fun q => if q.2.1 = l.frame then (q.1, q.2.1, q.2.2.filter (· != l.y)) else q)
  let d := d.modCam c (fun x => { x with owed := now.filter (fun q => !q.2.2.isEmpty) })
  (now.filter (fun q => q.2.2.isEmpty)).foldl (fun d q => d.camMargin c (-((d.clocksOf (d.btu.e - q.1) : Nat) : Int))) d

/-- The valid line at the front of the landing lines moves into its ring slot (R196). -/
def Dev.camMove (d : Dev) (c : Nat) : Dev :=
  match (d.cam c).landing with
  | (l, code) :: rest =>
    let slot (y : CamLine) : Bool := y.y % 128 == l.y % 128
    if natBit code 2 ∧ !((d.cam c).ring.any (fun y => slot y && d.camNeeded c y)) then
      let l := { l with at' := d.btu.e }
      (d.modCam c (fun x => { x with landing := rest, ring := l :: x.ring.filter (fun y => !slot y) })).camArrived c l
    else d
  | [] => d

/-- LOSS_FRAMES whole frames of the served output have passed without a Frame Start (R208); `idle` counts the frames begun since the last. -/
def Dev.camLost (d : Dev) (c : Nat) : Dev :=
  let lim := max 1 (d.fld (rCAM_CTRL c) fCAM_CTRL_LOSS_FRAMES)
  if d.camOn c ∧ lim < (d.cam c).idle ∧ !d.flag (rCAM_STATUS c) fCAM_STATUS_LOST then
    (d.setFld (rCAM_STATUS c) fCAM_STATUS_LOST 1).evIf (rCAM_CTRL c) fCAM_CTRL_EV_EN fCAM_CTRL_EV
  else d

/-- A lane loses synchronisation (R208): a stored packet in flight is a bad line. -/
def Dev.camSyncLoss (d : Dev) (c : Nat) (inFlight : Bool) : Dev :=
  if d.camOn c ∧ inFlight then ((d.camCount c).2).camBad c else d

/-! ### The commands -/

def execCsiFrameStart (cam : Fin 8) (vc : BitVec 4) (s : State) := s.upd (·.camFrameStart cam vc.toNat)

def execCsiFrameEnd (cam : Fin 8) (vc : BitVec 4) (s : State) := s.upd (·.camFrameEnd cam vc.toNat)

def execCsiLongPacket (cam : Fin 8) (vc : BitVec 4) (dt : BitVec 6) (hdr : Fin 3) (crcOk : Bool) (bytes : List (BitVec 8))
    (s : State) := s.upd (·.camLong cam vc.toNat dt.toNat hdr crcOk (bytes.map (·.toNat)))

def execCameraLineLanded (cam : Fin 8) (s : State) := s.upd (·.camLanded cam)

def execCameraRingMove (cam : Fin 8) (s : State) := s.upd (·.camMove cam)

def execCameraStreamLost (cam : Fin 8) (s : State) := s.upd (·.camLost cam)

def execDphySyncLoss (cam : Fin 8) (inFlight : Bool) (s : State) := s.upd (·.camSyncLoss cam inFlight)

def execVcClr (cam : Fin 8) (value : Reg) (s : State) := s.upd (·.camCtrlWrite cam (value.toNat ||| 0x400))

end Sys2Proof.Machine
end

