-- ==== Sys2Proof/Machine/Pins.lean ====
section
/-! DEFINITION. Pins, the crossbar, timers and PWM channels (chapter 21), and the backlight lock (R233). -/

namespace Sys2Proof.Machine

def Dev.modPins (d : Dev) (f : Pins → Pins) : Dev := { d with pins := f d.pins }

/-! ### Banks (R501, R502) -/

/-- Does a supply of `mv` millivolts lie in a voltage class (R501)? -/
def inClass (cls mv : Nat) : Bool :=
  if cls = 0 then decide (1700 ≤ mv ∧ mv ≤ 1950) else if cls = 1 then decide (2300 ≤ mv ∧ mv ≤ 2700)
  else if cls = 2 then decide (3000 ≤ mv ∧ mv ≤ 3600) else false

def Dev.bankMv (d : Dev) (k : Nat) : Nat := d.pins.supply.getD k 0

/-- Is bank `k`'s supply outside its class, so that its outputs are off (R502)? -/
def Dev.bankOff (d : Dev) (k : Nat) : Bool := !inClass (d.fld (rGPIO_BANK_STATUS k) fGPIO_BANK_STATUS_CLASS) (d.bankMv k)

/-- A W1C bit of a bank's status set, with its source (R513). -/
def Dev.bankRaise (d : Dev) (k : Nat) (f : Fld) : Dev := (d.setFld (rGPIO_BANK_STATUS k) f 1).irqRaise (340 + k)

/-- The flag after the supply or VSEL changed: a supply outside its class, or between two, sets VSEL_BAD. -/
def Dev.bankSettle (d : Dev) (k : Nat) : Dev := if d.bankOff k then d.bankRaise k fGPIO_BANK_STATUS_VSEL_BAD else d

/-- The supply of bank `k` becomes `mv` (R501, R502). With AUTO the class is taken as it rises above 1.6 V; between two classes the
former class stays (log entry 14). -/
def Dev.bankSupply (d : Dev) (k mv : Nat) : Dev :=
  let old := d.bankMv k
  let d := d.modPins (fun p => { p with supply := p.supply.set k mv })
  let d := d.setFld (rGPIO_BANK_STATUS k) fGPIO_BANK_STATUS_PWR_OK (decide (1600 < mv)).toNat
  let rises := decide (old ≤ 1600 ∧ 1600 < mv) && d.fld (rGPIO_BANK_CTRL k) fGPIO_BANK_CTRL_VSEL == 3
  let d := if rises then
      match [0, 1, 2].find? (fun c => inClass c mv) with
      | some c => d.setFld (rGPIO_BANK_STATUS k) fGPIO_BANK_STATUS_CLASS c
      | none => d
    else d
  d.bankSettle k

/-- A write of GPIO_BANKk_CTRL: a fixed class is in force at once; AUTO keeps the class until the next rise. -/
def Dev.bankCtrlWrite (d : Dev) (k v : Nat) : Dev :=
  let d := d.wr (rGPIO_BANK_CTRL k) (v % 4)
  let d := if v % 4 = 3 then d else d.setFld (rGPIO_BANK_STATUS k) fGPIO_BANK_STATUS_CLASS (v % 4)
  d.bankSettle k

/-! ### Owners (R504 to R506) -/

/-- The pads of a peripheral block's function, and whether it is function A. -/
def prsPads (b : Nat) : List Nat × Bool :=
  if 0x18 ≤ b ∧ b ≤ 0x1B then ((List.range 4).map (16 + 4 * (b - 0x18) + ·), false)
  else if 0x1C ≤ b ∧ b ≤ 0x1F then ((List.range 4).map (16 + 4 * (b - 0x1C) + ·), true)
  else if 0x20 ≤ b ∧ b ≤ 0x25 then ([4 + 2 * (b - 0x20), 5 + 2 * (b - 0x20)], true)
  else if b = 0x26 ∨ b = 0x27 then ([2 * (b - 0x26), 2 * (b - 0x26) + 1], true)
  else ([], false)

/-- The owner of pad `p` (R505). -/
def Dev.padOwner (d : Dev) (p : Nat) : Nat :=
  if d.pins.prsOn.any (fun b => (prsPads b).2 && (prsPads b).1.contains p) then 1
  else if d.pins.prsOn.any (fun b => !(prsPads b).2 && (prsPads b).1.contains p) then 2 else 0

/-- A source code of the crossbar, reserved codes acting as none (R508). -/
def xbarCode (c : Nat) : Nat :=
  if c = 1 ∨ (8 ≤ c ∧ c ≤ 0x3B) ∨ (0x40 ≤ c ∧ c ≤ 0x6F) then c else 0

/-- Does a pin's crossbar register name a source, or give it to the trestle? -/
def Dev.xbarNames (d : Dev) (p : Nat) : Bool :=
  xbarCode (d.fld (rXBAR_PIN p) fXBAR_PIN_SRC_A) != 0 || xbarCode (d.fld (rXBAR_PIN p) fXBAR_PIN_SRC_B) != 0 ||
    d.flag (rXBAR_PIN p) fXBAR_PIN_TRS

/-- A write to a peripheral block. Its registers are defined outside the spec (R565): whether the write leaves the block enabled is a
free choice, and the pads follow it (R505, R506). -/
def Dev.prsWrite (d : Dev) (b : Nat) : Dev :=
  let (on, d) := d.takeBool
  let others := d.pins.prsOn.filter (· != b)
  let d := d.modPins (fun p => { p with prsOn := if on then b :: others else others })
  (prsPads b).1.foldl (fun d p =>
    let was := d.fld (rGPIO_PAD p) fGPIO_PAD_OWNER
    let d' := d.setFld (rGPIO_PAD p) fGPIO_PAD_OWNER (d.padOwner p)
    if was ≠ d.padOwner p ∧ d.padOwner p ≠ 0 ∧ d.xbarNames p then d'.bankRaise (p / 16) fGPIO_BANK_STATUS_OVERRIDE else d') d

/-! ### PWM channels and the backlight (R233, R520) -/

def Dev.pwm (d : Dev) (c : Nat) : Pwm := d.pins.pwm.getD c ⟨0, 0, 0, 0, 0⟩
def Dev.setPwm (d : Dev) (c : Nat) (x : Pwm) : Dev := d.modPins (fun p => { p with pwm := p.pwm.set c x })

/-- The output that drives channel `c` (R233): the lowest that has locked it. -/
def Dev.pwmLock (d : Dev) (c : Nat) : Option Nat := (List.range 8).find? (fun n => (d.outp n).lockCh == some c)

/-- The ticks of channel `c` since its period began (R520). -/
def Dev.pwmTicks (d : Dev) (c : Nat) : Nat := (d.btu.clocks - (d.pwm c).start) / (d.fld (rTMR_PWM_CTRL c) fTMR_PWM_CTRL_DIV + 1)

/-- Is channel `c` in the active part of its period? Periods follow one another. -/
def Dev.pwmActive (d : Dev) (c : Nat) : Bool :=
  let x := d.pwm c
  match d.pwmLock c with
  | some n => decide ((d.outPhase n + 2 ^ 24 - x.lockAt) % 2 ^ 24 < x.lockLen)
  | none =>
    d.flag (rTMR_PWM_CTRL c) fTMR_PWM_CTRL_EN && decide (x.period ≠ 0 ∧ d.pwmTicks c % x.period < x.duty)

/-- The signal PWMc. -/
def Dev.pwmLevel (d : Dev) (c : Nat) : Bool := d.pwmActive c == d.flag (rTMR_PWM_CTRL c) fTMR_PWM_CTRL_POL

/-- A period begins at the clock `at'` and the values written apply. -/
def Dev.pwmStartAt (d : Dev) (c at' : Nat) : Dev :=
  d.setPwm c { d.pwm c with start := at', period := d.rd (rTMR_PWM_PERIOD c), duty := d.rd (rTMR_PWM_DUTY c) }
def Dev.pwmStart (d : Dev) (c : Nat) : Dev := d.pwmStartAt c d.btu.clocks

/-- A period of a running channel begins, once the PERIOD ticks of the one before have passed, at the clock in which it ended; a locked
channel's own registers are ignored. -/
def Dev.pwmPeriod (d : Dev) (c : Nat) : Dev :=
  let x := d.pwm c
  if !d.flag (rTMR_PWM_CTRL c) fTMR_PWM_CTRL_EN ∨ (d.pwmLock c).isSome then d
  else if x.period = 0 then d.pwmStart c
  else if d.pwmTicks c < x.period then d
  else d.pwmStartAt c (x.start + d.pwmTicks c / x.period * x.period * (d.fld (rTMR_PWM_CTRL c) fTMR_PWM_CTRL_DIV + 1))

/-- Period `j` of the channel that output `n` has locked begins (R233): BT moves on to its phase, unless the end of the TG0 frame lies
before it (log entry 4). -/
def Dev.blPeriod (d : Dev) (n j : Nat) : Dev :=
  match (d.outp n).lockCh with
  | none => d
  | some c =>
    let o := d.outp n
    let div := natBits o.blCtrl 9 10
    if d.pwmLock c ≠ some n ∨ div ≤ j then d
    else
      let at' := (o.blPhase + cdiv (j * 2 ^ 24) div) % 2 ^ 24
      let ahead := (at' + 2 ^ 24 - d.outPhase n) % 2 ^ 24
      let e := d.eOfGbt (d.outTg n) (if d.outX2 n then cdiv ahead 2 else ahead)
      if ahead ≠ 0 ∧ (d.btu.e / 2 ^ 24 + 1) * 2 ^ 24 ≤ e then d
      else
        let d := if ahead = 0 then d else d.advanceTo e
        let len := if 4096 ≤ o.blDuty then 2 ^ 24 else o.blDuty * 2 ^ 24 / (4096 * div)
        d.setPwm c { d.pwm c with lockAt := at', lockLen := len }

/-! ### Timers (R515 to R519) -/

/-- A timer's flag set, with its source where IRQ_EN names it. -/
def Dev.tmrFlag (d : Dev) (n : Nat) (f : Fld) : Dev :=
  (d.setFld (rTMR_STATUS n) f 1).when (natBit (d.fld (rTMR_CTRL n) fTMR_CTRL_IRQ_EN) f.lo) (·.irqRaise (306 + n))

def Dev.tmrCount (d : Dev) (n : Nat) : Nat := d.rd (rTMR_CNT_LO n) + d.rd (rTMR_CNT_HI n) * 2 ^ 24
def Dev.tmrCmp (d : Dev) (n : Nat) : Nat := d.rd (rTMR_CMP_LO n) + d.rd (rTMR_CMP_HI n) * 2 ^ 24
def Dev.setTmrCount (d : Dev) (n v : Nat) : Dev := (d.wr (rTMR_CNT_LO n) (v % 2 ^ 24)).wr (rTMR_CNT_HI n) (v / 2 ^ 24 % 2 ^ 24)

/-- Is timer `n` frozen (R519)? -/
def Dev.tmrFrozen (d : Dev) (n : Nat) : Bool :=
  let f := d.fld (rTMR_CTRL n) fTMR_CTRL_FRZ
  (natBit f 0 && d.secState 1 == 2) || (natBit f 1 && d.secState 2 == 2)

def Dev.capq (d : Dev) (n : Nat) : List Nat := d.pins.capq.getD n []

/-- A capture queue and its DEPTH. -/
def Dev.setCapq (d : Dev) (n : Nat) (q : List Nat) : Dev :=
  (d.modPins (fun p => { p with capq := p.capq.set n q })).setFld (rTMR_STATUS n) fTMR_STATUS_DEPTH q.length

/-- A capture pushed, or refused on a full queue (R517). -/
def Dev.capPush (d : Dev) (n v : Nat) : Dev :=
  if 4 ≤ (d.capq n).length then d.tmrFlag n fTMR_STATUS_CAP_OVF
  else (d.setCapq n (d.capq n ++ [v])).tmrFlag n fTMR_STATUS_CAP

/-- The oldest capture popped (R518); 0 from an empty queue. -/
def Dev.capPop (d : Dev) (n : Nat) : Nat × Dev :=
  match d.capq n with
  | [] => (0, d)
  | v :: t => (v, d.setCapq n t)

/-- Timer `n` steps by `k`, and the timers chained on its MATCH follow (R515, R516). -/
def Dev.tmrAdd (d : Dev) (n k : Nat) : Nat → Dev
  | 0 => d
  | fuel + 1 =>
    if !d.flag (rTMR_CTRL n) fTMR_CTRL_EN ∨ d.tmrFrozen n ∨ k = 0 then d
    else
      let old := d.tmrCount n
      let cmp := d.tmrCmp n
      let sum := old + k
      let hit := decide (old < cmp ∧ cmp ≤ sum)
      let new := if d.flag (rTMR_CTRL n) fTMR_CTRL_RELOAD ∧ cmp < sum then sum - (cmp + 1) else sum
      let d := d.setTmrCount n (new % 2 ^ 48)
      if !hit then d
      else
        let out := d.fld (rTMR_STATUS n) fTMR_STATUS_OUT
        let act := d.fld (rTMR_CTRL n) fTMR_CTRL_OUT_ACT
        let d := d.setFld (rTMR_STATUS n) fTMR_STATUS_OUT (if act = 1 then 1 else if act = 2 then 0 else if act = 3 then 1 - out else out)
        let d := d.tmrFlag n fTMR_STATUS_MATCH
        let d := d.evIf (rTMR_EVT n) fTMR_EVT_EV_EN fTMR_EVT_EV
        let m := (n + 1) % 16
        if d.fld (rTMR_CTRL m) fTMR_CTRL_CLK = 3 then d.tmrAdd m 1 fuel else d

/-- The least and the greatest step that the BTU takes in a fabric clock at its present rate (R38). -/
def Dev.btuSteps (d : Dev) : Nat × Nat :=
  let i := if d.btRuns then d.btuIncrement else 0
  (i / 2 ^ 40, cdiv i (2 ^ 40))

/-- A step of timer `n`: `k` is the BTU's step where that is its source, one that it can take (R515). TMRn_EXT has no edge while its input's EN is 0
(R510). A timer on another's MATCH steps with it. -/
def Dev.tmrStep (d : Dev) (n k : Nat) : Dev :=
  let c := d.fld (rTMR_CTRL n) fTMR_CTRL_CLK
  if c = 3 ∨ (c = 1 ∧ ¬(d.btuSteps.1 ≤ k ∧ k ≤ d.btuSteps.2)) ∨ (c = 2 ∧ !d.flag (rXBAR_IN (0x10 + n)) fXBAR_IN_EN) then d
  else d.tmrAdd n (if c = 1 then k else 1) 16

/-- A write of TMRn_CTRL (R515, R517): EN rising loads OUT_INIT, CAPTURE pushes the count. -/
def Dev.tmrCtrlWrite (d : Dev) (n v : Nat) : Dev :=
  let rise := natBit v 23 && !d.flag (rTMR_CTRL n) fTMR_CTRL_EN
  let d := d.wr (rTMR_CTRL n) (v &&& 0xFFF700)
  let d := d.when rise (·.setFld (rTMR_STATUS n) fTMR_STATUS_OUT (natBits v 15 1))
  d.when (natBit v 11) (fun d => d.capPush n (d.tmrCount n))

/-- The most units that timer `n` counts in 3 fabric clocks (R515): none while it stands. -/
def Dev.tmrBack (d : Dev) (n : Nat) : Nat :=
  let c := d.fld (rTMR_CTRL n) fTMR_CTRL_CLK
  if !d.flag (rTMR_CTRL n) fTMR_CTRL_EN ∨ d.tmrFrozen n then 0
  else if c = 0 then cdiv 3 (d.fld (rTMR_PRESC n) fTMR_PRESC_PRESC + 1)
  else if c = 1 then 3 * d.btuSteps.2
  else if c = 2 then 1 else 3

/-- A capture edge (R517): it stores the count of 3 fabric clocks before, `back` units ago, or as many as the timer can have counted since. TMRn_CAP
has no edge while its input's EN is 0 (R510). -/
def Dev.tmrEdge (d : Dev) (n : Nat) (rising : Bool) (back : Nat) : Dev :=
  let e := d.fld (rTMR_CTRL n) fTMR_CTRL_CAP_EDGE
  if d.flag (rTMR_CTRL n) fTMR_CTRL_CAP_EV ∨ !natBit e (if rising then 0 else 1) ∨ !d.flag (rXBAR_IN n) fXBAR_IN_EN then d
  else
    let m := if d.flag (rTMR_CTRL n) fTMR_CTRL_RELOAD then d.tmrCmp n + 1 else 2 ^ 48
    let b := min back (d.tmrBack n) % m
    d.capPush n ((d.tmrCount n + m - b) % m)

/-- Pulses of event line `ev` reach the timers that capture on it (R517). -/
def Dev.tmrPulse (d : Dev) (ev : Nat) : Dev :=
  (List.range 16).foldl (fun d n =>
    if d.flag (rTMR_CTRL n) fTMR_CTRL_CAP_EV ∧ d.fld (rTMR_EVT n) fTMR_EVT_CAP_LINE = ev then d.capPush n (d.tmrCount n)
    else d) d

/-! ### The crossbar (R507 to R511) -/

/-- A pulse of event line `ev` at the EVO outputs that follow it: one that a pin names and that rises is a change of a crossbar source (R512). -/
def Dev.evoPulse (d : Dev) (ev : Nat) : Dev :=
  (List.range 8).foldl (fun d j =>
    if d.fld (rXBAR_EVO j) fXBAR_EVO_EV = ev then
      (d.modPins (fun p => { p with evo := natSetBits p.evo j 1 1 })).when (!natBit d.pins.evo j && d.xbarUses (0x34 + j) 1) (·.wake 38)
    else d) d

/-- The output enable and value of a crossbar source at pin `p`. The level of a TDM port's signals is a free value (log entry 15). -/
def Dev.xbarSignal (d : Dev) (p c : Nat) : Bool × Bool :=
  let c := xbarCode c
  let pio (core : Nat) (k : Nat) : Bool × Bool := (natBit (d.core core).pioOe k, natBit (d.core core).pioOut k)
  if c = 0 then (false, false)
  else if c = 1 then (natBit (d.rd (rGPIO_OE (p / 16))) (p % 16), natBit (d.rd (rGPIO_OUT (p / 16))) (p % 16))
  else if c < 0x18 then (d.flag (rTMR_PWM_CTRL (c - 8)) fTMR_PWM_CTRL_EN || (d.pwmLock (c - 8)).isSome, d.pwmLevel (c - 8))
  else if c < 0x28 then (d.flag (rTMR_CTRL (c - 0x18)) fTMR_CTRL_EN, d.flag (rTMR_STATUS (c - 0x18)) fTMR_STATUS_OUT)
  else if c < 0x34 then (d.flag (rAUD_TDM_CTRL ((c - 0x28) / 3)) fAUD_TDM_CTRL_EN, Config.tdmLevel c d.now d.free)
  else if c < 0x3C then (true, natBit d.pins.evo (c - 0x34))
  else if c < 0x50 then pio 0x4A (c - 0x40)
  else if c < 0x60 then pio 0x48 (c - 0x50)
  else pio 0x49 (c - 0x60)

/-- The trestle's state for pin `p` as a source (R509). -/
def Dev.xbarTrs (d : Dev) (p : Nat) : Bool × Bool :=
  let s := d.fld (rXBAR_PIN p) fXBAR_PIN_TRS_STATE
  if !d.flag (rXBAR_PIN p) fXBAR_PIN_TRS ∨ s = 0 then (false, false)
  else (true, s == 1 || (s == 3 && (assocGet d.pins.pulse p).getD false))

/-- Is pad `p` open drain (R503): by its OD, or as the pad of an I2C controller? -/
def Dev.padOpen (d : Dev) (p : Nat) : Bool :=
  d.flag (rGPIO_PAD p) fGPIO_PAD_OD || (d.padOwner p == 1 && decide (4 ≤ p ∧ p ≤ 15))

/-- The pull of pad `p` (R503): 0 none, 2 down, 3 up; a keeper pulls to the last level that the pad saw. -/
def Dev.padPull (d : Dev) (p : Nat) : Nat :=
  match d.fld (rGPIO_PAD p) fGPIO_PAD_PULL with
  | 1 => 3
  | 2 => 2
  | 3 => 2 + (natBit d.pins.level p).toNat
  | _ => 0

/-- What the crossbar drives on pad `p` (R502, R503, R507): 0 nothing, 2 low, 3 high. An open drain does not drive high. -/
def Dev.padDrive (d : Dev) (p : Nat) : Nat :=
  let ss := [d.xbarSignal p (d.fld (rXBAR_PIN p) fXBAR_PIN_SRC_A), d.xbarSignal p (d.fld (rXBAR_PIN p) fXBAR_PIN_SRC_B), d.xbarTrs p]
  let on := ss.filter (·.1)
  if on.isEmpty ∨ d.bankOff (p / 16) ∨ d.padOwner p ≠ 0 then 0
  else
    let high := (on.any (·.2)) != d.flag (rXBAR_PIN p) fXBAR_PIN_INV
    if high && d.padOpen p then 0 else 2 + high.toNat

/-- What stands at pad `p` from within (R503, R507): what the crossbar drives, or what its pull gives where nothing drives. -/
def Dev.padOut (d : Dev) (p : Nat) : Nat := if d.padDrive p = 0 then d.padPull p else d.padDrive p

/-- The pads held as PIER38 leaves ON, value, enable and pull, and followed again when it is ON (R512). -/
def Dev.padsHold (d : Dev) : Dev := d.modPins (fun p => { p with held := some ((List.range 96).map (fun k => 4 * d.padPull k + d.padDrive k)) })

/-- The trestle's state for a pin: the state and, for a pulse, its level (R509). Where the pin is not the trestle's, the action is
discarded and counted. -/
def Dev.pinAction (d : Dev) (p st : Nat) (level : Bool) : Dev :=
  if p < 96 ∧ d.flag (rXBAR_PIN p) fXBAR_PIN_TRS then
    let d := d.modPins (fun x => { x with pulse := (if st = 3 then [(p, level)] else []) ++ x.pulse.filter (·.1 != p) })
    d.setFld (rXBAR_PIN p) fXBAR_PIN_TRS_STATE st
  else (d.bump rTRS_DISCARD_CNT fTRS_DISCARD_CNT_COUNT).raise rTRS_STATUS fTRS_STATUS_DISCARD

/-- A pulse's width expires. -/
def Dev.pulseEnd (d : Dev) (p : Nat) : Dev :=
  if d.fld (rXBAR_PIN p) fXBAR_PIN_TRS_STATE = 3 then d.pinAction p 0 false else d

/-- A write of XBAR_PINp: a pin no longer the trestle's takes RELEASED (R509). -/
def Dev.xbarPinWrite (d : Dev) (p v : Nat) : Dev :=
  let st := if natBit v 23 then d.fld (rXBAR_PIN p) fXBAR_PIN_TRS_STATE else 0
  let d := if natBit v 23 then d else d.modPins (fun x => { x with pulse := x.pulse.filter (·.1 != p) })
  d.wr (rXBAR_PIN p) (natSetBits (v &&& 0xC0FFFF) 20 2 st)

/-! ### Inputs (R510 to R513) -/

/-- The level that the input buffer of pad `p` reads: 0 while its bank's PWR_OK is 0 (R555). -/
def Dev.padLevel (d : Dev) (p : Nat) : Bool :=
  natBit d.pins.level p && d.flag (rGPIO_BANK_STATUS (p / 16)) fGPIO_BANK_STATUS_PWR_OK

/-- The level of crossbar input `i` (R510). -/
def Dev.xbarIn (d : Dev) (i : Nat) : Bool :=
  let p := d.fld (rXBAR_IN i) fXBAR_IN_PIN
  d.flag (rXBAR_IN i) fXBAR_IN_EN && ((decide (p < 96) && d.padLevel p) != d.flag (rXBAR_IN i) fXBAR_IN_INV)

/-- The cores behind the private-port inputs. -/
def pioCore (i : Nat) : Nat := if i < 0x50 then 0x4A else if i < 0x60 then 0x48 else 0x49

/-- PIO_IN brought up to date (R303). -/
def Dev.pioRefresh (d : Dev) : Dev :=
  (List.range 48).foldl (fun d k =>
    let i := 0x40 + k
    if natBit (d.core (pioCore i)).pioIn (i % 16) == d.xbarIn i then d else d.pioInput (pioCore i) (i % 16) (d.xbarIn i)) d

/-- Bit `p mod 16` of GPIO_IRQ_STATk set, with its source (R513). -/
def Dev.pinIrq (d : Dev) (p : Nat) : Dev :=
  let a := rGPIO_IRQ_STAT (p / 16)
  (d.wr a (natSetBits (d.rd a) (p % 16) 1 1)).irqRaise (340 + p / 16)

/-- The level conditions of bank `k` that hold (R513). -/
def Dev.pinLevels (d : Dev) (k : Nat) : Dev :=
  (List.range 16).foldl (fun d b =>
    let p := 16 * k + b
    let c := d.fld (rGPIO_PAD p) fGPIO_PAD_IRQ
    if d.awake 38 ∧ ((c = 4 ∧ d.padLevel p) ∨ (c = 5 ∧ !d.padLevel p)) then d.pinIrq p else d) d

/-- The level conditions of every bank, as a fabric clock finds them (R513). -/
def Dev.pinsClock (d : Dev) : Dev := (List.range 6).foldl Dev.pinLevels d

/-- GPIO_INk refreshed from the pads. -/
def Dev.pinsIn (d : Dev) : Dev :=
  (List.range 6).foldl (fun d k =>
    d.wr (rGPIO_IN k) (if d.flag (rGPIO_BANK_STATUS k) fGPIO_BANK_STATUS_PWR_OK then natBits d.pins.level (16 * k) 16 else 0)) d

/-- Supplies that stand while a bank's PWR_OK reads 0, as after a reset, measured: as if they rose now (R501). -/
def Dev.banksMeasure (d : Dev) : Dev :=
  (List.range 6).foldl (fun d k =>
    let mv := d.bankMv k
    if d.flag (rGPIO_BANK_STATUS k) fGPIO_BANK_STATUS_PWR_OK ∨ mv ≤ 1600 then d
    else (d.modPins (fun p => { p with supply := p.supply.set k 0 })).bankSupply k mv) d

/-- PIER38 is ON again, or has been reset: the pads follow, the banks' supplies, GPIO_INk and the level conditions are brought up to date
(R501, R512). -/
def Dev.padsFollow (d : Dev) : Dev :=
  let d := (d.modPins (fun p => { p with held := none })).banksMeasure.pinsIn.pioRefresh
  d.pinsClock

/-- An edge of pad `p`, which read `old`, where its condition is that edge (R513). -/
def Dev.pinEdge (d : Dev) (p : Nat) (old : Bool) : Dev :=
  let c := d.fld (rGPIO_PAD p) fGPIO_PAD_IRQ
  let lvl := d.padLevel p
  d.when (old != lvl && (c == 3 || (c == 1 && lvl) || (c == 2 && !lvl))) (·.pinIrq p)

/-- What is at pad `p` becomes `lvl`, and the pad's synchronised level follows (R512, R513). -/
def Dev.pinChange (d : Dev) (p : Nat) (lvl : Bool) : Dev :=
  let old := d.padLevel p
  let d := d.modPins (fun x => { x with level := natSetBits x.level p 1 lvl.toNat })
  if !d.awake 38 then d
  else
    let d := d.when d.pins.held.isSome Dev.padsFollow
    ((d.pinsIn.pinEdge p old).pinLevels (p / 16)).pioRefresh

/-- The supply of a bank becomes `mv`: where PWR_OK changes, so does what the bank's inputs read (R555). -/
def Dev.bankChange (d : Dev) (k mv : Nat) : Dev :=
  let was := d.flag (rGPIO_BANK_STATUS k) fGPIO_BANK_STATUS_PWR_OK
  let old := (List.range 16).map (fun b => (16 * k + b, d.padLevel (16 * k + b)))
  let d := d.bankSupply k mv
  if !d.awake 38 ∨ d.flag (rGPIO_BANK_STATUS k) fGPIO_BANK_STATUS_PWR_OK = was then d
  else ((old.foldl (fun d p => d.pinEdge p.1 p.2) d.pinsIn).pinLevels k).pioRefresh

/-- An edge of input EVIj (R511). -/
def Dev.eviEdge (d : Dev) (j : Nat) (rising : Bool) : Dev :=
  let e := d.fld (rXBAR_EVI j) fXBAR_EVI_EDGE
  if d.flag (rXBAR_IN (0x70 + j)) fXBAR_IN_EN ∧ natBit e (if rising then 0 else 1) then d.evRaise (d.fld (rXBAR_EVI j) fXBAR_EVI_EV)
  else d

/-- A write of XBAR_INi: reserved codes ignore writes (R510). -/
def Dev.xbarInWrite (d : Dev) (i v : Nat) : Dev :=
  if 0x24 ≤ i ∧ i < 0x40 then d else (d.wr (rXBAR_IN i) (v &&& 0xC0007F)).pioRefresh

/-! ### The commands -/

def execBacklightPeriodStart (out : Fin 8) (j : Fin 1023) (s : State) := s.upd (·.blPeriod out j)

def execGpioPulseEnd (pin : Fin 96) (s : State) := s.upd (·.pulseEnd pin)

def execBankSupplyChange (bank : Fin 6) (mv : Nat) (s : State) := s.upd (·.bankChange bank mv)

def execXbarTrsRelease (pin : Fin 96) (value : Reg) (s : State) := s.upd (·.xbarPinWrite pin (value.toNat &&& 0x7FFFFF))

def execEviEdge (j : Fin 16) (rising : Bool) (s : State) := s.upd (·.eviEdge j rising)

def execEvoWidthExpiry (j : Fin 8) (s : State) :=
  s.upd (fun d => (d.modPins (fun p => { p with evo := natSetBits p.evo j 1 0 })).when
    (natBit d.pins.evo j && d.xbarUses (0x34 + j) 1) (·.wake 38))

def execTmrEnable (n : Fin 16) (value : Reg) (s : State) := s.upd (·.tmrCtrlWrite n (value.toNat ||| 0x800000))

def execTmrStep (n : Fin 16) (k : Fin 4) (s : State) := s.upd (·.clocked 30 (·.tmrStep n k))

def execTmrCaptureEdge (n : Fin 16) (rising : Bool) (back : Fin 10) (s : State) := s.upd (·.clocked 30 (·.tmrEdge n rising back))

def execTmrCaptureWrite (n : Fin 16) (value : Reg) (s : State) := s.upd (·.tmrCtrlWrite n (value.toNat ||| 0x800))

def execPwmPeriodStart (c : Fin 16) (s : State) := s.upd (·.clocked 30 (·.pwmPeriod c))

end Sys2Proof.Machine
end

