-- ==== Sys2Proof/Machine/Audio.lean ====
section
/-! DEFINITION. The audio unit (chapter 17): voices, gains, buses, TDM ports, headset jacks and chime monitors. -/

namespace Sys2Proof.Machine

/-! ### Numbers -/

/-- `a / b` rounded to nearest, ties to even. -/
def rdivEven (a : Int) (b : Nat) : Int :=
  let q := a / (b : Int)
  let r := a % (b : Int)
  if 2 * r < b then q else if (b : Int) < 2 * r then q + 1 else if q % 2 = 0 then q else q + 1

/-- The terms of the series of exp(−t), `t` in units of 2^−128. -/
def expTerms (t : Nat) : Nat → Nat → Int → Int → Int
  | 0, _, _, acc => acc
  | n + 1, k, term, acc =>
    let term := -(term * t / ((2 ^ 128 * (k + 1) : Nat) : Int))
    expTerms t n (k + 1) term (acc + term)

/-- `x`² in units of 2^−128, `n` times over. -/
def squares (x : Nat) : Nat → Nat
  | 0 => x
  | n + 1 => squares (x * x / 2 ^ 128) n

/-- The linear gain 10^(−a/20) of an attenuation in 1/65,536 of 0.125 dB, rounded to 24 fraction bits (R421). -/
def dbGain (a : Nat) : Nat :=
  let ln10 : Nat := 783529105480883066805338482703447369891
  let t := a * ln10 / (160 * 65536) / 256
  let e := squares (expTerms t 24 0 (2 ^ 128) (2 ^ 128)).toNat 8
  (e + 2 ^ 103) / 2 ^ 104

/-- The least of `lo` … `lo` + 2^k − 1 for which `p` holds, where `p` holds from some number on. -/
def least (p : Nat → Bool) (lo : Nat) : Nat → Nat
  | 0 => lo
  | k + 1 => if p (lo + 2 ^ k - 1) then least p lo k else least p (lo + 2 ^ k) k

/-- The least attenuation whose gain does not exceed `g` / 2^24, at most 127.875 dB. -/
def attOf (g : Nat) : Nat := min (1023 * 65536) (least (fun a => decide (dbGain a ≤ g)) 0 26)

/-- sin of `x` / 2^24 turns for `x` up to a quarter turn, in units of 2^−64. -/
def sinTerms (x2 : Nat) : Nat → Nat → Int → Int → Int
  | 0, _, _, acc => acc
  | n + 1, k, term, acc =>
    let term := -(term * x2 / ((2 ^ 64 * ((2 * k + 2) * (2 * k + 3)) : Nat) : Int))
    sinTerms x2 n (k + 1) term (acc + term)

def sinQuarter (x : Nat) : Nat :=
  let th := x * 115904311329233965478 / 2 ^ 24
  min (2 ^ 64) (sinTerms (th * th / 2 ^ 64) 14 0 th th).toNat

/-- sin(2πφ / 2^24) in units of 2^−40 (R415), rounded to nearest. -/
def sinPhase (ph : Nat) : Int :=
  let q := ph / 2 ^ 22
  let r := ph % 2 ^ 22
  let m := sinQuarter (if q % 2 = 0 then r else 2 ^ 22 - r)
  let v : Int := ((m + 2 ^ 23) / 2 ^ 24 : Nat)
  if q < 2 then v else -v

/-- The two pan gains of R422 with 24 fraction bits. -/
def panGains (pan : Nat) : Nat × Nat :=
  let p := min pan 256
  let s (x : Nat) : Nat := (sinQuarter (x * 2 ^ 14) + 2 ^ 39) / 2 ^ 40
  (s (256 - p), s p)

/-! ### Access -/

def Voice.off : Voice := ⟨0, 0, 0, 0, 0, 0, 1, 0, 0, 0, none⟩
def Dev.modAud (d : Dev) (f : Aud → Aud) : Dev := { d with aud := f d.aud }
def Dev.voice (d : Dev) (v : Nat) : Voice := d.aud.voices.getD v Voice.off
def Dev.setVoice (d : Dev) (v : Nat) (x : Voice) : Dev := d.modAud (fun a => { a with voices := a.voices.set v x })
def Dev.ramp (d : Dev) (g : Nat) : Ramp := d.aud.gains.getD g ⟨0, 0, 0, 0⟩
def Dev.setRamp (d : Dev) (g : Nat) (x : Ramp) : Dev := d.modAud (fun a => { a with gains := a.gains.set g x })

/-- Does the unit run? -/
def Dev.audOn (d : Dev) : Bool := d.flag rAUD_CTRL fAUD_CTRL_EN

/-- The fabric master of the audio unit (R367). -/
def masterAud : Nat := 0x28

/-! ### Gains (R421) -/

/-- The gain register behind gain `g`. -/
def gainReg (g : Nat) : Nat :=
  if g < 128 then rAUD_VOICE_GAIN g else if g < 144 then rAUD_BUS_GAIN (g - 128)
  else if g = 144 then rAUD_DIRECT_GAIN else rAUD_HPH_GAIN (g - 145)

/-- The attenuation that a ramp has reached. -/
def Ramp.value (r : Ramp) : Nat :=
  if r.len ≤ r.t then r.goal
  else if r.start ≤ r.goal then r.start + (r.goal - r.start) * r.t / r.len
  else r.start - (r.start - r.goal) * r.t / r.len

/-- The linear gain of a ramp: exactly 0 once mute is reached. -/
def Ramp.lin (r : Ramp) : Nat := if r.len ≤ r.t ∧ r.goal = 1023 * 65536 then 0 else dbGain r.value

def Ramp.step (r : Ramp) : Ramp := if r.len ≤ r.t then r else { r with t := r.t + 1 }

/-- A write of a gain register: a changed ATTEN starts a ramp from the value reached. -/
def Dev.gainWrite (d : Dev) (g v : Nat) : Dev :=
  let a := gainReg g
  let old := d.fld a fAUD_DIRECT_GAIN_ATTEN
  let d := d.wr a (v % 2 ^ 20)
  if v % 1024 = old then d
  else d.setRamp g ⟨(d.ramp g).value, v % 1024 * 65536, 48 * (d.fld a fAUD_DIRECT_GAIN_RAMP_M1 + 1), 0⟩

/-! ### Envelopes (R416) -/

/-- A voice whose phase of the envelope is over goes on to the next; silence ends it. -/
def Dev.envSettle (d : Dev) (v : Nat) (x : Voice) : Voice :=
  let e := rAUD_VOICE_ENV v
  let x := if x.st = 1 ∧ 96 * d.fld e fAUD_VOICE_ENV_A ≤ x.t then { x with st := 2, t := x.t - 96 * d.fld e fAUD_VOICE_ENV_A } else x
  let x :=
    if x.st = 2 ∧ 384 * d.fld e fAUD_VOICE_ENV_D ≤ x.t then
      (if d.fld e fAUD_VOICE_ENV_S = 63 then { x with st := 0 } else { x with st := 3 })
    else x
  if x.st = 4 ∧ 768 * 65536 ≤ x.att0 + 131072 * x.t / d.fld e fAUD_VOICE_ENV_R ∨ x.st = 4 ∧ d.fld e fAUD_VOICE_ENV_R = 0 then
    { x with st := 0 }
  else x

/-- The amplitude of a running voice, 1.0 = 2^24. -/
def Dev.envAmp (d : Dev) (v : Nat) (x : Voice) : Nat :=
  let e := rAUD_VOICE_ENV v
  let s := d.fld e fAUD_VOICE_ENV_S
  if x.st = 0 then 0
  else if x.st = 1 then
    let n := 96 * d.fld e fAUD_VOICE_ENV_A
    if n = 0 then 2 ^ 24 else x.amp0 + (2 ^ 24 - x.amp0) * x.t / n
  else if x.st = 2 then
    let n := 384 * d.fld e fAUD_VOICE_ENV_D
    if n = 0 then 2 ^ 24 else dbGain (12 * s * 65536 * x.t / n)
  else if x.st = 3 then dbGain (12 * s * 65536)
  else
    let r := d.fld e fAUD_VOICE_ENV_R
    if r = 0 then 0 else dbGain (x.att0 + 131072 * x.t / r)

/-! ### Starts and stops (R417 to R420) -/

/-- The sample index of R417 at the extended count `e`. -/
def Dev.audIndex (d : Dev) (e : Nat) : Nat :=
  let s := 48000 / d.groupHz 0
  e % 2 ^ 48 / 2 ^ 24 * s + e % 2 ^ 24 * s / 2 ^ 24

/-- Fabric clocks to the end of the sample period that BT lies in. -/
def Dev.audLeft (d : Dev) : Nat :=
  let s := 48000 / d.groupHz 0
  let e' := d.btu.e / 2 ^ 24 * 2 ^ 24 + cdiv ((d.btu.e % 2 ^ 24 * s / 2 ^ 24 + 1) * 2 ^ 24) s
  ((e' - d.btu.e) * 2 ^ 40 - d.btu.acc) / max 1 d.btuIncrement

/-- The words of a voice's wave (R413). -/
def Dev.waveWords (d : Dev) (v : Nat) : Nat :=
  let len := d.rd (rAUD_VOICE_LEN v)
  if d.fld (rAUD_VOICE_CTRL v) fAUD_VOICE_CTRL_TYPE = 0 then cdiv len 3 else 1 + cdiv len 12

/-- Is a start of voice `v` refused (R420)? -/
def Dev.badVoice (d : Dev) (v : Nat) : Bool :=
  let c := rAUD_VOICE_CTRL v
  let wave := decide (d.fld c fAUD_VOICE_CTRL_TYPE < 2)
  (wave && d.rd (rAUD_VOICE_LEN v) == 0) ||
    (d.fld c fAUD_VOICE_CTRL_LOOPS != 0 && decide (d.rd (rAUD_VOICE_LEN v) ≤ d.rd (rAUD_VOICE_LOOP v))) ||
    (wave && decide (0x1000000 < d.rd (rAUD_VOICE_BASE v) + d.waveWords v))

/-- The voice's active bit (R417, R419). -/
def Dev.voiceShow (d : Dev) (v : Nat) (on : Bool) : Dev :=
  let a := rAUD_VACTIVE (v / 24)
  d.wr a (natSetBits (d.rd a) (v % 24) 1 on.toNat)

/-- A monitor armed by the start of its voice (R434). -/
def Dev.monArm (d : Dev) (v m : Nat) : Dev :=
  if d.flag (rAUD_MON_CTRL m) fAUD_MON_CTRL_EN ∧ d.fld (rAUD_MON_CTRL m) fAUD_MON_CTRL_VOICE = v then
    let a := rAUD_MON_RESULT m
    let d := d.modAud (fun a => { a with mons := a.mons.set m ⟨0, 0⟩ })
    d.wr a (natSetBits (natSetBits (d.rd a) 22 2 2) 0 10 1023)
  else d

/-- A start of voice `v` takes effect (R417, R418, R420). -/
def Dev.voiceStart (d : Dev) (v : Nat) : Dev :=
  if !d.audOn then d
  else if d.badVoice v then d.raise rAUD_STATUS fAUD_STATUS_BAD_VOICE
  else
    let x := d.envSettle v (d.voice v)
    let d := if x.st = 0 then
        let g := d.fld (rAUD_VOICE_GAIN v) fAUD_VOICE_GAIN_ATTEN * 65536
        d.setRamp v ⟨g, g, 0, 0⟩
      else d
    let d := d.setVoice v { Voice.off with st := 1, amp0 := d.envAmp v x }
    let d := d.wr rAUD_START_CNT ((d.rd rAUD_START_CNT + 1) % 2 ^ 24)
    let d := d.voiceShow v true
    (List.range 8).foldl (fun d m => d.monArm v m) d

/-- A voice ends. -/
def Dev.voiceEnd (d : Dev) (v : Nat) : Dev := (d.setVoice v { d.voice v with st := 0 }).voiceShow v false

/-- A stop of voice `v` takes effect (R419): release from the current attenuation. -/
def Dev.voiceStop (d : Dev) (v : Nat) : Dev :=
  let x := d.envSettle v (d.voice v)
  if (d.voice v).st = 0 ∨ x.st = 4 then d
  else if x.st = 0 then d.voiceEnd v
  else if d.fld (rAUD_VOICE_ENV v) fAUD_VOICE_ENV_R = 0 then d.voiceEnd v
  else d.setVoice v { x with st := 4, t := 0, att0 := attOf (d.envAmp v x) }

/-- A start or stop serviced: its request bit cleared, the voice started or stopped. -/
def Dev.voiceServe (d : Dev) (start : Bool) (v : Nat) : Dev :=
  let a := if start then rAUD_VSTART (v / 24) else rAUD_VSTOP (v / 24)
  let d := d.wr a (natSetBits (d.rd a) (v % 24) 1 0)
  if start then d.voiceStart v else d.voiceStop v

/-- A start or stop reaches the unit: placed in the present period when at least 64 fabric clocks of it are left, else in the next
(R417, R419). -/
def Dev.voiceAsk (d : Dev) (start : Bool) (v : Nat) : Dev :=
  let d := d.wake 28
  if 128 ≤ v then d
  else if 64 ≤ d.audLeft then d.voiceServe start v
  else d.modAud (fun a => { a with pend := a.pend ++ [(start, v)] })

/-- A write of AUD_VSTARTk or AUD_VSTOPk: each 1 starts or stops its voice; a bit reads 1 until it is serviced. -/
def Dev.voiceMask (d : Dev) (start : Bool) (k v : Nat) : Dev :=
  let a := if start then rAUD_VSTART k else rAUD_VSTOP k
  let v := if k = 5 then v % 256 else v
  let d := d.wr a (d.rd a ||| v)
  ((List.range 24).filter (natBit v)).foldl (fun d i => d.voiceAsk start (24 * k + i)) d

/-- A write of AUD_CTRL: EN 0 silences every output and stops every voice. -/
def Dev.audCtrlWrite (d : Dev) (v : Nat) : Dev :=
  let d := d.wr rAUD_CTRL (v &&& 0x800000)
  if natBit v 23 then d
  else
    let d := (List.range 128).foldl (fun d v => if (d.voice v).st = 0 then d else d.voiceEnd v) d
    d.modAud (fun a => { a with tdm := [], drive := [none, none] })

/-! ### Sources (R413 to R415) -/

/-- The step sizes of IMA ADPCM. -/
def imaSteps : List Nat :=
  [7, 8, 9, 10, 11, 12, 13, 14, 16, 17, 19, 21, 23, 25, 28, 31, 34, 37, 41, 45, 50, 55, 60, 66, 73, 80, 88, 97, 107, 118] ++
  [130, 143, 157, 173, 190, 209, 230, 253, 279, 307, 337, 371, 408, 449, 494, 544, 598, 658, 724, 796, 876, 963, 1060, 1166] ++
  [1282, 1411, 1552, 1707, 1878, 2066, 2272, 2499, 2749, 3024, 3327, 3660, 4026, 4428, 4871, 5358, 5894, 6484, 7132, 7845] ++
  [8630, 9493, 10442, 11487, 12635, 13899, 15289, 16818, 18500, 20350, 22385, 24623, 27086, 29794, 32767]

/-- One 4-bit code decoded: predictor and step index. -/
def imaStep (pred : Int) (idx code : Nat) : Int × Nat :=
  let st := imaSteps.getD idx 32767
  let diff := st / 8 + (if natBit code 0 then st / 4 else 0) + (if natBit code 1 then st / 2 else 0) + (if natBit code 2 then st else 0)
  let p := if natBit code 3 then pred - diff else pred + diff
  let i := if natBit code 2 then idx + 2 * (code % 4 + 1) else idx - 1
  (max (-32768) (min 32767 p), min 88 i)

/-- A word of the wave store: none when it is uncorrectable (R427). -/
def Dev.waveWord (d : Dev) (a : Nat) : Option Word × Dev :=
  let (r, d) := d.mainRead masterAud a
  (if r.ue then none else some r.val, d)

/-- ADPCM decoded up to `n` more codes. A code lost with its word leaves free values. -/
def Dev.adpcm (d : Dev) (base loop : Nat) (x : Voice) : Nat → Voice × Bool × Dev
  | 0 => (x, true, d)
  | n + 1 =>
    let (w, d) := d.waveWord (base + 1 + x.done / 12)
    let (p, ok, d) : (Int × Nat) × Bool × Dev := match w with
      | some w => (imaStep x.pred x.idx (natBits w.toNat (44 - 4 * (x.done % 12)) 4), true, d)
      | none =>
        let (f, d) := d.takeNat
        ((natToInt 16 f, f / 65536 % 89), false, d)
    let x := { x with done := x.done + 1, pred := p.1, idx := p.2 }
    let x := if x.done = loop + 1 ∧ x.save.isNone then { x with save := some p } else x
    let (x, ok', d) := d.adpcm base loop x n
    (x, ok && ok', d)

/-- The header of an ADPCM wave taken before its first code. -/
def Dev.adpcmHead (d : Dev) (base : Nat) (x : Voice) : Voice × Bool × Dev :=
  if x.done ≠ 0 then (x, true, d)
  else
    let (w, d) := d.waveWord base
    match w with
    | some w => ({ x with pred := natToInt 16 (natBits w.toNat 32 16), idx := min 88 (natBits w.toNat 24 8) }, true, d)
    | none =>
      let (f, d) := d.takeNat
      ({ x with pred := natToInt 16 f, idx := f / 65536 % 89 }, false, d)

/-- Does a loop-back remain (R414)? -/
def Dev.loopLeft (d : Dev) (v : Nat) (x : Voice) : Bool :=
  let n := d.fld (rAUD_VOICE_CTRL v) fAUD_VOICE_CTRL_LOOPS
  n == 255 || decide (x.loops < n)

/-- A PCM16 sample. -/
def Dev.pcm (d : Dev) (base k : Nat) : Option Int × Dev :=
  let (w, d) := d.waveWord (base + k / 3)
  (w.map (fun w => natToInt 16 (natBits w.toNat (32 - 16 * (k % 3)) 16)), d)

/-- Two samples joined by the 16 fraction bits, rounded to nearest; full scale 2^40. -/
def lerp16 (a b : Int) (fr : Nat) : Int := ((a * (65536 - fr) + b * fr + 32768) / 65536) * 2 ^ 25

/-- The source sample of a PCM16 voice: none when a word is uncorrectable. -/
def Dev.pcmSample (d : Dev) (v : Nat) (x : Voice) : Option Int × Voice × Dev :=
  let base := d.rd (rAUD_VOICE_BASE v)
  let k := x.pos / 65536
  let (a, d) := d.pcm base k
  let (b, d) : Option Int × Dev :=
    if k + 1 < d.rd (rAUD_VOICE_LEN v) then d.pcm base (k + 1)
    else if d.loopLeft v x then d.pcm base (d.rd (rAUD_VOICE_LOOP v)) else (some 0, d)
  match a, b with
  | some a, some b => (some (lerp16 a b (x.pos % 65536)), x, d)
  | _, _ => (none, x, d)

/-- The source sample of an ADPCM voice: none when a word is uncorrectable. -/
def Dev.adpcmSample (d : Dev) (v : Nat) (x : Voice) : Option Int × Voice × Dev :=
  let base := d.rd (rAUD_VOICE_BASE v)
  let loop := d.rd (rAUD_VOICE_LOOP v)
  let k := x.pos / 65536
  let (x, ok, d) := d.adpcmHead base x
  let (x, ok', d) := d.adpcm base loop x (k + 1 - x.done)
  let (b, ok'', d) : Int × Bool × Dev :=
    if k + 1 < d.rd (rAUD_VOICE_LEN v) then
      let (y, o, d) := d.adpcm base loop x 1
      (y.pred, o, d)
    else if d.loopLeft v x then ((x.save.map (·.1)).getD 0, true, d) else (0, true, d)
  (if ok && ok' && ok'' then some (lerp16 x.pred b (x.pos % 65536)) else none, x, d)

/-- The source value of a tone or noise voice, full scale 2^40 (R415). -/
def Dev.toneSample (d : Dev) (v : Nat) (x : Voice) : Int :=
  let ph := x.pos
  if d.fld (rAUD_VOICE_CTRL v) fAUD_VOICE_CTRL_TYPE = 3 then (if natBit x.lfsr 0 then 2 ^ 40 else -(2 ^ 40))
  else
    let w := d.fld (rAUD_VOICE_CTRL v) fAUD_VOICE_CTRL_WAVE
    if w = 0 then (if ph < 2 ^ 23 then 2 ^ 40 else -(2 ^ 40))
    else if w = 1 then
      (if ph < 2 ^ 22 then ((ph * 2 ^ 18 : Nat) : Int)
       else if ph < 3 * 2 ^ 22 then (2 ^ 41 : Int) - ((ph * 2 ^ 18 : Nat) : Int)
       else ((ph * 2 ^ 18 : Nat) : Int) - 2 ^ 42)
    else sinPhase ph

/-- The position carried past the end of the wave: loop-backs, or the wave has ended (R414). -/
def Dev.wrapPos (d : Dev) (v : Nat) (x : Voice) : Nat → Option Voice
  | 0 => some x
  | n + 1 =>
    let len := d.rd (rAUD_VOICE_LEN v) * 65536
    if x.pos < len then some x
    else if d.loopLeft v x then
      let loop := d.rd (rAUD_VOICE_LOOP v)
      let x := { x with pos := loop * 65536 + (x.pos - len), loops := min 255 (x.loops + 1) }
      d.wrapPos v (match x.save with | some (p, i) => { x with done := loop + 1, pred := p, idx := i } | none => x) n
    else none

/-- The voice after an output sample: none when its wave has ended (R414, R415). -/
def Dev.advanceVoice (d : Dev) (v : Nat) (x : Voice) : Option Voice :=
  let step := d.rd (rAUD_VOICE_STEP v)
  let x := { x with t := x.t + 1 }
  if d.fld (rAUD_VOICE_CTRL v) fAUD_VOICE_CTRL_TYPE < 2 then d.wrapPos v { x with pos := x.pos + step } 512
  else
    let y := { x with pos := (x.pos + step) % 2 ^ 24 }
    some (if x.pos + step < 2 ^ 24 then y
      else { y with lfsr := (x.lfsr * 2 + ((natBit x.lfsr 22) != (natBit x.lfsr 17)).toNat) % 2 ^ 23 })

/-- A sample silenced because a word was late or uncorrectable (R427). -/
def Dev.audLate (d : Dev) (f : Fld) (ue : Bool) : Dev :=
  let d := (d.bump rAUD_LATE_CNT fAUD_LATE_CNT_COUNT).raise rAUD_STATUS f
  d.when ue (·.raise rAUD_STATUS fAUD_STATUS_WAVE_UE)

/-- The sums of one output sample: the sixteen buses and the direct sum, left and right, full scale 2^40. -/
structure Mix where
  bus : List (Int × Int)
  direct : Int × Int

def addPair (a b : Int × Int) : Int × Int := (a.1 + b.1, a.2 + b.2)

/-- Voice `v`'s part of the output sample (R422), and the voice moved on. -/
def Dev.renderVoice (late : List Nat) (p : Mix × Dev) (v : Nat) : Mix × Dev :=
  let (m, d) := p
  let x := d.envSettle v (d.voice v)
  if (d.voice v).st = 0 then (m, d)
  else if x.st = 0 then (m, d.voiceEnd v)
  else
    let ty := d.fld (rAUD_VOICE_CTRL v) fAUD_VOICE_CTRL_TYPE
    let (src, x, d) : Int × Voice × Dev :=
      if 2 ≤ ty then (d.toneSample v x, x, d)
      else if late.contains v then (0, x, d.audLate fAUD_STATUS_WAVE_LATE false)
      else
        let (o, x, d) := if ty = 0 then d.pcmSample v x else d.adpcmSample v x
        match o with
        | some o => (o, x, d)
        | none => (0, x, d.audLate fAUD_STATUS_WAVE_LATE true)
    let g := panGains (d.fld (rAUD_VOICE_PAN v) fAUD_VOICE_PAN_PAN)
    let level := src * (d.envAmp v x * (d.ramp v).lin : Nat)
    let out := (rdivEven (level * g.1) (2 ^ 72), rdivEven (level * g.2) (2 ^ 72))
    let m := if d.flag (rAUD_VOICE_CTRL v) fAUD_VOICE_CTRL_DIRECT then { m with direct := addPair m.direct out }
      else
        let b := d.fld (rAUD_VOICE_CTRL v) fAUD_VOICE_CTRL_BUS
        { m with bus := m.bus.set b (addPair (m.bus.getD b (0, 0)) out) }
    match d.advanceVoice v x with
    | some x => (m, d.setVoice v x)
    | none => (m, (d.setVoice v x).voiceEnd v)

/-! ### Buses (R423 to R426) -/

def Dev.bus (d : Dev) (b : Nat) : Bus :=
  d.aud.bus.getD b ⟨[], [], [], [], [], [], 0⟩
def Dev.setBus (d : Dev) (b : Nat) (x : Bus) : Dev := d.modAud (fun a => { a with bus := a.bus.set b x })

/-- The five staged coefficients of band `k` of bus `b`. -/
def Dev.eqStaged (d : Dev) (b k : Nat) : List Int := (List.range 5).map (fun c => sgn24 (d.rd (rAUD_EQ b k c)))

/-- A write of an equaliser coefficient: it is staged, and a write of a2 applies the band's five as they then stand at the next sample
(R424). -/
def Dev.eqWrite (d : Dev) (b k c v : Nat) : Dev :=
  let d := d.wr (rAUD_EQ b k c) v
  if c = 4 then
    let x := d.bus b
    d.setBus b { x with due := spInsert x.due k (d.eqStaged b k) }
  else d

/-- The coefficients that are due come into force. -/
def Bus.eqApply (x : Bus) : Bus := { x with coef := x.due.foldl (fun co p => co.set p.1 p.2) x.coef, due := [] }

/-- One band: y and the state after it. Signals carry 22 bits below full scale 2^40 here. -/
def bandStep (co : List Int) (s : Band) (x : Int) : Int × Band :=
  let c (i : Nat) : Int := co.getD i 0
  let y := rdivEven (c 0 * x + c 1 * s.x1 + c 2 * s.x2 - c 3 * s.y1 - c 4 * s.y2) (2 ^ 22)
  (y, ⟨x, s.x1, y, s.y1⟩)

/-- The bands in order. -/
def eqRun : List (List Int) → List Band → Int → Int × List Band
  | co :: cs, s :: ss, x =>
    let (y, s) := bandStep co s x
    let (z, ss) := eqRun cs ss y
    (z, s :: ss)
  | _, _, x => (x, [])

/-- The reduction a sample of magnitude `pk` needs so as not to exceed the threshold. -/
def limNeed (thr pk : Nat) : Nat :=
  if pk * 2 ^ 24 ≤ thr * 2 ^ 24 then 0
  else min (2 ^ 27) (least (fun a => decide (pk * dbGain a ≤ thr * 2 ^ 24)) 0 26)

/-- The steepest rise toward a reduction that a sample ahead needs; the newest sample is 48 ahead. -/
def limRise (gr : Nat) : List (Int × Int × Nat) → Nat → Nat
  | [], _ => 0
  | p :: t, k => max (if gr < p.2.2 then cdiv (p.2.2 - gr) (max 1 k) else 0) (limRise gr t (k - 1))

/-- The limiter (R425): the sample 48 before, with one gain for both channels. -/
def Dev.limiter (d : Dev) (b : Nat) (x : Bus) (s : Int × Int) : (Int × Int) × Bus :=
  let a := rAUD_BUS_LIM b
  let thr := dbGain (d.fld a fAUD_BUS_LIM_THRESH * 65536) * 2 ^ 16
  let need := limNeed thr (max s.1.natAbs s.2.natAbs)
  let out := x.look.getD 47 (0, 0, 0)
  let look := ((s.1, s.2, need) :: x.look).take 48
  let top := look.foldl (fun m p => max m p.2.2) 0
  let rise := limRise x.gr look 48
  let gr := if rise ≠ 0 then x.gr + rise else max (min x.gr top) (x.gr - 80 * 65536 / (48 * max 1 (d.fld a fAUD_BUS_LIM_RELEASE)))
  let gr := max gr out.2.2
  let g := dbGain gr
  ((rdivEven (out.1 * g) (2 ^ 24), rdivEven (out.2.1 * g) (2 ^ 24)), { x with look := look, gr := gr })

/-- A value rounded and saturated to `w` bits, full scale 2^40. -/
def toBits (w : Nat) (x : Int) : Int × Bool :=
  let y := rdivEven x (2 ^ (41 - w))
  let hi : Int := (2 ^ (w - 1) : Nat) - 1
  if hi < y then (hi, true) else if y < -(hi + 1) then (-(hi + 1), true) else (y, false)

/-- The delay line of bus `b` at output sample `m` (R426). -/
def Dev.delayLine (d : Dev) (b m : Nat) (late : List Nat) (s : Int × Int) : (Int × Int) × Dev :=
  let n := min 4800 (d.fld (rAUD_BUS_CTRL b) fAUD_BUS_CTRL_DELAY)
  if n = 0 then (s, d)
  else
    let base := d.rd rAUD_DLY_BASE + 4800 * b
    let (o, d) := d.waveWord ((base + (m + 4800 - n) % 4800) % 2 ^ 24)
    let w := BitVec.ofNat 48 (intToNat 24 (toBits 24 s.1).1 * 2 ^ 24 + intToNat 24 (toBits 24 s.2).1)
    let d := d.mainPut 0x28 ((base + m % 4800) % 2 ^ 24) w
    if late.contains (128 + b) then ((0, 0), d.audLate fAUD_STATUS_DLY_LATE false)
    else
      match o with
      | some w => ((natToInt 24 (natBits w.toNat 24 24) * 2 ^ 17, natToInt 24 (natBits w.toNat 0 24) * 2 ^ 17), d)
      | none => ((0, 0), d.audLate fAUD_STATUS_DLY_LATE true)

/-- Bus `b`'s output sample `m` from its mixed samples (R423). -/
def Dev.busOut (mix : Mix) (late : List Nat) (m : Nat) (p : List (Int × Int) × Dev) (b : Nat) : List (Int × Int) × Dev :=
  let (outs, d) := p
  let x := (d.bus b).eqApply
  let s := x.hist.getD 1 (0, 0)
  let x := { x with hist := (mix.bus.getD b (0, 0) :: x.hist).take 2 }
  let g : Int := ((d.ramp (128 + b)).lin : Nat)
  let s := (rdivEven (s.1 * g) (2 ^ 24), rdivEven (s.2 * g) (2 ^ 24))
  let (s, x) : (Int × Int) × Bus :=
    if d.flag (rAUD_BUS_CTRL b) fAUD_BUS_CTRL_EQ_EN then
      let (l, ls) := eqRun x.coef x.left (s.1 * 2 ^ 22)
      let (r, rs) := eqRun x.coef x.right (s.2 * 2 ^ 22)
      ((rdivEven l (2 ^ 22), rdivEven r (2 ^ 22)), { x with left := ls, right := rs })
    else (s, x)
  let (s, x) := if d.flag (rAUD_BUS_CTRL b) fAUD_BUS_CTRL_LIM_EN then d.limiter b x s else (s, { x with look := [], gr := 0 })
  let d := (d.setBus b x).setFld (rAUD_BUS_LIM b) fAUD_BUS_LIM_GR (min 15 (x.gr / (24 * 65536)))
  let (s, d) := d.delayLine b m late s
  (outs ++ [s], d)

/-! ### TDM ports and jacks (R428 to R433) -/

/-- The slots that a running port sends; none when it is idle (R428). -/
def Dev.tdmSlots (d : Dev) (p : Nat) : Nat :=
  let c := rAUD_TDM_CTRL p
  let f := d.fld c fAUD_TDM_CTRL_FMT
  let n := d.fld c fAUD_TDM_CTRL_SLOTS
  if !d.flag c fAUD_TDM_CTRL_EN ∨ f = 3 ∨ (f = 0 ∧ n ≠ 0) then 0 else 2 ^ (n + 1)

def chanOf (c : Nat) (p : Int × Int) : Int := if c = 0 then p.1 else p.2

/-- Slot `s` of port `p` (R429): the 32-bit word, and whether it saturates. -/
def Dev.tdmWord (d : Dev) (outs : List (Int × Int)) (direct : Int × Int) (p s : Nat) : Nat × Bool :=
  let a := rAUD_TDM_SLOT p s
  let src := d.fld a fAUD_TDM_SLOT_SRC
  let x : Int := if src < 32 then chanOf (src % 2) (outs.getD (src / 2) (0, 0)) else 0
  let x := if d.flag a fAUD_TDM_SLOT_DADD then x + chanOf (d.fld a fAUD_TDM_SLOT_DCH) direct else x
  if d.flag (rAUD_TDM_CTRL p) fAUD_TDM_CTRL_W16 then
    let (y, c) := toBits 16 x
    (intToNat 16 y * 65536, c)
  else
    let (y, c) := toBits 24 x
    (intToNat 24 y * 256, c)

/-- A slot sent; a saturated one is counted. -/
def Dev.tdmSend (outs : List (Int × Int)) (direct : Int × Int) (d : Dev) (k : Nat) : Dev :=
  let (w, clip) := d.tdmWord outs direct (k / 16) (k % 16)
  let d := d.modAud (fun a => { a with tdm := a.tdm ++ [(k, w)] })
  d.when clip (fun d => (d.bump rAUD_CLIP_CNT fAUD_CLIP_CNT_COUNT).raise rAUD_STATUS fAUD_STATUS_CLIP)

/-- Does jack `j`'s amplifier drive (R431)? Not behind a removal, and not for an unknown accessory (R432). -/
def Dev.ampOn (d : Dev) (j : Nat) : Bool :=
  let acc := d.fld (rAUD_HPH_STATUS j) fAUD_HPH_STATUS_ACC
  d.audOn && d.flag (rAUD_HPH_CTRL j) fAUD_HPH_CTRL_EN && !d.flag (rAUD_HPH_STATUS j) fAUD_HPH_STATUS_SHORT &&
    !d.aud.muted.contains j && acc != 7 &&
    (!d.flag (rAUD_HPH_CTRL j) fAUD_HPH_CTRL_AUTO ||
      (d.flag (rAUD_HPH_STATUS j) fAUD_HPH_STATUS_PLUGGED && decide (1 ≤ acc ∧ acc ≤ 4)))

/-- What jack `j` drives: none when its outputs are held at ground. -/
def Dev.ampSample (d : Dev) (outs : List (Int × Int)) (direct : Int × Int) (j : Nat) : Option (Int × Int) :=
  if d.ampOn j then
    let c := rAUD_HPH_CTRL j
    let s := outs.getD (d.fld c fAUD_HPH_CTRL_BUS) (0, 0)
    let s := if d.flag c fAUD_HPH_CTRL_DADD then addPair s direct else s
    let g : Int := ((d.ramp (145 + j)).lin : Nat)
    some (rdivEven (s.1 * g) (2 ^ 24), rdivEven (s.2 * g) (2 ^ 24))
  else none

/-- The amplifier follows a change of its jack at once. -/
def Dev.ampSettle (d : Dev) (j : Nat) : Dev :=
  if d.ampOn j then d else d.modAud (fun a => { a with drive := a.drive.set j none })

/-- A plug or button change declared (R433). -/
def Dev.jackEvent (d : Dev) (j : Nat) : Dev := d.evIf (rAUD_HPH_CTRL j) fAUD_HPH_CTRL_EV_EN fAUD_HPH_CTRL_EV

/-- A plug declared inserted: identification begins (R432). -/
def Dev.jackPlug (d : Dev) (j : Nat) : Dev :=
  if d.flag (rAUD_HPH_STATUS j) fAUD_HPH_STATUS_PLUGGED then d
  else (d.wake 28).modAud (fun a => { a with ident := j :: a.ident.filter (· != j) })

/-- The accessory that the measured impedances, in ohms, identify (R432): ring 2 to sleeve, the left load, the sleeve with ring 2 grounded,
ring 2 with the sleeve grounded. -/
def jackAcc (r2s left sl r2 : Nat) : Nat :=
  if r2s < 50 ∧ 5000 < left then 4 else if r2s < 50 then 1
  else if 600 ≤ sl ∧ sl ≤ 30000 then 2 else if 600 ≤ r2 ∧ r2 ≤ 30000 then 3 else 7

/-- Identification ends; the mute of an earlier removal does too (log entry 53). -/
def Dev.jackId (d : Dev) (j r2s left sl r2 : Nat) : Dev :=
  if !d.aud.ident.contains j then d
  else
    let acc := jackAcc r2s left sl r2
    let d := d.modAud (fun a => { a with ident := a.ident.filter (· != j), muted := a.muted.filter (· != j) })
    let a := rAUD_HPH_STATUS j
    let d := ((d.setFld a fAUD_HPH_STATUS_PLUGGED 1).setFld a fAUD_HPH_STATUS_ACC acc).setFld a fAUD_HPH_STATUS_SWAPPED (acc == 3).toNat
    let d := d.raise a fAUD_HPH_STATUS_PLUG_IN
    let d := d.when (acc == 7) (·.raise a fAUD_HPH_STATUS_ID_FAIL)
    (d.ampSettle j).jackEvent j

/-- A removal declared: identification is abandoned, or the plug state cleared and the amplifier muted (R432). -/
def Dev.jackRemoval (d : Dev) (j : Nat) : Dev :=
  if !d.flag (rAUD_HPH_STATUS j) fAUD_HPH_STATUS_PLUGGED ∧ !d.aud.ident.contains j then d
  else
    let d := d.modAud (fun a => { a with ident := a.ident.filter (· != j), muted := j :: a.muted.filter (· != j) })
    let a := rAUD_HPH_STATUS j
    let d := d.wr a (natSetBits (d.rd a) 15 9 0)
    ((d.raise a fAUD_HPH_STATUS_PLUG_OUT).ampSettle j).jackEvent j

/-- The button that a microphone current of `i` µA decodes to, as BTN shows it (R433). -/
def Dev.jackButton (d : Dev) (j i : Nat) : Nat :=
  let thr (k : Nat) : Nat := d.rd (rAUD_HPH_BTN_THR j k)
  match (List.range 4).find? (fun k => decide (thr k ≤ i) && (k == 3 || decide (i < thr (k + 1)))) with
  | some k => 2 ^ k
  | none => 0

/-- A microphone current that has held for BTN_DB: a changed button is declared. -/
def Dev.jackMic (d : Dev) (j i : Nat) : Dev :=
  let a := rAUD_HPH_STATUS j
  let acc := d.fld a fAUD_HPH_STATUS_ACC
  if (acc ≠ 2 ∧ acc ≠ 3) ∨ !d.flag (rAUD_HPH_DET j) fAUD_HPH_DET_BTN_EN then d
  else
    let d := d.wr (rAUD_HPH_MIC_I j) (min 1023 i)
    let old := d.fld a fAUD_HPH_STATUS_BTN
    let now := d.jackButton j i
    if now = old then d
    else
      let d := d.setFld a fAUD_HPH_STATUS_BTN now
      let d := d.when (now != 0) (·.raise a fAUD_HPH_STATUS_BTN_PRESS)
      let d := d.when (old != 0) (·.raise a fAUD_HPH_STATUS_BTN_REL)
      d.jackEvent j

/-! ### Chime monitors (R434) -/

/-- The lowest pin that names port `p`'s DOUT (R510). -/
def Dev.doutPin (d : Dev) (p : Nat) : Option Nat :=
  (List.range 96).find? (fun q => d.fld (rXBAR_PIN q) fXBAR_PIN_SRC_A == 0x2A + 3 * p || d.fld (rXBAR_PIN q) fXBAR_PIN_SRC_B == 0x2A + 3 * p)

/-- The other sources of pin `q` beside port `p`'s DOUT whose output enable is 1 (R507 to R509): for each the level that it holds, none for a
signal that moves of itself. -/
def Dev.padMates (d : Dev) (p q : Nat) : List (Option Bool) :=
  let x := rXBAR_PIN q
  let src (c : Nat) : List (Option Bool) :=
    if c = 0x2A + 3 * p ∨ !(d.xbarSignal q c).1 then []
    else [if xbarCode c = 1 ∨ 0x40 ≤ xbarCode c then some (d.xbarSignal q c).2 else none]
  let trs := if !(d.xbarTrs q).1 then [] else [if d.fld x fXBAR_PIN_TRS_STATE = 3 then none else some (d.xbarTrs q).2]
  src (d.fld x fXBAR_PIN_SRC_A) ++ src (d.fld x fXBAR_PIN_SRC_B) ++ trs

/-- What the input buffer of pin `q` reads while it carries port `p`'s DOUT and the port sends `w` (R507, R510): the OR of its sources, inverted
where INV says so. A pad that another block drives, whose output is off or is open drain, or that a moving signal shares, reads a free value. -/
def Dev.padSlot (d : Dev) (p q w : Nat) : Nat × Dev :=
  let ms := d.padMates p q
  if d.padOwner q ≠ 0 ∨ d.bankOff (q / 16) ∨ d.padOpen q ∨ ms.contains none then
    let (f, d) := d.takeNat
    (f % 2 ^ 32, d)
  else
    let v := if ms.contains (some true) then 2 ^ 32 - 1 else w
    (if d.flag (rXBAR_PIN q) fXBAR_PIN_INV then 2 ^ 32 - 1 - v else v, d)

/-- What a monitor of DOUT reads (R434, R510, R555): silence where no pin carries the signal and 0 where the pin's bank has no supply; else the word
that the pad is found to return, or the one that its sources give. -/
def Dev.monOut (d : Dev) (p sent : Nat) (got : Option Nat) : Nat × Dev :=
  match d.doutPin p with
  | none => (0, d)
  | some q =>
    if !d.flag (rGPIO_BANK_STATUS (q / 16)) fGPIO_BANK_STATUS_PWR_OK then (0, d)
    else
      match got with
      | some w => (w % 2 ^ 32, d)
      | none => d.padSlot p q sent

/-- What a monitor of DIN reads (R434, R510, R555): the word at the input's pin, through the input's INV and EN. -/
def Dev.monIn (d : Dev) (p : Nat) (got : Option Nat) : Nat :=
  let x := rXBAR_IN (0x20 + p)
  let q := d.fld x fXBAR_IN_PIN
  let w := if 96 ≤ q ∨ !d.flag (rGPIO_BANK_STATUS (q / 16)) fGPIO_BANK_STATUS_PWR_OK then 0 else got.getD 0 % 2 ^ 32
  if !d.flag x fXBAR_IN_EN then 0 else if d.flag x fXBAR_IN_INV then 2 ^ 32 - 1 - w else w

/-- Does a block of 96 slot samples with this sum of squares reach `k` × 0.125 dB below full scale? -/
def loudEnough (sum k : Nat) : Bool := decide ((96 * 2 ^ 62) ^ 80 ≤ sum ^ 80 * 10 ^ k)

/-- The level of a block, 0.125 dB below full scale, rounded up; 1,023 and less loud read 1,023. -/
def blockLevel (sum : Nat) : Nat := least (fun k => k == 1023 || loudEnough sum k) 0 10

/-- Monitor `m` takes the slot sample that it watches. `got` are the slots as the pads and pins returned them, where given. -/
def Dev.monSample (got : List (Nat × Nat)) (d : Dev) (m : Nat) : Dev :=
  let c := rAUD_MON_CTRL m
  let a := rAUD_MON_RESULT m
  if !d.flag a fAUD_MON_RESULT_ARMED then d
  else
    let p := d.fld c fAUD_MON_CTRL_PORT
    let k := 16 * p + d.fld c fAUD_MON_CTRL_SLOT
    let sent := (assocGet d.aud.tdm k).getD 0
    let din := d.flag c fAUD_MON_CTRL_SRC
    let runs := (assocGet d.aud.tdm k).isSome
    let (w, d) : Nat × Dev :=
      if !runs then (0, d)
      else if din then (d.monIn p (assocGet got (k + 64)), d)
      else d.monOut p sent (assocGet got k)
    let x := d.aud.mons.getD m ⟨0, 0⟩
    let sum := x.sum + (natToInt 32 w).natAbs ^ 2
    if x.cnt + 1 < 96 then d.modAud (fun a => { a with mons := a.mons.set m ⟨sum, x.cnt + 1⟩ })
    else
      let lvl := blockLevel sum
      let d := d.modAud (fun a => { a with mons := a.mons.set m ⟨0, 0⟩ })
      let d := d.setFld a fAUD_MON_RESULT_BEST (min lvl (d.fld a fAUD_MON_RESULT_BEST))
      if loudEnough sum (d.fld (rAUD_MON_THR m) fAUD_MON_THR_THR) then (d.setFld a fAUD_MON_RESULT_ARMED 0).setFld a fAUD_MON_RESULT_PASS 1 else d

/-- A monitor's window ends without a passing block. -/
def Dev.monMiss (d : Dev) (m : Nat) : Dev :=
  let a := rAUD_MON_RESULT m
  if !d.flag a fAUD_MON_RESULT_ARMED then d
  else
    let d := ((d.setFld a fAUD_MON_RESULT_ARMED 0).setFld a fAUD_MON_RESULT_MISS 1).irqRaise 298
    let d := (d.raise rAUD_STATUS fAUD_STATUS_MISS).bump rAUD_MISS_CNT fAUD_MISS_CNT_COUNT
    let d := d.evIf (rAUD_MON_THR m) fAUD_MON_THR_EV_EN fAUD_MON_THR_EV
    d.reportUnit 0x0C 0x0D 0

/-! ### The sample period -/

/-- Output sample `m` computed and sent: voices, buses, TDM slots, jacks and monitors. -/
def Dev.audSample (d : Dev) (m : Nat) (late : List Nat) (got : List (Nat × Nat)) : Dev :=
  let (mix, d) := (List.range 128).foldl (Dev.renderVoice late) (⟨List.replicate 16 (0, 0), (0, 0)⟩, d)
  let (outs, d) := (List.range 16).foldl (Dev.busOut mix late m) ([], d)
  let g : Int := ((d.ramp 144).lin : Nat)
  let direct := (rdivEven (mix.direct.1 * g) (2 ^ 24), rdivEven (mix.direct.2 * g) (2 ^ 24))
  let keys := (List.range 64).filter (fun k => decide (k % 16 < d.tdmSlots (k / 16)))
  let d := keys.foldl (Dev.tdmSend outs direct) (d.modAud (fun a => { a with tdm := [] }))
  let d := d.modAud (fun a => { a with drive := [d.ampSample outs direct 0, d.ampSample outs direct 1], gains := a.gains.map Ramp.step })
  (List.range 8).foldl (Dev.monSample got) d

/-- A sample period begins (R417, R59): the one that BT has entered, or the next, to whose start BT moves on unless the TG0 frame ends
there (log entry 4). Starts and stops placed in it then take effect. -/
def Dev.samplePeriod (d : Dev) (late : List Nat) (got : List (Nat × Nat)) : Dev :=
  let s := 48000 / d.groupHz 0
  let cur := d.audIndex d.btu.e
  let e' := d.btu.e / 2 ^ 24 * 2 ^ 24 + cdiv ((d.btu.e % 2 ^ 24 * s / 2 ^ 24 + 1) * 2 ^ 24) s
  let entered := cur != d.aud.n
  if !entered ∧ (d.btu.e / 2 ^ 24 + 1) * 2 ^ 24 ≤ e' then d
  else
    let d := if entered then d else d.advanceTo e'
    let m := d.audIndex d.btu.e
    let d := d.modAud (fun a => { a with n := m })
    let d := if d.audOn then d.audSample m late got else d
    let ps := d.aud.pend
    ps.foldl (fun d p => d.voiceServe p.1 p.2) (d.modAud (fun a => { a with pend := [] }))

/-- Does the unit hold PIER28 at ON (R435)? -/
def Dev.audHolds (d : Dev) : Bool :=
  d.aud.voices.any (·.st != 0) || (List.range 4).any (fun p => d.flag (rAUD_TDM_CTRL p) fAUD_TDM_CTRL_EN) ||
    (List.range 2).any (fun j => d.flag (rAUD_HPH_CTRL j) fAUD_HPH_CTRL_EN) ||
    (List.range 8).any (fun m => d.flag (rAUD_MON_RESULT m) fAUD_MON_RESULT_ARMED) || !d.aud.ident.isEmpty

/-! ### Commands -/

def execAudVstartWrite (k : Fin 6) (value : Reg) (s : State) := s.upd (·.voiceMask true k value.toNat)

def execAudVstopWrite (k : Fin 6) (value : Reg) (s : State) := s.upd (·.voiceMask false k value.toNat)

def execAudioSamplePeriod (late : List (Fin 144)) (got : List (Fin 128 × BitVec 32)) (s : State) :=
  s.upd (·.clocked 24 (·.samplePeriod (late.map Fin.val) (got.map (fun p => (p.1.val, p.2.toNat)))))

def execAudGainWrite (gain : Fin 147) (value : Reg) (s : State) := s.upd (·.gainWrite gain value.toNat)

def execAudEqA2Write (bus : Fin 16) (band : Fin 10) (value : Reg) (s : State) := s.upd (·.eqWrite bus band 4 value.toNat)

def execMonitorWindowExpiry (mon : Fin 8) (s : State) := s.upd (·.monMiss mon)

def execJackPlugDebounced (jack : Fin 2) (s : State) := s.upd (·.jackPlug jack)

def execJackIdDone (jack : Fin 2) (r2s left sleeve ring2 : Nat) (s : State) := s.upd (·.jackId jack r2s left sleeve ring2)

def execJackRemoval (jack : Fin 2) (s : State) := s.upd (·.jackRemoval jack)

def execJackButtonChange (jack : Fin 2) (micI : Nat) (s : State) := s.upd (·.jackMic jack micI)

def execJackShort (jack : Fin 2) (s : State) := s.upd (fun d => (d.raise (rAUD_HPH_STATUS jack) fAUD_HPH_STATUS_SHORT).ampSettle jack)

end Sys2Proof.Machine
end

