-- ==== Sys2Proof/Machine/Blitter.lean ====
section
/-! DEFINITION. The blitter (R400 to R410), and the starts and stops of DMA channels (R386 to R388). -/

namespace Sys2Proof.Machine

/-- A 40-bit address held as a register pair. -/
def Dev.rd40 (d : Dev) (lo hi : Nat) : Nat := d.rd lo + d.rd hi % 65536 * 2 ^ 24
def Dev.wr40 (d : Dev) (lo hi v : Nat) : Dev := (d.wr lo (v % 2 ^ 24)).wr hi (v / 2 ^ 24 % 65536)

/-! ### Starts and stops of channels -/

def Chan.idle : Chan := ⟨0, 0, [], none, 0, 0, false, 0, false, 0, 0, false⟩
def Dev.chan (d : Dev) (c : Nat) : Chan := d.dma.ch.getD c Chan.idle
def Dev.setChan (d : Dev) (c : Nat) (x : Chan) : Dev := { d with dma := { d.dma with ch := d.dma.ch.set c x } }

/-- The state of channel `c` (R386). -/
def Dev.chState (d : Dev) (c : Nat) : Nat := d.fld (rDMA_CH_STATUS c) fDMA_CH_STATUS_STATE
def Dev.setChState (d : Dev) (c st : Nat) : Dev := d.setFld (rDMA_CH_STATUS c) fDMA_CH_STATUS_STATE st

/-- The address of channel `c`'s current instruction. -/
def Dev.chPc (d : Dev) (c : Nat) : Nat := d.rd40 (rDMA_CH_PC_LO c) (rDMA_CH_PC_HI c)
def Dev.setChPc (d : Dev) (c v : Nat) : Dev := d.wr40 (rDMA_CH_PC_LO c) (rDMA_CH_PC_HI c) (v % 2 ^ 40)

/-- A start of channel `c` (R387). Beside a stop of the same clock that waits for its burst, it follows the stop (R411). -/
def Dev.chStart (d : Dev) (c : Nat) : Dev :=
  let d := d.wake 29
  let x := d.chan c
  if 32 ≤ c then d
  else if d.chState c = 1 ∧ x.stopReq ∧ x.stopAt = d.btu.clocks then d.setChan c { x with again := true }
  else if d.chState c = 1 ∨ d.chState c = 2 then d.raise (rDMA_CH_STATUS c) fDMA_CH_STATUS_START_BUSY
  else
    let d := d.setChan c Chan.idle
    let a := rDMA_CH_STATUS c
    let d := ((d.setFld a fDMA_CH_STATUS_STATE 1).setFld a fDMA_CH_STATUS_CAUSE 0).setFld a fDMA_CH_STATUS_DEPTH 0
    d.setChPc c (d.rd40 (rDMA_CH_PROG_LO c) (rDMA_CH_PROG_HI c))

/-- A channel's program ended by a stop, which the start of the same clock follows (R411). -/
def Dev.chStopped (d : Dev) (c : Nat) : Dev :=
  let e := ((d.setChan c Chan.idle).setChState c 0).raise (rDMA_CH_STATUS c) fDMA_CH_STATUS_STOPPED
  if (d.chan c).again then e.chStart c else e

/-- A stop of channel `c` (R388): at once, or at the end of the burst in flight. -/
def Dev.chStop (d : Dev) (c : Nat) : Dev :=
  let x := d.chan c
  if d.chState c = 2 then d.chStopped c
  else if d.chState c = 1 then
    (if x.burst ≠ 2 then d.chStopped c
     else if x.stopReq then d
     else d.setChan c { x with stopReq := true, stopAt := d.btu.clocks })
  else d

/-- A write of DMAc_CTRL; `owner` says that the writer may set OWNER (R398). A stop applies before a start (R411). -/
def Dev.chCtrlWrite (d : Dev) (c v : Nat) (owner : Bool) : Dev :=
  let a := rDMA_CH_CTRL c
  let keep := if owner then 0x3FF000 else 0x33F000
  let d := d.wr a ((d.rd a &&& (0xFFFFFF - keep)) ||| (v &&& keep))
  let d := d.when (natBit v 22) (·.chStop c)
  d.when (natBit v 23) (·.chStart c)

/-! ### Surfaces (R400 to R403) -/

/-- The fabric master of the blitter (R367). -/
def masterBlt : Nat := 0x41

/-- Is `a` a word of main memory or of LPDDR5X (R405)? One of an LPDDR5X whose pier is held OFF is: an access to it is a bus error (R407). -/
def Dev.bltReach (d : Dev) (a : Nat) : Bool :=
  decide (a < 0x1000000) || (decide (0x8000000000 ≤ a) && d.ddrThere (a - 0x8000000000))

/-- A word read by the blitter: none on a bus error. -/
def Dev.bltRead (d : Dev) (a : Nat) : Option Word × Dev :=
  if d.bltReach a then
    let d := d.fabricRead masterBlt a
    match d.mem.resp with
    | some r => (if r.status = 0 then some r.data else none, d)
    | none => (none, d)
  else (none, d)

/-- A word or part of a word written by the blitter; false on a bus error. -/
def Dev.bltWrite (d : Dev) (a : Nat) (v mask : Word) : Bool × Dev :=
  if d.bltReach a then
    let d := (d.fabricWrite masterBlt a v mask).2
    ((d.mem.resp.map (·.status)) == some 0, d)
  else (false, d)

/-- A surface. -/
structure Surf where
  base : Nat
  pitch : Nat
  fmt : Nat

def Dev.bltSrc (d : Dev) : Surf :=
  ⟨d.rd40 rBLT_SRC_LO rBLT_SRC_HI, d.fld rBLT_SRC_FMT fBLT_SRC_FMT_PITCH, d.fld rBLT_SRC_FMT fBLT_SRC_FMT_FORMAT⟩
def Dev.bltDst (d : Dev) : Surf :=
  ⟨d.rd40 rBLT_DST_LO rBLT_DST_HI, d.fld rBLT_DST_FMT fBLT_DST_FMT_PITCH, d.fld rBLT_DST_FMT fBLT_DST_FMT_FORMAT⟩

/-- The operation's parameters as the registers hold them. -/
structure BltOp where
  op : Nat
  rot : Nat
  hflip : Bool
  vflip : Bool
  transp0 : Bool
  src : Surf
  dst : Surf
  sx : Nat
  sy : Nat
  w : Nat
  h : Nat
  dx : Nat
  dy : Nat
  fill : Nat
  alpha : Nat

def Dev.bltOp (d : Dev) : BltOp where
  op := d.fld rBLT_CTRL fBLT_CTRL_OP
  rot := d.fld rBLT_CTRL fBLT_CTRL_ROT
  hflip := d.flag rBLT_CTRL fBLT_CTRL_HFLIP
  vflip := d.flag rBLT_CTRL fBLT_CTRL_VFLIP
  transp0 := d.flag rBLT_CTRL fBLT_CTRL_TRANSP0
  src := d.bltSrc
  dst := d.bltDst
  sx := d.rd rBLT_SX
  sy := d.rd rBLT_SY
  w := d.rd rBLT_W
  h := d.rd rBLT_H
  dx := d.rd rBLT_DX
  dy := d.rd rBLT_DY
  fill := d.rd rBLT_FILL_LO + d.rd rBLT_FILL_HI * 2 ^ 24
  alpha := d.rd rBLT_ALPHA

def BltOp.turned (o : BltOp) : Bool := o.op != 1 && (o.rot == 1 || o.rot == 3)
def BltOp.moved (o : BltOp) : Bool := o.op != 1 && (o.rot != 0 || o.hflip || o.vflip)
/-- The destination rectangle's size (R402). -/
def BltOp.dw (o : BltOp) : Nat := if o.turned then o.h else o.w
def BltOp.dh (o : BltOp) : Nat := if o.turned then o.w else o.h

/-- The source pixel of destination pixel (u, v) (R402, R116). -/
def BltOp.from (o : BltOp) (u v : Nat) : Nat × Nat :=
  let qx := if o.hflip then o.dw - 1 - u else u
  let qy := if o.vflip then o.dh - 1 - v else v
  if o.rot = 0 then (qx, qy) else if o.rot = 1 then (qy, o.h - 1 - qx)
  else if o.rot = 2 then (o.w - 1 - qx, o.h - 1 - qy) else (o.w - 1 - qy, qx)

/-- The first and last word of row `y` of a rectangle. -/
def Surf.rowWords (s : Surf) (x y w : Nat) : Nat × Nat :=
  let b := fmtBits s.fmt
  (s.base + y * s.pitch + x * b / 48, s.base + y * s.pitch + ((x + w) * b - 1) / 48)

/-- Does a destination pixel pass the clip (R403)? -/
def Dev.bltClip (d : Dev) (x y : Nat) : Bool :=
  let en := d.fld rBLT_CLIP_CTRL fBLT_CLIP_CTRL_EN
  let inside (k : Nat) : Bool :=
    natBit en k && decide (d.rd (rBLT_CLIP k 0) ≤ x ∧ x < d.rd (rBLT_CLIP k 0) + d.rd (rBLT_CLIP k 2) ∧
      d.rd (rBLT_CLIP k 1) ≤ y ∧ y < d.rd (rBLT_CLIP k 1) + d.rd (rBLT_CLIP k 3))
  en == 0 || ((List.range 4).any inside != d.flag rBLT_CLIP_CTRL fBLT_CLIP_CTRL_INVERT)

/-- A format the blitter takes (R400). -/
def bltFmt (f : Nat) : Bool := decide (f ≤ 6) || f == 8 || f == 9

/-- Do two rectangles share a word? -/
def sharesWord (a : Surf) (ax ay aw ah : Nat) (b : Surf) (bx bq bw bh : Nat) : Bool :=
  (List.range ah).any (fun i =>
    let p := a.rowWords ax (ay + i) aw
    (List.range bh).any (fun j =>
      let q := b.rowWords bx (bq + j) bw
      decide (p.1 ≤ q.2 ∧ q.1 ≤ p.2)))

/-- Every row of a rectangle lies in one memory that the blitter reaches. -/
def Dev.rectIn (d : Dev) (s : Surf) (x y w h : Nat) : Bool :=
  w == 0 || (List.range h).all (fun i =>
    let p := s.rowWords x (y + i) w
    d.bltReach p.1 && d.bltReach p.2 && (decide (p.1 < 0x1000000) == decide (p.2 < 0x1000000)))

/-- Why an operation is refused (R405); 0 when it is not. -/
def Dev.bltCause (d : Dev) (o : BltOp) : Nat :=
  let usesSrc := o.op != 1
  let wide (s : Surf) (x w : Nat) : Bool := decide (s.pitch * 48 < (x + w) * fmtBits s.fmt)
  if o.op = 3 ∨ !bltFmt o.dst.fmt ∨ (usesSrc ∧ !bltFmt o.src.fmt) then 1
  else if (o.op = 0 ∧ o.src.fmt ≠ o.dst.fmt) ∨
      (o.op = 2 ∧ ((o.src.fmt ≠ 6 ∧ o.src.fmt ≠ 3) ∨ o.dst.fmt < 4 ∨ 6 < o.dst.fmt)) then 2
  else if wide o.dst o.dx o.dw ∨ (usesSrc ∧ wide o.src o.sx o.w) then 3
  else if !d.rectIn o.dst o.dx o.dy o.dw o.dh ∨ (usesSrc ∧ !d.rectIn o.src o.sx o.sy o.w o.h) then 4
  else if o.moved ∧ o.w ≠ 0 ∧ o.h ≠ 0 ∧ sharesWord o.src o.sx o.sy o.w o.h o.dst o.dx o.dy o.dw o.dh then 5
  else 0

/-! ### Blending (R404) -/

/-- The 8-bit channels and alpha of a pixel value: RGB565 widened by bit replication. -/
def bltChans (f v : Nat) : Nat × Nat × Nat × Nat :=
  let r := natBits v 11 5
  let g := natBits v 5 6
  let b := natBits v 0 5
  if f = 4 then (r * 8 + r / 4, g * 4 + g / 16, b * 8 + b / 4, 255)
  else if f = 5 then (natBits v 16 8, natBits v 8 8, natBits v 0 8, 255)
  else (natBits v 24 8, natBits v 16 8, natBits v 8 8, natBits v 0 8)

/-- A destination pixel blended with a source pixel. For A8 the coverage scales the colour's alpha (log entry 16). -/
def BltOp.blend (o : BltOp) (sv dv : Nat) : Nat :=
  let col := bltChans 6 (if o.src.fmt = 3 then o.fill % 2 ^ 32 else sv)
  let s := if o.src.fmt = 3 then rneN (sv * col.2.2.2) 255 else col.2.2.2
  let a := rneN (s * o.alpha) 255
  let dc := bltChans o.dst.fmt dv
  let mix (x y : Nat) : Nat := rneN (x * a + y * (255 - a)) 255
  let r := mix col.1 dc.1
  let g := mix col.2.1 dc.2.1
  let b := mix col.2.2.1 dc.2.2.1
  if o.dst.fmt = 4 then rneN (r * 31) 255 * 2048 + rneN (g * 63) 255 * 32 + rneN (b * 31) 255
  else if o.dst.fmt = 5 then r * 65536 + g * 256 + b
  else r * 2 ^ 24 + g * 65536 + b * 256 + (a + rneN (dc.2.2.2 * (255 - a)) 255)

/-! ### Carrying an operation out (R401 to R407) -/

/-- The words at `as` read in order: the address of the first that meets a bus error. -/
def Dev.bltReadAll (d : Dev) (as : List Nat) : Option Nat × Dev :=
  as.foldl (fun (p : Option Nat × Dev) a =>
    if p.1.isSome then p
    else
      let (w, d) := p.2.bltRead a
      (if w.isSome then none else some a, d)) (none, d)

/-- The word at `a` without the effects of a read: as it was read before any write, where it was (R405). -/
def Dev.bltPeek (d : Dev) (old : List (Nat × Word)) (a : Nat) : Nat :=
  match assocGet old a with
  | some w => w.toNat
  | none => if a < 0x1000000 then (d.peek a).toNat else (d.ddrWord (a - 0x8000000000)).toNat

/-- Pixel (x, y) of a surface. -/
def Dev.surfPixel (d : Dev) (old : List (Nat × Word)) (s : Surf) (x y : Nat) : Nat :=
  let b := fmtBits s.fmt
  streamBits (fun i => d.bltPeek old (s.base + y * s.pitch + i)) (x * b) b

/-- The words of pixel (x, y). -/
def Surf.pixWords (s : Surf) (x y : Nat) : List Nat := runAddrs (s.base + y * s.pitch) (x * fmtBits s.fmt) (fmtBits s.fmt)

/-- The burst of its row, 64 words from a multiple of 64 on, that pixel `x` lies in (R406; no pixel lies in two). -/
def Surf.burstOf (s : Surf) (x : Nat) : Nat := x * fmtBits s.fmt / 3072

/-- The bursts of a rectangle of `h` rows, each a row and its place there. -/
def Surf.bursts (s : Surf) (x w h : Nat) : List (Nat × Nat) :=
  let p := s.burstOf x
  (List.range h).flatMap (fun v => (List.range (s.burstOf (x + w - 1) + 1 - p)).map (fun i => (v, p + i)))

/-- Is it a COPY whose whole source is read before any write (R405)? -/
def BltOp.overlaps (o : BltOp) : Bool := o.op == 0 && !o.moved && sharesWord o.src o.sx o.sy o.w o.h o.dst o.dx o.dy o.dw o.dh

/-- A burst of the source of an overlapping COPY read, and its words kept. -/
def Dev.bltReadBurst (d : Dev) (o : BltOp) (r : BltRun) (v q : Nat) : BltRun × Dev :=
  let p := o.src.rowWords o.sx (o.sy + v) o.w
  let row := o.src.base + (o.sy + v) * o.src.pitch
  let lo := max p.1 (row + 64 * q)
  let as := (List.range (min p.2 (row + 64 * q + 63) + 1 - lo)).map (lo + ·)
  let (e, d) := d.bltReadAll as
  match e with
  | some a => ({ r with bad := some a }, d)
  | none => ({ r with pos := r.pos + 1, tries := 0, old := as.map (fun a => (a, BitVec.ofNat 48 (d.bltPeek [] a))) ++ r.old }, d)

/-- The value that pixel (u, v) of the destination rectangle takes (R401 to R404); none where it is not written. -/
def Dev.bltPixel (d : Dev) (o : BltOp) (old : List (Nat × Word)) (u v : Nat) : Option Nat :=
  let p := o.from u v
  let x := d.surfPixel old o.src (o.sx + p.1) (o.sy + p.2)
  if o.op = 1 then some (o.fill % 2 ^ fmtBits o.dst.fmt)
  else if o.op = 0 then (if o.transp0 ∧ o.src.fmt ≤ 2 ∧ x = 0 then none else some x)
  else some (o.blend x (d.surfPixel [] o.dst (o.dx + u) (o.dy + v)))

/-- What pixels of `b` bits, each with its first stream bit, put into word `j` of their row: the bits written and their values. -/
def dotsPart (b : Nat) (px : List (Nat × Nat)) (j : Nat) : Nat × Nat :=
  px.foldl (fun m p =>
    let lo := max p.1 (48 * j)
    let hi := min (p.1 + b) (48 * j + 48)
    if hi ≤ lo then m
    else (m.1 ||| (2 ^ (hi - lo) - 1) * 2 ^ (48 * j + 48 - hi), m.2 ||| natBits p.2 (p.1 + b - hi) (hi - lo) * 2 ^ (48 * j + 48 - hi))) (0, 0)

/-- A burst of the destination: what it needs is read, then each word that holds a pixel is written, whole or in part (R406). -/
def Dev.bltWriteBurst (d : Dev) (o : BltOp) (r : BltRun) (v q : Nat) : BltRun × Dev :=
  let b := fmtBits o.dst.fmt
  let row := o.dst.base + (o.dy + v) * o.dst.pitch
  let us := (List.range o.dw).filter (fun u => o.dst.burstOf (o.dx + u) == q && d.bltClip (o.dx + u) (o.dy + v))
  let src := us.flatMap (fun u => let p := o.from u v; o.src.pixWords (o.sx + p.1) (o.sy + p.2))
  let dst := us.flatMap (fun u => o.dst.pixWords (o.dx + u) (o.dy + v))
  let (e, d) := d.bltReadAll (((if o.op = 1 ∨ !r.old.isEmpty then [] else src) ++ (if o.op = 2 then dst else [])).eraseDups)
  match e with
  | some a => ({ r with bad := some a }, d)
  | none =>
    let px := us.filterMap (fun u => (d.bltPixel o r.old u v).map (fun x => ((o.dx + u) * b, x)))
    let (bad, d) := ((List.range 64).map (64 * q + ·)).foldl (fun (p : Option Nat × Dev) j =>
      let m := dotsPart b px j
      if p.1.isSome ∨ m.1 = 0 then p
      else
        let (ok, d) := p.2.bltWrite (row + j) (BitVec.ofNat 48 m.2) (BitVec.ofNat 48 m.1)
        (if ok then none else some (row + j), d)) (none, d)
    match bad with
    | some a => ({ r with bad := some a }, d)
    | none => ({ r with pos := r.pos + 1, tries := 0 }, d)

/-- Bursts carried out in order, up to one that meets a bus error. -/
def Dev.bltBursts (f : Dev → BltRun → Nat → Nat → BltRun × Dev) : List (Nat × Nat) → BltRun → Dev → BltRun × Dev
  | [], r, d => (r, d)
  | p :: ps, r, d =>
    let x := f d r p.1 p.2
    if x.1.bad.isSome then x else Dev.bltBursts f ps x.1 x.2

/-- The operation carried on from its next burst, row by row from the left, to its end or its next bus error. -/
def Dev.bltRun (d : Dev) (o : BltOp) (r : BltRun) : Dev :=
  let r := { r with bad := none }
  let (r, d) :=
    if r.reading then
      let x := Dev.bltBursts (fun d => d.bltReadBurst o) ((o.src.bursts o.sx o.w o.h).drop r.pos) r d
      if x.1.bad.isSome then x else ({ x.1 with reading := false, pos := 0 }, x.2)
    else (r, d)
  let (r, d) :=
    if r.bad.isSome then (r, d) else Dev.bltBursts (fun d => d.bltWriteBurst o) ((o.dst.bursts o.dx o.dw o.dh).drop r.pos) r d
  { d with blt := { d.blt with op := some r } }

/-- An operation is over (R407): counted, its event raised; BUSY ends unless a list goes on. -/
def Dev.bltFinish (d : Dev) : Dev :=
  let d := ({ d with blt := { d.blt with op := none } }).setFld rBLT_CTRL fBLT_CTRL_GO 0
  let d := if d.blt.unit.isSome then d else d.setFld rBLT_STATUS fBLT_STATUS_BUSY 0
  let d := d.wr rBLT_OP_CNT ((d.rd rBLT_OP_CNT + 1) % 2 ^ 24)
  d.evIf rBLT_CTRL fBLT_CTRL_EV_EN fBLT_CTRL_EV

/-- A running list ends. -/
def Dev.listEnd (d : Dev) : Dev :=
  let d := { d with blt := { d.blt with unit := none } }
  (d.setFld rBLT_STATUS fBLT_STATUS_LIST 0).setFld rBLT_STATUS fBLT_STATUS_BUSY 0

/-- The blitter stops on a bus error at `a`, its retries exhausted (R407). -/
def Dev.bltError (d : Dev) (a : Nat) : Dev :=
  let d := ({ d with blt := { d.blt with op := none } }).setFld rBLT_CTRL fBLT_CTRL_GO 0
  (d.listEnd.wr40 rBLT_ERR_LO rBLT_ERR_HI (a % 2 ^ 40)).raise rBLT_STATUS fBLT_STATUS_BUS_ERR

/-- The operation in the registers checked and carried out (R405); false when it is refused. Its end is BLT_DONE. -/
def Dev.bltGo (d : Dev) : Bool × Dev :=
  let o := d.bltOp
  let c := d.bltCause o
  if c ≠ 0 then (false, (d.setFld rBLT_STATUS fBLT_STATUS_CAUSE c).raise rBLT_STATUS fBLT_STATUS_BAD)
  else if o.w = 0 ∨ o.h = 0 then (true, d.bltFinish)
  else
    (true, (d.setFld rBLT_STATUS fBLT_STATUS_BUSY 1).bltRun o ⟨o.overlaps, 0, [], none, 0⟩)

/-- Is the blitter busy? -/
def Dev.bltBusy (d : Dev) : Bool := d.flag rBLT_STATUS fBLT_STATUS_BUSY

/-- A write of BLT_CTRL (R405, R408). GO reads 1 while the operation it started runs (R13). -/
def Dev.bltCtrlWrite (d : Dev) (v : Nat) : Dev :=
  let d := d.wake 29
  if d.bltBusy then
    let d := d.wr rBLT_CTRL ((d.rd rBLT_CTRL &&& 0xBF8000) ||| (v &&& 0x40FF))
    let d := d.raise rBLT_STATUS fBLT_STATUS_WR_BUSY
    d.when (natBit v 23) (·.raise rBLT_STATUS fBLT_STATUS_GO_BUSY)
  else
    let d := d.wr rBLT_CTRL (v &&& 0x3FC0FF)
    let (ok, e) := d.bltGo
    if !natBit v 23 then d
    else if ok ∧ e.bltBusy then e.setFld rBLT_CTRL fBLT_CTRL_GO 1
    else e

/-- A write of another blitter parameter while BUSY is ignored (R408). -/
def Dev.bltParam (d : Dev) (a v : Nat) : Dev :=
  if d.bltBusy then d.raise rBLT_STATUS fBLT_STATUS_WR_BUSY else d.wr a v

/-- The operation completes; or the burst that met a bus error is retried, and the rest follows it, or the blitter stops once RETRY_MAX
retries have failed (R397, R407). -/
def Dev.bltDone (d : Dev) : Dev :=
  match d.blt.op with
  | none => d
  | some r =>
    match r.bad with
    | none => d.bltFinish
    | some a =>
      if r.tries < d.fld rDMA_CTRL fDMA_CTRL_RETRY_MAX then
        (d.bump rDMA_RETRY_CNT fDMA_RETRY_CNT_COUNT).bltRun d.bltOp { r with tries := r.tries + 1 }
      else d.bltError a

/-! ### YT5210 lists (R409, R410) -/

/-- A list starts at the address in BLT_LIST, both halves written. -/
def Dev.listStart (d : Dev) (lo hi : Nat) : Dev :=
  let d := d.wake 29
  if d.bltBusy then (d.raise rBLT_STATUS fBLT_STATUS_WR_BUSY).raise rBLT_STATUS fBLT_STATUS_GO_BUSY
  else
    let d := d.wr40 rBLT_LIST_LO rBLT_LIST_HI (lo + hi % 65536 * 2 ^ 24)
    let d := { d with blt := { d.blt with unit := some 0 } }
    (d.setFld rBLT_STATUS fBLT_STATUS_LIST 1).setFld rBLT_STATUS fBLT_STATUS_BUSY 1

/-- The word address that holds the first bit of unit `k`. -/
def Dev.unitAddr (d : Dev) (k : Int) : Nat :=
  intToNat 40 ((d.rd40 rBLT_LIST_LO rBLT_LIST_HI : Nat) + 32 * k / 48)

/-- A word of a list, read again up to `n` times on a bus error (R407). -/
def Dev.listWord (d : Dev) (a : Nat) : Nat → Option Word × Dev
  | 0 => d.bltRead a
  | n + 1 =>
    match d.bltRead a with
    | (some w, d) => (some w, d)
    | (none, d) => (d.bump rDMA_RETRY_CNT fDMA_RETRY_CNT_COUNT).listWord a n

/-- A list unit; none, with the address of the word that failed, on a bus error. -/
def Dev.listUnit (d : Dev) (k : Int) : Option Nat × Nat × Dev :=
  let a := d.unitAddr k
  let off := ((32 * k) % 48).toNat
  let n := d.fld rDMA_CTRL fDMA_CTRL_RETRY_MAX
  match d.listWord a n with
  | (none, d) => (none, a, d)
  | (some w, d) =>
    if off ≤ 16 then (some (natBits w.toNat (16 - off) 32), a, d)
    else
      let b := (a + 1) % 2 ^ 40
      let (x, d) := d.listWord b n
      (x.map (fun x => natBits (w.toNat * 2 ^ 48 + x.toNat) (64 - off) 32), b, d)

/-- The header of the list's current command: its OP, N and IMM. A bus error stops the list. -/
def Dev.listHead (d : Dev) : Option (Int × Nat × Nat × Nat) × Dev :=
  match d.blt.unit with
  | none => (none, d)
  | some k =>
    if d.blt.op.isSome then (none, d)
    else
      let d := d.wr40 rBLT_LIST_PC_LO rBLT_LIST_PC_HI (d.unitAddr k)
      let (h, a, d) := d.listUnit k
      match h with
      | none => (none, d.bltError a)
      | some h => (some (k, natBits h 26 6, natBits h 16 10, natBits h 0 16), d)

/-- A list stopped by a bad command. -/
def Dev.listBad (d : Dev) : Dev := d.listEnd.raise rBLT_STATUS fBLT_STATUS_LIST_BAD

/-- The number of units an OP takes; none for an unlisted OP. -/
def listN (op : Nat) : Option Nat :=
  if op = 1 ∨ op = 2 ∨ op = 3 then some 2 else if op = 4 ∨ op = 5 ∨ op = 6 then some 3
  else if op = 7 ∨ op = 0x3F then some 0 else if op = 8 then some 1 else none

/-- The units of a command; none, with the address, on a bus error. -/
def Dev.listArgs (d : Dev) (k : Int) : Nat → Option (List Nat) × Nat × Dev
  | 0 => (some [], 0, d)
  | n + 1 =>
    let (u, a, d) := d.listUnit k
    match u with
    | none => (none, a, d)
    | some u =>
      let (us, a, d) := d.listArgs (k + 1) n
      (us.map (u :: ·), a, d)

/-- The native format of a YT5210 format code. -/
def ytFormat (c : Nat) : Option Nat := [4, 5, 6, 2, 3, 1][c]?

/-- The list's current command, if it is `op`, with its IMM and units; it goes on behind the command. A command that no row names, or of
the wrong length, stops the list whichever row meets it. -/
def Dev.ytStep (d : Dev) (op : Nat) (f : Nat → List Nat → Int → Dev → Dev) : Dev :=
  let (h, d') := d.listHead
  match h with
  | none => d'
  | some (k, o, n, imm) =>
    if listN o ≠ some n then d'.listBad
    else if o ≠ op then d
    else
      let (us, a, d') := d'.listArgs (k + 1) n
      match us with
      | none => d'.bltError a
      | some us => f imm us k { d' with blt := { d'.blt with unit := some (k + 1 + n) } }

/-- SRC and DST: a surface. -/
def Dev.ytSurf (d : Dev) (lo hi fmt imm : Nat) (us : List Nat) : Dev :=
  match ytFormat (imm % 16) with
  | none => d.listBad
  | some f =>
    let org := d.rd40 rBLT_ORG_LO rBLT_ORG_HI
    (d.wr40 lo hi ((org + us.getD 0 0) % 2 ^ 40)).wr fmt (f * 2 ^ 20 + us.getD 1 0 % 65536)

def hi13 (u : Nat) : Nat := u / 65536 % 8192
def lo13 (u : Nat) : Nat := u % 8192

/-- CLIP: one clip rectangle and its enable. -/
def Dev.ytClip (d : Dev) (imm : Nat) (us : List Nat) : Dev :=
  let k := imm % 4
  let d := ((d.wr (rBLT_CLIP k 0) (hi13 (us.getD 0 0))).wr (rBLT_CLIP k 1) (lo13 (us.getD 0 0))).wr (rBLT_CLIP k 2) (hi13 (us.getD 1 0))
  let d := d.wr (rBLT_CLIP k 3) (lo13 (us.getD 1 0))
  d.wr rBLT_CLIP_CTRL (natSetBits (d.rd rBLT_CLIP_CTRL) k 1 (natBit imm 2).toNat)

/-- The registers of a rectangle. -/
def Dev.ytRect (d : Dev) (xy wh : Nat) (x y : Nat) : Dev :=
  (((d.wr x (hi13 xy)).wr y (lo13 xy)).wr rBLT_W (hi13 wh)).wr rBLT_H (lo13 wh)

/-- A list's operation run through the native registers (R410). -/
def Dev.ytRun (d : Dev) (op : Nat) : Dev :=
  let (ok, d) := (d.setFld rBLT_CTRL fBLT_CTRL_OP op).bltGo
  if ok then d else d.listBad

/-- COPY. -/
def Dev.ytCopy (d : Dev) (imm : Nat) (us : List Nat) : Dev :=
  let c := imm % 8
  if 6 ≤ c then d.listBad
  else
    let d := (d.ytRect (us.getD 0 0) (us.getD 1 0) rBLT_SX rBLT_SY).ytRect (us.getD 2 0) (us.getD 1 0) rBLT_DX rBLT_DY
    let v := (if c < 4 then c * 2 ^ 18 else 0) + (c == 4).toNat * 2 ^ 17 + (c == 5).toNat * 2 ^ 16 + (natBit imm 3).toNat * 2 ^ 15
    (d.wr rBLT_CTRL ((d.rd rBLT_CTRL &&& 0xF07FFF) ||| v)).ytRun 0

/-- FILL. -/
def Dev.ytFill (d : Dev) (us : List Nat) : Dev :=
  let d := d.ytRect (us.getD 0 0) (us.getD 1 0) rBLT_DX rBLT_DY
  let v := us.getD 2 0
  ((d.wr rBLT_FILL_LO (v % 2 ^ 24)).wr rBLT_FILL_HI (v / 2 ^ 24)).ytRun 1

/-- BLEND. -/
def Dev.ytBlend (d : Dev) (imm : Nat) (us : List Nat) : Dev :=
  let d := (d.ytRect (us.getD 0 0) (us.getD 1 0) rBLT_SX rBLT_SY).ytRect (us.getD 2 0) (us.getD 1 0) rBLT_DX rBLT_DY
  (d.wr rBLT_ALPHA (imm % 256)).ytRun 2

/-! ### Commands -/

def execDmaStartWrite (c : Fin 32) (value : Reg) (s : State) := s.upd (·.chCtrlWrite c (value.toNat ||| 0x800000) true)

def execDmaStopWrite (c : Fin 32) (value : Reg) (s : State) := s.upd (·.chCtrlWrite c (value.toNat ||| 0x400000) true)

/-- A GO whose OP is `op`. -/
def goValue (value op : Nat) : Nat := natSetBits value 20 2 op ||| 0x800000

def execBltCopy (value : Reg) (s : State) := s.upd (·.bltCtrlWrite (goValue value.toNat 0))

def execBltFill (value : Reg) (s : State) := s.upd (·.bltCtrlWrite (goValue value.toNat 1))

def execBltBlend (value : Reg) (s : State) := s.upd (·.bltCtrlWrite (goValue value.toNat 2))

def execBltDone (s : State) := s.upd (·.clocked 25 Dev.bltDone)

def execBltListStart (value : Reg) (s : State) := s.upd (fun d => d.listStart (d.staged rBLT_LIST_LO) value.toNat)

def execYtSrc (s : State) := s.upd (·.clocked 25 (·.ytStep 1 (fun imm us _ d => d.ytSurf rBLT_SRC_LO rBLT_SRC_HI rBLT_SRC_FMT imm us)))

def execYtDst (s : State) := s.upd (·.clocked 25 (·.ytStep 2 (fun imm us _ d => d.ytSurf rBLT_DST_LO rBLT_DST_HI rBLT_DST_FMT imm us)))

def execYtClip (s : State) := s.upd (·.clocked 25 (·.ytStep 3 (fun imm us _ d => d.ytClip imm us)))

def execYtCopy (s : State) := s.upd (·.clocked 25 (·.ytStep 4 (fun imm us _ d => d.ytCopy imm us)))

def execYtFill (s : State) := s.upd (·.clocked 25 (·.ytStep 5 (fun _ us _ d => d.ytFill us)))

def execYtBlend (s : State) := s.upd (·.clocked 25 (·.ytStep 6 (fun imm us _ d => d.ytBlend imm us)))

def execYtSignal (s : State) := s.upd (·.clocked 25 (·.ytStep 7 (fun imm _ _ d => d.evRaise (imm % 256))))

def execYtJump (s : State) :=
  s.upd (·.clocked 25 (·.ytStep 8 (fun _ us k d => { d with blt := { d.blt with unit := some (k + natToInt 32 (us.getD 0 0)) } })))

def execYtEnd (s : State) := s.upd (·.clocked 25 (·.ytStep 0x3F (fun _ _ _ d => d.listEnd)))

end Sys2Proof.Machine
end

