-- ==== Sys2Proof/Machine/Wearan.lean ====
section
/-! DEFINITION. Wearan links (chapter 18): training, lanes, timing master, PIX and MEM cells, peer windows and the loss of a link. -/

namespace Sys2Proof.Machine

/-! ### Who is who (R438, R439) -/

/-- The device that port `p` faces, and that device's port. -/
def Dev.peerDev (d : Dev) (p : Nat) : Nat := (d.devNum + p + 1) % 4
def peerPort (p : Nat) : Nat := (2 + 4 - p) % 4 % 3

/-- The port that faces device `e`; none for this device. -/
def Dev.portTo (d : Dev) (e : Nat) : Option Nat :=
  let k := (e + 4 - d.devNum + 3) % 4
  if k = 3 then none else some k

/-! ### The timing master (R447 to R449) -/

/-- The succession list in order. -/
def Dev.succList (d : Dev) : List Nat :=
  let l := d.fld (rWRN_SUCC 0) fWRN_SUCC_LIST
  (List.range (d.fld (rWRN_SUCC 0) fWRN_SUCC_COUNT_M1 + 1)).map (fun j => natBits l (6 - 2 * j) 2)

/-- Can this device reach device `e` (R449)? -/
def Dev.reaches (d : Dev) (e : Nat) : Bool :=
  e == d.devNum || (List.range 3).any (fun p => d.linkUp p && (d.peerDev p == e || natBit (d.port p).links e))

/-- The master this device elects. -/
def Dev.master (d : Dev) : Nat := (d.succList.find? d.reaches).getD d.devNum

/-- Is the TIME class of port `p` up (R449)? -/
def Dev.timeUp (d : Dev) (p : Nat) : Bool :=
  d.linkUp p && (d.port p).alive && (d.port p).same && d.master == d.peerDev p

/-- Master and TIME_UP shown in the three blocks; a class that goes down loses its BTU source (R48, R449). -/
def Dev.wrnSettle (d : Dev) : Dev :=
  let m := d.master
  (List.range 3).foldl (fun d p =>
    let a := rWRN_STATUS p
    let was := d.flag a fWRN_STATUS_TIME_UP
    let up := d.timeUp p
    let d := ((d.setFld a fWRN_STATUS_MASTER m).setFld a fWRN_STATUS_IS_MASTER (m == d.devNum).toNat).setFld a fWRN_STATUS_TIME_UP up.toNat
    if was && !up then d.btuLost (0x10 + p) false else d) d

/-- WRNk_SUCC is one register in all three blocks (R447). -/
def Dev.succWrite (d : Dev) (v : Nat) : Dev :=
  ([0, 1, 2].foldl (fun d p => d.wr (rWRN_SUCC p) (v % 1024)) d).wrnSettle

/-- The payload of a TIME cell sent now (R448). -/
def Dev.timeWords (d : Dev) (p : Nat) : List Word :=
  let x := d.port p
  let echo := x.echo.getD (0, 0)
  let links := (List.range 3).foldl (fun n k => if d.linkUp k then n + 2 ^ d.peerDev k else n) 0
  let towards := (d.portTo d.master).elim false (fun k => d.btuState == 1 && d.btuActive == 0x10 + k)
  let locked := d.master == d.devNum || towards
  [BitVec.ofNat 48 d.bt, BitVec.ofNat 48 echo.1, BitVec.ofNat 48 (d.btu.clocks - echo.2),
    BitVec.ofNat 48 (d.fld (rWRN_SUCC p) fWRN_SUCC_LIST * 2 ^ 40 + d.master * 2 ^ 38 + locked.toNat * 2 ^ 37 + links * 2 ^ 33)]

/-- A TIME cell sent. -/
def Dev.timeSend (d : Dev) (p : Nat) : Dev :=
  if d.linkUp p then d.modPort p (fun x => { x.sendFree 1 (d.timeWords p) with time := d.timeWords p }) else d

/-- One sample of the one-way delay, in 1/16 ns: half of the round trip less TURN (R448). -/
def Dev.delaySample (d : Dev) (echo turn : Nat) : Nat :=
  let trip := (d.bt + 2 ^ 48 - echo) % 2 ^ 48 * 2 ^ 40 * 16 / max 1 d.btuIncrement
  (trip - 16 * turn) / 2

/-- No good TIME cell for 64 µs. -/
def Dev.timeTimeout (d : Dev) (p : Nat) : Dev := (d.modPort p (fun x => { x with alive := false })).wrnSettle

/-! ### Up and down (R444, R445, R455) -/

/-- The layers that the loss of the link of port `p` hides, by their output's frame: those hidden by an earlier loss and not yet shown again stay
as they are, and the others hide PEER_HOLD + 1 frames from now (R455). It says so for every layer that there is: whether the port feeds it counts
in the frame itself. -/
def Dev.remHides (d : Dev) (p : Nat) : List (Nat × Nat × Option Nat) :=
  (List.range 256).map (fun q =>
    let f := if d.lit (q / 32) then (d.outp (q / 32)).frame else d.outFrame44 (q / 32)
    let g := (f + d.fld (rWRN_CTRL p) fWRN_CTRL_PEER_HOLD + 1) % 2 ^ 24
    match (d.port p).down.find? (·.1 == q) with
    | some (_, g', none) => (q, g', none)
    | some (_, g', some b) => (q, if frameBefore f b then g' else g, none)
    | none => (q, g, none))

/-- What the inputs of the REMOTE layers that port `p` feeds have bound is gone: their window lines are stale until the next binding (R455, R456). -/
def Dev.remLost (d : Dev) (p : Nat) : Dev :=
  { d with outs := d.outs.mapIdx (fun n o => { o with
      binds := o.binds.map (fun b =>
        if d.remFeeds p n b.1 || (d.view n ((o.frame + 1) % 2 ^ 24)).remFeeds p n b.1 then (b.1, none) else b) }) }

/-- The reads of the row MEMORY_READ are told from those of the cores and the DMA channels by this number beside the master's. -/
def peerFabric : Nat := 0x4000000

/-- The packets forwarded to a lost peer end with PEER_LOST (R331, R453). -/
def Dev.fwdLost (d : Dev) (e : Nat) : Dev :=
  let mine := d.talk.fwd.filter (·.dev == e)
  let d := d.modTalk (fun t => { t with fwd := t.fwd.filter (·.dev != e) })
  mine.foldl (fun d f => d.reply f.ep f.w0 0x406 0 []) d

/-- The peer-window reads of the fabric row of a master that have ended: each is answered (R454). -/
def Dev.peerAnswer (d : Dev) (p : Nat) : Dev :=
  let ended (r : PeerRead) : Bool := decide (peerFabric ≤ r.who) && r.got.isSome
  let done := (d.port p).reads.filter ended
  if done.isEmpty then d
  else
    let d := d.modPort p (fun x => { x with reads := x.reads.filter (fun r => !ended r) })
    done.foldl (fun d r =>
      let v := r.got.getD none
      d.respond (r.who - peerFabric) (0x300000000 + d.peerDev p * 0x10000 + r.w) (v.getD 0) (if v.isSome then 0 else 2)) d

/-- The stores to the peer that are not yet acknowledged, dropped (R454). -/
def Wrn.unacked (x : Wrn) : Nat :=
  (x.replay.filter (fun c => c.cls == 4 && natBits c.f 18 2 == 1 && decide ((c.seq + 4096 - x.acked - 1) % 4096 < 2048))).length

/-- The LINK cell of a port in training: this device's number, its port, the state of its lanes and its list (R444). -/
def Dev.linkSend (d : Dev) (p : Nat) : Dev :=
  d.modPort p (fun x => x.push 5 2 ([d.devNum, p, d.fld (rWRN_LANES_TX p) fWRN_LANES_TX_LOCKED, d.fld (rWRN_LANES_RX p) fWRN_LANES_RX_LOCKED,
    d.rd (rWRN_SUCC p)].map (BitVec.ofNat 48)))

/-- The link of port `p`, which was up, goes down (R445, R455), and the port trains again. A row that lands in the same clock does not count
(R456). -/
def Dev.linkDown (d : Dev) (p : Nat) : Dev :=
  if !d.linkUp p then d
  else
    let a := rWRN_STATUS p
    let x := d.port p
    let down := d.remHides p
    let lost := x.unacked
    let late (r : RxRow) : Bool := r.port == p && r.at' == d.now
    let d := d.remLost p
    let d := { d with rx := d.rx.filter (fun r => !late r), rx0 := d.rx0.filter (fun r => !late r) }
    let d := d.setFld a fWRN_STATUS_STATE (d.fld (rWRN_CTRL p) fWRN_CTRL_EN)
    let d := ((d.raise a fWRN_STATUS_LINK_DOWN).bump (rWRN_DOWN_CNT p) fWRN_DOWN_CNT_COUNT).reportUnit 0x09 0x10 p
    let d := d.modPort p (fun x =>
      { Wrn.reset with wire := (x.push 5 4 []).wire, down := down, ovl := x.ovl, reads := x.reads.map (fun r => if r.got.isNone then { r with got := some none } else r) })
    let d := if lost = 0 then d
      else (d.bumpBy (rWRN_MEM_DROP_CNT p) fWRN_MEM_DROP_CNT_COUNT lost).raise a fWRN_STATUS_MEM_DROP
    let d := if d.flag (rWRN_CTRL p) fWRN_CTRL_EN then d.modPort p (fun y => { y with wire := ((d.linkSend p).port p).wire }) else d
    ((d.peerAnswer p).fwdLost (d.peerDev p)).wrnSettle

/-- A port begins to train: it sends its first LINK cell once its pier is ON (R444). -/
def Dev.trainBegin (d : Dev) (p : Nat) : Dev :=
  let d := d.setFld (rWRN_STATUS p) fWRN_STATUS_STATE 1
  if d.awake (30 + p) then d.linkSend p else d

/-- A write of WRNk_CTRL (R444, R445). -/
def Dev.wrnCtrlWrite (d : Dev) (p v : Nat) : Dev :=
  let was := d.flag (rWRN_CTRL p) fWRN_CTRL_EN
  let d := d.wr (rWRN_CTRL p) (v &&& 0xFFFF00)
  if natBit v 23 then
    (if was then d else (d.wake (30 + p)).trainBegin p)
  else (d.linkDown p).setFld (rWRN_STATUS p) fWRN_STATUS_STATE 0

/-- The lanes of a direction as training found them: `locked` of nine. With lane 8 in use or a lane missing, lane 8 serves it (R444). -/
def Dev.lanesTrained (d : Dev) (a locked : Nat) : Dev :=
  let d := d.setFld a fWRN_LANES_TX_LOCKED locked
  if d.fld a fWRN_LANES_TX_SPARE_FOR ≠ 0xF then d
  else match (List.range 8).find? (fun i => !natBit locked i) with
    | some i => d.setFld a fWRN_LANES_TX_SPARE_FOR i
    | none => d

/-- Does a direction have eight lanes to carry the eight logical ones? -/
def Dev.lanesOk (d : Dev) (a locked : Nat) : Bool :=
  let s := d.fld a fWRN_LANES_TX_SPARE_FOR
  decide (8 ≤ popCount 9 locked) && (s == 0xF || (List.range 9).all (fun i => natBit locked i || i == s))

/-- Training completes (R444) at a port whose pier is ON: the link is up, or the wiring is wrong. -/
def Dev.wrnTrained (d : Dev) (p peer port tx rx : Nat) : Dev :=
  let a := rWRN_STATUS p
  if d.fld a fWRN_STATUS_STATE ≠ 1 ∨ !d.awake (30 + p) then d
  else if peer ≠ d.peerDev p ∨ port ≠ peerPort p then
    ((d.setFld a fWRN_STATUS_PEER peer).setFld a fWRN_STATUS_STATE 3).raise a fWRN_STATUS_WIRING
  else if !d.lanesOk (rWRN_LANES_TX p) tx ∨ !d.lanesOk (rWRN_LANES_RX p) rx then d
  else
    let d := (d.lanesTrained (rWRN_LANES_TX p) tx).lanesTrained (rWRN_LANES_RX p) rx
    let d := d.modPort p (fun x => { Wrn.reset with wire := x.wire, down := x.down, ovl := x.ovl, reads := x.reads })
    ((d.setFld a fWRN_STATUS_PEER peer).setFld a fWRN_STATUS_STATE 2).wrnSettle

/-- The 10 ms timer of a port that has not trained. -/
def Dev.wrnRetry (d : Dev) (p : Nat) : Dev :=
  if d.flag (rWRN_CTRL p) fWRN_CTRL_EN ∧ !d.linkUp p then d.trainBegin p else d

/-! ### Lanes (R443, R446) -/

/-- The lane register of a direction (0 transmit, 1 receive). -/
def laneReg (p dir : Nat) : Nat := if dir = 0 then rWRN_LANES_TX p else rWRN_LANES_RX p

/-- A lane error: counted, flagged and reported under the logical lane that it carries (R443, R456). -/
def Dev.laneError (d : Dev) (p dir lane : Nat) : Dev :=
  if !d.flag (rWRN_CTRL p) fWRN_CTRL_EN then d
  else
    let s := d.fld (laneReg p dir) fWRN_LANES_TX_SPARE_FOR
    let l := if lane = 8 ∧ s ≠ 0xF then s else lane
    let d := (d.bump (rWRN_LANE_ERR_CNT p) fWRN_LANE_ERR_CNT_COUNT).raise (rWRN_STATUS p) fWRN_STATUS_LANE_ERR
    d.reportUnit 0x08 0x11 (18 * p + 9 * dir + l)

/-- A lane GO (R446): the swap begins and takes span 3's recovery slot, or has no effect and sets LANE_ERR. It waits while another
unit of span 3 recovers (R32), or while the port carries out a SWAP of its peer. -/
def Dev.laneGo (d : Dev) (p dir lane : Nat) : Dev :=
  if !d.linkUp p ∨ 8 ≤ lane ∨ d.fld (laneReg p dir) fWRN_LANES_TX_SPARE_FOR ≠ 0xF then d.raise (rWRN_STATUS p) fWRN_STATUS_LANE_ERR
  else
    let u := 18 * p + 9 * dir
    if (d.span 3).busy.isSome ∨ (d.port p).swap.isSome then d.queueUnit 3 (0x11, u + lane)
    else (d.modPort p (fun x => { x.push 5 3 [BitVec.ofNat 48 dir, BitVec.ofNat 48 lane] with swap := some (dir == 1, lane) })).takeSlot 3 [0x11, u + lane, 0x11, u + 8]

/-- A write of WRNk_LANE_CTRL by T0. -/
def Dev.laneCtrlWrite (d : Dev) (p v : Nat) : Dev :=
  let d := d.wr (rWRN_LANE_CTRL p) (v &&& 0x40000F)
  if natBit v 23 then (d.laneGo p (natBits v 22 1) (v % 16)).fltShow else d

/-- From marker M both ends carry the lane on lane 8. -/
def Dev.laneSwapped (d : Dev) (p : Nat) : Dev :=
  match (d.port p).swap with
  | none => d
  | some (rx, lane) =>
    let a := laneReg p rx.toNat
    let d := d.modPort p (fun x => { x with swap := none })
    (d.setFld a fWRN_LANES_TX_SPARE_FOR lane).setFld a fWRN_LANES_TX_RETIRED (d.fld a fWRN_LANES_TX_RETIRED ||| 2 ^ lane)

/-! ### Received cells (R442) -/

/-- A NAK: the transmitter resends from ACK + 1; the eighth in a row for one cell takes the link down (R445). -/
def Dev.nakRx (d : Dev) (p ack : Nat) : Dev :=
  if !d.linkUp p then d
  else
    let x := d.port p
    let run := if x.nakRun.2 ≠ 0 ∧ x.nakRun.1 = ack then x.nakRun.2 + 1 else 1
    if 8 ≤ run then d.linkDown p
    else d.modPort p (fun x => { x.sendAgain ack with resend := some ((ack + 1) % 4096), nakRun := (ack, run), acked := ack })

/-- The cell awaited has not come whole: a NAK goes out in an IDLE cell, with the last good number, and is counted; the eighth in a row for one
cell takes the link down (R445). -/
def Dev.nakTx (d : Dev) (p : Nat) : Dev :=
  let n := (d.port p).naks + 1
  let d := d.bump (rWRN_REPLAY_CNT p) fWRN_REPLAY_CNT_COUNT
  if 8 ≤ n then d.linkDown p else d.modPort p (fun x => ({ x with bad := true, naks := n } : Wrn).sendFree 0 [])

/-- A sequenced cell arrives: taken when it is the next one and good. Otherwise it is discarded, and answered with NAK unless a replay is
awaited already and this is not the cell that it begins with. -/
def Dev.cellRx (d : Dev) (p : Nat) (h : CellHead) : Bool × Dev :=
  if !d.linkUp p then (false, d)
  else
    let x := d.port p
    let next := decide (h.seq.toNat = (x.rxSeq + 1) % 4096)
    if h.crcOk ∧ !h.reserved ∧ next then
      let d := d.modPort p (fun x => { x with rxSeq := h.seq.toNat, bad := false, naks := 0, acked := if h.nak then x.acked else h.ack.toNat })
      (true, if h.nak then d.nakRx p h.ack.toNat else d)
    else if x.bad ∧ !next then (false, d)
    else (false, d.nakTx p)

/-- A good TIME cell gives the delay, the sender's view of the links and, while the class is up, a message of the BTU's peer source. -/
def Dev.timeTake (d : Dev) (p : Nat) (ws : List Word) (freq : Int) : Dev :=
  if !d.linkUp p then d
  else
    let w (i : Nat) : Nat := (ws.getD i 0).toNat
    let x := d.port p
    let ds := if x.time = [] then x.delays else (d.delaySample (w 1) (w 2) :: x.delays).take 16
    let same := natBits (w 3) 40 8 == d.fld (rWRN_SUCC p) fWRN_SUCC_LIST
    let d := d.modPort p (fun x => { x with echo := some (w 0, d.btu.clocks), delays := ds, alive := true, links := natBits (w 3) 33 4, same := same })
    let avg := ds.foldl (· + ·) 0 / max 1 ds.length
    let d := d.wr (rWRN_DELAY p) (min (2 ^ 24 - 1) avg)
    let d := d.when (!same) (·.raise (rWRN_STATUS p) fWRN_STATUS_SUCC_MISMATCH)
    let d := d.wrnSettle
    if d.timeUp p then
      let there := w 0 + avg * d.btuIncrement / (16 * 2 ^ 40)
      let err := natToInt 48 (there + 2 ^ 48 - d.bt)
      d.btuPeer p true err freq
    else d

/-- A TIME cell received: a bad one is dropped and counted, a good one acknowledges and may ask for replay too. -/
def Dev.timeCell (d : Dev) (p : Nat) (h : CellHead) (ws : List Word) (freq : Int) : Dev :=
  if !d.linkUp p then d
  else if h.reserved then (d.cellRx p h).2
  else if !h.crcOk then d.bump (rWRN_TIME_DROP_CNT p) fWRN_TIME_DROP_CNT_COUNT
  else (if h.nak then d.nakRx p h.ack.toNat else d.modPort p (fun x => { x with acked := h.ack.toNat })).timeTake p ws freq

/-- The lane state that a peer reports. -/
def Dev.lanesSeen (d : Dev) (p : Nat) (tx rx : BitVec 9) : Dev :=
  (d.setFld (rWRN_LANES_RX p) fWRN_LANES_RX_LOCKED tx.toNat).setFld (rWRN_LANES_TX p) fWRN_LANES_TX_LOCKED rx.toNat

/-- A LINK cell (R444 to R446). Before the link is up it carries training state, which this side answers with its own and WRN_TRAINED sums up. -/
def Dev.linkCell (d : Dev) (p : Nat) (h : CellHead) (m : LinkMsg) : Dev :=
  let (ok, d') := d.cellRx p h
  if !ok then
    match m with
    | .train _ _ tx rx _ =>
      if d.fld (rWRN_STATUS p) fWRN_STATUS_STATE = 1 ∧ d.awake (30 + p) ∧ h.crcOk ∧ !h.reserved then (d.lanesSeen p tx rx).linkSend p else d'
    | _ => d'
  else match m with
    | .train _ _ tx rx _ =>
      let d := d'.lanesSeen p tx rx
      if popCount 9 tx.toNat < 8 ∨ popCount 9 rx.toNat < 8 then d.linkDown p else d
    | .swap rx lane =>
      let d := d'
      let a := laneReg p rx.toNat
      if d.fld a fWRN_LANES_TX_SPARE_FOR ≠ 0xF ∨ (d.port p).swap.isSome then d.modPort p (fun x => x.push 5 0 [])
      else d.modPort p (fun x => { x.push 5 1 [] with swap := some (rx, lane) })
    | .answer true => d'
    | .answer false => (d'.modPort p (fun x => { x with swap := none })).raise (rWRN_STATUS p) fWRN_STATUS_LANE_ERR
    | .down => d'.linkDown p

/-! ### PIX cells (R451, R452) -/

/-- The cells of a row of `w` dots. -/
def rowCells (w : Nat) : Nat := if w ≤ 8 then 1 else 1 + cdiv (w - 8) 9

/-- A PIX cell lands its dots; with its last cell the row has landed. `w` and `h` are the sender's stream size, which no cell carries. -/
def Dev.pixCell (d : Dev) (p : Nat) (hd : CellHead) (cls : Nat) (ws : List Word) (w h : Nat) : Dev :=
  let (ok, d) := d.cellRx p hd
  let s := natBits cls 15 5
  let first := natBit cls 14
  let i := natBits cls 0 14
  if !ok ∨ !d.flag (rWRN_RX p s) fWRN_RX_EN then d
  else
    let w1 := (ws.getD 0 0).toNat
    let d := if first then
        d.modPort p (fun x => { x with rows := (s, (natBits w1 24 24, natBits w1 16 8, natBits w1 0 13)) :: x.rows.filter (·.1 != s) })
      else d
    match assocGet (d.port p).rows s with
    | none => d
    | some (seq, fr, r) =>
      let base := d.remRing p s + r % 8 * 4096
      let dot := if first then 0 else 8 + 9 * (i - 1)
      let dots := (if first then (ws.drop 1).take 8 else ws.take 9).take (min w 4096 - dot)
      let d := if base + dot + dots.length ≤ 0x1000000 then d.mainWriteRun (base + dot) dots else d
      if i + 1 < rowCells w then d
      else
        let order := (d.outs.flatMap (·.remAt)).foldl (fun m q => max m q.2) ((d.rx ++ d.rx0).foldl (fun m q => max m q.order) 0) + 1
        let others := d.rx.filter (fun q => !(q.port == p && q.stream == s && (q.row % 8 == r % 8 || (q.frame == fr && q.row == r))))
        let d := d.modPort p (fun x => { x with rows := x.rows.filter (·.1 != s) })
        let row : RxRow := ⟨p, s, fr, r, seq, w, h, order, d.now⟩
        let own (q : RxRow) : Bool := q.port == p && q.stream == s
        { d with rx := row :: others, rx0 := if r = 0 then row :: (d.rx0.filter own).take 1 ++ d.rx0.filter (fun q => !own q) else d.rx0 }

/-- A write of WRNk_TXs_CTRL (R450): an EN that does not fit is refused. -/
def Dev.streamWrite (d : Dev) (p s v : Nat) : Dev :=
  let a := rWRN_TX_CTRL p s
  if !natBit v 23 then d.wr a (v &&& 0xF01FFF)
  else
    let n := natBits v 20 3
    let m := d.mode n
    let w := d.rd (rWRN_TX_W p s)
    let h := d.rd (rWRN_TX_H p s)
    let cells (t : Nat) : Nat := rowCells (d.rd (rWRN_TX_W p t))
    let others := (List.range 32).filter (fun t => t != s && d.flag (rWRN_TX_CTRL p t) fWRN_TX_CTRL_EN)
    let sum := others.foldl (fun c t => c + cells t) (rowCells w)
    let lines (k : Nat) : Nat := d.outHz k * (d.mode k).v
    let fast := others.foldl (fun x t => max x (lines (d.fld (rWRN_TX_CTRL p t) fWRN_TX_CTRL_OUT))) (lines n)
    let bad := w == 0 || h == 0 || decide (4096 < w) || decide (m.ha < v % 8192 + w) || decide (m.va < d.rd (rWRN_TX_Y0 p s) + h) ||
      decide (8 * 1000000000000 < sum * 4125 * 10 * fast)
    if bad then (d.wr a (v &&& 0x701FFF)).raise (rWRN_STATUS p) fWRN_STATUS_STR_REFUSED else d.wr a (v &&& 0xF01FFF)

/-! ### Peer windows (R454) -/

/-- A MEM cell: a read or write of this device's exchange memory by the inbound master, or the end of a read of ours. -/
def Dev.memCell (d : Dev) (p : Nat) (h : CellHead) (cls : Nat) (data : Word) : Dev :=
  let (ok, d) := d.cellRx p h
  if !ok then d
  else
    let op := natBits cls 18 2
    let tag := natBits cls 12 6
    let w := natBits cls 0 12
    if op = 0 then
      let d := d.fabricRead (0x61 + p) (0x200000000 + w)
      match d.mem.resp with
      | some r => if r.status = 0 then d.memSend p 2 tag w r.data else d.memSend p 3 tag w 0
      | none => d.memSend p 3 tag w 0
    else if op = 1 then (d.fabricWrite (0x61 + p) (0x200000000 + w) data (BitVec.allOnes 48)).2
    else
      let v := if op = 2 then some data else none
      (d.modPort p (fun x => { x with reads := x.reads.map (fun r => if r.tag = tag ∧ r.got = none then { r with got := some v } else r) })).peerAnswer p

/-- A read that has had no answer for 20 µs fails. -/
def Dev.memTimeout (d : Dev) (p tag : Nat) : Dev :=
  (d.modPort p (fun x => { x with reads := x.reads.map (fun r => if r.tag = tag ∧ r.got = none then { r with got := some none } else r) })).peerAnswer p

/-- The port and word of an address in a peer window; none where it decodes to no unit. -/
def Dev.peerAddr (d : Dev) (a : Nat) : Option (Nat × Nat) :=
  if a < 0x300000000 ∨ 0x300040000 ≤ a then none
  else
    let e := (a - 0x300000000) / 0x10000
    let w := a % 0x10000
    match d.portTo e with
    | none => none
    | some p => if 4096 ≤ w ∨ !d.linkUp p then none else some (p, w)

/-- What a peer-window read has come to: none while it waits, otherwise its word or a failure. A first read is sent, unless 64 are
outstanding; a finished one is taken off the list. -/
def Dev.peerRead (d : Dev) (who a : Nat) : Option (Option Word) × Dev :=
  let e := (a - 0x300000000) / 0x10000
  let w := a % 0x10000
  match d.portTo e with
  | none => (some none, d)
  | some p =>
    match (d.port p).reads.find? (fun r => r.who == who && r.w == w) with
    | some r =>
      match r.got with
      | none => (none, d)
      | some v => (some v, d.modPort p (fun x => { x with reads := x.reads.filter (fun r => !(r.who == who && r.w == w)) }))
    | none =>
      if (d.peerAddr a).isNone then (some none, d)
      else
        let used := (d.port p).reads.map (·.tag)
        match (List.range 64).find? (fun t => !used.contains t) with
        | none => (none, d)
        | some t => (none, (d.modPort p (fun x => { x with reads := ⟨t, w, who, none⟩ :: x.reads })).memSend p 0 t w 0)

/-- A store to a peer window, posted (R454); false where it decodes to no unit. -/
def Dev.peerWrite (d : Dev) (a : Nat) (v : Word) : Bool × Dev :=
  match d.peerAddr a with
  | none => (false, d)
  | some (p, w) => (true, d.memSend p 1 0 w v)

/-- Is `a` an address of the peer windows? -/
def isPeerAddr (a : Nat) : Bool := decide (0x300000000 ≤ a ∧ a < 0x300040000)

/-- May master `m` reach the peer windows? A customer steward needs GRANT.WEARAN (R305). -/
def Dev.peerShut (d : Dev) (m : Nat) : Bool := (masterTarget m).elim false (fun t => !natBit (d.rd (rSEC_T_GRANT t)) 10)

/-- A fabric read of a peer window (R454): answered when the peer's answer comes, or with the failure. -/
def Dev.peerFetch (d : Dev) (m a : Nat) : Dev :=
  if d.peerShut m then (d.fabricViol m).respond m a 0 0
  else match d.peerRead (peerFabric + m) a with
    | (none, d) => { d with mem := { d.mem with resp := none } }
    | (some v, d) => d.respond m a (v.getD 0) (if v.isSome then 0 else 2)

/-- A fabric write of a peer window: posted, or to no unit. -/
def Dev.peerStore (d : Dev) (m a : Nat) (v : Word) : Dev :=
  if d.peerShut m then (d.fabricViol m).respond m a 0 0
  else
    let (ok, d) := d.peerWrite a v
    d.respond m a 0 (if ok then 0 else 2)

/-! ### Commands -/

def execMemoryRead (master : BitVec 8) (addr : BitVec 40) (flips : BitVec 55) (waited : Bool) (held : Nat) (s : State) :=
  s.upd (fun d =>
    let d := d.track master.toNat waited held
    if isPeerAddr addr.toNat then d.peerFetch master.toNat addr.toNat else d.masterRead master.toNat addr.toNat flips)

def execMemoryWrite (master : BitVec 8) (addr : BitVec 40) (value mask : Word) (waited : Bool) (held : Nat) (s : State) :=
  s.upd (fun d =>
    let d := d.track master.toNat waited held
    if isPeerAddr addr.toNat then d.peerStore master.toNat addr.toNat value else d.masterWrite master.toNat addr.toNat value mask)


def execWrnEnWrite (port : Fin 3) (value : Reg) (s : State) := s.upd (·.wrnCtrlWrite port value.toNat)

def execWrnRetrainTimer (port : Fin 3) (s : State) := s.upd (·.wrnRetry port)

def execWrnLinkDown (port : Fin 3) (s : State) := s.upd (·.linkDown port)

def execLaneError (port : Fin 3) (dir : Fin 2) (lane : Fin 9) (s : State) := s.upd (·.laneError port dir lane)

def execNakReceived (port : Fin 3) (ack : BitVec 12) (s : State) := s.upd (·.nakRx port ack.toNat)

def execWrnLaneGo (port : Fin 3) (value : Reg) (s : State) := s.upd (·.laneCtrlWrite port (value.toNat ||| 0x800000))

def execTimeCellSend (port : Fin 3) (s : State) := s.upd (·.timeSend port)

def execTimeCell (port : Fin 3) (head : CellHead) (words : List Word) (freq : Int) (s : State) := s.upd (·.timeCell port head words freq)

def execPixCell (port : Fin 3) (head : CellHead) (cls : BitVec 20) (words : List Word) (w h : Nat) (s : State) :=
  s.upd (·.pixCell port head cls.toNat words w h)

def execMemCell (port : Fin 3) (head : CellHead) (cls : BitVec 20) (data : Word) (s : State) := s.upd (·.memCell port head cls.toNat data)

def execWrnMemReadTimeout (port : Fin 3) (tag : Fin 64) (s : State) := s.upd (·.memTimeout port tag)

def execWrnStreamEnable (port : Fin 3) (stream : Fin 32) (value : Reg) (s : State) :=
  s.upd (·.streamWrite port stream (value.toNat ||| 0x800000))

def execTimeClassTimeout (port : Fin 3) (s : State) := s.upd (·.timeTimeout port)

end Sys2Proof.Machine
end

