-- ==== Sys2Proof/Machine/Sessions.lean ====
section
/-! DEFINITION. Sessions as state (R335 to R337), the debug monitor's attachments and halted cores (R522 to R530), and the restart
of T0 (R298, R487). -/

namespace Sys2Proof.Machine

def Dev.modCfg (d : Dev) (f : Cfg → Cfg) : Dev := { d with cfg := f d.cfg }

/-! ### Halted cores (R529, R530) -/

/-- Has an idle line core no program to go on with? -/
def Dev.coreIdle (d : Dev) (c : Nat) : Bool :=
  decide (c < 72) && !(d.clu (c / 9)).progs.any (fun q => q.phys == c % 9 && (q.st == 1 || q.st == 3))

/-- DBG.RESUME (R530): the core goes on from its resume address; an idle line core is idle again. -/
def Dev.resume (d : Dev) (c : Nat) : Dev :=
  let x := d.core c
  if x.run = 2 then
    (d.setCore c { x with run := if d.coreIdle c then 0 else 1, haltReq := false }).showHalted c false
  else d

/-- The cores that are halted. -/
def Dev.haltedCores (d : Dev) : List Nat := (d.cores.filter (fun p => p.2.run == 2)).map (·.1)

/-! ### Attachment (R522 to R524) -/

/-- Is session `s` attached? -/
def Dev.attached (d : Dev) (s : Nat) : Bool :=
  if s < 8 then natBit (d.rd rDBG_STATUS) (16 + s) else d.dbg.proxies.any (·.1 == s)

/-- Is any session attached at FULL? -/
def Dev.anyFull (d : Dev) : Bool := d.fld rDBG_STATUS fDBG_STATUS_FULL != 0 || d.dbg.proxies.any (·.2)

/-- Sleep emulation ends (R538): the piers that it kept ON show it. -/
def Dev.emuEnd (d : Dev) : Dev :=
  (List.range 40).foldl (fun d p =>
    if d.emu p then d.wr (rPMU_PIER_STATUS p) (natSetBits (d.rd (rPMU_PIER_STATUS p)) 21 3 0) else d) d

/-- The index of the oldest record a log holds. -/
def Log.oldest (l : Log) : Nat := l.total - l.recs.length

/-- DBG.ATTACH (R523, R537). -/
def Dev.attach (d : Dev) (s : Nat) (full : Bool) : Dev :=
  if d.attached s then d
  else
    let d := if s < 8 then d.wr rDBG_STATUS (natSetBits (natSetBits (d.rd rDBG_STATUS) (16 + s) 1 1) (8 + s) 1 full.toNat)
      else { d with dbg := { d.dbg with proxies := (s, full) :: d.dbg.proxies } }
    { d with dbg := { d.dbg with pos := d.dbg.pos ++ [(s, 0, d.dbg.trsLog.oldest), (s, 1, d.dbg.stlLog.oldest)] } }

/-- Attachment ends (R524): the session's points go, and with no attached FULL session left every halted core resumes. -/
def Dev.detach (d : Dev) (s : Nat) : Dev :=
  if !d.attached s then d
  else
    let d := if s < 8 then d.wr rDBG_STATUS (natSetBits (natSetBits (d.rd rDBG_STATUS) (16 + s) 1 0) (8 + s) 1 0) else d
    let d := { d with dbg := { d.dbg with
      points := d.dbg.points.filter (fun p => p.owner != s)
      pos := d.dbg.pos.filter (fun p => p.1 != s)
      proxies := d.dbg.proxies.filter (fun p => p.1 != s) } }
    let d := if d.anyAttached then d else d.emuEnd
    if d.anyFull then d else d.haltedCores.foldl (fun d c => d.resume c) d

/-! ### Session slots (R335 to R337) -/

/-- The state, level and debug level of session slot `s`: 0 free, 1 challenged, 2 open. -/
def Dev.sesState (d : Dev) (s : Nat) : Nat := d.fld (rSEC_SES s) fSEC_SES_STATE
def Dev.sesLevel (d : Dev) (s : Nat) : Nat := d.fld (rSEC_SES s) fSEC_SES_LEVEL
def Dev.sesDebug (d : Dev) (s : Nat) : Nat := d.fld (rSEC_SES s) fSEC_SES_DEBUG

/-- What a slot holds beside its register. -/
def Dev.ses (d : Dev) (s : Nat) : Ses := d.talk.ses.getD s ⟨none, [], 0⟩
def Dev.setSes (d : Dev) (s : Nat) (x : Ses) : Dev := d.modTalk (fun t => { t with ses := t.ses.set s x })

/-- OPEN and CHALLENGED of slot `s` shown. -/
def Dev.sesShow (d : Dev) (s : Nat) : Dev :=
  let v := natSetBits (d.rd rSEC_STATUS) (16 + s) 1 (decide (d.sesState s = 2)).toNat
  d.wr rSEC_STATUS (natSetBits v (8 + s) 1 (decide (d.sesState s = 1)).toNat)

/-- A slot returns to FREE. -/
def Dev.sesFree (d : Dev) (s : Nat) : Dev := ((d.wr (rSEC_SES s) 0).setSes s ⟨none, [], 0⟩).sesShow s

/-- Is slot `s` open and bound to `ep` (R337)? -/
def Dev.sesBound (d : Dev) (s : Nat) (ep : Endpoint) : Bool := d.sesState s == 2 && (d.ses s).ep == some ep

/-- The buffers of a session that has ended become orphans (R364). -/
def Dev.orphan (d : Dev) (s : Nat) : Dev :=
  d.modCfg (fun c => { c with bufs := c.bufs.map (fun b => if b.owner = s then { b with orphan := true } else b) })

/-- The trestle entries of a session that has ended stay, and a later session in its slot does not own them (R74, R75). -/
def Dev.disown (d : Dev) (s : Nat) : Dev :=
  { d with trs := { d.trs with entries := d.trs.entries.map (fun e => if e.owner = s then { e with owner := 255 } else e) } }

/-- A session ends (R337, R364): replies owed to it are discarded, also those its endpoint has no room for, its attachment ends, and its
buffers become orphans. Its trestle entries and armed commits stay. -/
def Dev.sesEnd (d : Dev) (s : Nat) : Dev :=
  if d.sesState s ≠ 2 then d
  else
    let ep := (d.ses s).ep
    let mine (e : Endpoint) (w : Nat) : Bool := some e == ep && natBits w 33 3 == s
    let w0 (l : List Word) : Nat := (l.getD 0 0).toNat
    let d := d.modTalk (fun t => { t with
      owed := t.owed.filter (fun o => !mine o.ep o.w0)
      held := t.held.filter (fun x => !mine x.ep (w0 x.words))
      spi := t.spi.filter (fun l => !mine .spi (w0 l))
      fwd := t.fwd.filter (fun x => !mine x.ep x.w0) })
    (((d.detach s).orphan s).disown s).sesFree s

/-- Is a completion reply owed to a session, by this device or by the one to which it has sent the packet (R331)? One that waits for room, or
at the SPI port for the host to read it, is still owed. -/
def Dev.sesOwed (d : Dev) (s : Nat) : Bool :=
  let mine (e : Endpoint) (w : Nat) : Bool := some e == (d.ses s).ep && natBits w 33 3 == s && natBit w 31
  let w0 (l : List Word) : Nat := (l.getD 0 0).toNat
  d.talk.owed.any (fun o => mine o.ep o.w0) || d.talk.fwd.any (fun x => mine x.ep x.w0) ||
    d.talk.held.any (fun x => mine x.ep (w0 x.words)) || d.talk.spi.any (fun l => mine .spi (w0 l))

/-- A session has been idle for IDLE_S seconds with no completion reply owed to it (R337). A packet that arrived in this very clock counts
(R343). -/
def Dev.sesIdle (d : Dev) (s : Nat) : Dev :=
  if d.fld rSEC_CTRL fSEC_CTRL_IDLE_S = 0 ∨ d.sesOwed s ∨ (d.sesState s = 2 ∧ (d.ses s).at' = d.btu.clocks) then d else d.sesEnd s

/-- A challenge expires (R335). -/
def Dev.challengeOver (d : Dev) (s : Nat) : Dev := if d.sesState s = 1 then d.sesFree s else d

/-! ### The restart of T0 (R298, R487) -/

/-- The presented registers that a restart returns to their reset values (R12): the sessions' and the debug monitor's, the four that T0
writes again from the base (R352), the fault manager's and the update's counters, and the customer targets' violation counters. What a
configuration region holds (R487) stays, and what a customer target goes on by (R298): its CTRL, GRANT, window, image and ring (log
entry 52). -/
def restartReg (a : Nat) : Bool :=
  (blockOf a == 0x09 && decide (a % 0x10000 < 0x100) && !(decide (rSEC_SERIAL_LO ≤ a ∧ a < rSEC_KEY 0 + 8))) ||
    blockOf a == 0x0C || a == rFLT_CTRL || a == rFLT_WINDOW || a == rUPD_CTRL || a == rFLT_ERR_CNT || a == rFLT_PERM_CNT ||
    a == rUPD_HEALTHY || a == rUPD_RECEIVED || a == rSEC_T_VIOL_CNT 1 || a == rSEC_T_VIOL_CNT 2

/-- The flags of the presented status registers cleared: FLT_STATUS.ERROR, PERMANENT and QUEUE_OVF, and those of SEC_Tt_STATUS. -/
def Dev.flagsDown (d : Dev) : Dev :=
  [(rFLT_STATUS, 3), (rSEC_T_STATUS 1, 5), (rSEC_T_STATUS 2, 5)].foldl (fun d p => d.wr p.1 (natSetBits (d.rd p.1) 0 p.2 0)) d

/-- PIER02 is reset (R475): it comes ON, every session ends, owed replies are discarded, and the boot ROM reads the record next (R496). A telltale reply of the
parapet's sequencer is not T0's and stays. `code` is the error that caused it. -/
def Dev.t0Restart (d : Dev) (code : Nat) : Dev :=
  let d := ((d.bump rPMU_PIER_RST_CNT fPMU_PIER_RST_CNT_COUNT).pierUp 2).resetRuns 2 10
  let d := (List.range 8).foldl Dev.sesEnd d
  let d := (List.range 8).foldl Dev.challengeOver d
  let d := d.dbg.proxies.foldl (fun d p => d.detach p.1) d
  let d := d.modTalk (fun t => { t with
    owed := [], udp := [], spi := [], fwd := [], barred := [], later := []
    held := t.held.filter (fun x => x.ep == .sentinel) })
  let d := d.haltedCores.foldl (fun d c => d.resume c) d
  let d := d.flagsDown
  let d := { d with
    regs := spKeep (fun a => !restartReg a) d.regs
    upd := { d.upd with hand := none, healthy := false }
    pwr := { d.pwr with stage := if d.pwr.stage = 3 then 5 else d.pwr.stage } }
  let d := ((d.modCore 0x4A Core.down).clearLmem 0x4A).irqTargetReset 0
  d.journalUnit 0x10 0x0B 0 0 code

/-- A lockstep mismatch or double fault of T0. -/
def Dev.t0Fault (d : Dev) : Dev := (d.reportUnit 0x0F 0x0B 0).t0Restart 0x0F

/-! ### Commands -/

def execSessionIdleTimeout (slot : Fin 8) (s : State) := s.upd (·.sesIdle slot)

def execChallengeExpiry (slot : Fin 8) (s : State) := s.upd (·.challengeOver slot)

end Sys2Proof.Machine
end

