-- ==== Sys2Proof/Machine/Power.lean ====
section
/-! DEFINITION. Power, clocks and resets (chapter 19), and what the trestle's entries say of piers (R63, R77). -/

namespace Sys2Proof.Machine

/-! ### Entries and their piers (R62, R63, R77) -/

def actCad (w : Nat) : Nat := natBits w 43 5
def actTarget (w : Nat) : Nat := natBits w 36 7
def actCode (w : Nat) : Nat := natBits w 32 4
def actArg (w : Nat) : Nat := natBits w 0 32

/-- The pier that an action counts against (R63). -/
def Dev.actPier (d : Dev) (w : Nat) : Nat :=
  let t := actTarget w
  if t = 1 then natBits w 26 6
  else if 8 ≤ t ∧ t ≤ 15 then d.outPier (t - 8)
  else if t = 0x10 then 2 else if t = 0x18 then 28 else if t = 0x20 then 29
  else if t = 0x28 ∨ t = 0x29 then 38 else 39

/-- Microseconds, rounded down, from now to beam time `b` at the nominal rate; 0 when it is due. -/
def Dev.usTo (d : Dev) (b : Nat) : Nat :=
  if btGe d.bt b then 0 else min 0xFFFFFF ((b + 2 ^ 48 - d.bt) % 2 ^ 48 * 1000000 / (d.groupHz 0 * 2 ^ 24))

/-- The entries due now are left waiting: each fires later than R66 allows (R67, R82). -/
def Dev.trsLeave (d : Dev) : Dev :=
  { d with trs := { d.trs with entries := d.trs.entries.map (fun e => if btGe d.bt e.bt then { e with late := true } else e) } }

/-- The trestle's time to next event of pier `p`: PIER39 takes the whole calendar (R77). -/
def Dev.trsTne (d : Dev) (p : Nat) : Nat :=
  (d.trs.entries.filter (fun e => p == 39 || d.actPier e.act == p)).foldl (fun m e => min m (d.usTo e.bt)) 0xFFFFFF

/-- The time the DMA engine reports: its earliest wait for a BT (R399). -/
def Dev.dmaTne (d : Dev) : Nat :=
  (List.range 32).foldl (fun m c =>
    if d.chState c = 2 ∧ (d.chan c).wait = 2 then min m (d.usTo (d.chan c).arg) else m) 0xFFFFFF

/-- TNE of R463. -/
def Dev.tne (d : Dev) (p : Nat) : Nat := if p = 29 ∨ p = 39 then min (d.trsTne p) d.dmaTne else d.trsTne p

/-! ### ON conditions (R460) -/

/-- Is a port code one of the LVDS ports (R212)? The others are eDP and DSI. -/
def portIsLvds (port : Nat) : Bool := portKind port == 3

/-- Is output `n` lit or lighting? -/
def Dev.lightsOrLit (d : Dev) (n : Nat) : Bool := (d.outp n).st != 0

/-- A core at work: it runs and does not wait in WFI. -/
def Dev.coreBusy (d : Dev) (c : Nat) : Bool := (d.core c).run == 1 && (d.core c).wait != 1

/-- Does T0 wait in WFI (R308)? With TARGET at PARK it does so whenever nothing waits for it (R466; log entry 31). -/
def Dev.t0Waits (d : Dev) : Bool :=
  (d.core 0x4A).wait == 1 ||
    (d.fld rPMU_CTRL fPMU_CTRL_TARGET == 2 && d.pwr.stage == 3 && d.reports.isEmpty && !d.talk.bell && d.talk.later.isEmpty && d.talk.owed.isEmpty &&
      d.upd.hand.isNone && !d.irqReq 0)

/-- The part of the ON conditions of PIER28, PIER33 and PIER38 that is the world's own: a jack in debounce (R435), the PCIe link in L0 or L0s, a
transfer of a UART, an SPI, an I2C or an xSPI. It is a free choice, kept in the pier's ON_COND (log entries 41 and 53). -/
def Dev.onFree (d : Dev) (p : Nat) : Bool := d.flag (rPMU_PIER_STATUS p) fPMU_PIER_STATUS_ON_COND

/-- The ON condition of a pier other than the memory spans and PIER39. A steward that checks its partner's accesses works with it (R297). -/
def Dev.onCond1 (d : Dev) (p : Nat) : Bool :=
  if p ≤ 1 then true
  else if p = 2 then !d.t0Waits || decide (d.fld rPMU_CTRL fPMU_CTRL_TARGET < 2)
  else if p = 3 ∨ p = 4 then
    d.coreBusy (codeOfTarget (p - 2)) || d.flag (rSEC_T_STATUS (p - 2)) fSEC_T_STATUS_LOADING ||
      (p == 4 && d.paired && (d.coreBusy 0x48 || d.flag (rSEC_T_STATUS 1) fSEC_T_STATUS_LOADING))
  else if p ≤ 12 then
    d.pipeState (p - 5) == 2 || (List.range 8).any (fun n => d.pipeOf n == p - 5 && d.scans n)
  else if p = 13 then d.pipeState 8 == 1 || d.pipeState 8 == 2 || (d.pipeServes 8).any d.lit
  else if p ≤ 21 then (d.scans (p - 14) && d.lccEn (p - 14)) || (d.clu (p - 14)).load.isSome
  else if p = 26 ∨ p = 27 then (List.range 4).any (fun i => d.flag (rCAM_CTRL (4 * (p - 26) + i)) fCAM_CTRL_EN)
  else if p = 28 then d.audHolds || d.onFree 28
  else if p = 29 then
    d.bltBusy || (List.range 32).any (fun c => d.chState c == 1 || (d.chState c == 2 && (d.chan c).wait == 1))
  else if p ≤ 32 then d.flag (rWRN_CTRL (p - 30)) fWRN_CTRL_EN
  else if p = 33 then d.onFree 33
  else if p = 34 then d.fld rHOST_CMD_CTRL fHOST_CMD_CTRL_MACS != 0
  else if p = 35 then d.flag rMEM_DDR_CFG fMEM_DDR_CFG_EN && d.pier 39 == 0
  else if p = 36 then
    (List.range 8).any (fun n => d.lightsOrLit n && !portIsLvds (d.fld (rOUT_CTRL n) fOUT_CTRL_PORT) &&
      d.fld (rOUT_SR_STATUS n) fOUT_SR_STATUS_SR_STATE != 2)
  else if p = 37 then (List.range 8).any (fun n => d.lightsOrLit n && portIsLvds (d.fld (rOUT_CTRL n) fOUT_CTRL_PORT))
  else
    (List.range 16).any (fun n => d.flag (rTMR_CTRL n) fTMR_CTRL_EN && !d.tmrFrozen n) ||
      (List.range 16).any (fun c => ((d.flag (rTMR_PWM_CTRL c) fTMR_PWM_CTRL_EN && d.rd (rTMR_PWM_DUTY c) != 0) || (d.pwmLock c).isSome)) ||
      d.pins.prsOn.any (fun b => b == 0x26 || b == 0x27) || d.onFree 38

/-- The ON condition of pier `p`. -/
def Dev.onCond (d : Dev) (p : Nat) : Bool :=
  if 22 ≤ p ∧ p ≤ 25 then d.pier 39 == 0
  else if p = 39 then
    (List.range 39).any (fun q => 2 ≤ q && !(22 ≤ q && q ≤ 25) && decide (d.pier q ≤ 1))
  else d.onCond1 p

/-- The deepest automatic state of a pier (R460). -/
def Dev.deepest (d : Dev) (p : Nat) : Nat :=
  if p ≤ 1 then 0
  else if p = 3 ∨ p = 4 then (if d.secState (p - 2) = 0 then 3 else 2)
  else if p = 13 then 1
  else if (14 ≤ p ∧ p ≤ 21) ∨ (26 ≤ p ∧ p ≤ 32) ∨ p = 37 then 3
  else 2

/-- The restore time after OFF in µs (R460). -/
def Dev.restoreUs (d : Dev) (p : Nat) : Nat :=
  if 14 ≤ p ∧ p ≤ 21 then (if (d.clu (p - 14)).fresh.isSome then 9 else 5)
  else if p = 26 ∨ p = 27 then 20 else if p = 28 then 10 else if p = 29 then 5
  else if 30 ≤ p ∧ p ≤ 32 then 2000 else if p = 37 then 50 else 0

def Dev.guard (d : Dev) (p : Nat) : Nat := d.fld (rPMU_PIER_CTRL p) fPMU_PIER_CTRL_GUARD
def Dev.hold1 (d : Dev) (p : Nat) : Nat := d.fld (rPMU_PIER_CTRL p) fPMU_PIER_CTRL_HOLD

/-- The hold in force (R462): none of a pier that ignores hold OFF. -/
def Dev.holdOf (d : Dev) (p : Nat) : Nat :=
  let h := d.hold1 p
  if h = 3 ∨ (h = 2 ∧ (p ≤ 2 ∨ p = 39)) then 0 else h

/-- The deepest state the sequencer may choose for a pier with no hold (R463). -/
def Dev.choose (d : Dev) (p : Nat) : Nat :=
  let top := min (d.fld (rPMU_PIER_CTRL p) fPMU_PIER_CTRL_MAX_STATE) (d.deepest p)
  let t := d.tne p
  if 3 ≤ top ∧ 1600 + d.restoreUs p + d.guard p ≤ t then 3
  else if 2 ≤ top ∧ 60 + d.guard p ≤ t then 2
  else if 1 ≤ top ∧ p ≠ 39 then 1 else 0

/-! ### Device state (R465) -/

/-- A change `f` of pier states; an entry into PARK is counted. -/
def Dev.pierChange (d : Dev) (f : Dev → Dev) : Dev :=
  let was := d.parked
  let d := f d
  d.when (!was && d.parked) (·.bump rPMU_PARK_CNT fPMU_PARK_CNT_COUNT)

/-- The state of a pier set, really or only as sleep emulation shows it. -/
def Dev.showPier (d : Dev) (emu : Bool) (p st : Nat) : Dev :=
  d.wr (rPMU_PIER_STATUS p) (natSetBits (d.rd (rPMU_PIER_STATUS p)) 21 3 (2 * st + emu.toNat))
def Dev.setPier (d : Dev) (p st : Nat) : Dev := d.showPier false p st

def Dev.modPwr (d : Dev) (f : Pwr → Pwr) : Dev := { d with pwr := f d.pwr }

/-! ### What OFF loses (R458, R460) -/

/-- A cluster's local memories, code banks and queues lost (R138). -/
def Dev.lccLost (d : Dev) (n : Nat) : Dev :=
  let d := (List.range 9).foldl (fun d k => (d.loseLmem (9 * n + k)).modCore (9 * n + k) (fun x => { Core.idle with posted := x.posted })) d
  d.modClu n (fun x => { x with lost := true, progs := [], queue := [], closed := [], tileTaken := none, load := none })

/-- The audio unit's working state rebuilt from its registers. -/
def Dev.audLost (d : Dev) : Dev :=
  let g (k : Nat) : Ramp :=
    let v := d.fld (gainReg k) fAUD_DIRECT_GAIN_ATTEN * 65536
    ⟨v, v, 0, 0⟩
  let a := Dev.reset.aud
  let bus := ((List.range 16).zip a.bus).map (fun p => { p.2 with due := (List.range 10).map (fun k => (k, d.eqStaged p.1 k)) })
  { d with aud := { a with n := d.aud.n, gains := (List.range 147).map g, bus := bus } }

/-- What an output loses with its pipe: line FIFO and line inputs, sprite indexes and tables. -/
def Outp.pipeLost (o : Outp) : Outp :=
  { o with
    ins := [], sprSel := [], fifo := [], spr := [], sprNew := none, sprBuild := none, lut := Outp.reset.lut, lutNew := [], lutCopy := none
    fx := [], palFx := [], alphaFx := [], tileFrame := none, sprFrame := none, compFrame := none }

/-- What a pipe's OFF loses: that of the outputs that it serves, and PLL lock. -/
def Dev.pipeLost (d : Dev) (q : Nat) : Dev :=
  { d with outs := d.outs.mapIdx (fun n (o : Outp) => if d.pipeOf n = q then o.pipeLost else o) }.pixLock q false

/-- What the peripherals lose: the pulses under way, the capture queues, and the periods of the PWM channels. -/
def Dev.pinsLost (d : Dev) : Dev :=
  (List.range 16).foldl (fun d n => d.setCapq n []) (d.modPins (fun p => { p with pulse := [], evo := 0, pwm := Dev.reset.pins.pwm }))

/-- What DMA and blitter lose: the open loops and what SA and DA held, which then read anything; a channel that waits finds its program again by
its PC. -/
def Dev.dmaLost (d : Dev) : Dev :=
  let d := (List.range 32).foldl (fun d c =>
    let (sa, d) := d.takeNat
    let (da, d) := d.takeNat
    let lost (x : Chan) : Chan :=
      { x with sa := sa % 2 ^ 40, da := da % 2 ^ 40, loops := [], move := none, burst := 0, tries := 0, stopReq := false, again := false }
    { d with dma := { d.dma with ch := d.dma.ch.modify c lost } }) d
  { d with dma := { d.dma with last := Dev.reset.dma.last }, blt := Dev.reset.blt }

/-- What a pier loses in OFF. A bank holds zero words when it serves again (R374). -/
def Dev.offLoss (d : Dev) (p : Nat) : Dev :=
  if p = 3 ∨ p = 4 then
    let c := codeOfTarget (p - 2)
    (((d.loseLmem c).modCore c Core.down).irqTargetReset (p - 2)).setFld (rSEC_T_STATUS (p - 2)) fSEC_T_STATUS_LOADED 0
  else if 5 ≤ p ∧ p ≤ 13 then d.pipeLost (p - 5)
  else if 14 ≤ p ∧ p ≤ 21 then d.lccLost (p - 14)
  else if p = 29 then d.dmaLost
  else if p = 38 then d.pinsLost
  else if p = 26 ∨ p = 27 then
    (List.range 4).foldl (fun d i => { d with cams := d.cams.set (4 * (p - 26) + i) Cam.reset }) d
  else if p = 28 then d.audLost
  else if 22 ≤ p ∧ p ≤ 25 then d.zeroSpan (p - 22)
  else if 30 ≤ p ∧ p ≤ 32 then d.linkDown (p - 30)
  else d

/-- What follows as a pier leaves ON: the keeper carries BT on as in HOLDOVER (R469), links go down (R445), the pads are held (R512). -/
def Dev.leaveOn (d : Dev) (p : Nat) : Dev :=
  if p = 39 then
    (if d.btuState = 1 ∧ d.btuActive ≠ 0x1F then
      let d := d.setFld rBTU_STATUS fBTU_STATUS_STATE 2
      { d with btu := { d.btu.setSrc (SrcQ.fresh d.btuActive) with
        held := d.btuActive, holdDone := d.fld rBTU_CTRL fBTU_CTRL_HOLD_FRAMES == 0, holdAt := none } }.btuShowQual
    else d)
  else if 30 ≤ p ∧ p ≤ 32 then d.linkDown (p - 30)
  else if p = 38 then d.padsHold
  else d

/-! ### Entry and wake (R457, R459, R461 to R464) -/

/-- An entry begins; a pier that stays in its state gives up an entry into another. -/
def Dev.enter (d : Dev) (p st : Nat) : Dev :=
  if d.pier p = st ∧ !(d.emu p && d.holdOf p == 2) then
    d.modPwr (fun x => { x with entering := x.entering.filter (fun e => !(withPier p).contains e.1) })
  else d.modPwr (fun x => { x with entering := (withPier p).map (·, st) ++ x.entering.filter (fun e => !(withPier p).contains e.1) })

/-- A wake begins. -/
def Dev.startWake (d : Dev) (p : Nat) : Dev :=
  let d := d.modPwr (fun x => { x with entering := x.entering.filter (fun e => !(withPier p).contains e.1) })
  if d.pier p = 0 then d else d.modPwr (fun x => { x with waking := p :: x.waking.filter (· != p) })

/-- Does a planned wake keep the pier ON: an entry it was woken for has not fired (R464)? -/
def Dev.awaits (d : Dev) (p : Nat) : Bool :=
  match assocGet d.pwr.planned p with
  | none => false
  | some b => d.trs.entries.any (fun e => (p == 39 || d.actPier e.act == p) && btGe b e.bt)

/-- The world's own part of an ON condition looked at (`Dev.onFree`). -/
def Dev.onLook (d : Dev) (p : Nat) : Dev :=
  if p = 28 ∨ p = 33 ∨ p = 38 then
    let (on, d) := d.takeBool
    d.setFld (rPMU_PIER_STATUS p) fPMU_PIER_STATUS_ON_COND on.toNat
  else d

/-- The sequencer chooses a state for pier `p` (R462, R463). A pier woken because its ON condition holds lingers as one woken on demand does
(R464). -/
def Dev.pierChoice (d : Dev) (p : Nat) : Dev :=
  if 40 ≤ p then d
  else
    let d := d.onLook p
    let h := d.holdOf p
    let on := d.onCond p
    let d := d.setFld (rPMU_PIER_STATUS p) fPMU_PIER_STATUS_PEND (h == 2 && on && d.pier p != 3).toNat
    if h = 1 ∨ on then
      (if h = 2 then d
       else (d.startWake p).when (on && d.pier p != 0) (·.modPwr (fun x => { x with linger := p :: x.linger.filter (· != p) })))
    else if h = 2 then d.enter p 3
    else if d.pwr.linger.contains p ∨ d.awaits p ∨ (22 ≤ p ∧ p ≤ 25) then d
    else if d.choose p = 0 then d.startWake p
    else d.enter p (d.choose p)

/-- The state into which the spans go with PIER39 (R461, R463): no deeper than any MAX_STATE of the four, and ON under hold ON. -/
def Dev.spansFollow (d : Dev) : Nat :=
  if d.holdOf 22 = 1 then 0 else [22, 23, 24, 25].foldl (fun m q => min m (d.fld (rPMU_PIER_CTRL q) fPMU_PIER_CTRL_MAX_STATE)) 2

/-- An entry ends: the state holds. While a session is attached, a pier with no hold OFF stays ON and only shows it (R538). -/
def Dev.pierEntered (d : Dev) (p : Nat) : Dev :=
  match assocGet d.pwr.entering p with
  | none => d
  | some st =>
    d.pierChange (fun d => (withPier p).foldl (fun d p =>
      let was := d.awake p
      let emu := d.anyAttached && d.holdOf p != 2 && d.awake p
      let d := d.modPwr (fun x => { x with entering := x.entering.filter (·.1 != p) })
      let d := if was ∧ !emu then d.leaveOn p else d
      let d := if st = 3 ∧ !emu then d.offLoss p else d
      let d := (d.showPier emu p st).setFld (rPMU_PIER_STATUS p) fPMU_PIER_STATUS_PEND 0
      if p = 39 ∧ d.spansFollow ≠ 0 then [22, 23, 24, 25].foldl (fun d q => if d.pier q = 0 then d.showPier emu q (min st d.spansFollow) else d) d
      else d) d)

/-- A pier reaches ON; a memory span that returns from OFF is zeroed (R461, R374), and pads follow again (R512). -/
def Dev.pierOn (d : Dev) (p : Nat) : Dev :=
  let was := if d.emu p then 0 else d.pier p
  let d := d.modPwr (fun x => { x with waking := x.waking.filter (· != p) })
  let d := (d.setPier p 0).setFld (rPMU_PIER_STATUS p) fPMU_PIER_STATUS_PEND 0
  if 22 ≤ p ∧ p ≤ 25 ∧ was = 3 then (d.zeroSpan (p - 22)).setInit (p - 22) 1
  else if p = 38 then d.padsFollow
  else d

/-- A wake ends: all four memory spans wake together (R461). -/
def Dev.pierWoken (d : Dev) (p : Nat) : Dev :=
  if !d.pwr.waking.contains p then d
  else d.pierChange (fun d => if 22 ≤ p ∧ p ≤ 25 then [22, 23, 24, 25].foldl Dev.pierOn d else d.pierOn p)

/-- An arrival at pier `p` that is not ON starts a wake (R459). -/
def Dev.demandWake (d : Dev) (p : Nat) : Dev :=
  if d.awake p then d.wake p
  else if d.pierHeldOff p then d
  else
    let deep := decide (2 ≤ d.pier p)
    let d := (d.startWake p).modPwr (fun x => { x with linger := p :: x.linger.filter (· != p) })
    d.when deep (fun d => (d.bump rPMU_DEMAND_CNT fPMU_DEMAND_CNT_COUNT).raise rPMU_STATUS fPMU_STATUS_DEMAND)

/-- A planned wake (R464): TNE has fallen to the state's wake time, plus restore, plus GUARD. -/
def Dev.plannedWake (d : Dev) (p : Nat) : Dev :=
  let need := (if d.pier p = 3 then 1500 + d.restoreUs p else 40) + d.guard p
  if d.pier p < 2 ∨ d.pierHeldOff p ∨ need < d.tne p then d
  else
    let b := (d.bt + need * d.groupHz 0 * 2 ^ 24 / 1000000) % 2 ^ 48
    (d.startWake p).modPwr (fun x => { x with planned := (p, b) :: x.planned.filter (·.1 != p) })

/-- LINGER expires: the pier may leave ON. -/
def Dev.lingerEnd (d : Dev) (p : Nat) : Dev :=
  (d.modPwr (fun x => { x with linger := x.linger.filter (· != p) })).pierChoice p

/-- The piers a wake event of PARK brings ON (R468). -/
def Dev.parkPiers : List Nat := [39, 22, 23, 24, 25, 2]

/-- A wake event (R468, R479): bit `i` of PMU_STATUS. Spans held OFF stay OFF (R462). -/
def Dev.parkWake (d : Dev) (i : Nat) : Dev :=
  let entry := Dev.parkPiers.any (fun p => d.pwr.entering.any (·.1 == p))
  if (d.dstate ≠ 2 ∧ !entry) ∨ !(i == 0 || natBit (d.rd rPMU_WAKE_EN) i) then d
  else
    let d := Dev.parkPiers.foldl (fun d p =>
      (if d.pierHeldOff p then d else d.pierOn p).modPwr (fun x =>
        { x with entering := x.entering.filter (·.1 != p), waking := x.waking.filter (· != p), linger := p :: x.linger.filter (· != p) })) d
    d.raise rPMU_STATUS ⟨i, 1⟩

/-- A wake pin has held its level (R514). -/
def Dev.wakePin (d : Dev) (k : Nat) : Dev :=
  let p := d.fld (rGPIO_WAKE k) fGPIO_WAKE_PIN
  if !d.flag (rGPIO_WAKE k) fGPIO_WAKE_EN ∨ 96 ≤ p ∨ d.bankOff (p / 16) ∨
      d.padLevel p ≠ d.flag (rGPIO_WAKE k) fGPIO_WAKE_POL then d
  else (d.wr rGPIO_WAKE_STAT (natSetBits (d.rd rGPIO_WAKE_STAT) k 1 1)).parkWake 4

/-- A write of PMU_PIERp_CTRL: a hold of one memory span holds all four (R461), and the sequencer chooses again. -/
def Dev.pierCtrlWrite (d : Dev) (p v : Nat) : Dev :=
  let d := d.wr (rPMU_PIER_CTRL p) v
  let d := if 22 ≤ p ∧ p ≤ 25 then
      [22, 23, 24, 25].foldl (fun d q => d.setFld (rPMU_PIER_CTRL q) fPMU_PIER_CTRL_HOLD (natBits v 22 2)) d
    else d
  let ps := if 22 ≤ p ∧ p ≤ 25 then [22, 23, 24, 25] else [p]
  ps.foldl (fun d q =>
    let d := d.pierChoice q
    if d.holdOf q ≠ 2 ∧ d.pier q = 3 ∧ d.onCond q then d.startWake q else d) d

/-! ### Clocks (R470 to R473) -/

/-- The branch that clocks block `b`; none where no branch gates it (R473). -/
def Dev.branchOf (d : Dev) (b : Nat) : Option Nat :=
  if b = 0x03 then some 0 else if b = 0x04 then some 1 else if b = 0x00 ∨ b = 0x01 ∨ b = 0x02 then some 2
  else if 0x50 ≤ b ∧ b ≤ 0x57 then some (3 + d.pipeOf (b - 0x50))
  else if 0x40 ≤ b ∧ b ≤ 0x48 then some (3 + (b - 0x40))
  else if 0x60 ≤ b ∧ b ≤ 0x67 then some (12 + (b - 0x60))
  else if 0x30 ≤ b ∧ b ≤ 0x37 then some 23
  else if 0x09 ≤ b ∧ b ≤ 0x0C then some 20 else if b = 0x0F then some 24 else if b = 0x0D ∨ b = 0x0E then some 25
  else if 0x10 ≤ b ∧ b ≤ 0x12 then some 26 else if b = 0x08 then some 27
  else if b = 0x14 ∨ b = 0x15 then some 29 else if b = 0x16 then some 30 else if 0x18 ≤ b ∧ b ≤ 0x29 then some 29
  else none

/-- The piers of the units on a branch (R460, R473). -/
def branchPiers (b : Nat) : List Nat :=
  if b = 0 then [22, 23, 24, 25, 39] else if b = 1 ∨ b = 31 then [0] else if b = 2 then [39]
  else if b ≤ 11 then [b + 2] else if b ≤ 19 then [b + 2] else if b ≤ 22 then [b - 18]
  else if b = 23 then [26, 27] else if b = 24 then [28] else if b = 25 then [29] else if b = 26 then [30, 31, 32]
  else if b = 27 then [33, 34] else if b = 28 then [35] else [38]

/-- Does GATED of branch `b` read 1: its enable is off, or none of its piers is ON? -/
def Dev.gatedNow (d : Dev) (b : Nat) : Bool := d.gated b || !(branchPiers b).any d.awake

/-- The pier of a branch's units is what stops them when it is not ON; an access through a gated branch opens it (R473). -/
def Dev.gateHit (d : Dev) (b : Nat) : Dev :=
  match d.branchOf b with
  | some k => d.gateOpen k
  | none => d

/-- A PLL loses lock after locking (R470). A pixel PLL's loss is a fault of its pipe, whose lines are replayed until it locks again. -/
def Dev.pllLoss (d : Dev) (q : Nat) : Dev :=
  let a := rCKG_PLL_STATUS q
  let pix := decide (4 ≤ q)
  let locked := d.flag a fCKG_PLL_STATUS_LOCK || (pix && d.flag (rPIPE_STATUS (q - 4)) fPIPE_STATUS_PLL_LOCK)
  if !locked then d
  else
    let d := (d.setFld a fCKG_PLL_STATUS_LOCK 0).raise a fCKG_PLL_STATUS_LOSS
    if pix then (d.setFld (rPIPE_STATUS (q - 4)) fPIPE_STATUS_PLL_LOCK 0).reportUnit 0x04 0x05 (q - 4)
    else d.reportUnit 0x0E 0x19 0

/-- A PLL that lost lock locks again. -/
def Dev.pllRelock (d : Dev) (q : Nat) : Dev :=
  let d := d.setFld (rCKG_PLL_STATUS q) fCKG_PLL_STATUS_LOCK 1
  if 4 ≤ q then
    (if q = 12 ∧ d.pipeState 8 = 2 then d.spareLocked
     else if (d.pipeServes (q - 4)).any (fun n => d.lit n) then d.setFld (rPIPE_STATUS (q - 4)) fPIPE_STATUS_PLL_LOCK 1 else d)
  else d

/-- The crystal is absent or off frequency (R472). -/
def Dev.xtalFail (d : Dev) : Dev :=
  ((d.setFld rCKG_STATUS fCKG_STATUS_XTAL_OK 0).raise rCKG_STATUS fCKG_STATUS_XTAL_FAIL).reportUnit 0x0E 0x19 0

/-! ### Resets (R474 to R476) -/

/-- The registers for which `keep` fails returned to their reset values. -/
def Dev.dropRegs (d : Dev) (keep : Nat → Bool) : Dev :=
  { d with regs := spKeep keep d.regs, live := spKeep keep d.live, stage := spKeep keep d.stage, latch := spKeep keep d.latch }

/-- The pier of the register at `a`: the wake detectors sit in PIER00 (R514), WRNk_SUCC (R447) and FLT_LC_RETIRE (R566) in PIER39. -/
def Dev.pierOfReg (d : Dev) (a : Nat) : Nat :=
  if rGPIO_WAKE 0 ≤ a ∧ a ≤ rGPIO_WAKE_STAT then 0
  else if a = rFLT_LC_RETIRE ∨ [0, 1, 2].any (fun k => a == rWRN_SUCC k) then 39 else d.pierOfBlock (blockOf a)

/-- What OTP and the balls say: key limits and serial number. -/
def otpReg (a : Nat) : Bool := decide (rSEC_KEY 0 ≤ a ∧ a ≤ rSEC_KEY 7) || a == rSEC_SERIAL_LO || a == rSEC_SERIAL_HI

/-- The whole device reset (R474): everything but flash, OTP, what drives the pins and, where `straps` says so, the straps. -/
def Dev.fullReset (d : Dev) (cause : Nat) (straps : Bool) : Dev :=
  let keep (a : Nat) : Bool := otpReg a || (straps && a == rPMU_STRAPS)
  let old := d.dropRegs keep
  let flt : Flt := { Dev.reset.flt with flash := d.flt.flash, retired := d.flt.retired, listing := d.flt.listing }
  let d' : Dev := { Dev.reset with
    regs := old.regs
    free := d.free
    flt := flt
    pins := { Dev.reset.pins with level := d.pins.level, supply := d.pins.supply, held := some (List.replicate 96 0) }
    upd := { Dev.reset.upd with br := d.upd.br, slots := d.upd.slots, writing := d.upd.writing, key := d.upd.key }
    cfg := { Dev.reset.cfg with copies := d.cfg.copies, newer := d.cfg.newer, store := d.cfg.store }
    talk := { Dev.reset.talk with keys := d.talk.keys }
    btu := { Dev.reset.btu with asCap := d.btu.asCap } }
  let d' := d'.wr rPMU_RESET_CAUSE (cause * 2 ^ 22)
  if straps then ([0, 1, 2].foldl (fun x p => x.setFld (rWRN_STATUS p) fWRN_STATUS_SELF x.devNum) d').wrnSettle else d'

/-- Power-good (R552, R477): the straps are sampled and OSC_WAIT is counted. -/
def Dev.powerGood (d : Dev) (osc dev : Nat) : Dev :=
  if d.pwr.stage ≠ 0 then d
  else
    let d := d.wr rPMU_STRAPS (osc * 2 ^ 21 + dev * 2 ^ 19)
    let d := ([0, 1, 2].foldl (fun x p => x.setFld (rWRN_STATUS p) fWRN_STATUS_SELF dev) d).wrnSettle
    d.modPwr (fun x => { x with stage := 1, pg := d.btu.clocks })

/-- The oscillator wait has ended (R471, R477): the crystal and the core PLL run, BT starts, the banks and the exchange memory are
zeroed. -/
def Dev.oscDone (d : Dev) : Dev :=
  if d.pwr.stage ≠ 1 then d
  else
    let d := d.setFld rCKG_STATUS fCKG_STATUS_XTAL_OK 1
    let d := [0, 1, 2, 3].foldl (fun d q => d.setFld (rCKG_PLL_STATUS q) fCKG_PLL_STATUS_LOCK 1) d
    let d := [0, 1, 2, 3].foldl (fun d s => d.setInit s 1) d
    let d := { d with mem := { d.mem with exch := [], exchErr := [], exBusy := true } }
    d.modPwr (fun x => { x with stage := 2 })

/-- PMU_RESET.DEVICE: as POR, with the straps kept and OSC_WAIT skipped. -/
def Dev.deviceReset (d : Dev) : Dev :=
  let d := d.fullReset 2 true
  (d.modPwr (fun x => { x with stage := 1, pg := d.btu.clocks })).oscDone

/-- A CORE reset (R476): PIER00 and PIER01 are kept, every output goes dark, and start-up goes on from the boot record. -/
def Dev.coreReset (d : Dev) : Dev :=
  let keep (a : Nat) : Bool := decide (d.pierOfReg a ≤ 1) || otpReg a
  let old := d.dropRegs keep
  let flt : Flt := { Dev.reset.flt with flash := d.flt.flash, retired := d.flt.retired, listing := d.flt.listing }
  let d' : Dev := { Dev.reset with
    regs := old.regs, live := old.live, stage := old.stage, latch := old.latch
    free := d.free
    prp := d.prp
    flt := flt
    mem := { Dev.reset.mem with exch := d.mem.exch, exchErr := d.mem.exchErr, exLatch := d.mem.exLatch, exBusy := d.mem.exBusy }
    pins := { Dev.reset.pins with level := d.pins.level, supply := d.pins.supply, held := some (List.replicate 96 0) }
    upd := { Dev.reset.upd with br := d.upd.br, slots := d.upd.slots, writing := d.upd.writing, key := d.upd.key }
    cfg := { Dev.reset.cfg with copies := d.cfg.copies, newer := d.cfg.newer, store := d.cfg.store }
    talk := { Dev.reset.talk with keys := d.talk.keys, held := d.talk.held.filter (fun x => x.ep == .sentinel) }
    btu := { Dev.reset.btu with clocks := d.btu.clocks, asCap := d.btu.asCap }
    pwr := { Dev.reset.pwr with stage := 2, pg := d.pwr.pg } }
  let d' := ([0, 1, 2].foldl (fun x p => x.setFld (rWRN_STATUS p) fWRN_STATUS_SELF x.devNum) d').wrnSettle
  let d' := (List.range 40).foldl (fun x p => x.setPier p 0) d'
  let d' := [0, 1, 2, 3].foldl (fun d s => d.setInit s 1) d'
  d'.wr rPMU_RESET_CAUSE (3 * 2 ^ 22)

/-- An output's own state at reset (R111, R170): both sprite indexes empty, the tables at their reset contents, nothing armed. What the fault
manager has noted of it stays. -/
def Dev.outpReset (d : Dev) (n : Nat) : Dev :=
  d.modOutp n (fun o => { Outp.reset with frame := o.frame, spareLock := o.spareLock, degPipe := o.degPipe, degCore := o.degCore })

/-- The unit state that a reset of pier `p` clears (R475). -/
def Dev.unitReset (d : Dev) (p : Nat) : Dev :=
  if p = 1 then { d with prp := Dev.reset.prp }
  else if p = 3 ∨ p = 4 then
    let c := codeOfTarget (p - 2)
    ((((d.copyDropped (p - 2)).modCore c Core.down).clearLmem c).irqTargetReset (p - 2)).setSecState (p - 2) 0
  else if 5 ≤ p ∧ p ≤ 13 then
    (List.range 8).foldl (fun d n => if d.pipeOf n = p - 5 then (d.when ((d.outp n).st != 0) (·.goDark n)).outpReset n else d) d
  else if 14 ≤ p ∧ p ≤ 21 then ((List.range 9).foldl (fun d k => d.clearLmem (9 * (p - 14) + k)) (d.lccLost (p - 14))).modClu (p - 14) (fun _ => Cluster.reset)
  else if 22 ≤ p ∧ p ≤ 25 then (d.zeroSpan (p - 22)).setInit (p - 22) 1
  else if p = 26 ∨ p = 27 then d.offLoss p
  else if p = 28 then { d with aud := { Dev.reset.aud with n := d.aud.n } }
  else if p = 29 then { d with dma := Dev.reset.dma, blt := Dev.reset.blt }
  else if 30 ≤ p ∧ p ≤ 32 then (d.linkDown (p - 30)).modPort (p - 30) (fun _ => Wrn.reset)
  else if p = 35 then
    { d.setFld rMEM_DDR_STATUS fMEM_DDR_STATUS_READY 0 with
      mem := { d.mem with ddrTraining := d.flag rMEM_DDR_CFG fMEM_DDR_CFG_EN } }
  else if p = 36 ∨ p = 37 then
    (List.range 8).foldl (fun d n =>
      if (d.outp n).st ≠ 0 ∧ portIsLvds (d.fld (rOUT_CTRL n) fOUT_CTRL_PORT) = (p == 37) then d.goDark n else d) d
  else if p = 38 then { d with pins := { Dev.reset.pins with level := d.pins.level, supply := d.pins.supply, held := some (List.replicate 96 0) } }
  else d

/-- A pier reset (R475): the pier comes ON, with the other spans where it is one (R461). -/
def Dev.pierReset (d : Dev) (p : Nat) : Dev :=
  if 40 ≤ p then d
  else if p = 0 then d.deviceReset
  else if p = 39 then d.coreReset
  else if p = 2 then d.t0Restart 0
  else
    let d := d.bump rPMU_PIER_RST_CNT fPMU_PIER_RST_CNT_COUNT
    let d := ((withPier p).foldl Dev.pierOn d).unitReset p
    let keep (a : Nat) : Bool := d.pierOfReg a != p || otpReg a || (22 ≤ p && p ≤ 25)
    let d := d.dropRegs keep
    let d := if 30 ≤ p ∧ p ≤ 32 then d.setFld (rWRN_STATUS (p - 30)) fWRN_STATUS_SELF d.devNum else d
    let d := (if 30 ≤ p ∧ p ≤ 32 then d.wrnSettle else d).resetRuns p (10 + d.restoreUs p)
    d.modPwr (fun x => { x with entering := x.entering.filter (fun e => !(withPier p).contains e.1) })

/-- A write of PMU_RESET by T0. -/
def Dev.pmuResetWrite (d : Dev) (v : Nat) : Dev :=
  let d := d.wr rPMU_RESET (v % 64)
  if natBit v 23 then d.deviceReset else if natBit v 22 then d.pierReset (v % 64) else d

/-! ### Commands -/

def execPowerGood (osc : Fin 8) (dev : Fin 4) (s : State) := s.upd (·.powerGood osc dev)

def execPmuDeviceReset (s : State) := s.upd Dev.deviceReset

def execPmuPierReset (value : Reg) (s : State) := s.upd (·.pmuResetWrite (natBits value.toNat 0 6 + 0x400000))

def execCoreReset (s : State) := s.upd Dev.coreReset

def execOscWaitExpiry (s : State) := s.upd Dev.oscDone

def execXtalFail (s : State) := s.upd Dev.xtalFail

def execXtalRecovery (s : State) := s.upd (·.setFld rCKG_STATUS fCKG_STATUS_XTAL_OK 1)

def execPllLockLoss (pll : Fin 13) (s : State) := s.upd (·.pllLoss pll)

def execPllRelock (pll : Fin 13) (s : State) := s.upd (·.pllRelock pll)

def execPierStateChoice (pier : Fin 40) (s : State) := s.upd (·.pierChoice pier)

def execPierEntryDone (pier : Fin 40) (s : State) := s.upd (·.pierEntered pier)

def execDemandWake (pier : Fin 40) (s : State) := s.upd (·.demandWake pier)

def execPlannedWake (pier : Fin 40) (s : State) := s.upd (·.plannedWake pier)

def execPierWakeDone (pier : Fin 40) (s : State) := s.upd (·.pierWoken pier)

def execLingerExpiry (pier : Fin 40) (s : State) := s.upd (·.lingerEnd pier)

def execParkWakeEvent (bit : Fin 5) (s : State) := s.upd (·.parkWake bit)

def execWakeDetect (k : Fin 16) (s : State) := s.upd (·.wakePin k)

end Sys2Proof.Machine
end

