-- ==== Sys2Proof/Machine/Faults.lean ====
section
/-! DEFINITION. The fault manager (R480 to R487): judging errors, recovery slots, and the retirement of units. -/

namespace Sys2Proof.Machine

def Dev.modFlt (d : Dev) (f : Flt → Flt) : Dev := { d with flt := f d.flt }

/-! ### Line cores (R156, R484) -/

/-- GO of FLT_LC_RETIRE: a program in flight on the core is aborted (R153), LC8 takes its logical number from the next start if it is
free, and below seven cores the output is DEGRADED. -/
def Dev.lcRetire (d : Dev) (c : Nat) : Dev :=
  let n := c / 9
  let k := c % 9
  let a := rLCC_CORES n
  if 72 ≤ c ∨ natBit (d.rd a) k then d
  else
    let running := (d.clu n).progs.find? (fun p => p.phys == k && p.st == 1)
    let d := match running with
      | some p =>
        let halted := (d.core c).run == 2
        let d := ((d.lccUsed n k).lccFree n k).when halted (·.showHalted c false)
        (d.modClu n (fun x => { x.discard p.line p.frame with progs := x.progs.filter (fun q => !(q.phys == k && q.st == 1)) })).lccLate
          n p.line p.frame
      | none => d
    let d := d.wr a (natSetBits (d.rd a) k 1 1)
    let spareFree : Bool := d.fld a fLCC_CORES_SPARE_FOR == 0xF && !natBit (d.rd a) 8
    let d : Dev := (if k = 8 then d.setFld a fLCC_CORES_SPARE_FOR 0xF
      else if spareFree then (d.setFld a fLCC_CORES_SPARE_FOR k).modClu n (fun x => { x with remap := some (k, d.now) }) else d)
    let d := d.lccBudget n
    let left := ((List.range 8).filter (fun j => (d.lccPhys n j).isSome)).length
    if left < 7 then d.degrade n false else d

/-! ### Recovery (R483, R484) -/

/-- A core retired by the fault manager: where LC8 replaces it, it holds its span's slot until LC8 starts for it (R32, R484). -/
def Dev.lcRecover (d : Dev) (c : Nat) : Dev :=
  let k := c % 9
  let d := d.lcRetire c
  if k < 8 ∧ d.fld (rLCC_CORES (c / 9)) fLCC_CORES_SPARE_FOR = k then d.takeSlot (classSpan 7 c) [7, c, 7, c - k + 8] else d

/-- A write of FLT_LC_RETIRE by T0: a GO waits while another unit of the span recovers (R32). -/
def Dev.lcRetireWrite (d : Dev) (v : Nat) : Dev :=
  let d := d.wr rFLT_LC_RETIRE (v % 128)
  let c := v % 128
  if !natBit v 23 ∨ 72 ≤ c ∨ natBit (d.rd (rLCC_CORES (c / 9))) (c % 9) then d
  else if (d.span (classSpan 7 c)).busy.isSome then d.queueUnit (classSpan 7 c) (7, c)
  else d.lcRecover c

/-- The lowest idle spare bank of a span. -/
def Dev.idleSpare (d : Dev) (s : Nat) : Option Nat :=
  (List.range 4).map (4 * s + ·) |>.find? (fun j => d.fld (rMEM_SPARE j) fMEM_SPARE_STATE == 0)

/-- The bank recovered with the lowest idle spare of its span, or no spare left. A spare that serves for no bank is marked retired. -/
def Dev.recoverBank (d : Dev) (s idx : Nat) : Dev :=
  let b := if idx < 256 then idx else d.fld (rMEM_SPARE (idx - 256)) fMEM_SPARE_FOR
  let st := d.fld (rMEM_SPARE (idx - 256)) fMEM_SPARE_STATE
  if 256 ≤ idx ∧ st = 0 then (d.setFld (rMEM_SPARE (idx - 256)) fMEM_SPARE_STATE 3).journalUnit 4 4 idx 0 0
  else if 256 ≤ idx ∧ st ≠ 2 then d
  else match d.idleSpare s with
  | some j =>
    if d.copyRunning s then d.modSpan s (fun x => { x with waiting := x.waiting ++ [(4, idx)] })
    else d.spareGo j b
  | none => d.wr rFLT_STATUS (natSetBits (d.rd rFLT_STATUS) (12 + s) 1 1)

/-- The recovery of a permanent unit begins, its span's slot being free (R484). What ends at once never holds the slot. -/
def Dev.beginRecovery (d : Dev) (cls idx : Nat) : Dev :=
  let s := classSpan cls idx
  if cls = 5 ∧ idx < 8 then
    let d := d.pipeRetire idx
    if d.pipeState idx = 3 then d.journalUnit 4 cls idx 0 0 else d
  else if cls = 5 then d.spareRetire.journalUnit 4 cls idx 0 0
  else if cls = 7 then d.lcRecover idx
  else if cls = 4 then d.recoverBank s idx
  else if cls = 0x11 then
    let p := idx / 18
    let dir := idx / 9 % 2
    let lane := idx % 9
    if d.fld (laneReg p dir) fWRN_LANES_TX_SPARE_FOR ≠ 0xF ∧ d.flt.retired.contains (cls, idx) then d.wrnCtrlWrite p (d.rd (rWRN_CTRL p) &&& 0x7FFFFF)
    else if lane = 8 then d
    else d.laneGo p dir lane
  else d

/-- A class that is retired at all (R484). -/
def retires (cls : Nat) : Bool := cls == 4 || cls == 5 || cls == 7 || cls == 0x11

/-- Is a unit out of service already, so that no recovery of it can begin again? -/
def Dev.outOfService (d : Dev) (cls idx : Nat) : Bool :=
  if cls = 5 then d.pipeState idx == 3
  else if cls = 7 then natBit (d.rd (rLCC_CORES (idx / 9))) (idx % 9)
  else if cls = 4 then (if idx < 256 then d.physBank idx != idx else d.fld (rMEM_SPARE (idx - 256)) fMEM_SPARE_STATE == 3)
  else if cls = 0x11 then d.fld (laneReg (idx / 18) (idx / 9 % 2)) fWRN_LANES_TX_SPARE_FOR == idx % 9
  else false

/-- A permanent unit recovered at once, queued, or held as pending (R483); nothing for one that is so already (R500). -/
def Dev.startRecovery (d : Dev) (cls idx : Nat) : Dev :=
  let s := classSpan cls idx
  let x := d.span s
  let u := (cls, idx)
  let now : Bool := match x.busy with
    | some b => b.getD 0 0 == cls && b.getD 1 0 == idx
    | none => false
  if !retires cls ∨ now ∨ d.outOfService cls idx then d
  else if x.busy.isNone then d.beginRecovery cls idx
  else d.queueUnit s u

/-- Is unit `a` before unit `b`: lower class, then lower index (R18)? -/
def unitBefore (a b : Nat × Nat) : Bool := decide (a.1 < b.1) || (a.1 == b.1 && decide (a.2 < b.2))

/-- The next queued unit of a free slot starts; a pending unit takes the place it leaves. `n` bounds the units that end at once. -/
def Dev.nextRecovery (d : Dev) (s : Nat) : Nat → Dev
  | 0 => d
  | n + 1 =>
    let x := d.span s
    match x.busy, x.queue with
    | none, u :: rest =>
      let first := x.waiting.foldl (fun m w => match m with | none => some w | some y => some (if unitBefore w y then w else y)) none
      let d := d.modSpan s (fun x => match first with
        | some w => { x with queue := rest ++ [w], waiting := x.waiting.filter (· != w) }
        | none => { x with queue := rest })
      (d.beginRecovery u.1 u.2).nextRecovery s n
    | _, _ => d

def Dev.freeSlot (d : Dev) (s : Nat) : Dev :=
  (d.modSpan s (fun x => { x with busy := none })).nextRecovery s 64

/-- Has the recovery in a slot come to its end (R484)? -/
def Dev.recoveryOver (d : Dev) (u : List Nat) : Bool :=
  let cls := u.getD 0 0
  let idx := u.getD 1 0
  if cls = 5 then d.pipeState idx == 3
  else if cls = 7 then (d.clu (idx / 9)).progs.any (fun p => p.phys == 8) || (d.core (idx - idx % 9 + 8)).run == 1
  else if cls = 4 then d.fld (rMEM_SPARE (u.getD 3 256 - 256)) fMEM_SPARE_STATE == 2
  else d.fld (laneReg (idx / 18) (idx / 9 % 2)) fWRN_LANES_TX_SPARE_FOR == idx % 9

/-- The recovery in a slot ends: the unit is retired and the next one starts. -/
def Dev.recoveryEnd (d : Dev) (s : Nat) : Dev :=
  match (d.span s).busy with
  | none => d
  | some u => if d.recoveryOver u then ((d.journalRec 4 u).freeSlot s).fltShow else d

/-- A pending unit of a span that neither recovers nor queues one is taken up: one that waited for a copy which held no slot. -/
def Dev.spanTurn (d : Dev) (s : Nat) : Dev :=
  let x := d.span s
  match x.busy, x.queue, x.waiting with
  | none, [], u :: us =>
    let w := us.foldl (fun w y => if unitBefore y w then y else w) u
    (d.modSpan s (fun x => { x with queue := [w], waiting := x.waiting.filter (· != w) })).nextRecovery s 64
  | _, _, _ => d

/-- An ABORT of T0 (R378): the recovery that the copy served is abandoned, and its slot is free again. -/
def Dev.spareStop (d : Dev) (j : Nat) : Dev :=
  let s := j / 4
  let on := d.fld (rMEM_SPARE j) fMEM_SPARE_STATE == 1
  let d := d.spareAbort j
  match (d.span s).busy with
  | some u =>
    if on ∧ u.getD 2 0 = 4 ∧ u.getD 3 0 = 256 + j then ((d.journalRec 5 u).freeSlot s).fltShow else d
  | none => if on then (d.spanTurn s).fltShow else d

/-- The replacement fails while the recovery runs (R483): it is permanent at once, the recovery is abandoned, and it restarts in the same
slot with another spare or takes the outcome for no spare left. -/
def Dev.replacementFault (d : Dev) (s code : Nat) : Dev :=
  match (d.span s).busy with
  | none => d
  | some u =>
    let cls := u.getD 0 0
    let idx := u.getD 1 0
    let rep := u.getD 3 0
    let d := (d.bump rFLT_PERM_CNT fFLT_PERM_CNT_COUNT).raise rFLT_STATUS fFLT_STATUS_PERMANENT
    let d := d.journalUnit 2 cls rep 1 code
    let d := (d.journalRec 5 u).modSpan s (fun x => { x with busy := none })
    let d :=
      if cls = 5 then d.spareRetire
      else if cls = 7 then d.lcRetire rep
      else if cls = 4 then
        let d := d.spareAbort (rep - 256)
        (d.setFld (rMEM_SPARE (rep - 256)) fMEM_SPARE_STATE 3).recoverBank s idx
      else d.modPort (idx / 18) (fun x => { x with swap := none })
    let d := if cls = 0x11 then d.wrnCtrlWrite (idx / 18) (d.rd (rWRN_CTRL (idx / 18)) &&& 0x7FFFFF) else d
    if (d.span s).busy.isSome then d else d.nextRecovery s 64

/-- A recovery that has not ended within two frames is abandoned and counted as a fault of the replacement (R483). -/
def Dev.recoveryTimeout (d : Dev) (s : Nat) : Dev :=
  match (d.span s).busy with
  | none => d
  | some u => if d.recoveryOver u ∨ (d.recFrame u + 2 ^ 24 - (d.span s).since) % 2 ^ 24 < 2 then d else (d.replacementFault s 0).fltShow

/-! ### Judging (R480 to R482, R488) -/

/-- The error's journal record: at most one per 64 TG0 frames of a unit, standing for those since. -/
def Dev.errorRecord (d : Dev) (r : Report) : Dev :=
  let u := (r.cls, r.idx)
  let f := d.tg0Frame
  let rec' (d : Dev) (n : Nat) : Dev := d.journal r.bt 1 r.cls r.idx n r.code r.path (BitVec.ofNat 48 r.detail)
  let put (d : Dev) (x : Nat × Nat) : Dev := d.modFlt (fun t => { t with merge := (u, x) :: t.merge.filter (·.1 != u) })
  match d.flt.merge.find? (·.1 == u) with
  | none => (rec' d 1).modFlt (fun t => { t with merge := (u, (f, 0)) :: t.merge })
  | some (_, (f0, n)) => if f0 + 64 ≤ f then put (rec' d (n + 1)) (f, 0) else put d (f0, n + 1)

/-- A unit becomes permanent (R482): recorded with the address that the report gave, and recovered with AUTO at 1 or by FLT.RETIRE. -/
def Dev.makePermanent (d : Dev) (r : Report) (count : Nat) : Dev :=
  let cls := r.cls
  let idx := r.idx
  let code := r.code
  let d := (d.bump rFLT_PERM_CNT fFLT_PERM_CNT_COUNT).raise rFLT_STATUS fFLT_STATUS_PERMANENT
  let d := d.journalWith 2 cls idx count code (BitVec.ofNat 48 r.detail)
  if d.flag rFLT_CTRL fFLT_CTRL_AUTO ∨ code = 0x11 then d.startRecovery cls idx else d

/-- The span whose slot holds a recovery in which unit `u` is the replacement (R483), with the recovery. -/
def Dev.replaces (d : Dev) (cls idx : Nat) : Option (Nat × List Nat) :=
  (List.range 4).findSome? (fun s => match (d.span s).busy with
    | some b => if b.getD 2 0 = cls ∧ b.getD 3 0 = idx then some (s, b) else none
    | none => none)

/-- Is a unit queued, pending or under recovery (R500)? -/
def Dev.inRecovery (d : Dev) (cls idx : Nat) : Bool :=
  let x := d.span (classSpan cls idx)
  x.queue.contains (cls, idx) || x.waiting.contains (cls, idx) ||
    x.busy.elim false (fun b => b.getD 0 0 == cls && b.getD 1 0 == idx)

/-- A report judged. FLT.RETIRE of a unit that is queued or under recovery has no effect, and a replacement's fault that comes as its recovery has
ended is a new error (R500). -/
def Dev.judge (d : Dev) (r : Report) : Dev :=
  if r.code = 0x11 ∧ d.inRecovery r.cls r.idx then d
  else
  let u := (r.cls, r.idx)
  let d := (d.bump rFLT_ERR_CNT fFLT_ERR_CNT_COUNT).raise rFLT_STATUS fFLT_STATUS_ERROR
  let d := if r.code = 0x11 then d else d.errorRecord r
  let d := d.when (r.code == 0x10) (·.journalUnit 0x11 r.cls r.idx 0 r.code)
  let (rep, d) := match d.replaces r.cls r.idx with
    | some (s, b) => if d.recoveryOver b then (none, d.recoveryEnd s) else (some s, d)
    | none => (none, d)
  let d :=
    if d.flt.retired.contains u then (if r.code = 0x11 then d.startRecovery r.cls r.idx else d)
    else if let some s := rep then d.replacementFault s r.code
    else if r.code = 0x11 then d.makePermanent r 0
    else if r.code = 0x06 then
      (if d.flag rFLT_CTRL fFLT_CTRL_SIG_RETIRE then d.makePermanent r 1 else d)
    else
      let old := ((d.flt.hist.find? (·.1 == u)).map (·.2)).getD []
      let now := (d.tg0Frame :: old).take 15
      let d := d.modFlt (fun t => { t with hist := (u, now) :: t.hist.filter (·.1 != u) })
      let k := max 1 (d.fld rFLT_CTRL fFLT_CTRL_PERM_COUNT)
      let w := max 1 (d.fld rFLT_WINDOW fFLT_WINDOW_FRAMES)
      let inWin := (now.filter (fun f => decide (d.tg0Frame < f + w))).length
      if k ≤ now.length ∧ d.tg0Frame < now.getD (k - 1) 0 + w then d.makePermanent r inWin else d
  d.fltShow

/-- The report judged next: of those of the oldest moment the one of the lowest class, then of the lowest index (R18, R500). -/
def nextReport : List Report → Option Report
  | [] => none
  | r :: rest => some (rest.foldl (fun m x =>
      if x.bt = r.bt ∧ unitBefore (x.cls, x.idx) (m.cls, m.idx) then x else m) r)

/-- The next report judged, while T0 runs (R480). -/
def Dev.judgeNext (d : Dev) : Dev :=
  match nextReport d.reports with
  | none => d
  | some r => if d.pwr.stage = 3 then Dev.judge { d with reports := d.reports.erase r } r else d

/-- A line of output `n` that the compositor has put into the line FIFO is replayed, its words having failed (R186, R481): which one is a free choice,
and it counts as one that came too late from the compositor (log entry 42). -/
def Dev.spoilLine (d : Dev) (n : Nat) : Dev :=
  let xs := (d.outp n).fifo.filter (fun x => x.kind == 0)
  let (k, d) := d.takeNat
  match xs[k % max 1 xs.length]? with
  | none => d
  | some x =>
    let d := (d.staleRecord n x.line x.frame [] [] true).replayTouch n x.line
    d.modOutp n (fun o => { o with fifo := o.fifo.map (fun y =>
      if y == x then ⟨x.line, x.frame, 1, d.replayRow n x.line x.frame, []⟩ else y) })

/-- An error that only the unit itself detects, reported through its interrupt source (R309): an uncorrectable word in a pipe's tables or FIFO
(its line is replayed), or in a line core's local memory (its program is aborted, R154; the exception is a failed load, cause BUS). -/
def Dev.detect (d : Dev) (core : Bool) (idx : Nat) : Dev :=
  if core then
    let n := idx / 9
    let k := idx % 9
    let d := if (d.clu n).progs.any (fun p => p.phys == k && p.st == 1) then d.lccExcept n k 4 (d.core idx).pc else d
    (d.irqRaise (274 + n)).reportUnit 0x07 0x07 idx
  else
    let d : Dev := match d.pipeServes idx with
      | some n => d.spoilLine n
      | none => d
    (d.irqRaise (257 + idx)).reportUnit 0x05 0x05 idx

/-! ### The retirement list at a start (R486) -/

/-- A listed unit retired again before any output lights. Lanes wait for their link, and banks until their span has been zeroed. -/
def Dev.reapply (d : Dev) (u : Nat × Nat) : Dev :=
  if u.1 = 5 then (if u.2 < 8 then d.pipeRetire u.2 else d.spareRetire)
  else if u.1 = 7 then d.lcRetire u.2
  else if u.1 = 4 then
    (if 256 ≤ u.2 then
      (if d.fld (rMEM_SPARE (u.2 - 256)) fMEM_SPARE_STATE = 0 then d.setFld (rMEM_SPARE (u.2 - 256)) fMEM_SPARE_STATE 3 else d)
    else if natBit (d.rd rMEM_STATUS) (20 + u.2 / 64) ∨ d.outOfService 4 u.2 then d
    else match d.idleSpare (u.2 / 64) with
      | some j => (d.spareStart j u.2).spareRemap j
      | none => d.wr rFLT_STATUS (natSetBits (d.rd rFLT_STATUS) (12 + u.2 / 64) 1 1))
  else d

/-- The listed spares first, then the other units in the order of the list. -/
def Dev.reapplyAll (d : Dev) : Dev :=
  let spare (u : Nat × Nat) : Bool := (u.1 == 4 && decide (256 ≤ u.2)) || u == (5, 8)
  let l := d.flt.retired
  (l.filter spare ++ l.filter (fun u => !spare u)).foldl Dev.reapply d

/-- The zeroing of a span ends: INIT reads 0 (R374), and its listed banks are replaced again once T0 runs (R486). The words were zero from its begin
on, since no access is served before. -/
def Dev.spanZeroed (d : Dev) (s : Nat) : Dev :=
  if !natBit (d.rd rMEM_STATUS) (20 + s) then d
  else
    let d := d.setInit s 0
    if d.pwr.stage ≠ 3 then d
    else (d.flt.retired.filter (fun u => u.1 == 4 && decide (u.2 < 256) && u.2 / 64 == s)).foldl Dev.reapply d

/-- The listed lanes of a port that has come up: a GO each. Of two lanes of one direction the later finds lane 8 taken (R446). -/
def Dev.lanesReapply (d : Dev) (p : Nat) : Dev :=
  if !d.linkUp p then d
  else
    (d.flt.retired.filter (fun u => u.1 == 0x11 && u.2 / 18 == p && u.2 % 9 != 8)).foldl (fun d u =>
      let same (v : Nat × Nat) : Bool := v.1 == 0x11 && v.2 / 9 == u.2 / 9
      let x := d.span 3
      if d.fld (laneReg p (u.2 / 9 % 2)) fWRN_LANES_TX_SPARE_FOR = u.2 % 9 then d
      else if (x.queue ++ x.waiting).any same ∨ x.busy.elim false (fun b => same (b.getD 0 0, b.getD 1 0)) then
        d.raise (rWRN_STATUS p) fWRN_STATUS_LANE_ERR
      else (d.laneGo p (u.2 / 9 % 2) (u.2 % 9)).fltShow) d

/-- The units that wait for span 3's slot though it is free: lanes that waited for the end of a SWAP of their peer. -/
def Dev.laneTurn (d : Dev) : Dev :=
  if (d.span 3).busy.isSome ∨ (d.span 3).queue = [] then d else (d.nextRecovery 3 64).fltShow

/-- A lane swap that the peer has rejected has no effect: it holds span 3's slot no longer (R446). -/
def Dev.laneRejected (d : Dev) (p : Nat) : Dev :=
  match (d.span 3).busy with
  | none => d
  | some u =>
    if u.getD 0 0 = 0x11 ∧ u.getD 1 0 / 18 = p ∧ (d.port p).swap.isNone ∧ !d.recoveryOver u then (d.freeSlot 3).fltShow else d

/-! ### Commands -/

def execLinkCell (port : Fin 3) (head : CellHead) (msg : LinkMsg) (s : State) :=
  s.upd (fun d =>
    let d := d.linkCell port head msg
    if msg = .answer false then d.laneRejected port else d)

/-- A report judged: the oldest one that a unit has made, or one more that this command makes (`found`: line core 0 to 71, or 72 plus a pipe). -/
def execErrorReport (found : Option (Fin 81)) (s : State) :=
  s.upd (fun d => match found with
    | none => d.judgeNext
    | some u => (if u.val < 72 then d.detect true u else d.detect false (u - 72)).judgeNext)

/-- From marker M on lane 8 carries the lane; a lane that waited for the end of the peer's SWAP is taken up. -/
def execLaneSwapDone (port : Fin 3) (s : State) := s.upd (fun d => (d.laneSwapped port).laneTurn)

def execSpareGo (spare : Fin 16) (bank : Fin 256) (s : State) := s.upd (fun d => (d.spareGo spare bank).fltShow)

def execSpanZeroed (span : Fin 4) (s : State) := s.upd (·.spanZeroed span)

def execSpareAbort (spare : Fin 16) (s : State) := s.upd (·.spareStop spare)

def execSpareRemap (spare : Fin 16) (s : State) :=
  s.upd (fun d => if d.fld (rMEM_SPARE spare) fMEM_SPARE_STATE = 1 then ((d.spareRemap spare).spanTurn (spare / 4)).fltShow else d)

def execRecoveryEnd (span : Fin 4) (s : State) := s.upd (·.recoveryEnd span)

def execRecoveryTimeout (span : Fin 4) (s : State) := s.upd (·.recoveryTimeout span)

def execFltLcRetireGo (value : Reg) (s : State) := s.upd (fun d => (d.lcRetireWrite (value.toNat ||| 0x800000)).fltShow)

def execWrnTrained (port : Fin 3) (peer : Fin 4) (peerPort : Fin 3) (tx rx : BitVec 9) (s : State) :=
  s.upd (fun d => (d.wrnTrained port peer peerPort tx.toNat rx.toNat).lanesReapply port |>.laneTurn)

end Sys2Proof.Machine
end

