-- ==== Sys2Proof/Machine/Sha.lean ====
section
/-! DEFINITION. HMAC-SHA-256 over byte lists, which R336 names, and the check of an ECDSA P-256 signature, which R491 names (PRESUMED: the spec gives
only the names, the functions are the public standards'; log entry 20). -/

namespace Sys2Proof.Machine

/-- The largest `r` below `2^n` more than `lo` with `r^e` at most `x`, one bit at a time from the top. -/
def rootBits (e x : Nat) : Nat → Nat → Nat
  | 0, lo => lo
  | n + 1, lo => rootBits e x n (if (lo + 2 ^ n) ^ e ≤ x then lo + 2 ^ n else lo)

/-- The first 32 bits after the point of the `e`-th root of `p`. -/
def rootFrac (e p : Nat) : Nat := rootBits e (p * 2 ^ (32 * e)) 37 0 % 2 ^ 32

/-- The primes below `n`, rising: what no smaller number from 2 on divides. -/
def primesBelow (n : Nat) : List Nat :=
  (List.range n).filter (fun k => 2 ≤ k && (List.range k).all (fun q => q < 2 || k % q != 0))

/-- The hash as two halves of four registers, the newest of each in front. -/
structure ShaHalves where
  up : List Nat
  dn : List Nat

/-- The halves before the first block: the square roots of the first eight primes. -/
def ShaHalves.start : ShaHalves :=
  { up := (primesBelow 8).map (rootFrac 2), dn := ([11, 13, 17, 19] : List Nat).map (rootFrac 2) }

/-- The exclusive or of a 32-bit word turned right by each of `ns`. -/
def turned (x : Nat) (ns : List Nat) : Nat := ns.foldl (fun r n => r ^^^ x * (2 ^ 32 + 1) / 2 ^ n % 2 ^ 32) 0

/-- A round under `kw`, the sum of its constant and its schedule word: each half drops its oldest register, and the word that the
lower half takes is part of the word that the upper half takes. -/
def ShaHalves.turn (h : ShaHalves) (kw : Nat) : ShaHalves :=
  let u := fun i => h.up.getD i 0
  let v := fun i => h.dn.getD i 0
  let mix := v 3 + kw + turned (v 0) [6, 11, 25] + (v 2 ^^^ v 0 &&& (v 1 ^^^ v 2))
  { up := (mix + turned (u 0) [2, 13, 22] + (u 0 &&& u 1 ||| u 2 &&& (u 0 ||| u 1))) % 2 ^ 32 :: h.up.take 3
    dn := (mix + u 3) % 2 ^ 32 :: h.dn.take 3 }

/-- The rounds that the constants `ks` are left for: `win` is the sixteen words from this round's word on. -/
def ShaHalves.rounds : List Nat → List Nat → ShaHalves → ShaHalves
  | [], _, h => h
  | k :: ks, win, h =>
    let w := fun i => win.getD i 0
    let made := w 0 + w 9 + (turned (w 1) [7, 18] ^^^ w 1 / 2 ^ 3) + (turned (w 14) [17, 19] ^^^ w 14 / 2 ^ 10)
    rounds ks (win.drop 1 ++ [made % 2 ^ 32]) (h.turn (k + w 0))

/-- What a block of sixteen words makes of the hash: its rounds, each under the cube root of the next prime, and their sum with what
was there. -/
def ShaHalves.block (h : ShaHalves) (ws : List Nat) : ShaHalves :=
  let r := h.rounds ((primesBelow 312).map (rootFrac 3)) ws
  let sum := fun x y => (x + y : Nat) % 2 ^ 32
  { up := List.zipWith sum h.up r.up, dn := List.zipWith sum h.dn r.dn }

/-- `n` bytes of a number, high byte first. -/
def beBytes (x n : Nat) : List Nat := (List.range n).map (fun i => natBits x (8 * (n - 1 - i)) 8)

/-- The number that bytes spell, high byte first. -/
def beNat (bs : List Nat) : Nat := bs.foldl (fun n b => 256 * n + b) 0

/-- SHA-256 of a list of bytes: 32 bytes. -/
def sha256 (m : List Nat) : List Nat :=
  let padded := m ++ 128 :: List.replicate ((119 - m.length % 64) % 64) 0 ++ beBytes (8 * m.length) 8
  let word := fun i => beNat ((padded.drop (4 * i)).take 4)
  let h := (List.range (padded.length / 64)).foldl (fun h b => h.block ((List.range' (16 * b) 16).map word)) ShaHalves.start
  (h.up ++ h.dn).flatMap (fun w => beBytes w 4)

/-- HMAC-SHA-256 under a key of at most 64 bytes. -/
def hmacSha256 (key m : List Nat) : List Nat :=
  let k := key ++ List.replicate (64 - key.length) 0
  sha256 (k.map (· ^^^ 0x5c) ++ sha256 (k.map (· ^^^ 0x36) ++ m))

/-! ### ECDSA over P-256 -/

/-- The field's prime and the order of the curve's group. -/
def p256 : Nat := 0xFFFFFFFF00000001000000000000000000000000FFFFFFFFFFFFFFFFFFFFFFFF
def p256Order : Nat := 0xFFFFFFFF00000000FFFFFFFFFFFFFFFFBCE6FAADA7179E84F3B9CAC2FC632551

/-- A point in Jacobian coordinates; the point at infinity has z = 0. -/
structure CurvePt where
  x : Nat
  y : Nat
  z : Nat

/-- The base point. -/
def p256Base : CurvePt := ⟨0x6B17D1F2E12C4247F8BCE6E563A440F277037D812DEB33A0F4A13945D898C296,
  0x4FE342E2FE1A7F9B8EE7EB4A7C0F9E162BCE33576B315ECECBB6406837BF51F5, 1⟩

/-- A difference in the field, of numbers below its prime. -/
def fieldSub (a b : Nat) : Nat := (a + p256 - b % p256) % p256

/-- Twice a point. -/
def CurvePt.twice (q : CurvePt) : CurvePt :=
  let yy := q.y * q.y % p256
  let zz := q.z * q.z % p256
  let m := 3 * fieldSub q.x zz * (q.x + zz) % p256
  let t := 4 * q.x * yy % p256
  let x := fieldSub (m * m % p256) (2 * t)
  ⟨x, fieldSub (m * fieldSub t x % p256) (8 * yy * yy), 2 * q.y * q.z % p256⟩

/-- The sum of two points. -/
def CurvePt.plus (a b : CurvePt) : CurvePt :=
  if a.z = 0 then b
  else if b.z = 0 then a
  else
    let za := a.z * a.z % p256
    let zb := b.z * b.z % p256
    let u := a.x * zb % p256
    let s := a.y * zb * b.z % p256
    let h := fieldSub (b.x * za % p256) u
    let r := fieldSub (b.y * za * a.z % p256) s
    if h = 0 then (if r = 0 then a.twice else ⟨1, 1, 0⟩)
    else
      let hh := h * h % p256
      let hhh := h * hh % p256
      let v := u * hh % p256
      let x := fieldSub (fieldSub (r * r % p256) hhh) (2 * v)
      ⟨x, fieldSub (r * fieldSub v x % p256) (s * hhh), h * a.z * b.z % p256⟩

/-- `u` times the base point and `v` times `q`, over the low `n` bits of the two. -/
def CurvePt.both (q : CurvePt) (u v : Nat) : Nat → CurvePt → CurvePt
  | 0, acc => acc
  | n + 1, acc =>
    let acc := acc.twice
    let acc := if natBit u n then acc.plus p256Base else acc
    q.both u v n (if natBit v n then acc.plus q else acc)

/-- `b` to the power of the low `n` bits of `e`, modulo the order. -/
def orderPow (b e : Nat) : Nat → Nat → Nat
  | 0, acc => acc
  | n + 1, acc => orderPow b e n (acc * acc % p256Order * (if natBit e n then b else 1) % p256Order)

/-- Is (r, s) a signature of the digest under the public key? -/
def ecdsaHolds (key : Nat × Nat) (digest : List Nat) (r s : Nat) : Bool :=
  let w := orderPow s (p256Order - 2) 256 1
  let q := CurvePt.both ⟨key.1, key.2, 1⟩ (beNat digest * w % p256Order) (r * w % p256Order) 256 ⟨1, 1, 0⟩
  let zz := q.z * q.z % p256
  decide (0 < r ∧ r < p256Order ∧ 0 < s ∧ s < p256Order ∧ q.z ≠ 0) &&
    (q.x == r * zz % p256 || (decide (r + p256Order < p256) && q.x == (r + p256Order) * zz % p256))

end Sys2Proof.Machine
end

