-- ==== Sys2Proof/Machine/Update.lean ====
section
/-! DEFINITION. Start-up from the boot record, the parapet section, and firmware updates (R258, R491 to R499). -/

namespace Sys2Proof.Machine

def Dev.modUpd (d : Dev) (f : Upd → Upd) : Dev := { d with upd := f d.upd }

/-! ### The boot record (R494) -/

/-- A boot record: its sequence number, the active slot, whether it is in trial, whether the other slot holds the previous confirmed
image, the trial starts, and the version of the active image. -/
structure BootRec where
  seq : Nat
  active : Nat
  trial : Bool
  fallback : Bool
  tries : Nat
  ver : Nat
deriving DecidableEq, Repr

/-- The words of a record. -/
def BootRec.words (r : BootRec) : List Word :=
  let ws : List Word := [BitVec.ofNat 48 (0xB4C7 * 2 ^ 32 + r.seq % 2 ^ 24),
    BitVec.ofNat 48 (r.active % 2 * 2 ^ 47 + r.trial.toNat * 2 ^ 46 + r.fallback.toNat * 2 ^ 45 + r.tries % 8 * 2 ^ 42),
    BitVec.ofNat 48 r.ver]
  ws ++ [BitVec.ofNat 48 (crcWords ws)]

/-- The record that a copy holds; none where its MAGIC or CHECK fails. -/
def bootCopy (ws : List Word) : Option BootRec :=
  let w (i : Nat) : Nat := (ws.getD i 0).toNat
  if natBits (w 0) 32 16 = 0xB4C7 ∧ natBits (w 3) 0 32 = crcWords (ws.take 3) then
    some ⟨natBits (w 0) 0 24, natBits (w 1) 47 1, natBit (w 1) 46, natBit (w 1) 45, natBits (w 1) 42 3, w 2⟩
  else none

/-- The valid copy of higher SEQ of two, with its place: 0 BR0, 1 BR1. -/
def pickCopy (br : List (List Word)) : Option (Nat × BootRec) :=
  match bootCopy (br.getD 0 []), bootCopy (br.getD 1 []) with
  | some a, some b => if (b.seq + 2 ^ 24 - a.seq) % 2 ^ 24 < 2 ^ 23 then some (1, b) else some (0, a)
  | some a, none => some (0, a)
  | none, some b => some (1, b)
  | none, none => none

def Dev.bootPick (d : Dev) : Option (Nat × BootRec) := pickCopy d.upd.br

/-- The place that the first phase of a write leaves as it is: that of the higher copy. -/
def highCopy (br : List (List Word)) : Nat := ((pickCopy br).map (·.1)).getD 1

/-- The record in force. With none valid, every field is 0 (log entry 17). -/
def Dev.bootRec (d : Dev) : BootRec := (d.bootPick.map (·.2)).getD ⟨0, 0, false, false, 0, 0⟩

/-- A record written in two phases (R494). They take a free time, in which the loss of power may find the flash at any point (log entry 17). -/
def Dev.bootWrite (d : Dev) (r : BootRec) : Dev :=
  let at' := highCopy d.upd.br
  let s := d.bootRec.seq
  let (k, d) := d.takeNat
  d.modUpd (fun u => { u with
    br := (u.br.set (1 - at') { r with seq := (s + 1) % 2 ^ 24 }.words).set at' { r with seq := (s + 2) % 2 ^ 24 }.words
    writing := some (u.br, d.btu.clocks + k) })

/-- A copy whose sector has been erased and whose first `k` words have been written. -/
def tornCopy (k : Nat) (ws : List Word) : List Word := ws.take k ++ List.replicate (4 - k) (BitVec.allOnes 48)

/-- The copies `k` steps into the write that leads from `old` to `new`: 0 to 3 words of the first phase, that phase done, 0 to 3 words of the
second, all done. -/
def brokenOff (old new : List (List Word)) (k : Nat) : List (List Word) :=
  let hi := highCopy old
  let one := new.getD (1 - hi) []
  if k < 4 then old.set (1 - hi) (tornCopy k one)
  else if k = 4 then old.set (1 - hi) one
  else if k < 9 then (old.set (1 - hi) one).set hi (tornCopy (k - 5) (new.getD hi []))
  else new

/-- Power is lost: a write of the boot record that is under way stops at a free point (R499, R500), and an entry of the retirement list that is
being written may be lost (R486). -/
def Dev.flashStops (d : Dev) : Dev :=
  let (k, d) := d.takeNat
  let (gone, d) := d.takeBool
  let d := d.modUpd (fun u => match u.writing with
    | some (old, t) => { u with br := if d.btu.clocks < t then brokenOff old u.br (k % 10) else u.br, writing := none }
    | none => u)
  let cut := gone && d.flt.listing.elim false (fun t => decide (d.btu.clocks < t))
  { d with flt := { d.flt with retired := if cut then d.flt.retired.dropLast else d.flt.retired, listing := none } }

/-! ### Image slots (R491) -/

def Dev.slot (d : Dev) (i : Nat) : Slot := d.upd.slots.getD i ⟨3, [], 0, 0⟩
def Dev.modSlot (d : Dev) (i : Nat) (f : Slot → Slot) : Dev :=
  d.modUpd (fun u => { u with slots := u.slots.set i (f (d.slot i)) })

/-- The inactive slot. -/
def Dev.inactive (d : Dev) : Nat := 1 - d.bootRec.active

/-- Word `i` of the image in a slot: ones where nothing has been written. -/
def Slot.read (s : Slot) (i : Nat) : Nat := ((assocGet s.words i).getD (BitVec.allOnes 48)).toNat

/-- Does the image in a slot verify (R491): do its last eleven words sign the SHA-256 of those before? -/
def Slot.verifies (s : Slot) (key : Nat × Nat) : Bool :=
  let n := s.len - 11
  let sig := (List.range 11).flatMap (fun i => beBytes (s.read (n + i)) 6)
  decide (12 ≤ s.len) &&
    ecdsaHolds key (sha256 ((List.range n).flatMap (fun i => beBytes (s.read i) 6))) (beNat (sig.take 32)) (beNat ((sig.drop 32).take 32))

def Dev.imageGood (d : Dev) (i : Nat) : Bool := (d.slot i).verifies d.upd.key

/-! ### UPD_STATUS (R492) -/

def Dev.updState (d : Dev) : Nat := d.fld rUPD_STATUS fUPD_STATUS_STATE

/-- The state changes: journalled as kind 0x30 (R490). -/
def Dev.setUpdState (d : Dev) (v : Nat) : Dev :=
  if d.updState = v then d
  else (d.setFld rUPD_STATUS fUPD_STATUS_STATE v).journalDev 0x30 v (BitVec.ofNat 48 d.bootRec.ver)

/-- A 48-bit value put into a pair. -/
def Dev.wrPair (d : Dev) (lo hi v : Nat) : Dev := (d.wr lo (v % 2 ^ 24)).wr hi (v / 2 ^ 24 % 2 ^ 24)

/-- ACTIVE, FALLBACK, TRIES and the versions taken from the boot record. -/
def Dev.updShow (d : Dev) : Dev :=
  let r := d.bootRec
  let d := (d.setFld rUPD_STATUS fUPD_STATUS_ACTIVE r.active).setFld rUPD_STATUS fUPD_STATUS_FALLBACK r.fallback.toNat
  let d := d.setFld rUPD_STATUS fUPD_STATUS_TRIES r.tries
  let d := d.wrPair rUPD_VER_ACT_LO rUPD_VER_ACT_HI r.ver
  d.wrPair rUPD_VER_INACT_LO rUPD_VER_INACT_HI (d.slot d.inactive).ver

/-- UPD_HEALTHY returns to 0 and CONFIRM_RCVD with it: a start (R497). -/
def Dev.updBegin (d : Dev) : Dev :=
  ((d.wr rUPD_HEALTHY 0).setFld rUPD_STATUS fUPD_STATUS_CONFIRM_RCVD 0).modUpd (fun u => { u with healthy := false })

/-! ### The start choice (R496) -/

/-- The record that names the other image as confirmed. -/
def Dev.otherRec (d : Dev) : BootRec :=
  let r := d.bootRec
  ⟨r.seq, 1 - r.active, false, false, 0, (d.slot (1 - r.active)).ver⟩

/-- Does the flash journal say that the last thing the update area saw is a revert (R490)? Power was then lost before the revert ended, and the
start ends it (R499; log entry 17). -/
def Dev.revertOpen (d : Dev) : Bool :=
  let kind (r : List Word) : Nat := natBits (r.getD 1 0).toNat 40 8
  ((d.flt.flash.map kind).find? (fun k => k == 0x20 || decide (0x30 ≤ k ∧ k ≤ 0x33))) == some 0x31

/-- The update registers of a start, from the record and the inactive slot's status word (R496, R499). -/
def Dev.updStart (d : Dev) (reverted : Bool) : Dev :=
  let r := d.bootRec
  let st := (d.slot d.inactive).status
  let v := if r.trial then 6 else if reverted then 0 else if st = 1 then 2 else if st = 0 ∧ !r.fallback then 4 else 0
  let inc := !r.trial && !reverted && st == 3
  let d := d.wr rUPD_STATUS (v * 2 ^ 21 + reverted.toNat * 4 + inc.toNat)
  ((d.wr rUPD_RECEIVED 0).updBegin).updShow.modUpd (fun u => { u with trial := r.trial })

/-- The boot ROM chooses the image to run, if there is one; `ok` says which slots hold an image that verifies. -/
def Dev.startChoice (d : Dev) (ok : Nat → Bool) : Bool × Dev :=
  if d.bootPick.isNone then (false, d)
  else
    let r := d.bootRec
    let back := r.trial && r.tries == 3
    let open' := !r.trial && d.revertOpen
    let d := if back then
        ((d.bootWrite d.otherRec).journalDev 0x31 0 (BitVec.ofNat 48 d.otherRec.ver))
      else if r.trial then d.bootWrite { r with tries := r.tries + 1 }
      else d
    let r := d.bootRec
    if !ok r.active ∧ !(r.fallback && ok (1 - r.active)) then (false, d)
    else
      let d := if ok r.active then d else (d.bootWrite d.otherRec).journalDev 0x32 0 (BitVec.ofNat 48 r.ver)
      let d := d.updStart (back || open')
      (true, d.journalDev 0x20 d.updState (BitVec.ofNat 48 d.bootRec.ver))

/-- The flash journal put before every other record, to be loaded into the ring (R488). -/
def Dev.flashLoad (d : Dev) : Dev := { d with flt := { d.flt with held := d.flt.flash.reverse ++ d.flt.held } }

/-- The boot ROM reads the record at a start of the device or a restart of T0 (R496), and releases T0 (R300). At a start T0 loads the flash journal
first (R488), and what the retirement list names is retired again before any output lights (R486). -/
def Dev.bootRead (d : Dev) (ok : Nat → Bool) : Dev :=
  let st := d.pwr.stage
  if st ≠ 2 ∧ st ≠ 5 then d
  else
    match (if st = 2 then d.flashLoad else d).startChoice ok with
    | (false, e) => { e with flt := { e.flt with held := d.flt.held } }.modPwr (fun x => { x with stage := 4 })
    | (true, d) =>
      let d := (d.modPwr (fun x => { x with stage := 3 })).stewardStart 0
      let d := if d.flag rMEM_DDR_STATUS fMEM_DDR_STATUS_READY then d.journalDrain else d
      if st = 2 then d.reapplyAll else d

/-! ### The parapet section (R258, R478) -/

/-- The contents of a parapet section that has passed its check: its store words, each telltale in its DEFAULT state, PRP_CTRL and
PRP_ATTN_MASK (R258). -/
def Dev.prpFill (d : Dev) (ctrl mask : Nat) (store : List (BitVec 19 × Word)) : Dev :=
  let d := { d with prp := Dev.reset.prp }
  let d : Dev := store.foldl (fun d p => d.prpStore p.1.toNat p.2) d
  let d : Dev := (List.range 256).foldl (fun (d : Dev) t =>
    let f := natBits (d.ttWord t 0) 40 2
    if f = 1 ∨ f = 2 then d.setTt t f 0 else d) d
  let d := (d.wr rPRP_CTRL (ctrl &&& 0xFFFF80)).wr rPRP_ATTN_MASK (mask % 64)
  let d := (d.setFld rPRP_STATUS fPRP_STATUS_LOADED 1).setFld rPRP_STATUS fPRP_STATUS_FRESH 1
  let d : Dev := d.prpAttn
  let d : Dev := if d.fld rPMU_BOOT_MS fPMU_BOOT_MS_PRP = 0 then
      d.setFld rPMU_BOOT_MS fPMU_BOOT_MS_PRP (min ((d.btu.clocks - d.pwr.pg) / 1000000) 4095) else d
  d

/-- The parapet section read and checked: its store words, PRP_CTRL, PRP_ATTN_MASK, and OUTn_CTRL of each output it names as early-lit.
A section that fails its check loads nothing. After a CORE reset the store that is loaded stays, and only the outputs light again (R476); once the base
has been applied a load lights none. -/
def Dev.prpLoad (d : Dev) (ok : Bool) (ctrl mask : Nat) (store : List (BitVec 19 × Word)) (early : List (Fin 8 × Reg)) : Dev :=
  let here := d.flag rPRP_STATUS fPRP_STATUS_LOADED
  if !ok ∧ !here then d.prpRaise fPRP_STATUS_LOAD_BAD
  else
    let d := if here then d else d.prpFill ctrl mask store
    early.foldl (fun (d : Dev) p =>
      if d.cfg.applied ∨ (d.outp p.1).st ≠ 0 then d
      else (d.modOutp p.1 (fun o => { o with early := true })).outCtrlWrite p.1 (p.2.toNat ||| 0x800000)) d

/-! ### Trial, confirmation and revert (R497, R498) -/

/-- Confirmation completes, in a start in trial that is not being reverted. -/
def Dev.confirm (d : Dev) : Dev :=
  if d.updState = 6 ∧ d.upd.trial ∧ d.upd.hand.isNone ∧ d.flag rUPD_STATUS fUPD_STATUS_CONFIRM_RCVD ∧ d.fld rUPD_CTRL fUPD_CTRL_TRIAL_FRAMES ≤ d.rd rUPD_HEALTHY then
    ((d.bootWrite { d.bootRec with trial := false, fallback := true, tries := 0 }).setUpdState 0).updShow
  else d

/-- A live revert: the previous image has verified, the record names it, and the handover to it waits. -/
def Dev.revert (d : Dev) : Dev :=
  ((d.bootWrite d.otherRec).journalDev 0x31 0 (BitVec.ofNat 48 d.otherRec.ver)).modUpd (fun u => { u with hand := some 1 })

/-- TRIAL_LIMIT_S has passed since a start in trial; `ok` says whether the previous image verifies. -/
def Dev.trialLimit (d : Dev) (ok : Bool) : Dev :=
  if d.updState ≠ 6 ∨ !d.upd.trial ∨ d.fld rUPD_CTRL fUPD_CTRL_TRIAL_LIMIT_S = 0 ∨ d.upd.hand.isSome then d
  else if ok then d.revert
  else d.journalDev 0x30 0x605 (BitVec.ofNat 48 d.bootRec.ver)

/-- A healthy frame of a start in trial counted, and the next one begun (R497). -/
def Dev.healthyFrame (d : Dev) : Dev :=
  let d := if d.updState = 6 ∧ d.upd.trial ∧ d.upd.healthy then d.wr rUPD_HEALTHY (min (d.rd rUPD_HEALTHY + 1) (2 ^ 24 - 1)) else d
  d.modUpd (fun u => { u with healthy := d.pwr.stage == 3 })

/-- Verification ends. -/
def Dev.verifyDone (d : Dev) (ok : Bool) : Dev :=
  if d.updState ≠ 3 then d
  else if ok then ((d.modSlot d.inactive (fun s => { s with status := 0 })).setUpdState 4).complete 6 0 0 0 []
  else (((d.setUpdState 0).raise rUPD_STATUS fUPD_STATUS_INVALID)).complete 6 0 0x602 0 []

/-! ### Commands -/

/-- Power-on reset (R474). -/
def execPor (s : State) := s.upd (·.flashStops.fullReset 0 false)

/-- XRESET low (R474): before power-good it is one reset with the one that runs, whose cause stays (R561). -/
def execXresetAssert (s : State) :=
  s.upd (fun d => d.flashStops.fullReset (if d.pwr.stage = 0 then d.fld rPMU_RESET_CAUSE fPMU_RESET_CAUSE_CAUSE else 1) false)

/-- `okA` and `okB`: the slots read back as they are written, without an error of the flash (log entry 17). -/
def execBootRecordRead (okA okB : Bool) (s : State) :=
  s.upd (fun d => d.bootRead (fun i => (if i = 0 then okA else okB) && d.imageGood i))

def execParapetLoad (ok : Bool) (ctrl mask : Reg) (store : List (BitVec 19 × Word)) (early : List (Fin 8 × Reg)) (s : State) :=
  s.upd (·.prpLoad ok ctrl.toNat mask.toNat store early)

def execUpdVerifyDone (ok : Bool) (s : State) := s.upd (fun d => d.verifyDone (ok && d.imageGood d.inactive))

def execTrialConfirmed (s : State) := s.upd Dev.confirm

def execTrialLimitExpiry (ok : Bool) (s : State) := s.upd (fun d => d.trialLimit (ok && d.imageGood d.inactive))

end Sys2Proof.Machine
end

