-- ==== Sys2Proof/Machine/RegBus.lean ====
section
/-! DEFINITION. The register bus and the word address space (R9 to R15, R562 to R568): what a read of a register gives, what a write of
each register does, and what each master reaches (R305, R316, R339, R398). -/

namespace Sys2Proof.Machine

/-! ### Pairs (R10, R569) -/

/-- The _LO registers of the pairs that hold one value: first block, blocks, offset, indices. -/
def pairRows : List (Nat × Nat × Nat × List (Nat × Nat)) := [
  (0x0, 1, 0x0006, []), (0x0, 1, 0x000E, []), (0x0, 1, 0x0012, [(3, 2)]), (0x1, 1, 0x000A, []),
  (0x50, 8, 0x0406, [(16, 32), (6, 2)]), (0x50, 8, 0x8000, [(64, 512), (256, 2)]), (0x50, 8, 0x0A01, []),
  (0x50, 8, 0x0A20, []), (0x50, 8, 0x0A22, []), (0x50, 8, 0x2005, [(64, 16), (4, 2)]), (0x50, 8, 0x200D, [(64, 16)]),
  (0x5, 1, 0x0009, []), (0x9, 1, 0x0003, []), (0x3, 1, 0x0043, []), (0xD, 1, 0x0101, [(32, 8)]), (0xD, 1, 0x0104, [(32, 8)]),
  (0xD, 1, 0x0106, [(32, 8)]), (0xE, 1, 0x0001, []), (0xE, 1, 0x0004, []), (0xE, 1, 0x000D, []), (0xE, 1, 0x0024, []),
  (0xE, 1, 0x0026, []), (0xE, 1, 0x0029, []), (0xE, 1, 0x002B, []), (0xA, 1, 0x0004, []), (0xA, 1, 0x0006, []),
  (0x16, 1, 0x0003, [(16, 16)]), (0x16, 1, 0x0005, [(16, 16)]), (0x16, 1, 0x0007, [(16, 16)])]

/-- Is `a` the _LO register of such a pair? Its _HI register stands at the next word. -/
def isPairLo (a : Nat) : Bool :=
  let b := blockOf a
  let o := a % 0x10000
  isRegAddr a && pairRows.any (fun p =>
    decide (p.1 ≤ b ∧ b < p.1 + p.2.1 ∧ p.2.2.1 ≤ o) && (dimsHit p.2.2.2 (o - p.2.2.1)).isSome)

def isPairHi (a : Nat) : Bool := decide (0 < a) && isPairLo (a - 1)

/-! ### Blocks (R563, R565, R566) -/

/-- Does block number `b` exist? The peripheral blocks of YT8640-PRS are 0x18 to 0x29. -/
def isPrsBlock (b : Nat) : Bool := decide (0x18 ≤ b ∧ b ≤ 0x29)
def blockKnown (b : Nat) : Bool := isPrsBlock b || !(rowsOfBlock b).isEmpty

/-- Does a register address reach a unit? A block whose pier is held OFF does not answer. -/
def Dev.regServes (d : Dev) (a : Nat) : Bool := isRegAddr a && blockKnown (blockOf a) && !d.pierHeldOff (d.pierOfReg a)

/-- Is `a` a register that T0 presents while T0 restarts (R566)? -/
def Dev.unpresented (d : Dev) (a : Nat) : Bool :=
  d.pwr.stage == 5 && decide (0x09 ≤ blockOf a ∧ blockOf a ≤ 0x0C) && a != rFLT_LC_RETIRE

/-! ### What a register reads as -/

/-- Which of `n` registers stands at `a`. -/
def idxOf (f : Nat → Nat) (n a : Nat) : Option Nat := (List.range n).find? (fun i => f i == a)

/-- The earliest entry of the calendar; 0 when it is empty. -/
def Dev.trsNext (d : Dev) : Nat :=
  (d.trs.entries.foldl (fun m e => match m with
    | none => some e.bt
    | some b => some (if btGe e.bt b then b else e.bt)) none).getD 0

/-- CAMn_SERVES: the layer that the live state gives the port (R197). -/
def Dev.camServesReg (d : Dev) (c : Nat) : Nat := (d.inputLive.camServed c).elim 0 (fun p => 0x100 + p.1 * 32 + p.2)

/-- The sessions' registers: IDLE is the whole seconds left. -/
def Dev.sesReg (d : Dev) (s : Nat) : Nat :=
  let v := d.rd (rSEC_SES s)
  let at' := ((d.talk.ses.getD s ⟨none, [], 0⟩).at')
  let lim := d.fld rSEC_CTRL fSEC_CTRL_IDLE_S
  if natBits v 22 2 = 2 then natSetBits v 0 12 (lim - (d.btu.clocks - at') / 1000000000) else v

/-- Does the recovery of unit `idx` of class `cls` run, or wait for its span's slot (R32)? -/
def Dev.recovering (d : Dev) (cls idx : Nat) : Bool :=
  let x := d.span (classSpan cls idx)
  x.queue.contains (cls, idx) || x.waiting.contains (cls, idx) || x.busy.elim false (fun b => b.getD 0 0 == cls && b.getD 1 0 == idx)

/-- Does a lane swap of port `p` run, or wait for span 3's slot (R446)? -/
def Dev.laneRuns (d : Dev) (p : Nat) : Bool :=
  (d.port p).swap.isSome || (List.range 18).any (fun i => d.recovering 0x11 (18 * p + i))

/-- The SC fields of register `a` that read 1 while what they started runs (R13), beside those that the engines keep in the register. -/
def Dev.scRuns (d : Dev) (a : Nat) : Nat :=
  let b := blockOf a
  if 0x40 ≤ b ∧ b ≤ 0x48 ∧ a = rPIPE_CTRL (b - 0x40) then (d.recovering 5 (b - 0x40)).toNat
  else if a = rFLT_LC_RETIRE then (d.recovering 7 (d.fld a fFLT_LC_RETIRE_CORE)).toNat * 0x800000
  else if 0x10 ≤ b ∧ b ≤ 0x12 ∧ a = rWRN_LANE_CTRL (b - 0x10) then (d.laneRuns (b - 0x10)).toNat * 0x800000
  else if a = rPMU_RESET then (d.pwr.resets.any (fun x => decide (d.btu.clocks < x.2))).toNat * 0x400000
  else 0

/-- The registers whose content follows other state. -/
def Dev.regVal (d : Dev) (a : Nat) : Nat :=
  let b := blockOf a
  let v := d.rd a
  if b = 0 then
    (if a = rBTU_BT_LO then d.bt % 2 ^ 24 else if a = rBTU_BT_HI then d.bt / 2 ^ 24 else if a = rBTU_FRAME_OFS then d.frameOfs
     else match idxOf (fun i => rBTU_GBT_LO (i + 1)) 3 a, idxOf (fun i => rBTU_GBT_HI (i + 1)) 3 a with
      | some i, _ => d.gbt (i + 1) % 2 ^ 24
      | _, some i => d.gbt (i + 1) / 2 ^ 24
      | _, _ => v)
  else if b = 1 then
    (if a = rTRS_COUNT then d.trs.entries.length else if a = rTRS_NEXT_LO then d.trsNext % 2 ^ 24
     else if a = rTRS_NEXT_HI then d.trsNext / 2 ^ 24
     else if a = rTRS_TNE then (if 40 ≤ d.rd rTRS_TNE_SEL then 0xFFFFFF else d.trsTne (d.rd rTRS_TNE_SEL)) else v)
  else if 0x30 ≤ b ∧ b ≤ 0x37 then
    let c := b - 0x30
    (if a = rCAM_SERVES c then d.camServesReg c
     else if a = rCAM_STATUS c then natSetBits v 13 1 ((d.inputLive.camServed c).elim false (fun p => d.inputLive.camReady p.1 p.2)).toNat else v)
  else if b = 2 then
    let bits (k : Nat) : Nat := (List.range 24).foldl (fun x i =>
      let s := 24 * k + i
      if 0 < s ∧ s ≤ 510 ∧ d.flag (rIRQC_SRC s) fIRQC_SRC_PEND then x + 2 ^ i else x) 0
    match idxOf rIRQC_SETP 22 a, idxOf rIRQC_CLRP 22 a with
    | some k, _ => bits k
    | _, some k => bits k
    | _, _ => v
  else if b = 6 then
    (if a = rPMU_RESET then v ||| d.scRuns a
     else if a = rPMU_STATUS then natSetBits v 22 2 d.dstate
     else match idxOf rPMU_PIER_STATUS 40 a with
      | some p => natSetBits v 19 1 (d.onCond p).toNat
      | none => v)
  else if b = 7 then
    (match idxOf rCKG_BR 32 a, idxOf rCKG_PLL_STATUS 13 a with
     | some k, _ => natSetBits v 3 1 (d.gatedNow k).toNat
     | _, some q => if 4 ≤ q ∧ d.flag (rPIPE_STATUS (q - 4)) fPIPE_STATUS_PLL_LOCK then v ||| 1 else v
     | _, _ => v)
  else if b = 9 then
    (if rSEC_T_CTRL 2 ≤ a ∧ a ≤ rSEC_T_VIOL_CNT 2 ∧ d.paired then 0
     else match idxOf rSEC_SES 8 a with | some s => d.sesReg s | none => v)
  else if b = 5 ∧ a = rPRP_DATA_HI then (d.prpWord (d.rd rPRP_ADDR)).toNat / 2 ^ 24
  else if b = 0x16 then
    (match idxOf rTMR_STATUS 16 a, idxOf rTMR_CAPQ_LO 16 a, idxOf rTMR_CAPQ_HI 16 a with
     | some n, _, _ => natSetBits v 4 1 (d.tmrFrozen n).toNat
     | _, some n, _ => (d.capq n).headD 0 % 2 ^ 24
     | _, _, some n => (d.capq n).headD 0 / 2 ^ 24
     | _, _, _ => v)
  else v ||| d.scRuns a

/-- A read of a register's content with its side effects: the pair latch (R10), a claim (R312), PRP_DATA_LO and CAPQ_LO (R518). The
peripheral blocks' registers are defined outside the spec: a read of one gives a free value (R565). -/
def Dev.regRead (d : Dev) (a : Nat) : Nat × Dev :=
  if isPrsBlock (blockOf a) then
    let (v, d) := d.takeNat
    (v % 2 ^ 24, d)
  else
    match idxOf rIRQC_T_CLAIM 3 a with
    | some t => (d.claimValue t, d.claim t)
    | none =>
      if a = rPRP_DATA_LO then
        let d := d.prpDataLo
        (d.rd a, d)
      else if rMEM_COPY_POS 0 ≤ a ∧ a ≤ rMEM_COPY_POS 3 then
        let d := d.copyAdvance (a - rMEM_COPY_POS 0)
        (d.rd a, d)
      else if isPairLo a then
        let v := d.regVal a
        let d := { d with latch := spInsert d.latch (a + 1) (BitVec.ofNat 24 (d.regVal (a + 1))) }
        match idxOf rTMR_CAPQ_LO 16 a with
        | some n => (v, (d.capPop n).2)
        | none => (v, d)
      else if isPairHi a then
        match assocGet d.latch a with
        | some h => (h.toNat, { d with latch := spErase d.latch a })
        | none => (d.regVal a, d)
      else (d.regVal a, d)

/-! ### What a write of a register does -/

/-- A write under the types of R13 and R15. -/
def Dev.typedWrite (d : Dev) (a v : Nat) : Dev :=
  match rowOf a with
  | none => d
  | some (r, _) =>
    let old := d.rd a
    let plain := r.rw ||| r.ct ||| r.sh
    let x := (old &&& (0xFFFFFF - plain)) ||| (v &&& plain)
    let x := x &&& (0xFFFFFF - (v &&& r.w1c))
    d.wr a (x ||| (v &&& r.w1s))

/-- A write of SEC_Tt_CTRL (R299, R304). -/
def Dev.secCtrlWrite (d : Dev) (t v : Nat) : Dev :=
  if d.secMuted t then d
  else
    let a := rSEC_T_CTRL t
    let d := d.wr a (natSetBits (natSetBits (d.rd a) 22 1 (natBits v 22 1)) 18 2 (natBits v 18 2))
    let d := if t = 1 ∧ natBit v 21 ≠ d.paired then d.secPair (natBit v 21) else d
    let d := d.when (natBit v 20) (·.secLoad t)
    if natBit v 23 then d.secRun t else d.secStop t

/-- A write of PMU_CTRL.TARGET and what T0 does for it (R466): it asks each lit output for self-refresh or SCAN_STORE and records what it
changed, or takes back what still holds its value. -/
def Dev.targetWrite (d : Dev) (v : Nat) : Dev :=
  let d := d.wr rPMU_CTRL (v % 4)
  if v % 4 ≠ 0 then
    d.litOuts.foldl (fun d n =>
      if d.fld (rOUT_SR_CTRL n) fOUT_SR_CTRL_MODE ≠ 0 then
        (if d.flag (rOUT_SR_CTRL n) fOUT_SR_CTRL_REQ then d
         else (d.srCtrlWrite n (d.rd (rOUT_SR_CTRL n) ||| 0x800000)).modPwr (fun x => { x with quieted := x.quieted ++ [(rOUT_SR_CTRL n, 0)] }))
      else if d.flag (rOUT_COMP_CTRL n) fOUT_COMP_CTRL_SCAN_STORE then d
      else (d.compCtrlWrite n (d.rd (rOUT_COMP_CTRL n) ||| 0x800000)).modPwr
        (fun x => { x with quieted := x.quieted ++ [(rOUT_COMP_CTRL n, 1)] })) d
  else
    let d := d.pwr.quieted.foldl (fun d q =>
      let n := blockOf q.1 - 0x50
      if !natBit (d.rd q.1) 23 then d
      else if q.2 = 0 then d.srCtrlWrite n (d.rd q.1 &&& 0x7FFFFF)
      else d.compCtrlWrite n (d.rd q.1 &&& 0x7FFFFF)) d
    d.modPwr (fun x => { x with quieted := [] })

/-- Writes of the OUTn registers that do more than land. -/
def Dev.outHook (d : Dev) (n a v : Nat) : Option Dev :=
  if a = rOUT_CTRL n then some (d.outCtrlWrite n v)
  else if a = rOUT_EDP n then some (d.outPortWrite n a 0x3F v)
  else if a = rOUT_DSI n then some (d.outPortWrite n a 0xFFFF83 v)
  else if a = rOUT_LVDS n then some (d.outPortWrite n a 0x7 v)
  else if a = rOUT_DSC n then some (d.outPortWrite n a 0xFFFFFF v)
  else if a = rOUT_COMP_CTRL n then some (d.compCtrlWrite n v)
  else if a = rOUT_SR_CTRL n then some (d.srCtrlWrite n v)
  else if a = rOUT_KEY_CTRL n then some (d.keyCtrlWrite n v)
  else if a = rOUT_STAGED0 n then some (d.stagedWrite n 0 v)
  else if a = rOUT_STAGED1 n then some (d.stagedWrite n 1 v)
  else if a = rOUT_SPR_SAT_BASE n then some (d.satBaseWrite n v)
  else if a = rOUT_LUT_BASE n then some (d.lutBaseWrite n v)
  else none

/-- Writes of the audio registers that do more than land. -/
def Dev.audHook (d : Dev) (a v : Nat) : Option Dev :=
  if a = rAUD_CTRL then some (d.audCtrlWrite v)
  else if let some p := idxOf rAUD_TDM_CTRL 4 a then
    some ((d.typedWrite a v).when (natBit v 23 != natBit (d.rd a) 23 && d.xbarUses (0x28 + 3 * p) 3) (·.wake 38))
  else
    match idxOf rAUD_VSTART 6 a, idxOf rAUD_VSTOP 6 a, idxOf gainReg 147 a with
    | some k, _, _ => some (d.voiceMask true k v)
    | _, some k, _ => some (d.voiceMask false k v)
    | _, _, some g => some (d.gainWrite g v)
    | _, _, _ =>
      match idxOf (fun i => rAUD_EQ (i / 50) (i / 5 % 10) (i % 5)) 800 a with
      | some i => some (d.eqWrite (i / 50) (i / 5 % 10) (i % 5) v)
      | none =>
        match idxOf rAUD_HPH_CTRL 2 a, idxOf rAUD_HPH_STATUS 2 a with
        | some j, _ => some ((d.typedWrite a v).ampSettle j)
        | _, some j => some ((d.typedWrite a v).ampSettle j)
        | _, _ => none

/-- Writes of the Wearan registers that do more than land. -/
def Dev.wrnHook (d : Dev) (p a v : Nat) : Option Dev :=
  if a = rWRN_CTRL p then some (d.wrnCtrlWrite p v)
  else if a = rWRN_SUCC p then some (d.succWrite v)
  else if a = rWRN_LANE_CTRL p then some (d.laneCtrlWrite p v)
  else (idxOf (rWRN_TX_CTRL p) 32 a).map (fun s => d.streamWrite p s v)

/-- Writes of the pin and timer registers that do more than land. -/
def Dev.pinHook (d : Dev) (a v : Nat) : Option Dev :=
  match blockOf a with
  | 0x14 =>
    match idxOf rGPIO_BANK_CTRL 6 a, idxOf rGPIO_IRQ_STAT 6 a, idxOf rGPIO_PAD 96 a with
    | some k, _, _ => some (d.bankCtrlWrite k v)
    | _, some k, _ => some ((d.typedWrite a v).pinLevels k)
    | _, _, some p => some ((d.typedWrite a v).pinLevels (p / 16))
    | _, _, _ => none
  | 0x15 =>
    match idxOf rXBAR_PIN 96 a, idxOf rXBAR_IN 128 a with
    | some p, _ => some (d.xbarPinWrite p v)
    | _, some i => some (d.xbarInWrite i v)
    | _, _ => none
  | 0x16 =>
    match idxOf rTMR_CTRL 16 a, idxOf rTMR_PWM_CTRL 16 a with
    | some n, _ => some (d.tmrCtrlWrite n v)
    | _, some c =>
      let rise := natBit v 23 && !d.flag a fTMR_PWM_CTRL_EN
      some ((d.typedWrite a v).when rise (·.pwmStart c))
    | _, _ => none
  | _ => none

/-- Writes of the memory and power registers that do more than land. -/
def Dev.sysHook (d : Dev) (a v : Nat) : Option Dev :=
  if a = rBTU_RATE then some (d.btuRateWrite v)
  else if a = rBTU_OUT_MAP then some (d.btuOutMapWrite v)
  else if a = rBTU_CTRL then some ((d.typedWrite a v).when (natBit v 2) Dev.btuForceNext)
  else if a = rTRS_CTRL then
    let d := d.when (natBit v 0 && !d.flag a fTRS_CTRL_FIRE_EN) Dev.trsLeave
    some ((d.typedWrite a v).when (natBit v 1) (fun d => d.wr rTRS_HIGH d.trs.entries.length))
  else if rTRS_EV_LATCH 0 ≤ a ∧ a ≤ rTRS_EV_LATCH 10 then
    let k := a - rTRS_EV_LATCH 0
    some (((List.range 24).filter (natBit v)).foldl (fun d i => d.evRaise (24 * k + i)) d)
  else if a = rMEM_SPARE_CTRL then
    let d := d.setSpareCtrl (natBits v 12 4) (v % 256)
    let d := d.when (natBit v 22) (·.spareAbort (natBits v 12 4))
    some (d.when (natBit v 23) (fun d => (d.spareGo (natBits v 12 4) (v % 256)).fltShow))
  else if rHOST_RING_BELL 0 ≤ a ∧ a ≤ rHOST_RING_BELL 7 then
    some (if natBit v 0 then { d with talk := { d.talk with bell := true } } else d)
  else if a = rMEM_DDR_CFG then some (d.ddrCfgWrite v)
  else if a = rPMU_CTRL then some (d.targetWrite v)
  else if a = rPMU_WAKE_EN then some (d.typedWrite a (v ||| 1))
  else if a = rPMU_RESET then some (d.pmuResetWrite v)
  else if a = rFLT_LC_RETIRE then some ((d.lcRetireWrite v).fltShow)
  else if a = rPRP_STATUS then
    let d := (d.typedWrite a v).prpAttn
    some (if d.flag a fPRP_STATUS_CHK_FAULT then d
      else { d with prp := { d.prp with faulted := [] } }.wr rPRP_FAULT_FIRST 0x100)
  else if a = rPRP_ATTN_MASK then some (d.typedWrite a v).prpAttn
  else if a = rSEC_T_CTRL 1 then some (d.secCtrlWrite 1 v)
  else if a = rSEC_T_CTRL 2 then some (d.secCtrlWrite 2 v)
  else if rSEC_T_CTRL 2 < a ∧ a ≤ rSEC_T_VIOL_CNT 2 ∧ d.paired then some d
  else
    match idxOf rPMU_PIER_CTRL 40 a, idxOf rCKG_BR 32 a with
    | some p, _ => some (d.pierCtrlWrite p v)
    | _, some b => some (d.typedWrite a (if b = 1 ∨ b = 2 then v ||| 7 else v))
    | _, _ => none

/-- Writes of the interrupt controller that do more than land (R310 to R314). -/
def Dev.irqHook (d : Dev) (a v : Nat) : Option Dev :=
  match idxOf rIRQC_SETP 22 a, idxOf rIRQC_CLRP 22 a, idxOf rIRQC_T_EOI 3 a with
  | some k, _, _ => some (d.setpWrite k v)
  | _, some k, _ => some (d.clrpWrite k v)
  | _, _, some t => some (d.when (natBit v 0) (·.eoi t))
  | _, _, _ => some (d.typedWrite a v).irqSettle

/-- One register written, each field under its own rule; `owner` says that the writer is T0, which alone sets OWNER. -/
def Dev.regLand (d : Dev) (a v : Nat) (owner : Bool) : Dev :=
  let b := blockOf a
  let h : Option Dev := (
    if b ≤ 1 ∨ b = 3 ∨ (5 ≤ b ∧ b ≤ 9) ∨ b = 0x0B then d.sysHook a v
    else if b = 2 then d.irqHook a v
    else if b = 0x0D then (idxOf rDMA_CH_CTRL 32 a).map (fun c => d.chCtrlWrite c v owner)
    else if b = 0x0E then
      (if a = rBLT_CTRL then some (d.bltCtrlWrite v)
       else if rBLT_STATUS ≤ a then none
       else if (rowOf a).isSome then some (d.bltParam a (v &&& ((rowOf a).elim 0 (fun r => r.1.rw)))) else none)
    else if b = 0x0F then d.audHook a v
    else if 0x10 ≤ b ∧ b ≤ 0x12 then d.wrnHook (b - 0x10) a v
    else if 0x14 ≤ b ∧ b ≤ 0x16 then d.pinHook a v
    else if 0x30 ≤ b ∧ b ≤ 0x37 then (if a = rCAM_CTRL (b - 0x30) then some (d.camCtrlWrite (b - 0x30) v) else none)
    else if 0x40 ≤ b ∧ b ≤ 0x48 then
      (if a = rPIPE_CTRL (b - 0x40) then
        some (if !natBit v 0 then d else if b = 0x48 then d.spareRetire else (d.pipeRetire (b - 0x40)).fltShow) else none)
    else if 0x50 ≤ b ∧ b ≤ 0x57 then d.outHook (b - 0x50) a v
    else if 0x60 ≤ b ∧ b ≤ 0x67 then (if a = rLCC_PROG_BASE (b - 0x60) then some (d.progBaseWrite (b - 0x60) v) else none)
    else none)
  h.getD (d.typedWrite a v)

/-- A register write (R10, R15): a _LO half is staged, but for one of the busy blitter's, which is ignored (R408); a _HI
half applies both. -/
def Dev.regWrite (d : Dev) (a v : Nat) (owner : Bool) : Dev :=
  let v := v % 2 ^ 24
  if isPrsBlock (blockOf a) then d.prsWrite (blockOf a)
  else if blockOf a = 0x0E ∧ a < rBLT_STATUS ∧ isPairLo a ∧ d.bltBusy then d.raise rBLT_STATUS fBLT_STATUS_WR_BUSY
  else if isPairLo a then { d with stage := spSet resetOf d.stage a (BitVec.ofNat 24 v) }
  else if isPairHi a then
    let lo := d.staged (a - 1)
    if a = rBLT_LIST_HI then d.listStart lo v
    else if a = rPRP_DATA_HI then d.prpDataHi v
    else (d.regLand (a - 1) lo owner).regLand a v owner
  else d.regLand a v owner

/-! ### Who reaches what (R305, R316, R339, R398) -/

/-- Who makes an access: T0 itself; T0 for a REG or MEM packet; the trestle for a REGL list; steward `t` (1 or 2) in supervisor or user
mode; a DMA channel of an owner. -/
inductive Who where
  | t0
  | pkt
  | trs
  | stew (t : Nat) (sup : Bool)
  | dma (owner : Nat)
deriving DecidableEq, Repr

/-- The steward whose reach applies: none for T0's own. -/
def Who.steward (w : Who) : Option (Nat × Bool) :=
  match w with
  | .stew t sup => some (t, sup)
  | .dma o => if o = 0 then none else some (if o = 2 then 2 else 1, true)
  | _ => none

/-- A GRANT bit of a steward. -/
def Dev.grant (d : Dev) (t k : Nat) : Bool := natBit (d.rd (rSEC_T_GRANT t)) k

/-- May a customer steward in supervisor mode read a register of block `b`, at `a`? -/
def Dev.stewReads (d : Dev) (t a : Nat) : Bool :=
  let b := blockOf a
  let g := d.grant t
  if 0x50 ≤ b ∧ b ≤ 0x57 then g 0 || g 1
  else if 0x60 ≤ b ∧ b ≤ 0x67 then g 2
  else if 0x30 ≤ b ∧ b ≤ 0x37 then g 3
  else if b = 0x0F then g 4
  else if b = 0x0D ∨ b = 0x0E then g 5
  else if 0x14 ≤ b ∧ b ≤ 0x29 then g 6
  else if b = 0x00 then g 7
  else if b = 0x01 then g 8
  else if b = 0x02 then decide (a < rIRQC_T_CLAIM 0 ∨ a = rIRQC_COAL_CNT ∨ (rIRQC_T_CLAIM t ≤ a ∧ a < rIRQC_T_CLAIM t + 0x10))
  else false

/-- May it write there? Of the DMA block, only the registers of channels whose OWNER names it (R398). -/
def Dev.stewWrites (d : Dev) (t a : Nat) : Bool :=
  let b := blockOf a
  let g := d.grant t
  if 0x50 ≤ b ∧ b ≤ 0x57 then g 1
  else if b = 0x0D then
    let late := decide (rDMA_CH_LATE_CNT 0 ≤ a)
    let c := if late then a - rDMA_CH_LATE_CNT 0 else (a - rDMA_CH_CTRL 0) / 8
    let o := d.fld (rDMA_CH_CTRL c) fDMA_CH_CTRL_OWNER
    g 5 && decide (rDMA_CH_CTRL 0 ≤ a ∧ c < 32) && (if t = 2 then o == 2 else o == 1 || o == 3)
  else if b = 0x00 then false
  else if b = 0x01 then g 8 && decide (rTRS_EV_LATCH 0 ≤ a ∧ a ≤ rTRS_EV_LATCH 10)
  else if b = 0x02 then
    (g 12 && decide (rIRQC_SETP 0 ≤ a ∧ a ≤ rIRQC_SETP 21)) || decide (rIRQC_T_CLAIM t ≤ a ∧ a < rIRQC_T_CLAIM t + 0x10)
  else d.stewReads t a

/-- The blocks that REG and MEM packets never reach (R339): SEC, UPD, FLT, DBG, PRP and the sentinel port's. -/
def pktClosed (b : Nat) : Bool := decide (0x09 ≤ b ∧ b ≤ 0x0C) || b == 0x05 || b == 0x04

/-- May the access reach a register at all? -/
def Dev.mayReach (d : Dev) (w : Who) (a : Nat) (write : Bool) : Bool :=
  match w.steward with
  | some (t, sup) => sup && (if write then d.stewWrites t a else d.stewReads t a)
  | none =>
    match w with
    | .t0 => blockOf a != 0x0C
    | .trs => !pktClosed (blockOf a) && blockOf a != 0x02
    | _ => !pktClosed (blockOf a)

/-- The bits of a register that are closed to the accessor (R339): fields reserved to T0, all of a register that only T0 writes (R376,
R446). PMU_RESET is open to the packets that T0 executes (R475). -/
def closedBits (w : Who) (a : Nat) (write : Bool) : Nat :=
  let b := blockOf a
  if w = .t0 then 0
  else if 0x40 ≤ b ∧ b ≤ 0x48 ∧ a % 0x10000 = 0 then 1
  else if 0x50 ≤ b ∧ b ≤ 0x57 ∧ a % 0x10000 = 0x2400 then 0x800000
  else if !write then 0
  else if a = rMEM_SPARE_CTRL ∨ a = rFLT_LC_RETIRE ∨ (0x10 ≤ b ∧ b ≤ 0x12 ∧ a = rWRN_LANE_CTRL (b - 0x10)) ∨
      (a = rPMU_RESET ∧ w ≠ .pkt) then 0xFFFFFF
  else if b = 0x0D ∧ (idxOf rDMA_CH_CTRL 32 a).isSome then 0xC0000
  else 0

/-- What an access came to: the word read, whether a part of it fell under the silent rule, and how it ended (0 served, 1 uncorrectable,
2 no unit). -/
structure Acc where
  val : Word
  viol : Bool
  err : Nat
deriving DecidableEq, Repr

def Acc.ok (v : Word) : Acc := ⟨v, false, 0⟩
def Acc.silent : Acc := ⟨0, true, 0⟩
def Acc.fail (e : Nat) : Acc := ⟨0, false, e⟩

/-- An access through a gated branch opens it, and wakes the block's pier (R459, R473, R563). -/
def Dev.regTouch (d : Dev) (a : Nat) : Dev := (d.wake (d.pierOfReg a)).gateHit (blockOf a)

/-- A register read by `w`: what lies beyond its reach is silent, whatever its block's pier does (R305, R398). -/
def Dev.regReadAs (d : Dev) (w : Who) (a : Nat) : Acc × Dev :=
  if blockKnown (blockOf a) && !d.mayReach w a false then (Acc.silent, d)
  else if !d.regServes a then (Acc.fail 2, d)
  else if d.unpresented a then (Acc.ok 0, d)
  else
    let (v, d) := (d.regTouch a).regRead a
    (Acc.ok (BitVec.ofNat 48 (v &&& (0xFFFFFF - closedBits w a false))), d)

/-- A register written by `w`. -/
def Dev.regWriteAs (d : Dev) (w : Who) (a v : Nat) : Acc × Dev :=
  if blockKnown (blockOf a) && !d.mayReach w a true then (Acc.silent, d)
  else if !d.regServes a then (Acc.fail 2, d)
  else if d.unpresented a then (Acc.ok 0, d)
  else
    let c := closedBits w a true
    let r := (rowOf a).map (·.1)
    let sc := r.elim 0 (·.sc)
    let rw := r.elim 0 (·.rw)
    let old := d.rd a
    let viol := c == 0xFFFFFF || (v &&& c &&& sc) != 0 || ((v ^^^ old) &&& c &&& rw) != 0
    let v' := ((v &&& (0xFFFFFF - c)) ||| (old &&& c)) &&& (0xFFFFFF - (c &&& sc))
    let d := d.regTouch a
    (⟨0, viol, 0⟩, if c = 0xFFFFFF then d else d.regWrite a v' (w == .t0 || w == .pkt))

/-! ### The word address space (R562) -/

/-- May `w` reach main memory at word `m`: a customer steward's window (R305)? -/
def Dev.mayMain (d : Dev) (w : Who) (m : Nat) : Bool :=
  match w.steward with
  | none => true
  | some (t, _) =>
    let f := d.fld (rSEC_T_WIN t) fSEC_T_WIN_FIRST
    decide (f ≤ m / 4096 ∧ m / 4096 < f + d.fld (rSEC_T_WIN t) fSEC_T_WIN_COUNT)

/-- Has `w` a GRANT bit, where it needs one? Supervisor mode only, but for LPDDR5X. -/
def Dev.mayGrant (d : Dev) (w : Who) (k : Nat) : Bool :=
  match w.steward with
  | none => true
  | some (t, sup) => (sup || k == 13) && d.grant t k

/-- The answer to the request just served. -/
def Dev.answer (d : Dev) : Acc :=
  match d.mem.resp with
  | some r => ⟨r.data, false, r.status⟩
  | none => Acc.fail 2

/-- A word read through the fabric or the register bus; none while a peer window has not answered. `core` names the reader to the peer
windows. -/
def Dev.busRead (d : Dev) (w : Who) (master core a : Nat) : Option Acc × Dev :=
  if a < 0x3000000 then
    if d.mayMain w (a % 0x1000000) then
      let d := d.fabricRead master a
      (some d.answer, d)
    else (some Acc.silent, d)
  else if isRegAddr a then
    let (x, d) := d.regReadAs w a
    (some x, d)
  else if 0x200000000 ≤ a ∧ a ≤ 0x200000FFF then
    if d.mayGrant w 9 then
      let d := d.fabricRead master a
      (some d.answer, d)
    else (some Acc.silent, d)
  else if 0x300000000 ≤ a ∧ a < 0x300040000 then
    if !d.mayGrant w 10 then (some Acc.silent, d)
    else if 0x1000 ≤ a % 0x10000 then (some (Acc.fail 2), d)
    else
      match d.peerRead core a with
      | (none, d) => (none, d)
      | (some none, d) => (some (Acc.fail 2), d)
      | (some (some v), d) => (some (Acc.ok v), d)
  else if 0x8000000000 ≤ a ∧ a ≤ 0x807FFFFFFF then
    if d.mayGrant w 13 then
      let d := d.wakeDdr.fabricRead master a
      (some d.answer, d)
    else (some Acc.silent, d)
  else (some (Acc.fail 2), d)

/-- A word written through the fabric or the register bus. -/
def Dev.busWrite (d : Dev) (w : Who) (master a : Nat) (v : Word) : Acc × Dev :=
  if a < 0x3000000 then
    if d.mayMain w (a % 0x1000000) then
      let d := (d.fabricWrite master a v (BitVec.allOnes 48)).2
      (d.answer, d)
    else (Acc.silent, d)
  else if isRegAddr a then d.regWriteAs w a (v.toNat % 2 ^ 24)
  else if 0x200000000 ≤ a ∧ a ≤ 0x200000FFF then
    if d.mayGrant w 9 then
      let (part, d) := d.fabricWrite master a v (BitVec.allOnes 48)
      (⟨0, part, 0⟩, d)
    else (Acc.silent, d)
  else if 0x300000000 ≤ a ∧ a < 0x300040000 then
    if !d.mayGrant w 10 then (Acc.silent, d)
    else
      match d.peerWrite a v with
      | (true, d) => (Acc.ok 0, d)
      | (false, d) => (Acc.fail 2, d)
  else if 0x8000000000 ≤ a ∧ a ≤ 0x807FFFFFFF then
    if d.mayGrant w 13 then
      let d := (d.wakeDdr.fabricWrite master a v (BitVec.allOnes 48)).2
      (d.answer, d)
    else (Acc.silent, d)
  else (Acc.fail 2, d)

/-- Does an address name a unit that answers now (R562)? -/
def Dev.decodes (d : Dev) (a : Nat) : Bool :=
  if a < 0x3000000 then !d.mainOff
  else if isRegAddr a then d.regServes a
  else if 0x200000000 ≤ a ∧ a ≤ 0x200000FFF then true
  else if 0x300000000 ≤ a ∧ a < 0x300040000 then (d.peerAddr a).isSome
  else decide (0x8000000000 ≤ a) && d.ddrServes (a - 0x8000000000)

/-! ### Commands -/

/-- A read of a _LO register by T0 (R10): the answer shows as the latest one given. -/
def execPairLoRead (addr : Nat) (s : State) :=
  s.upd (fun d =>
    if isPairLo addr then
      let (x, d) := d.regReadAs .t0 addr
      d.respond 0x50 addr x.val x.err
    else d)

def execPairHiWrite (addr : Nat) (value : Reg) (s : State) :=
  s.upd (fun d => if isPairHi addr then (d.regWriteAs .t0 addr value.toNat).2 else d)

/-- A read of TMRn_CAPQ_LO pops the oldest capture and latches its high half (R518). -/
def execTmrCapqRead (n : Fin 16) (s : State) :=
  s.upd (fun d =>
    let (x, d) := d.regReadAs .t0 (rTMR_CAPQ_LO n)
    d.respond 0x50 (rTMR_CAPQ_LO n) x.val x.err)

end Sys2Proof.Machine
end

