-- ==== Sys2Proof/Machine/DmaRun.lean ====
section
/-! DEFINITION. The DMA engine: channel programs, their bursts and the arbitration between channels (R386 to R399). -/

namespace Sys2Proof.Machine

/-- The fabric master of the DMA engine (R367). -/
def masterDma : Nat := 0x40

/-- The bus reader that channel `c` is to the peer windows. -/
def chReader (c : Nat) : Nat := 0x100 + c

def Dev.chOwner (d : Dev) (c : Nat) : Who := .dma (d.fld (rDMA_CH_CTRL c) fDMA_CH_CTRL_OWNER)

/-- A bit of DMA_STATUS0 or DMA_STATUS1 set, which raises source 296. -/
def Dev.chError (d : Dev) (c : Nat) : Dev :=
  let a := if c < 24 then rDMA_STATUS0 else rDMA_STATUS1
  (d.wr a (natSetBits (d.rd a) (c % 24) 1 1)).irqRaise 296

/-- The channel halts with a cause (R389, R391, R397). -/
def Dev.chHalt (d : Dev) (c cause : Nat) : Dev :=
  let d := (d.setChan c Chan.idle).setChState c 3
  (d.setFld (rDMA_CH_STATUS c) fDMA_CH_STATUS_CAUSE cause).chError c

/-- An access that fell under the silent rule (R398). -/
def Dev.chViol (d : Dev) (c : Nat) : Dev :=
  (d.raise (rDMA_CH_STATUS c) fDMA_CH_STATUS_VIOL).bump rDMA_VIOL_CNT fDMA_VIOL_CNT_COUNT

/-! ### Program words (R389) -/

/-- A word that channel `c` reads. A customer owner does not reach core-local memory, and is refused it in silence (R398). -/
def Dev.chRead (d : Dev) (c reader a : Nat) : Acc × Dev :=
  let w := d.chOwner c
  if w.steward.isSome ∧ 0xFFFF000000 ≤ a then (Acc.silent, d)
  else
    match d.busRead w masterDma reader a with
    | (some x, d) => (x, d)
    | (none, d) => (Acc.fail 2, d)

/-- A program word, tried `n` times: main memory or LPDDR5X; none when it cannot be fetched. -/
def Dev.chFetch (d : Dev) (c a : Nat) : Nat → Option Nat × Dev
  | 0 => (none, d)
  | n + 1 =>
    let (x, d) := if a < 0x1000000 ∨ 0x8000000000 ≤ a then d.chRead c (chReader c) a else (Acc.fail 2, d)
    if x.err = 0 then (some x.val.toNat, d.when x.viol (·.chViol c))
    else if n = 0 then (none, d)
    else (d.bump rDMA_RETRY_CNT fDMA_RETRY_CNT_COUNT).chFetch c a n

/-- The word at `a` after the retries of R397. -/
def Dev.chWord (d : Dev) (c a : Nat) : Option Nat × Dev :=
  d.chFetch c (a % 2 ^ 40) (d.fld rDMA_CTRL fDMA_CTRL_RETRY_MAX + 1)

/-- The words of an instruction whose first word is `w`; 0 for one that is reserved or has a reserved bit set. -/
def chLen (w : Nat) : Nat :=
  match natBits w 44 4 with
  | 1 => if natBits w 24 16 = 0 ∧ natBits w 40 2 ≠ 3 ∧ natBits w 42 2 ≠ 3 then 3 else 0
  | 2 => if natBits w 24 20 = 0 then 1 else 0
  | 3 => if natBits w 0 44 = 0 then 1 else 0
  | 4 => if natBit w 43 then (if natBits w 0 43 = 0 then 2 else 0) else if natBits w 8 35 = 0 then 1 else 0
  | 5 => if natBits w 8 36 = 0 then 1 else 0
  | 15 => if natBits w 9 35 = 0 then 1 else 0
  | _ => 0

/-- The instruction address moved on by `n` words. -/
def Dev.chNext (d : Dev) (c n : Nat) : Dev := d.setChPc c (d.chPc c + n)

/-! ### Bursts (R394, R395) -/

/-- Is a channel ready for a burst slot? -/
def Dev.chReady (d : Dev) (c pri : Nat) : Bool :=
  (d.chan c).burst == 1 && d.chState c == 1 && d.fld (rDMA_CH_CTRL c) fDMA_CH_CTRL_PRI == pri

/-- The channel that the next free slot goes to: strict priority, round robin among equals. -/
def Dev.chPick (d : Dev) : Option (Nat × Nat) :=
  [3, 2, 1, 0].findSome? (fun p =>
    let last := d.dma.last.getD p 31
    (((List.range 32).map (fun i => (last + 1 + i) % 32)).find? (fun c => d.chReady c p)).map (fun c => (p, c)))

/-- Free slots given out, at most `n` of them. -/
def Dev.dmaIssue (d : Dev) : Nat → Dev
  | 0 => d
  | n + 1 =>
    let flying := ((List.range 32).filter (fun c => (d.chan c).burst == 2)).length
    if !d.flag rDMA_CTRL fDMA_CTRL_EN ∨ 16 ≤ flying then d
    else
      match d.chPick with
      | none => d
      | some (p, c) =>
        let d := d.setChan c { d.chan c with burst := 2, tries := 0 }
        { d with dma := { d.dma with last := d.dma.last.set p c } }.dmaIssue n

def Dev.issue (d : Dev) : Dev := d.dmaIssue 32

/-- An address `i` words on. -/
def stepAddr (mode a i : Nat) : Nat := if mode = 2 then a else (a + i) % 2 ^ 40

/-- Is a word in a peer window? -/
def inPeer (a : Nat) : Bool := decide (0x300000000 ≤ a ∧ a < 0x300040000)

/-- The reader that word `i` of a burst of channel `c` is to the peer windows: one access for every word, in fixed mode too (R390). -/
def burstReader (c i : Nat) : Nat := chReader c + 0x1000 * i

/-- The reads of the peer words of a burst, each with its place in it: those not sent yet are sent; true when every answer is there. -/
def Dev.peerWant (d : Dev) (c : Nat) (as : List (Nat × Nat)) : Bool × Dev :=
  as.foldl (fun (s : Bool × Dev) x =>
    let d := s.2
    let who := burstReader c x.1
    match d.portTo ((x.2 - 0x300000000) / 0x10000) with
    | none => s
    | some p =>
      match (d.port p).reads.find? (fun r => r.who == who && r.w == x.2 % 0x10000) with
      | some r => (s.1 && r.got.isSome, d)
      | none => if (d.peerAddr x.2).isNone then s else (false, (d.peerRead who x.2).2)) (true, d)

/-- The answer to a peer word, if it has come. -/
def Dev.peerGot (d : Dev) (who a : Nat) : Option Word :=
  match d.portTo ((a - 0x300000000) / 0x10000) with
  | none => none
  | some p => (((d.port p).reads.find? (fun r => r.who == who && r.w == a % 0x10000)).bind (·.got)).getD none

/-- A channel's answers discarded. -/
def Dev.peerDone (d : Dev) (c : Nat) : Dev :=
  [0, 1, 2].foldl (fun d p => d.modPort p (fun x => { x with reads := x.reads.filter (fun r => r.who % 0x1000 != chReader c) })) d

/-- The words of a burst moved in ascending order, from word `i` on; the failing address on a bus error. -/
def Dev.burstWords (d : Dev) (c : Nat) (m : Move) (i : Nat) : Nat → Option Nat × Dev
  | 0 => (none, d)
  | n + 1 =>
    let src := stepAddr m.smode m.src i
    let dst := stepAddr m.dmode m.dst i
    let (x, d) : Acc × Dev := (
      if inPeer src ∧ d.mayGrant (d.chOwner c) 10 then
        (match d.peerGot (burstReader c i) src with
         | some v => (Acc.ok v, d)
         | none => (Acc.fail 2, d))
      else d.chRead c (chReader c) src)
    let d := d.when x.viol (·.chViol c)
    if x.err ≠ 0 then (some src, d)
    else
      let w := d.chOwner c
      let (y, d) :=
        if w.steward.isSome ∧ 0xFFFF000000 ≤ dst then (Acc.silent, d) else d.busWrite w masterDma dst x.val
      let d := d.when y.viol (·.chViol c)
      if y.err ≠ 0 then (some dst, d) else d.burstWords c m (i + 1) n

/-- The words of the next burst of a MOVE. -/
def Dev.burstLen (d : Dev) (c : Nat) (m : Move) : Nat := min m.left (d.fld (rDMA_CH_CTRL c) fDMA_CH_CTRL_BURST_M1 + 1)

/-- The burst in flight is carried out (R390, R394, R397). -/
def Dev.burstRun (d : Dev) (c : Nat) (m : Move) : Dev :=
  let n := d.burstLen c m
  let peers := if d.mayGrant (d.chOwner c) 10 then ((List.range n).map (fun i => (i, stepAddr m.smode m.src i))).filter (fun x => inPeer x.2) else []
  let (here, d) := d.peerWant c peers
  if !here then d
  else
    let (bad, d) := d.burstWords c m 0 n
    let d := d.peerDone c
    let x := d.chan c
    match bad with
    | some a =>
      if x.stopReq then d.chStopped c
      else if x.tries < d.fld rDMA_CTRL fDMA_CTRL_RETRY_MAX then
        (d.setChan c { x with tries := x.tries + 1 }).bump rDMA_RETRY_CNT fDMA_RETRY_CNT_COUNT
      else (d.wr40 (rDMA_CH_ERR_LO c) (rDMA_CH_ERR_HI c) a).chHalt c 1
    | none =>
      let m := { m with src := stepAddr m.smode m.src n, dst := stepAddr m.dmode m.dst n, left := m.left - n }
      if x.stopReq then d.chStopped c
      else if m.left = 0 then d.setChan c { x with sa := m.src, da := m.dst, move := none, burst := 0, tries := 0 }
      else d.setChan c { x with move := some m, burst := 1, tries := 0 }

/-- A burst completes, or meets its bus error. -/
def Dev.burstDone (d : Dev) (c : Nat) : Dev :=
  let d := d.issue
  let x := d.chan c
  match if x.burst = 2 then x.move else none with
  | some m => (d.burstRun c m).issue
  | none => d

/-! ### Instructions -/

/-- A signed 40-bit offset added to an address. -/
def addOff (a w : Nat) : Nat := (a + w) % 2 ^ 40

/-- MOVE (R390): words 1 and 2 give the addresses. -/
def Dev.chMove (d : Dev) (c w : Nat) : Dev :=
  let pc := d.chPc c
  match d.chWord c (pc + 1) with
  | (none, d) => d.chHalt c 2
  | (some w1, d) =>
    match d.chWord c (pc + 2) with
    | (none, d) => d.chHalt c 2
    | (some w2, d) =>
      if natBits w1 40 8 ≠ 0 ∨ natBits w2 40 8 ≠ 0 then d.chHalt c 2
      else
        let x := d.chan c
        let sm := natBits w 42 2
        let dm := natBits w 40 2
        let src := if sm = 1 then addOff x.sa w1 else w1
        let dst := if dm = 1 then addOff x.da w2 else w2
        ((d.setChan c { x with move := some ⟨src, dst, sm, dm, natBits w 0 24 + 1⟩, burst := 1, tries := 0 }).chNext c 3).issue

def Dev.setDepth (d : Dev) (c : Nat) : Dev := d.setFld (rDMA_CH_STATUS c) fDMA_CH_STATUS_DEPTH (d.chan c).loops.length

/-- The skip of a LOOP with COUNT 0 (R391): `deep` loops opened since; `n` bounds the instructions passed. -/
def Dev.chSkip (d : Dev) (c a deep : Nat) : Nat → Dev
  | 0 => d.chHalt c 2
  | n + 1 =>
    match d.chWord c a with
    | (none, d) => d.chHalt c 2
    | (some w, d) =>
      let len := chLen w
      let a' := (a + len) % 2 ^ 40
      if len = 0 then d.chHalt c 2
      else
        match natBits w 44 4 with
        | 15 => d.chHalt c 3
        | 3 => if deep = 0 then d.setChPc c a' else d.chSkip c a' (deep - 1) n
        | 2 => d.chSkip c a' (deep + 1) n
        | _ => d.chSkip c a' deep n

/-- LOOP (R391). -/
def Dev.chLoop (d : Dev) (c w : Nat) : Dev :=
  let x := d.chan c
  let n := natBits w 0 24
  if 4 ≤ x.loops.length then d.chHalt c 3
  else if n = 0 then d.chSkip c ((d.chPc c + 1) % 2 ^ 40) 0 (2 ^ 41)
  else ((d.chNext c 1).setChan c { x with loops := ((d.chPc c + 1) % 2 ^ 40, n - 1) :: x.loops }).setDepth c

/-- ENDLOOP (R391). -/
def Dev.chEndLoop (d : Dev) (c : Nat) : Dev :=
  let x := d.chan c
  match x.loops with
  | [] => d.chHalt c 3
  | (body, left) :: rest =>
    if left = 0 then ((d.chNext c 1).setChan c { x with loops := rest }).setDepth c
    else (d.setChPc c body).setChan c { x with loops := (body, left - 1) :: rest }

/-- BT of the fabric clock before the present one. -/
def Dev.btBefore (d : Dev) : Nat := (d.btu.e * 2 ^ 40 + d.btu.acc - d.btuIncrement) / 2 ^ 40 % 2 ^ 48

/-- WAIT (R392). -/
def Dev.chWait (d : Dev) (c w : Nat) : Dev :=
  let x := d.chan c
  if !natBit w 43 then (d.setChan c { x with wait := 1, arg := w % 256, woken := false }).setChState c 2
  else
    match d.chWord c (d.chPc c + 1) with
    | (none, d) => d.chHalt c 2
    | (some b, d) =>
      if btGe d.bt b then
        let late := btGe d.btBefore b
        let d := d.when late (fun d =>
          (d.bump (rDMA_CH_LATE_CNT c) fDMA_CH_LATE_CNT_COUNT).raise (rDMA_CH_STATUS c) fDMA_CH_STATUS_LATE)
        d.chNext c 2
      else (d.setChan c { x with wait := 2, arg := b }).setChState c 2

/-- What a WAIT waits for has come: the pulse, or BT, which is moved on to the value awaited where that lies in the present TG0 frame. -/
def Dev.chWaited (d : Dev) (c : Nat) : Dev :=
  let x := d.chan c
  let done (d : Dev) (n : Nat) : Dev := ((d.setChan c { x with wait := 0, woken := false }).setChState c 1).chNext c n
  if d.chState c ≠ 2 then d
  else if x.wait = 1 then (if x.woken then done d 1 else d)
  else if x.wait = 2 then
    let ahead := (x.arg + 2 ^ 48 - d.bt) % 2 ^ 48
    let d := if ahead < 2 ^ 47 then d.advanceTo (d.btu.e + ahead) else d
    if btGe d.bt x.arg then done d 2 else d
  else d

/-- A pulse of an event line reaches the channels that wait for it. -/
def Dev.dmaPulse (d : Dev) (ev : Nat) : Dev :=
  { d with dma := { d.dma with ch := d.dma.ch.map (fun x => if x.wait = 1 ∧ x.arg = ev then { x with woken := true } else x) } }

/-- HALT (R393). -/
def Dev.chEnd (d : Dev) (c w : Nat) : Dev :=
  let d := (d.setChan c Chan.idle).setChState c 0
  d.when (natBit w 8) (·.evRaise (w % 256))

/-- Channel `c` fetches its next instruction and, if that is the one named, carries it out with `f`; an instruction that cannot be fetched
or is malformed halts it. Another instruction leaves the channel as it is: its own command carries it out. -/
def Dev.chExec (d : Dev) (c op : Nat) (f : Nat → Dev → Dev) : Dev :=
  let x := d.chan c
  if d.chState c ≠ 1 ∨ x.burst ≠ 0 ∨ !d.flag rDMA_CTRL fDMA_CTRL_EN then d
  else
    match d.chWord c (d.chPc c) with
    | (none, d) => d.chHalt c 2
    | (some w, d') =>
      if chLen w = 0 then d'.chHalt c 2
      else if natBits w 44 4 = op then f w d'
      else d

/-! ### Commands -/

def execDmaMove (c : Fin 32) (s : State) := s.upd (·.clocked 25 (·.chExec c 1 (fun w d => d.chMove c w)))

def execDmaLoop (c : Fin 32) (s : State) := s.upd (·.clocked 25 (·.chExec c 2 (fun w d => d.chLoop c w)))

def execDmaEndloop (c : Fin 32) (s : State) := s.upd (·.clocked 25 (·.chExec c 3 (fun _ d => d.chEndLoop c)))

def execDmaWait (c : Fin 32) (s : State) := s.upd (·.clocked 25 (·.chExec c 4 (fun w d => d.chWait c w)))

def execDmaWaitSatisfied (c : Fin 32) (s : State) := s.upd (·.clocked 25 (·.chWaited c))

def execDmaSignal (c : Fin 32) (s : State) := s.upd (·.clocked 25 (·.chExec c 5 (fun w d => (d.evRaise (w % 256)).chNext c 1)))

def execDmaHalt (c : Fin 32) (s : State) := s.upd (·.clocked 25 (·.chExec c 15 (fun w d => d.chEnd c w)))

def execDmaBurstComplete (c : Fin 32) (s : State) := s.upd (·.clocked 25 (·.burstDone c))

end Sys2Proof.Machine
end

