-- ==== Sys2Proof/Machine/Debug.lean ====
section
/-! DEFINITION. The debug monitor's hold on the cores (R526 to R534): points, halts, and the debug views. -/

namespace Sys2Proof.Machine

/-! ### Posted stores (R272) -/

/-- The rights with which a steward's stores act: a posted store was within them when it was accepted. -/
def whoOf (c : Nat) (sup : Bool) : Who := if c = 0x4A then .t0 else .stew (targetOf c) sup

/-- An access of a customer steward under the silent rule (R305). -/
def Dev.stewViol (d : Dev) (t : Nat) : Dev :=
  if t = 0 then d
  else (d.bump (rSEC_T_VIOL_CNT t) fSEC_T_VIOL_CNT_COUNT).raise (rSEC_T_STATUS t) fSEC_T_STATUS_VIOL

/-- The oldest posted store of a core takes effect. -/
def Dev.landOne (d : Dev) (c : Nat) : Dev :=
  match (d.core c).posted with
  | [] => d
  | (a, w) :: rest =>
    let d := d.modCore c (fun x => { x with posted := rest })
    let (r, d) := d.busWrite (whoOf c true) (masterOfCode c) a w
    d.when r.viol (·.stewViol (targetOf c))

/-- `n` posted stores of a core take effect. -/
def Dev.landN (d : Dev) (c : Nat) : Nat → Dev
  | 0 => d
  | n + 1 => (d.landOne c).landN c n

/-- Every posted store of a core takes effect. -/
def Dev.landAll (d : Dev) (c : Nat) : Dev := d.landN c (d.core c).posted.length

/-! ### Points (R533, R534) -/

/-- The unit whose points a core obeys: its cluster, or 8 for T1 and 9 for T2. -/
def pointUnit (c : Nat) : Nat := if c < 72 then c / 9 else if c = 0x48 then 8 else if c = 0x49 then 9 else 10

/-- Does a point of the core's unit match, other than one of the kind that has just halted the core at this slot (R534)? -/
def Dev.pointHit (d : Dev) (c : Nat) (watch : Bool) (hit : Nat → Bool) : Bool :=
  !natBit (d.core c).pass watch.toNat && d.dbg.points.any (fun p => p.unit == pointUnit c && p.watch == watch && hit p.word)

/-- Does a breakpoint match the slot address `sa`? -/
def Dev.breakHit (d : Dev) (c sa : Nat) : Bool := d.pointHit c false (fun w => w % 2 ^ 42 == sa)

/-- Does a watchpoint match a load or store of word `a`? -/
def Dev.watchHit (d : Dev) (c a : Nat) (write : Bool) : Bool :=
  d.pointHit c true (fun w =>
    let k := natBits w 40 2
    w % 2 ^ 40 == a && (k == 0 || k == 3 || k == (if write then 2 else 1)))

/-- A point set or cleared by session slot `s`: it replaces the one of its unit, kind and number. -/
def Dev.setPoint (d : Dev) (c num : Nat) (watch enable : Bool) (word s : Nat) : Dev :=
  let u := pointUnit c
  let rest := d.dbg.points.filter (fun p => !(p.unit == u && p.watch == watch && p.num == num))
  { d with dbg := { d.dbg with points := if enable then ⟨u, num, watch, word, s⟩ :: rest else rest } }

/-! ### Halting and resuming (R527 to R530) -/

/-- A core halts (R528, R529): its posted stores complete. -/
def Dev.haltNow (d : Dev) (c : Nat) : Dev := (d.landAll c).haltShown c

/-- Does a breakpoint match the slot that the core executes next? The halt at this boundary is then that breakpoint's too (R539). -/
def Dev.metBreak (d : Dev) (c : Nat) : Dev :=
  if d.breakHit c (d.core c).slotAddr then d.modCore c (fun x => { x with pass := x.pass ||| 1 }) else d

/-- DBG.HALT (R527): an idle line core halts at once; a running core at the first boundary that permits it. -/
def Dev.dbgHalt (d : Dev) (c : Nat) : Dev :=
  let x := d.core c
  if x.run = 1 then d.setCore c { x with haltReq := true }
  else if x.run = 0 ∧ c < 72 then d.haltNow c
  else d

/-- The slots of a step have run, at a boundary that permits a halt (R531): the core halts, or, with no attached FULL session left, goes on,
its reply discarded (R539). -/
def Dev.stepOver' (d : Dev) (c : Nat) : Dev :=
  if d.anyFull then d.haltNow c
  else (d.modCore c (fun x => { x with steps := none })).modTalk (fun t =>
    { t with owed := t.owed.filter (fun o => !(o.kind == 9 && o.key == c)) })

/-- A requested halt takes effect: of DBG.HALT, of a step whose slots have run, or of the halt that a step begins with, after which the core
executes the step's slots (R531). -/
def Dev.haltTaken (d : Dev) (c : Nat) : Dev :=
  let x := d.core c
  if x.run = 1 ∧ x.haltOk then
    match x.steps, x.haltReq with
    | some (false, n), true => ((d.landAll c).metBreak c).modCore c (fun x => { x with haltReq := false, steps := some (true, n) })
    | some (true, 0), false => d.stepOver' c
    | _, true => (d.metBreak c).haltNow c
    | _, false => d
  else d

/-! ### Debug views (R526, R532) -/

/-- ST written. -/
def Core.setSt (x : Core) (v : Nat) : Core :=
  { x with cause := natBits v 5 4, btTaken := natBit v 4, dslot := natBit v 3, ex := natBit v 2, pie := natBit v 1, ie := natBit v 0 }

/-- Special register `r` as GETS gives it, with `pc` for PC; DSP and RSP as they stand (R280). -/
def Core.special (x : Core) (r pc : Nat) : Nat :=
  [pc, x.bnk, x.mode, x.dsp, x.rsp, x.dsl, x.rsl, x.lcnt, x.lbeg, x.lend, x.st, x.epc, x.etgt, x.emode,
    if x.mode = 2 then 0 else x.evmask].getD r 0

/-- The bits of EVMASK that hold something (R308). -/
def evmaskBits : Nat := 0xC00000000FFF

/-- Special register `r` written at once, its unused bits ignored (R280). -/
def Core.setSpecial (x : Core) (r v : Nat) : Core :=
  if r = 1 then { x with bnk := v % 2 ^ 24 }
  else if r = 2 then { x with mode := v % 4 }
  else if r = 3 then { x with dsp := v % 2 ^ 16 }
  else if r = 4 then { x with rsp := v % 2 ^ 16 }
  else if r = 5 then { x with dsl := v % 2 ^ 32 }
  else if r = 6 then { x with rsl := v % 2 ^ 32 }
  else if r = 7 then { x with lcnt := v % 2 ^ 48 }
  else if r = 8 then { x with lbeg := v % 2 ^ 40 }
  else if r = 9 then { x with lend := v % 2 ^ 40 }
  else if r = 10 then x.setSt v
  else if r = 11 then { x with epc := v % 2 ^ 42 }
  else if r = 12 then { x with etgt := v % 2 ^ 42 }
  else if r = 13 then { x with emode := v % 4 }
  else if r = 14 then { x with evmask := v &&& evmaskBits }
  else x

/-- A word of a core's debug view. -/
def Dev.viewRead (d : Dev) (c off : Nat) : Word :=
  let x := d.core c
  if off < 0x4000 then (if off < lmemSize c then d.lword c off else 0)
  else if 0x8000 ≤ off ∧ off ≤ 0x800E then (if x.run = 2 then BitVec.ofNat 48 (x.special (off - 0x8000) x.slotAddr) else 0)
  else if 0x8020 ≤ off ∧ off ≤ 0x803F then x.ds.getD (off - 0x8020) 0
  else if 0x8040 ≤ off ∧ off ≤ 0x804F then x.rs.getD (off - 0x8040) 0
  else if off = 0x8050 then BitVec.ofNat 48 (x.ds.length * 256 + x.rs.length)
  else 0

/-- A word of a halted core's debug view written (R532). -/
def Dev.viewWrite (d : Dev) (c off : Nat) (w : Word) : Dev :=
  let v := w.toNat
  if off < 0x4000 then
    if lmemSize c ≤ off then d
    else if c < 72 ∧ 0x400 ≤ off ∧ off < 0xC00 then
      (List.range 9).foldl (fun d k => d.setLword (c / 9 * 9 + k) off w) d
    else (d.setLword c off w).modCore c (fun x => { x with cur := none })
  else if off = 0x8000 then d.modCore c (fun x => { x with pc := v % 2 ^ 40, slot := 0, cur := none, pass := 0 })
  else if off = 0x8002 then (if 2 ≤ v % 4 ∨ c < 72 then d else d.modCore c (·.setSpecial 2 v))
  else if 0x8001 ≤ off ∧ off ≤ 0x800E then d.modCore c (·.setSpecial (off - 0x8000) v)
  else if 0x8020 ≤ off ∧ off ≤ 0x803F then d.modCore c (fun x => { x with ds := x.ds.set (off - 0x8020) w })
  else if 0x8040 ≤ off ∧ off ≤ 0x804F then d.modCore c (fun x => { x with rs := x.rs.set (off - 0x8040) w })
  else if off = 0x8050 then d.modCore c (fun x =>
    { x with ds := (x.ds ++ List.replicate 32 0).take (min (natBits v 8 6) 32)
             rs := (x.rs ++ List.replicate 16 0).take (min (natBits v 0 5) 16) })
  else d

/-! ### Commands -/

def execDebugHaltTaken (core : CoreId) (s : State) := s.upd (·.haltTaken (coreCode core))

end Sys2Proof.Machine
end

