-- ==== Sys2Proof/Machine/Configs.lean ====
section
/-! DEFINITION. Configurations (R344 to R360): images and their records, their checks, the start, overlays and triggers; and
buffers (R361 to R365). -/

namespace Sys2Proof.Machine

/-! ### Records (R346 to R351) -/

/-- A record of an image. -/
inductive CfgRec where
  | field (a mask v : Nat)
  | pair (a mask v : Nat)
  | block (a : Nat) (vs : List Nat)
  | stack (out count : Nat) (codes : List Nat)
  | region (first count fill src len : Nat)
  | trigger (w0 w1 : Nat)
  | steward (t : Nat) (vs : List Nat)
deriving DecidableEq, Repr

/-- The code of layer `k` in the words of a LAYER_STACK record (R348). -/
def stackCode (ws : List Nat) (k : Nat) : Nat := natBits (ws.getD (k / 12) 0) (44 - 4 * (k % 12)) 4

/-- One record at the front of `ws`, and what follows it; none where it is reserved, malformed or runs past the end. -/
def cfgRec (ws : List Nat) : Option (CfgRec × List Nat) :=
  let w (i : Nat) : Nat := ws.getD i 0
  let t := natBits (w 0) 44 4
  let take (n : Nat) (ok : Bool) (r : CfgRec) : Option (CfgRec × List Nat) :=
    if n ≤ ws.length ∧ ok then some (r, ws.drop n) else none
  let a := natBits (w 0) 0 40
  let z := natBits (w 0) 40 4 == 0
  if t = 1 then take 2 z (.field a (natBits (w 1) 24 24) (natBits (w 1) 0 24))
  else if t = 2 then take 3 z (.pair a (w 1) (w 2))
  else if t = 3 then
    let n := natBits (w 1) 0 10
    let vs := (ws.drop 2).take n
    take (2 + n) (z && decide (natBits (w 1) 10 38 = 0 ∧ n ≠ 0) && vs.all (fun v => decide (v < 2 ^ 24))) (.block a vs)
  else if t = 4 then
    let n := natBits (w 0) 35 6
    let codes := (List.range n).map (stackCode (ws.drop 1))
    take (1 + cdiv n 12) (decide (natBits (w 0) 0 35 = 0) && codes.all (fun c => decide (c ≤ 6))) (.stack (natBits (w 0) 41 3) n codes)
  else if t = 5 then
    take 2 (decide (natBits (w 0) 2 18 = 0 ∧ natBits (w 0) 0 2 ≤ 1))
      (.region (natBits (w 0) 32 12) (natBits (w 0) 20 12 + 1) (natBits (w 0) 0 2) (natBits (w 1) 24 24) (natBits (w 1) 0 24))
  else if t = 6 then
    take 2 (decide (natBits (w 0) 42 2 ≠ 3 ∧ natBits (w 0) 40 2 ≠ 3 ∧ natBits (w 1) 0 12 = 0 ∧
      (natBits (w 0) 42 2 = 0 → natBits (w 0) 16 7 < 96))) (.trigger (w 0) (w 1))
  else if t = 7 then
    let vs := (ws.drop 1).take 6
    take 7 (decide (natBits (w 0) 0 42 = 0) && vs.all (fun v => decide (v < 2 ^ 24))) (.steward (natBits (w 0) 42 2) vs)
  else none

/-- The records of a list of words; none where one of them is none. `fuel` bounds their number. -/
def cfgRecs : Nat → List Nat → Option (List CfgRec)
  | 0, ws => if ws.isEmpty then some [] else none
  | n + 1, ws =>
    if ws.isEmpty then some []
    else
      match cfgRec ws with
      | none => none
      | some (r, rest) => (cfgRecs n rest).map (r :: ·)

/-- The records of an image: its words 3 to LEN − 2. -/
def imageRecs (ws : List Word) : Option (List CfgRec) :=
  let body := ((ws.drop 3).dropLast).map BitVec.toNat
  cfgRecs body.length body

/-- The records of an image that has been accepted. -/
def imageRecsD (ws : List Word) : List CfgRec := (imageRecs ws).getD []

/-- The writes of a record: register, bits and values (R347, R348). -/
def CfgRec.writes (r : CfgRec) : List (Nat × Nat × Nat) :=
  match r with
  | .field a m v => [(a, m, v)]
  | .pair a m v => [(a, m % 2 ^ 24, v % 2 ^ 24), (a + 1, m / 2 ^ 24, v / 2 ^ 24)]
  | .block a vs => ((List.range vs.length).zip vs).map (fun p => (a + p.1, 0xFFFFFF, p.2))
  | .stack out n codes => (List.range 32).map (fun k =>
      (rOUT_LAYER_CTRL out k, if k < n then (0xF00000, 0x800000 + codes.getD k 0 * 2 ^ 20) else (0x800000, 0)))
  | _ => []

/-- The bits a record counts as writing (R348, R357). -/
def CfgRec.masks (r : CfgRec) : List (Nat × Nat) :=
  match r with
  | .stack out _ _ => (List.range 32).map (fun k => (rOUT_LAYER_CTRL out k, 0xF00000))
  | _ => r.writes.map (fun x => (x.1, x.2.1))

/-- The registers as records alone set them, from their reset values (R357). -/
def effRegs (rs : List CfgRec) : List (Nat × Reg) :=
  (rs.flatMap CfgRec.writes).foldl (fun l x =>
    let old := (spGet resetOf l x.1).toNat
    spSet resetOf l x.1 (BitVec.ofNat 24 ((old &&& (0xFFFFFF - x.2.1)) ||| (x.2.2 &&& x.2.1)))) []

/-! ### Checks (R352, R353) -/

/-- May a base record name the register at `a`, with `m` of its bits (R352)? -/
def baseAddrOk (a m : Nat) : Bool :=
  let b := blockOf a
  isRegAddr a &&
    (decide ((0x50 ≤ b ∧ b ≤ 0x57) ∨ (0x60 ≤ b ∧ b ≤ 0x67) ∨ (0x30 ≤ b ∧ b ≤ 0x37) ∨ b = 0 ∨ (0x0D ≤ b ∧ b ≤ 0x12) ∨ b = 8 ∨
        (0x14 ≤ b ∧ b ≤ 0x29) ∨ b = 6 ∨ b = 7) ||
      decide (rIRQC_SRC 1 ≤ a ∧ a ≤ rIRQC_SRC 510) || (idxOf (fun i => rTRS_CAD (i + 1)) 31 a).isSome ||
      a == rFLT_CTRL || a == rFLT_WINDOW || a == rUPD_CTRL || a == rSEC_CTRL) &&
    !(decide (0x50 ≤ b ∧ b ≤ 0x57) && a == rOUT_SIG_CTRL (b - 0x50) && natBit m 23)

/-- May an overlay record write bits `m` of the register at `a`: SH fields of an OUTn or LCCn block? -/
def overlayAddrOk (a m : Nat) : Bool :=
  let b := blockOf a
  isRegAddr a && decide ((0x50 ≤ b ∧ b ≤ 0x57) ∨ (0x60 ≤ b ∧ b ≤ 0x67)) &&
    (match rowOf a with
     | some (r, _) => decide (m &&& r.sh = m)
     | none => false)

/-- Is `a` the _LO register of a pair for records? The layer sets, which R569 frees of R10 alone, are pairs too (R347). -/
def isRecLo (a : Nat) : Bool := isPairLo a || (List.range 8).any (fun n => a == rOUT_KEY_MASK_LO n || a == rOUT_KEY_ARMED_LO n || a == rOUT_KEY_NR_LO n)
def isRecHi (a : Nat) : Bool := decide (0 < a) && isRecLo (a - 1)

/-- Does a record keep R352, and name no half of a pair? -/
def CfgRec.addrOk (r : CfgRec) (base : Bool) : Bool :=
  let ok (a m : Nat) : Bool := if base then baseAddrOk a m else overlayAddrOk a m
  match r with
  | .field a m _ => ok a m && !isRecLo a && !isRecHi a
  | .pair a m _ => isRecLo a && ok a (m % 2 ^ 24) && ok (a + 1) (m / 2 ^ 24)
  | .block a vs => (List.range vs.length).all (fun i =>
      ok (a + i) (if base then 0xFFFFFF else (rowOf (a + i)).elim 0xFFFFFF (fun x => x.1.known)))
  | _ => true

/-- A device whose registers are those that a configuration sets. -/
def confView (rs : List CfgRec) : Dev := let l := effRegs rs; { Dev.reset with regs := l, live := l }

/-- The cause, among those that concern the resulting configuration, that refuses it (R353); 0 when none does. Every LOW and every HIGH of a
slot in use counts as a layer of KIND TILE (R85). -/
def resultCause (rs : List CfgRec) : Nat :=
  let v := confView rs
  let kinds (n c : Nat) : Nat := ((List.range 32).filter (fun k => v.layEn n k && v.layKind n k == c)).length
  let tiles (n : Nat) : Nat := (((List.range 16).filter (v.slotUsed n)).flatMap (fun t => (v.tile n t).names)).length
  let lit := (List.range 8).filter (fun n => v.flag (rOUT_CTRL n) fOUT_CTRL_LIGHT)
  let sum (f : Nat → Nat) : Nat := (lit.map f).foldl (· + ·) 0
  if rs.any (fun r => match r with | .stack _ n _ => decide (32 < n) | _ => false) then 0x25
  else if (List.range 8).any (fun n => decide (16 < tiles n ∨ 16 < kinds n 1 ∨ 4 < kinds n 3 ∨ 4 < kinds n 2)) then 0x26
  else if 10 * 1048576 < sum (fun n => (v.storeWords n).1) ∨ 1048576 < sum (fun n => (v.storeWords n).2) ∨
      (List.range 8).any (fun n => !v.exactGood n (v.mode n)) then 0x28
  else 0

/-- Do the regions of a base overlap one another or leave main memory? -/
def regionsBad (rs : List CfgRec) : Bool :=
  let l := rs.filterMap (fun r => match r with | .region f c _ _ _ => some (f, c) | _ => none)
  l.any (fun p => decide (4096 < p.1 + p.2)) ||
    (List.range l.length).any (fun i => (List.range i).any (fun j =>
      let a := l.getD i (0, 0)
      let b := l.getD j (0, 0)
      !decide (a.1 + a.2 ≤ b.1 ∨ b.1 + b.2 ≤ a.1)))

/-- Do the STEWARD records break R351, or are there more than 32 TRIGGER records? -/
def stewardsBad (rs : List CfgRec) : Bool :=
  let st := rs.filterMap (fun r => match r with | .steward t vs => some (t, vs) | _ => none)
  let paired := st.any (fun p => p.1 == 1 && natBit (p.2.getD 0 0) 21)
  decide (32 < (rs.filter (fun r => match r with | .trigger _ _ => true | _ => false)).length) ||
    st.any (fun p => decide (p.1 ≠ 1 ∧ p.1 ≠ 2) || (p.1 == 2 && paired))

/-- A record that only a base may hold. -/
def CfgRec.baseOnly (r : CfgRec) : Bool :=
  match r with
  | .region _ _ _ _ _ | .trigger _ _ | .steward _ _ => true
  | _ => false

/-- The header of an image of `ws.length` words: KIND, ID and LEN (R345). -/
def headerBad (base : Bool) (id : Nat) (ws : List Word) : Bool :=
  let w0 := (ws.getD 0 0).toNat
  let n := ws.length
  decide (natBits w0 40 8 ≠ (if base then 1 else 2) ∨ natBits w0 34 6 ≠ (if base then 0 else id) ∨ natBits w0 24 10 ≠ 0 ∨
    natBits w0 0 24 ≠ n ∨ n < 4 ∨ (if base then 262144 else 4096) < n)

/-- The check word of an image, whose upper bits are zero. -/
def checkBad (ws : List Word) : Bool := decide ((ws.getLast?.getD 0).toNat ≠ crcWords ws.dropLast)

/-- The words of a header that must be zero in an overlay, or reserved. -/
def headerReserved (base : Bool) (ws : List Word) : Bool :=
  let w2 := (ws.getD 2 0).toNat
  if base then natBits w2 24 21 != 0 else w2 != 0

/-- The overlays a base names as defaults, in order (R345). -/
def imageDefaults (ws : List Word) : List Nat :=
  let w2 := (ws.getD 2 0).toNat
  (List.range (natBits w2 45 3)).map (fun i => natBits w2 (18 - 6 * i) 6)

/-- The cause that refuses an image (R353), the lowest of those that apply but for the header's; 0 when none does. `under` are the records
it comes on top of. -/
def Dev.imageCause (d : Dev) (base : Bool) (id : Nat) (under : List CfgRec) (ws : List Word) : Nat :=
  if headerBad base id ws then 0x21
  else if checkBad ws then 0x20
  else
    match imageRecs ws with
    | none => 0x22
    | some rs =>
      let res := resultCause (under ++ rs)
      if headerReserved base ws then 0x22
      else if !base && rs.any CfgRec.baseOnly then 0x23
      else if rs.any (fun r => !r.addrOk base) then 0x24
      else if res = 0x25 ∨ res = 0x26 then res
      else if base && regionsBad rs then 0x27
      else if res ≠ 0 then res
      else if base && stewardsBad rs then 0x29
      else if base && (decide (4 < natBits (ws.getD 2 0).toNat 45 3) ||
        (imageDefaults ws).any (fun o => (assocGet d.cfg.store o).isNone)) then 0x2B
      else 0

/-- The records of the base in force and of the active overlays, in order, without overlay `id`. -/
def Dev.confRecs (d : Dev) (id : Nat) : List CfgRec :=
  imageRecsD d.cfg.base ++ (d.cfg.active.filter (fun p => p.1 != id)).flatMap (fun p => imageRecsD p.2)

/-! ### Writing records -/

/-- One register written under a mask, the old value being the one read (R347). -/
def Dev.maskWrite (d : Dev) (a m v : Nat) : Dev :=
  d.regWrite a ((d.regVal a &&& (0xFFFFFF - m)) ||| (v &&& m)) true

/-- A record written to its registers. -/
def Dev.recWrite (d : Dev) (r : CfgRec) : Dev := r.writes.foldl (fun d x => d.maskWrite x.1 x.2.1 x.2.2) d

/-- The outputs that a list of registers, with the bits written, belongs to (R358). -/
def touchedOuts (as : List (Nat × Nat)) : List Nat := (List.range 8).filter (fun n => as.any (fun x => inShadow n x.1))

/-- The layers that a write of bits `m` of the register at `a` concerns, as the shadow maps them: of the planes and the span layers, those
whose fields it writes (R358). -/
def Dev.layersOf (v : Dev) (n a m : Nat) : List Nat :=
  let mine (f : Nat → Option Nat) : List Nat := ((List.range 4).filter (fun i => natBits m (6 * i) 6 != 0)).filterMap f
  if rOUT_LAYER_CTRL n 0 ≤ a ∧ a < rOUT_LAYER_CTRL n 0 + 1024 then [(a - rOUT_LAYER_CTRL n 0) / 32]
  else if rOUT_TL_CTRL n 0 ≤ a ∧ a < rOUT_TL_CTRL n 0 + 512 then
    let t := (a - rOUT_TL_CTRL n 0) / 32
    if v.slotUsed n t then (v.tile n t).names else []
  else if a = rOUT_SPR_PLANE n then mine (v.planeLayer n)
  else if a = rOUT_SPAN_LAYERS n then mine (v.spanLayer n)
  else []

/-- The staging of writes to output `n` begun: NR_OVL is held, and the layers to arm are remembered (R358). -/
def Dev.stageOut (d : Dev) (as : List (Nat × Nat)) (n : Nat) : Dev :=
  let v := d.shadowView
  let ks := (as.filter (fun x => inShadow n x.1)).flatMap (fun x => v.layersOf n x.1 x.2)
  let mask := ks.foldl (fun m k => m ||| 2 ^ k) 0
  let old := (assocGet d.cfg.staging n).getD 0
  (d.modOutp n (fun o => { o with ovl := true })).modCfg (fun c => { c with staging := spInsert c.staging n (old ||| mask) })

/-- The outputs of an awaited apply that has been shown: the COMMIT_SEQ has moved on since the staging ended, or the output is dark. -/
def Dev.waitOpen (d : Dev) (x : Nat × Nat) : Bool :=
  x.2 == 0 || (d.lit x.1 && d.rd (rOUT_COMMIT_SEQ x.1) + 1 == x.2)

/-- Awaited applies that are shown on every output complete, each with the reply owed to it (R358): of two of one overlay, the earlier
first. -/
def Dev.ovlWaits (d : Dev) : Dev :=
  let ws := d.cfg.waits.map (fun w => (w.1, w.2.filter d.waitOpen))
  let d := d.modCfg (fun c => { c with waits := ws.filter (fun w => !w.2.isEmpty) })
  (ws.filter (fun w => w.2.isEmpty)).foldl (fun d w => d.completeFirst 4 w.1) d

/-- Staging ends: each touched output is armed (R358). -/
def Dev.stagingEnd (d : Dev) : Dev :=
  if d.cfg.staging.isEmpty && d.cfg.waits.isEmpty then d
  else
    let d' := d.cfg.staging.foldl (fun (d : Dev) p =>
      let d := (d.modOutp p.1 (fun o => { o with ovl := false })).keyArm p.1 p.2
      d.modCfg (fun c => { c with waits := c.waits.map (fun w =>
        (w.1, w.2.map (fun x => if x.1 = p.1 ∧ x.2 = 0 then (x.1, d.rd (rOUT_COMMIT_SEQ p.1) + 1) else x))) })) d
    (d'.modCfg (fun c => { c with staging := [] })).ovlWaits

/-! ### Applying and removing overlays (R356 to R359) -/

/-- Overlay `id` applied: the status and DETAIL of the reply. With `wait`, its completion is noted. -/
def Dev.ovlApply (d : Dev) (id : Nat) (wait : Bool) : Nat × Nat × Dev :=
  match assocGet d.cfg.store id with
  | none => (0x408, 0, d)
  | some ws =>
    let isActive := d.cfg.active.any (fun p => p.1 == id)
    let rs := imageRecsD ws
    let cause := resultCause (d.confRecs id ++ rs)
    if !isActive ∧ 4 ≤ d.cfg.active.length then (0x305, 0, d)
    else if cause ≠ 0 then (0x405, cause, d)
    else
      let d := d.modCfg (fun c => { c with active := c.active.filter (fun p => p.1 != id) ++ [(id, ws)] })
      let d := rs.foldl Dev.recWrite d
      let as := rs.flatMap CfgRec.masks
      let outs := touchedOuts as
      let d := outs.foldl (fun d n => d.stageOut as n) d
      (0, 0, if wait then d.modCfg (fun c => { c with waits := c.waits ++ [(id, outs.map (fun n => (n, 0)))] }) else d)

/-- The bits that records write, by register in rising order, pairs whole. -/
def maskList (rs : List CfgRec) : List (Nat × Nat) :=
  let add (l : List (Nat × Nat)) (x : Nat × Nat) : List (Nat × Nat) := spInsert l x.1 (x.2 ||| (assocGet l x.1).getD 0)
  (rs.flatMap CfgRec.masks).foldl (fun l x =>
    let l := add l x
    if isPairLo x.1 then add l (x.1 + 1, 0) else if isPairHi x.1 then add l (x.1 - 1, 0) else l) []

/-- Overlay `id` removed: the bits it writes take what the base and the remaining overlays give them, or their reset values. -/
def Dev.ovlRemove (d : Dev) (id : Nat) : Dev :=
  match assocGet d.cfg.active id with
  | none => d
  | some ws =>
    let ms := maskList (imageRecsD ws)
    let eff := effRegs (d.confRecs id)
    let d := d.modCfg (fun c => { c with active := c.active.filter (fun p => p.1 != id) })
    let d := ms.foldl (fun (d : Dev) x => d.maskWrite x.1 x.2 (spGet resetOf eff x.1).toNat) d
    (touchedOuts ms).foldl (fun d n => d.stageOut ms n) d

/-- An overlay action of a trigger or the trestle: a failure is journalled (R360). -/
def Dev.ovlAction (d : Dev) (id : Nat) (apply : Bool) : Dev :=
  if apply then
    let (st, _, d) := d.ovlApply id false
    if st = 0 then d else d.journalDev 0x22 st (BitVec.ofNat 48 id)
  else d.ovlRemove id

/-! ### Triggers (R350, R360) -/

/-- The TRIGGER records of the base in force. -/
def Dev.triggers (d : Dev) : List (Nat × Nat) :=
  (imageRecsD d.cfg.base).filterMap (fun r => match r with | .trigger w0 w1 => some (w0, w1) | _ => none)

/-- Is the condition of trigger `i` asserted now? -/
def Dev.trigNow (d : Dev) (i : Nat) : Bool :=
  let w0 := (d.triggers.getD i (0, 0)).1
  if natBits w0 42 2 = 0 then d.padLevel (natBits w0 16 7) == natBit w0 23 else (d.cfg.trig.getD i (false, false)).2

/-- The declared state of trigger `i` written. -/
def Dev.setTrig (d : Dev) (i : Nat) (v : Bool) : Dev :=
  d.modCfg (fun c => { c with trig := c.trig.set i (v, (c.trig.getD i (false, false)).2) })

/-- The condition of trigger `i` has held for its debounce time: the change is declared, and the action taken. -/
def Dev.trigDeclare (d : Dev) (i : Nat) : Dev :=
  let now := d.trigNow i
  if d.triggers.length ≤ i ∨ d.pwr.stage ≠ 3 ∨ (d.cfg.trig.getD i (false, false)).1 = now then d
  else
    let w0 := (d.triggers.getD i (0, 0)).1
    let act := natBits w0 40 2
    let id := natBits w0 34 6
    let d := d.setTrig i now
    if now then d.ovlAction id (act != 1)
    else if act = 2 then d.ovlAction id false
    else d

/-- A CAN FD frame received by controller `ctl`: the conditions of its identifier follow (R350). -/
def Dev.canFrame (d : Dev) (ctl : Nat) (ide : Bool) (id : Nat) (data : List (BitVec 8)) : Dev :=
  let ts := d.triggers
  d.modCfg (fun c => { c with trig := ((List.range ts.length).zip ts).map (fun p =>
    let (i, w0, w1) := p
    let old := c.trig.getD i (false, false)
    if natBits w0 42 2 = ctl + 1 ∧ natBit w1 18 = ide ∧ natBits w1 19 29 = id then
      let hit := match data[natBits w1 12 6]? with
        | some b => b.toNat &&& natBits w0 8 8 == natBits w0 0 8
        | none => false
      (old.1, hit)
    else old) })

/-! ### Buffers (R361 to R365) -/

/-- Is slab `s` free? -/
def Dev.slabFree (d : Dev) (s : Nat) : Bool :=
  !d.cfg.regions.any (fun p => decide (p.1 ≤ s ∧ s < p.1 + p.2)) &&
    !d.cfg.bufs.any (fun b => decide (b.first ≤ s ∧ s < b.first + b.count)) && !d.cfg.scrub.contains s

/-- The lowest run of `n` free slabs from `s` on; `run` free slabs end before `s`. -/
def Dev.freeRun (d : Dev) (n run s : Nat) : Nat → Option Nat
  | 0 => none
  | k + 1 =>
    if d.slabFree s then (if run + 1 = n then some (s + 1 - n) else d.freeRun n (run + 1) (s + 1) k)
    else d.freeRun n 0 (s + 1) k

/-- The generation of a slab (R362). -/
def Dev.slabGen (d : Dev) (s : Nat) : Nat := (assocGet d.cfg.gens s).getD 1

/-- BUF.ALLOC: the handle and base of the buffer. -/
def Dev.bufAlloc (d : Dev) (n owner : Nat) : Option (Nat × Dev) :=
  (d.freeRun n 0 0 4096).map (fun s =>
    (s * 4096 + d.slabGen s, d.modCfg (fun c => { c with bufs := ⟨s, n, owner, false⟩ :: c.bufs })))

/-- The buffer a handle names, or the region. -/
def Dev.bufOf (d : Dev) (h : Nat) : Option Buf :=
  (d.cfg.bufs.find? (fun b => b.first == h / 4096)).bind (fun b => if h % 4096 = d.slabGen b.first then some b else none)
def Dev.regionOf (d : Dev) (h : Nat) : Option (Nat × Nat) :=
  if h % 4096 = 1 then d.cfg.regions.find? (fun p => p.1 == h / 4096) else none

/-- A buffer released: its slabs are scrubbed, and the generation steps. -/
def Dev.bufRelease (d : Dev) (b : Buf) : Dev :=
  let g := d.slabGen b.first
  d.modCfg (fun c => { c with
    bufs := c.bufs.filter (fun x => x.first != b.first)
    gens := spInsert c.gens b.first (if g = 4095 then 1 else g + 1)
    scrub := c.scrub ++ (List.range b.count).map (b.first + ·) })

/-- Every word of slabs `first` to `first + count − 1` zero. -/
def Dev.zeroSlabs (d : Dev) (first count : Nat) : Dev :=
  let out (k : Nat) : Bool :=
    let s := d.physAddr (k / 65536) (k % 65536) / 4096
    !decide (first ≤ s ∧ s < first + count)
  { d with mem := { d.mem with main := spKeep out d.mem.main, mainErr := spKeep out d.mem.mainErr } }

/-- A freed slab has been written to zero and is free again (R361). -/
def Dev.slabScrubbed (d : Dev) (s : Nat) : Dev :=
  if d.cfg.scrub.contains s then (d.zeroSlabs s 1).modCfg (fun c => { c with scrub := c.scrub.filter (· != s) }) else d

/-! ### The start (R349, R351, R354) -/

/-- A word of the configuration cache that a REGION copy found uncorrectable: the read is counted and reported, at an address that the spec does
not give the cache, and T0 writes a journal record (R349, R372). -/
def Dev.cacheUe (d : Dev) : Dev :=
  let (o, d) := d.takeNat
  (d.noteDdrUe (o % 2 ^ 31)).journalUnit 1 0x14 0 1 0x0D

/-- The words that a REGION copy takes from the image: zero for each that the cache in LPDDR5X no longer holds correctably. Which those are is free
(log entry 35). -/
def Dev.cacheRead (d : Dev) (ws : List Word) : List Word × Dev :=
  let (bad, d) := d.takeNat
  (((List.range ws.length).zip ws).map (fun p => if natBit bad p.1 then 0 else p.2),
    ((List.range ws.length).filter (natBit bad)).foldl (fun d _ => d.cacheUe) d)

/-- The record that a copy for target `t` serves: the latest whose LOAD was accepted; one refused waits for nothing (R351). -/
def Dev.stewWaits (d : Dev) (t ctrl : Nat) : Dev :=
  let on := (assocGet d.loads t).isSome
  d.modCfg (fun x => { x with stews := x.stews.filter (·.1 != t) ++ (if on then [(t, ctrl)] else []) })

/-- What a record of the base does when the base is applied: its writes, its region filled, its steward loaded. -/
def Dev.baseRec (img : List Word) (d : Dev) (r : CfgRec) : Dev :=
  match r with
  | .region f c fill src len =>
    let d := (d.modCfg (fun x => { x with regions := x.regions ++ [(f, c)] })).zeroSlabs f c
    if fill = 1 then
      let (ws, d) := d.cacheRead (((img.drop src).take len).take (c * 4096))
      d.mainPutRun 0x50 (f * 4096) ws
    else d
  | .steward t vs =>
    let d := d.regWrite (rSEC_T_GRANT t) (vs.getD 1 0) true
    let d := d.regWrite (rSEC_T_WIN t) (vs.getD 2 0) true
    let d := d.regWrite (rSEC_T_LOAD_BASE t) (vs.getD 3 0) true
    let d := d.regWrite (rSEC_T_LOAD_LEN t) (vs.getD 4 0) true
    let d := d.regWrite (rSEC_T_RING t) (vs.getD 5 0) true
    let ctrl := vs.getD 0 0
    let d := d.regWrite (rSEC_T_CTRL t) (natSetBits (natSetBits ctrl 23 1 0) 20 1 1) true
    d.stewWaits t ctrl
  | _ => d.recWrite r

/-- The copy for a STEWARD record has ended: CTRL is written as given once it has completed (R351), and a start that waited on a copy that was
refused or met an uncorrectable word does not happen (R372). -/
def Dev.stewGiven (d : Dev) (t : Nat) : Dev :=
  match assocGet d.cfg.stews t with
  | some ctrl =>
    if (assocGet d.loads t).isSome then d
    else
      let d := d.modCfg (fun x => { x with stews := x.stews.filter (fun p => p.1 != t) })
      if d.flag (rSEC_T_STATUS t) fSEC_T_STATUS_LOADED then d.regWrite (rSEC_T_CTRL t) ctrl true else d
  | none => d

/-- The four registers that T0 writes from the base at every restart (R352). -/
def Dev.baseAgain (d : Dev) : Dev :=
  let own (x : Nat × Nat × Nat) : Bool := x.1 == rFLT_CTRL || x.1 == rFLT_WINDOW || x.1 == rUPD_CTRL || x.1 == rSEC_CTRL
  (((imageRecsD d.cfg.base).flatMap CfgRec.writes).filter own).foldl (fun (d : Dev) x => d.maskWrite x.1 x.2.1 x.2.2) d

/-- T0 applies the configuration at start-up (R354); at a restart it only writes the four registers again. -/
def Dev.cfgStart (d : Dev) : Dev :=
  if d.pwr.stage ≠ 3 then d
  else if d.cfg.applied then d.baseAgain
  else
    let c1 := d.cfg.copies.getD d.cfg.newer []
    let c2 := d.cfg.copies.getD (1 - d.cfg.newer) []
    let e1 := d.imageCause true 0 [] c1
    let d := d.modCfg (fun c => { c with applied := true })
    if e1 ≠ 0 ∧ d.imageCause true 0 [] c2 ≠ 0 then d.journalDev 0x21 e1 0
    else
      let img := if e1 = 0 then c1 else c2
      let rs := imageRecsD img
      let d := d.modCfg (fun c => { c with base := img, used := some (if e1 = 0 then c.newer else 1 - c.newer) })
      let d := rs.foldl (Dev.baseRec img) d
      let d := d.modCfg (fun c => { c with trig := d.triggers.map (fun _ => (false, false)) })
      let d := (imageDefaults img).foldl (fun d o => d.ovlAction o true) d
      let d := (List.range d.triggers.length).foldl (fun (d : Dev) i =>
        if natBits (d.triggers.getD i (0, 0)).1 40 2 = 2 then d.trigDeclare i else d) d
      (List.range 8).foldl (fun (d : Dev) n =>
        let v := d.shadowView
        d.keyArm n (((List.range 32).filter (v.layEn n)).foldl (fun m k => m ||| 2 ^ k) 0)) d

/-! ### Writing the store (R355) -/

/-- An image written to the store and the cache after it has passed its check. Whether the read-back matches is a free choice; where it does
not, the former content stays in use. -/
def Dev.cfgWrite (d : Dev) (base : Bool) (id : Nat) (ws : List Word) : Nat × Nat × Dev :=
  let cause := d.imageCause base id (if base then [] else d.confRecs id) ws
  if cause ≠ 0 then (0x405, cause, d)
  else
    let (bad, d) := d.takeBool
    if bad then (0x501, 0, d)
    else if base then
      let k := 1 - d.cfg.used.getD d.cfg.newer
      (0, 0, d.modCfg (fun c => { c with copies := c.copies.set k ws, newer := k }))
    else (0, 0, d.modCfg (fun c => { c with store := spInsert c.store id ws }))

/-- An overlay slot erased (R355). -/
def Dev.cfgErase (d : Dev) (id : Nat) : Nat × Nat × Dev :=
  if d.cfg.active.any (fun p => p.1 == id) then (0x405, 0x2A, d)
  else if (assocGet d.cfg.store id).isNone then (0, 0, d)
  else (0, 0, d.modCfg (fun c => { c with store := spErase c.store id }))

/-- PMU_BOOT_MS.LIT once the last output that the base lights is lit (R478). -/
def Dev.bootLit (d : Dev) : Dev :=
  let v := confView (imageRecsD d.cfg.base)
  let outs := (List.range 8).filter (fun n => v.flag (rOUT_CTRL n) fOUT_CTRL_LIGHT)
  if d.fld rPMU_BOOT_MS fPMU_BOOT_MS_LIT = 0 ∧ !outs.isEmpty ∧ outs.all d.lit then
    d.setFld rPMU_BOOT_MS fPMU_BOOT_MS_LIT (min ((d.btu.clocks - d.pwr.pg) / 1000000) 4095)
  else d

/-! ### Commands -/

def execConfigStartApply (s : State) := s.upd Dev.cfgStart

def execStewardLoadDone (t : Fin 2) (s : State) := s.upd (fun d => (d.secLoadDone (t.val + 1)).stewGiven (t.val + 1))

def execCanFdFrame (ctl : Fin 2) (ide : Bool) (id : BitVec 29) (data : List (BitVec 8)) (s : State) :=
  s.upd (·.canFrame ctl ide id.toNat data)

def execTriggerDeclared (i : Fin 32) (s : State) := s.upd (·.trigDeclare i)

def execSlabScrubDone (slab : BitVec 12) (s : State) := s.upd (·.slabScrubbed slab.toNat)

/-- A pad's synchronised level changes (R513). -/
def execGpioInputChange (pin : Fin 96) (level : Bool) (s : State) := s.upd (·.pinChange pin level)

end Sys2Proof.Machine
end

