-- ==== Sys2Proof/Machine/Silis.lean ====
section
/-! DEFINITION. The Silis instruction set on one core's own state (R262 to R282): slots and opcodes, results, the stacks and their spill
areas, where execution goes next. What reaches the device is in SilisRun.lean. -/

namespace Sys2Proof.Machine

/-! ### Slots and opcodes (R262 to R265, R274) -/

/-- An instruction's operand slots, its operands and results on the data and the return stack, and its cycles (R274; a memory
instruction's come from its target, R275). -/
structure OpInfo where
  nops : Nat
  dpop : Nat
  dpush : Nat
  rpop : Nat
  rpush : Nat
  cyc : Nat
deriving DecidableEq, Repr

/-! The opcodes of R274 by class. -/

def opRows0 : List (Nat × OpInfo) := [
  (0x000, ⟨0, 0, 0, 0, 0, 1⟩), (0x001, ⟨0, 0, 0, 0, 0, 4⟩), (0x002, ⟨0, 0, 0, 0, 0, 2⟩), (0x003, ⟨0, 0, 0, 0, 0, 1⟩),
  (0x004, ⟨0, 0, 0, 0, 0, 1⟩), (0x005, ⟨0, 0, 0, 0, 0, 1⟩), (0x006, ⟨0, 0, 0, 0, 0, 1⟩)]

def opRows1 : List (Nat × OpInfo) := [
  (0x100, ⟨0, 1, 2, 0, 0, 1⟩), (0x101, ⟨0, 1, 0, 0, 0, 1⟩), (0x102, ⟨0, 2, 2, 0, 0, 1⟩), (0x103, ⟨0, 2, 3, 0, 0, 1⟩),
  (0x104, ⟨0, 3, 3, 0, 0, 1⟩), (0x105, ⟨0, 2, 1, 0, 0, 1⟩), (0x106, ⟨0, 2, 3, 0, 0, 1⟩), (0x107, ⟨0, 1, 0, 0, 1, 1⟩),
  (0x108, ⟨0, 0, 1, 1, 0, 1⟩), (0x109, ⟨0, 0, 1, 1, 1, 1⟩), (0x10A, ⟨0, 0, 0, 1, 0, 1⟩)]

def opRows2 : List (Nat × OpInfo) := [
  (0x200, ⟨0, 2, 1, 0, 0, 1⟩), (0x201, ⟨0, 2, 1, 0, 0, 1⟩), (0x202, ⟨0, 2, 1, 0, 0, 1⟩), (0x203, ⟨0, 2, 1, 0, 0, 1⟩),
  (0x204, ⟨0, 2, 1, 0, 0, 1⟩), (0x205, ⟨0, 1, 1, 0, 0, 1⟩), (0x206, ⟨0, 1, 1, 0, 0, 1⟩), (0x207, ⟨0, 1, 1, 0, 0, 1⟩),
  (0x208, ⟨0, 1, 1, 0, 0, 1⟩), (0x209, ⟨0, 2, 1, 0, 0, 1⟩), (0x20A, ⟨0, 2, 1, 0, 0, 1⟩), (0x20B, ⟨0, 2, 1, 0, 0, 1⟩),
  (0x20C, ⟨0, 2, 1, 0, 0, 1⟩), (0x20D, ⟨0, 2, 1, 0, 0, 1⟩), (0x20E, ⟨0, 1, 1, 0, 0, 1⟩)]

def opRows3 : List (Nat × OpInfo) := [
  (0x300, ⟨0, 2, 1, 0, 0, 3⟩), (0x301, ⟨0, 2, 1, 0, 0, 3⟩), (0x302, ⟨0, 2, 1, 0, 0, 3⟩), (0x303, ⟨0, 2, 1, 0, 0, 3⟩),
  (0x304, ⟨0, 2, 1, 0, 0, 50⟩), (0x305, ⟨0, 2, 1, 0, 0, 50⟩), (0x306, ⟨0, 2, 1, 0, 0, 50⟩), (0x307, ⟨0, 2, 1, 0, 0, 50⟩),
  (0x308, ⟨0, 2, 1, 0, 0, 74⟩)]

def opRows4 : List (Nat × OpInfo) := [
  (0x400, ⟨0, 2, 1, 0, 0, 1⟩), (0x401, ⟨0, 2, 1, 0, 0, 1⟩), (0x402, ⟨0, 2, 1, 0, 0, 1⟩), (0x403, ⟨0, 2, 1, 0, 0, 1⟩),
  (0x404, ⟨0, 2, 1, 0, 0, 1⟩), (0x405, ⟨0, 2, 1, 0, 0, 1⟩)]

def opRows5 : List (Nat × OpInfo) := [
  (0x500, ⟨0, 1, 1, 0, 0, 0⟩), (0x501, ⟨0, 2, 0, 0, 0, 0⟩), (0x502, ⟨0, 1, 1, 0, 0, 0⟩), (0x503, ⟨0, 2, 0, 0, 0, 0⟩),
  (0x504, ⟨0, 1, 2, 0, 0, 0⟩), (0x505, ⟨0, 2, 1, 0, 0, 0⟩)]

def opRows6 : List (Nat × OpInfo) := [
  (0x600, ⟨1, 0, 1, 0, 0, 1⟩), (0x601, ⟨2, 0, 1, 0, 0, 1⟩), (0x602, ⟨0, 0, 1, 0, 0, 1⟩)]

def opRows7 : List (Nat × OpInfo) := [
  (0x700, ⟨1, 2, 0, 0, 0, 1⟩), (0x701, ⟨1, 2, 0, 0, 0, 1⟩), (0x702, ⟨1, 2, 0, 0, 0, 1⟩), (0x703, ⟨1, 2, 0, 0, 0, 1⟩),
  (0x704, ⟨1, 2, 0, 0, 0, 1⟩), (0x705, ⟨1, 2, 0, 0, 0, 1⟩), (0x708, ⟨1, 0, 0, 0, 0, 2⟩), (0x709, ⟨1, 0, 0, 0, 1, 2⟩),
  (0x70A, ⟨0, 1, 0, 0, 0, 2⟩), (0x70B, ⟨0, 1, 0, 0, 1, 2⟩), (0x70C, ⟨0, 0, 0, 1, 0, 2⟩)]

def opRows8 : List (Nat × OpInfo) := [
  (0x800, ⟨1, 1, 0, 0, 0, 1⟩), (0x801, ⟨0, 0, 0, 0, 3, 3⟩), (0x802, ⟨0, 0, 0, 3, 0, 3⟩)]

/-- What an instruction slot holds; none for a reserved class or function (R263, R265). -/
def opInfo (code : Nat) : Option OpInfo :=
  match code / 256 with
  | 0 => assocGet opRows0 code
  | 1 => assocGet opRows1 code
  | 2 => assocGet opRows2 code
  | 3 => assocGet opRows3 code
  | 4 => assocGet opRows4 code
  | 5 => assocGet opRows5 code
  | 6 => assocGet opRows6 code
  | 7 => assocGet opRows7 code
  | 8 => assocGet opRows8 code
  | 9 =>
    if code < 0x90F then some ⟨0, 0, 1, 0, 0, 1⟩
    else if 0x910 ≤ code ∧ code < 0x91F then some ⟨0, 1, 0, 0, 0, 1⟩
    else none
  | _ => none

/-- Slot `s` of an instruction word. -/
def slotOf (w : Word) (s : Nat) : Nat := natBits w.toNat (36 - 12 * s) 12

/-- The instruction slots of a word from slot `s` on. Behind a slot that is ILLEGAL a handler goes on one slot further (R286). -/
def instrSlots (w : Word) : Nat → Nat → List Nat
  | 0, _ => []
  | n + 1, s =>
    if 3 < s then []
    else
      match opInfo (slotOf w s) with
      | none => instrSlots w n (s + 1)
      | some i => s :: instrSlots w n (if 3 < s + i.nops then s + 1 else s + 1 + i.nops)

/-- The LITW instructions of a word that stand before slot `s`: as many literal words follow it (R264). -/
def litsBefore (w : Word) (s : Nat) : Nat :=
  ((instrSlots w 4 0).filter (fun k => decide (k < s) && slotOf w k == 0x602)).length

/-- Does the instruction at slot `s` raise ILLEGAL for where it stands or what it is given (R265)? `top` is the operand of SETS. -/
def Core.illegal (x : Core) (w : Word) (s code : Nat) (i : OpInfo) (top : Word) : Bool :=
  let cls := code / 256
  decide (3 < s + i.nops + (if cls = 7 then 1 else 0)) ||
    (x.delay.isSome && decide (6 ≤ cls ∧ cls ≤ 8 ∨ (1 ≤ code ∧ code ≤ 3))) ||
    (code == 0x800 && slotOf w (s + 1) == 0) || code == 0x910 || (code == 0x912 && decide (2 ≤ top.toNat % 4))

/-- Is an instruction privileged (R283)? -/
def privileged (code : Nat) : Bool :=
  decide (2 ≤ code ∧ code ≤ 5) || (decide (0x910 ≤ code ∧ code ≤ 0x91E) && ! [0x911, 0x917, 0x918, 0x919].contains code)

/-! ### Results (R264, R273) -/

/-- A truth value as a flag word. -/
def flagWord (b : Bool) : Word := if b then 1 else 0

/-- The relation of a compare or a conditional branch: 0 EQ, 1 NE, 2 LT, 3 GE, 4 LTU, 5 GEU. -/
def relHolds (k : Nat) (a b : Word) : Bool :=
  if k = 0 then a == b
  else if k = 1 then a != b
  else if k = 2 then a.slt b
  else if k = 3 then !a.slt b
  else if k = 4 then a.ult b
  else !a.ult b

/-- A function of the two topmost operands, the top one last. -/
def binop (vs : List Word) (f : Word → Word → Word) : List Word :=
  match vs with
  | b :: a :: _ => [f a b]
  | _ => []

/-- A function of the topmost operand. -/
def unop (vs : List Word) (f : Word → Word) : List Word :=
  match vs with
  | a :: _ => [f a]
  | _ => []

/-- The stack instructions of class 1 that stay on the data stack, operands and results top first. -/
def stackRes (code : Nat) (vs : List Word) : List Word :=
  match code, vs with
  | 0x100, [a] => [a, a]
  | 0x102, [b, a] => [a, b]
  | 0x103, [b, a] => [a, b, a]
  | 0x104, [c, b, a] => [a, c, b]
  | 0x105, [b, _] => [b]
  | 0x106, [b, a] => [b, a, b]
  | _, _ => []

/-- Class 2: arithmetic and logic. -/
def arithRes (code : Nat) (vs : List Word) : List Word :=
  match code with
  | 0x200 => binop vs (fun a b => a + b)
  | 0x201 => binop vs (fun a b => a - b)
  | 0x202 => binop vs (fun a b => a &&& b)
  | 0x203 => binop vs (fun a b => a ||| b)
  | 0x204 => binop vs (fun a b => a ^^^ b)
  | 0x205 => unop vs (fun a => ~~~a)
  | 0x206 => unop vs (fun a => -a)
  | 0x207 => unop vs (fun a => a + 1)
  | 0x208 => unop vs (fun a => a - 1)
  | 0x209 => binop vs (fun a b => a <<< (b.toNat % 64))
  | 0x20A => binop vs (fun a b => a >>> (b.toNat % 64))
  | 0x20B => binop vs (fun a b => a.sshiftRight (b.toNat % 64))
  | 0x20C => binop vs (fun a b => if b.slt a then b else a)
  | 0x20D => binop vs (fun a b => if a.slt b then b else a)
  | 0x20E => unop vs (fun a => if a.msb then -a else a)
  | _ => []

/-- Class 3: multiply and divide, the divisor not zero. -/
def mulRes (code : Nat) (vs : List Word) : List Word :=
  match code with
  | 0x300 => binop vs (fun a b => a * b)
  | 0x301 => binop vs (fun a b => BitVec.ofInt 48 (a.toInt * b.toInt / 2 ^ 48))
  | 0x302 => binop vs (fun a b => BitVec.ofNat 48 (a.toNat * b.toNat / 2 ^ 48))
  | 0x303 => binop vs (fun a b => BitVec.ofInt 48 (a.toInt * b.toInt / 2 ^ 24))
  | 0x304 => binop vs (fun a b => BitVec.ofInt 48 (a.toInt.tdiv b.toInt))
  | 0x305 => binop vs (fun a b => BitVec.ofNat 48 (a.toNat / b.toNat))
  | 0x306 => binop vs (fun a b => BitVec.ofInt 48 (a.toInt.tmod b.toInt))
  | 0x307 => binop vs (fun a b => BitVec.ofNat 48 (a.toNat % b.toNat))
  | 0x308 => binop vs (fun a b => BitVec.ofInt 48 ((a.toInt * 2 ^ 24).tdiv b.toInt))
  | _ => []

/-- Does the instruction divide by zero (R273)? -/
def divZero (code : Nat) (vs : List Word) : Bool := decide (0x304 ≤ code ∧ code ≤ 0x308) && vs.headD 1 == 0

/-- The data-stack results of classes 1 to 4 and of LIT12 and LIT24, from the operands and the word. -/
def dataRes (code : Nat) (w : Word) (s : Nat) (vs : List Word) : List Word :=
  match code / 256 with
  | 1 => stackRes code vs
  | 2 => arithRes code vs
  | 3 => mulRes code vs
  | 4 => binop vs (fun a b => flagWord (relHolds (code - 0x400) a b))
  | 6 =>
    if code = 0x600 then [(BitVec.ofNat 12 (slotOf w (s + 1))).signExtend 48]
    else [(BitVec.ofNat 24 (slotOf w (s + 1) * 4096 + slotOf w (s + 2))).signExtend 48]
  | _ => []

/-! ### The stacks (R268 to R270) -/

/-- What a stack needs before an instruction: the entries filled and spilled, and whether that traps or leaves local memory. -/
structure Plan where
  fills : Nat
  spills : Nat
  trap : Bool
  bus : Bool
deriving DecidableEq, Repr

/-- The plan for a stack of `len` cached entries of at most `cap`, spill pointer `sp` and bounds `lim`, in a local memory of `size` words.
`all` spills every entry (R270). -/
def stackPlan (size len sp lim pop push cap : Nat) (all : Bool) : Plan :=
  let fills := pop - len
  let spills := if all then len else (len + fills + push) - pop - cap
  let lo := lim % 65536
  let hi := lim / 65536 % 65536
  let back (i : Nat) : Nat := (sp + 65536 - i) % 65536
  let base := back fills
  ⟨fills, spills,
    (List.range fills).any (fun i => back i == lo) || (List.range spills).any (fun i => (base + i) % 65536 == hi),
    (List.range fills).any (fun i => decide (size ≤ back (i + 1))) ||
      (List.range spills).any (fun i => decide (size ≤ (base + i) % 65536))⟩

/-- A stack's entries once the plan's fills are made; `lw` reads local memory. -/
def filled (st : List Word) (sp fills : Nat) (lw : Nat → Word) : List Word :=
  st ++ (List.range fills).map (fun i => lw ((sp + 65536 - 1 - i) % 65536))

/-- The spill pointer after the plan. -/
def Plan.sp (p : Plan) (sp : Nat) : Nat := (sp + 65536 - p.fills + p.spills) % 65536

/-- The entries spilled, oldest first, with their local addresses. -/
def Plan.out (p : Plan) (st : List Word) (sp : Nat) : List (Nat × Word) :=
  let base := sp + 65536 - p.fills
  ((List.range p.spills).zip (st.drop (st.length - p.spills)).reverse).map (fun x => ((base + x.1) % 65536, x.2))

/-- The entries that stay cached, `pop` operands taken and the results pushed. -/
def Plan.rest (p : Plan) (st : List Word) (pop : Nat) (res : List Word) : List Word :=
  res ++ (st.take (st.length - p.spills)).drop pop

/-! ### Where execution goes (R264, R276 to R278) -/

/-- The resolved next address after word `w` at `x.pc`, with the loop decision and the skips of empty loops that are left (R276, R277). -/
def Core.seqNext (x : Core) (w : Word) : Nat × Nat × List (Nat × Nat) :=
  let n := (x.pc + 1 + litsBefore w 4) % 2 ^ 40
  match assocGet x.skip x.pc with
  | some t => (t, x.lcnt, x.skip.filter (·.1 != x.pc))
  | none =>
    if x.lcnt ≠ 0 ∧ x.lbeg ≤ x.pc ∧ x.pc ≤ x.lend ∧ x.lend < n then
      (if x.lcnt = 1 then n else x.lbeg, x.lcnt - 1, x.skip)
    else (n, x.lcnt, x.skip)

/-- Slot `slot` of word `pc` is next. A word entered at its first slot has executed no LOOP. -/
def Core.enterWord (x : Core) (pc slot : Nat) : Core :=
  { x with pc := pc, slot := slot, cur := none, skip := if slot = 0 then x.skip.filter (·.1 != pc) else x.skip }

/-- Execution goes to slot address `sa`: another word is fetched. -/
def Core.goto (x : Core) (sa : Nat) : Core := x.enterWord (sa % 2 ^ 40) (sa / 2 ^ 40 % 4)

/-- Sequential execution goes on at slot `s` of the word, or at the next word (R264, R277). -/
def Core.advance (x : Core) (w : Word) (s : Nat) : Core :=
  if s < 4 then { x with slot := s }
  else
    let (n, lc, sk) := x.seqNext w
    { x with lcnt := lc, skip := sk }.enterWord n 0

/-- A delay slot has completed, slot `s` being next: the transfer takes hold (R266, R278, R290). -/
def Core.endDelay (x : Core) (dl : Delay) (w : Word) (s : Nat) : Core :=
  let x := { x with delay := none }
  if dl.taken then
    let x := if dl.ends then { x with lcnt := 0 } else x
    let x := if x.fenced then { x with stale := [], fenced := false } else x
    x.goto dl.target
  else if dl.ret then (x.advance w s).goto dl.target
  else x.advance w s

/-- Where the core goes after an instruction whose last slot is followed by slot `s`; `t` is the transfer it made. -/
def Core.next (x : Core) (w : Word) (s : Nat) (t : Option Delay) : Core :=
  match t with
  | some dl => { x with slot := s, delay := some dl }
  | none =>
    match x.delay with
    | some dl => x.endDelay dl w s
    | none => x.advance w s

/-- Does a taken transfer from the core's word to `target` leave an active loop (R278)? -/
def Core.leavesLoop (x : Core) (target : Nat) : Bool :=
  decide (x.lbeg ≤ x.pc ∧ x.pc ≤ x.lend) && !decide (x.lbeg ≤ target ∧ target ≤ x.lend)

/-- The displacement in slot `s` added to the core's word address. -/
def Core.displaced (x : Core) (w : Word) (s : Nat) : Nat :=
  intToNat 40 ((x.pc : Int) + natToInt 12 (slotOf w s))

/-- The transfer that instruction `code` at slot `s` makes (R266, R267), and the return address it pushes (R278). -/
def Core.transfer (x : Core) (w : Word) (s code : Nat) (vs rvs : List Word) : Option Delay × List Word :=
  let top (l : List Word) : Nat := (l.headD 0).toNat % 2 ^ 40
  let ret : Word := BitVec.ofNat 48 (x.seqNext w).1
  if code ≤ 0x705 then
    let taken := relHolds (code - 0x700) (vs.getD 1 0) (vs.headD 0)
    let target := x.displaced w (s + 1)
    let after := if s + 3 < 4 then (s + 3) * 2 ^ 40 + x.pc else (x.seqNext w).1
    if taken then (some ⟨target, true, x.leavesLoop target, false⟩, []) else (some ⟨after, false, false, false⟩, [])
  else if code = 0x708 then
    let target := x.displaced w (s + 1)
    (some ⟨target, true, x.leavesLoop target, false⟩, [])
  else if code = 0x709 then (some ⟨x.displaced w (s + 1), true, false, false⟩, [ret])
  else if code = 0x70A then (some ⟨top vs, true, x.leavesLoop (top vs), false⟩, [])
  else if code = 0x70B then (some ⟨top vs, true, false, false⟩, [ret])
  else (some ⟨top rvs, true, x.leavesLoop (top rvs), false⟩, [])

/-- A call makes the loop decision of its word (R278). -/
def Core.callLoop (x : Core) (w : Word) : Core :=
  let (_, lc, sk) := x.seqNext w
  { x with lcnt := lc, skip := sk }

/-- LOOP with count `n` and length `len` (R276). -/
def Core.loop (x : Core) (w : Word) (len n : Nat) : Core :=
  let b := (x.pc + 1 + litsBefore w 4) % 2 ^ 40
  let e := (b + len - 1) % 2 ^ 40
  let others := x.skip.filter (·.1 != x.pc)
  { x with lbeg := b, lend := e, lcnt := n, skip := if n = 0 then (x.pc, (e + 1) % 2 ^ 40) :: others else others }

/-- LPOP of LCNT, LBEG and LEND (R279). -/
def Core.lpop (x : Core) (rvs : List Word) : Core :=
  ((x.setSpecial 7 (rvs.getD 0 0).toNat).setSpecial 8 (rvs.getD 1 0).toNat).setSpecial 9 (rvs.getD 2 0).toNat

/-! ### Shadows (R284, R292) -/

/-- A shadowed write applied. -/
def Core.apply1 (x : Core) (s : Shadow) : Core := if s.isMode then { x with mode := s.value % 4 } else { x with bnk := s.value % 2 ^ 24 }

/-- Every pending write committed. -/
def Core.commit (x : Core) : Core := x.shadow.foldl Core.apply1 { x with shadow := [] }

/-- `n` slots have run: the writes whose shadow has ended apply, in order. -/
def Core.shade (x : Core) (n : Nat) : Core :=
  let due := x.shadow.filter (fun s => decide (s.left ≤ n))
  let wait := (x.shadow.filter (fun s => !decide (s.left ≤ n))).map (fun s => { s with left := s.left - n })
  due.foldl Core.apply1 { x with shadow := wait }

/-! ### Exceptions (R285 to R294) -/

/-- Entry with a cause, in user and supervisor mode. -/
def Core.enter (x : Core) (cause : Nat) : Core :=
  let y := x.commit
  let (ds, bt, et) : Bool × Bool × Nat := match y.delay with
    | some dl => (true, dl.taken, dl.target)
    | none => (false, false, y.etgt)
  { y with
    epc := y.slotAddr, etgt := et, dslot := ds, btTaken := bt, cause := cause, emode := y.mode, pie := y.ie, ie := false, ex := true
    mode := 1, delay := none, pass := 0, cycles := y.cycles + 4 }.enterWord (0xFFFF000000 + cause) 0

/-- Is the transfer whose delay slot stands at slot `s` a call? -/
def callBefore (w : Word) (s : Nat) : Bool :=
  match ((instrSlots w 4 0).filter (fun k => decide (k < s))).getLast? with
  | some k => slotOf w k == 0x709 || slotOf w k == 0x70B
  | none => false

/-- RETX (R290); `w` is the word at EPC. -/
def Core.retx (x : Core) (w : Word) : Core :=
  let y := { x.goto x.epc with mode := x.emode, ie := x.pie, ex := false }
  if x.dslot then
    let ends := x.btTaken && !callBefore w y.slot && y.leavesLoop (x.etgt % 2 ^ 40)
    { y with delay := some ⟨x.etgt, x.btTaken, ends, true⟩, dslot := false, btTaken := false }
  else y

end Sys2Proof.Machine
end

