-- ==== Sys2Proof/Machine/SilisRun.lean ====
section
/-! DEFINITION. Silis instructions on the device (R262 to R308): fetching a word, what an access reaches, one instruction slot with
its exceptions, interrupts, and the lockstep pairs. A command of an instruction says that a core executes its next slot, and that the slot
holds this instruction (log entry 18). -/

namespace Sys2Proof.Machine

/-! ### What an access reaches (R133, R135, R272, R301 to R305) -/

/-- A load or store of a line core: 0 local memory, 1 the record port, 3 the fabric, 4 under the silent rule, 5 no unit. -/
def Dev.lineAccess (d : Dev) (a : Nat) (write : Bool) : Nat :=
  if 0xFFFF000000 ≤ a then
    (if a < 0xFFFF001000 then 0 else if a < 0xFFFF001004 then 1 else if write then 4 else 5)
  else if write then 4
  else if isRegAddr a ∨ (0x200000000 ≤ a ∧ a ≤ 0x200000FFF) ∨ (0x300000000 ≤ a ∧ a < 0x300040000) then 4
  else if (a < 0x3000000 ∨ (0x8000000000 ≤ a ∧ a ≤ 0x807FFFFFFF)) ∧ d.decodes a then 3
  else 5

/-- A load or store of a steward: 0 local memory, 2 the private port, 3 the fabric or the register bus, 4 under the silent rule, 5 no
unit. -/
def Dev.stewAccess (d : Dev) (c a : Nat) (sup write : Bool) : Nat :=
  let who := whoOf c sup
  let unit (may : Bool) : Nat := if !may then 4 else if d.decodes a then 3 else 5
  if 0xFFFF000000 ≤ a then
    (if a < 0xFFFF004000 then (if a < 0xFFFF000040 && !sup then 4 else 0)
     else if 0xFFFFFFFFF0 ≤ a then (if sup || c == 0x4A || d.grant (targetOf c) 11 then 2 else 4)
     else 5)
  else if a < 0x3000000 then unit (d.mayMain who (a % 0x1000000))
  else if isRegAddr a then (if blockKnown (blockOf a) && !d.mayReach who a write then 4 else if d.regServes a then 3 else 5)
  else if 0x200000000 ≤ a ∧ a ≤ 0x200000FFF then unit (d.mayGrant who 9)
  else if 0x300000000 ≤ a ∧ a < 0x300040000 then unit (d.mayGrant who 10)
  else if 0x8000000000 ≤ a ∧ a ≤ 0x807FFFFFFF then unit (d.mayGrant who 13)
  else 5

/-- A load or store of core `c` in its present mode. -/
def Dev.access (d : Dev) (c a : Nat) (write : Bool) : Nat :=
  if c < 72 then d.lineAccess a write else d.stewAccess c a ((d.core c).mode == 1) write

/-- An access of core `c` under the silent rule. -/
def Dev.coreViol (d : Dev) (c : Nat) : Dev := if c < 72 then d.lccViol (c / 9) else d.stewViol (targetOf c)

/-- The least cycles of a load from `a` beyond core-local memory (R275). -/
def loadCycles (a : Nat) : Nat :=
  if a < 0x3000000 then 20 else if a < 0x300000000 then 24 else if a < 0x8000000000 then 400 else 150

/-- The rights of core `c` in its present mode; a line core's own check has been made. -/
def Dev.coreWho (d : Dev) (c : Nat) : Who := if c < 72 then .t0 else whoOf c ((d.core c).mode == 1)

/-- What a load comes to. -/
inductive Load where
  | wait (d : Dev)
  | bus (d : Dev)
  | got (d : Dev) (v : Word)

/-- A load of core `c` from `a` (R271, R272), after every store before it: a read of a peer window waits for its answer; the cycles of a
fabric stall are free (R275). -/
def Dev.coreLoad (d : Dev) (c a : Nat) : Load :=
  match d.access c a false with
  | 0 => .got (d.modCore c (fun x => { x with cycles := x.cycles + 1 })) (d.lword c (a % 65536))
  | 1 => .got (d.modCore c (fun x => { x with cycles := x.cycles + 1 })) 0
  | 2 => .got (d.modCore c (fun x => { x with cycles := x.cycles + 1 })) ((d.core c).pioLoad (a % 16))
  | 3 =>
    let d := d.landAll c
    match d.busRead (d.coreWho c) (masterOfCode c) c a with
    | (none, d) => .wait d
    | (some r, d) =>
      if r.err ≠ 0 then .bus d
      else
        let d := d.when r.viol (·.coreViol c)
        let (n, d) := d.takeNat
        .got (d.modCore c (fun x => { x with cycles := x.cycles + loadCycles a + n })) r.val
  | 4 => .got ((d.modCore c (fun x => { x with cycles := x.cycles + 1 })).coreViol c) 0
  | _ => .bus d

/-! ### Fetching (R272, R302) -/

/-- What the memory that instructions come from holds at `a`, without any side effect. -/
def Dev.codeWord (d : Dev) (c a : Nat) : Word :=
  if 0xFFFF000000 ≤ a then d.lword c (a % 65536)
  else if a < 0x3000000 then d.peek (a % 0x1000000)
  else d.ddrWord (a - 0x8000000000)

/-- The word at `a` fetched for core `c`; none where the fetch fails. A line core fetches from its own local memory only (R135). -/
def Dev.fetchAt (d : Dev) (c a : Nat) : Option Word × Dev :=
  match d.access c a false with
  | 0 => (some (d.lword c (a % 65536)), d)
  | 3 =>
    if c < 72 ∨ !(a < 0x3000000 ∨ 0x8000000000 ≤ a) then (none, d)
    else
      match d.busRead (d.coreWho c) (masterOfCode c) c a with
      | (some r, d) =>
        if r.err ≠ 0 then (none, d)
        else (some r.val, d.modCore c (fun x => { x with cycles := x.cycles + loadCycles a }))
      | (none, d) => (none, d)
  | 4 => if c < 72 then (none, d) else (some 0, d.coreViol c)
  | _ => (none, d)

/-- The word at the core's pc, fetched once as the word is entered. A word that the core has overwritten ahead of itself without a FENCE and
a taken transfer may still be what it was: a free choice (R272). -/
def Dev.fetchSlot (d : Dev) (c : Nat) : Option Word × Dev :=
  let x := d.core c
  match x.cur.bind (fun p => if p.1 = x.pc then some p.2 else none) with
  | some w => (some w, d)
  | none =>
    let (r, d) := d.fetchAt c x.pc
    let hold (d : Dev) (w : Word) : Option Word × Dev := (some w, d.modCore c (fun x => { x with cur := some (x.pc, w) }))
    match r, assocGet x.stale x.pc with
    | some w, some old =>
      let (b, d) := d.takeBool
      hold d (if b then old else w)
    | some w, none => hold d w
    | none, _ => (none, d)

/-! ### Stores (R136, R139, R272, R303) -/

/-- The words that a core may have fetched ahead: a store there is remembered with what it overwrites (R272). -/
def Dev.noteStale (d : Dev) (c pc a : Nat) : Dev :=
  let x := d.core c
  if [pc + 1, pc + 2, x.lbeg, x.lbeg + 1].contains a ∧ !x.stale.any (fun p => p.1 == a) then
    let old := d.codeWord c a
    d.modCore c (fun x => { x with stale := (a, old) :: x.stale, fenced := false })
  else d.modCore c (fun x => { x with fenced := false })

/-- A store of core `c`, whose instruction stood in word `pc`, once the instruction's other effects are made. -/
def Dev.coreStore (d : Dev) (c pc kind a : Nat) (w : Word) : Dev :=
  match kind with
  | 0 => (d.noteStale c pc a).setLword c (a % 65536) w
  | 1 =>
    let n := c / 9
    let p := c % 9
    if a % 4 = 0 then d.recw0 n p w
    else if a % 4 = 1 then d.recw1 n p w
    else if a % 4 = 2 then d.lccDone n p
    else d.evwait n p w
  | 2 => d.pioChange c (fun x => x.pioStore (a % 16) w)
  | 3 =>
    let d := if 8 ≤ (d.core c).posted.length then d.landOne c else d
    (d.noteStale c pc a).modCore c (fun x => { x with posted := x.posted ++ [(a, w)] })
  | _ => d.coreViol c

/-! ### Exceptions (R285 to R295, R307) -/

/-- A point of kind `k` (0 a breakpoint, 1 a watchpoint) matches: the core halts at the slot, which it then passes once (R534; log entry 57). -/
def Dev.pointHalt (d : Dev) (c k : Nat) : Dev :=
  (d.modCore c (fun x => let y := x.commit; { y with epc := y.slotAddr, pass := y.pass ||| 2 ^ k })).haltNow c

/-- A synchronous exception of core `c`: entry; a double fault; or, in line mode, the end of the program. -/
def Dev.trap (d : Dev) (c cause : Nat) : Dev :=
  let x := d.core c
  if c < 72 then
    let y := x.commit
    (d.setCore c { y with cause := cause, epc := y.slotAddr }).lccExcept (c / 9) (c % 9) cause y.slotAddr
  else if x.ex then (if c = 0x4A then d.t0Fault else d.customerFault (targetOf c) false)
  else d.setCore c (x.enter cause)

/-! ### One instruction slot -/

/-- What an instruction at the core's slot has found before it acts: its word and code, the plans of its stacks, its operands, top first,
and the address it loads from or stores to. -/
structure Ready where
  w : Word
  code : Nat
  info : OpInfo
  dp : Plan
  rp : Plan
  vs : List Word
  rvs : List Word
  addr : Nat
deriving DecidableEq, Repr

/-- The operands of the instruction with code `code`. -/
def Dev.ready (d : Dev) (c : Nat) (w : Word) (code : Nat) (i : OpInfo) : Ready :=
  let x := d.core c
  let dp := stackPlan (lmemSize c) x.ds.length x.dsp x.dsl i.dpop i.dpush 32 (code == 0x903)
  let rp := stackPlan (lmemSize c) x.rs.length x.rsp x.rsl i.rpop i.rpush 16 (code == 0x904)
  let vs := (filled x.ds x.dsp dp.fills (d.lword c)).take i.dpop
  let rvs := (filled x.rs x.rsp rp.fills (d.lword c)).take i.rpop
  let t := (vs.headD 0).toNat
  ⟨w, code, i, dp, rp, vs, rvs, if code ≤ 0x501 then (x.bnk * 65536 + t % 65536) % 2 ^ 40 else t % 2 ^ 40⟩

/-- Is it a load or store, and a store? -/
def isAccess (code : Nat) : Bool := decide (0x500 ≤ code ∧ code ≤ 0x505)
def isStore (code : Nat) : Bool := code == 0x501 || code == 0x503 || code == 0x505

/-- The cause of the exception that the instruction raises before it acts, by precedence (R285); 0 for none. 7 is a breakpoint or BRK. -/
def Dev.slotCause (d : Dev) (c : Nat) (r : Ready) : Nat :=
  let x := d.core c
  if x.illegal r.w x.slot r.code r.info (r.vs.headD 0) then 1
  else if x.mode ≠ 1 ∧ privileged r.code then 5
  else if r.dp.trap then 2
  else if r.rp.trap then 3
  else if isAccess r.code && d.watchHit c r.addr (isStore r.code) then 8
  else if r.dp.bus || r.rp.bus || (isAccess r.code && d.access c r.addr (isStore r.code) == 5) then 4
  else if divZero r.code r.vs then 6
  else if r.code = 1 ∨ d.breakHit c x.slotAddr then 7
  else 0

/-- The entries that an instruction spills, with their local addresses (R268). -/
def Dev.spills (d : Dev) (c : Nat) (x : Core) (r : Ready) : List (Nat × Word) :=
  r.dp.out (filled x.ds x.dsp r.dp.fills (d.lword c)) x.dsp ++ r.rp.out (filled x.rs x.rsp r.rp.fills (d.lword c)) x.rsp

/-- The device as a load from `a` finds it: the spills, which come before the instruction executes, are made in core-local memory, where no
load fails (R268, R286). -/
def Dev.spilt (d : Dev) (c : Nat) (r : Ready) (a : Nat) : Dev :=
  if d.access c a false = 0 then (d.spills c (d.core c) r).foldl (fun d p => d.setLword c p.1 p.2) d else d

/-- The end of an instruction: its stacks, its cycles and shadows, and where the core goes. `x` is the core with the instruction's own
effects on special registers; `w0` is the word its slot stands in. -/
def Dev.retire (d : Dev) (c : Nat) (x : Core) (r : Ready) (res rres : List Word) (t : Option Delay) (sh : List Shadow) (extra : Nat) : Dev :=
  let ds1 := filled x.ds x.dsp r.dp.fills (d.lword c)
  let rs1 := filled x.rs x.rsp r.rp.fills (d.lword c)
  let outs := d.spills c x r
  let y := { x with
    ds := r.dp.rest ds1 r.info.dpop res, dsp := r.dp.sp x.dsp
    rs := r.rp.rest rs1 r.info.rpop rres, rsp := r.rp.sp x.rsp
    pass := 0
    cycles := x.cycles + r.info.cyc + extra + r.dp.fills + r.dp.spills + r.rp.fills + r.rp.spills }
  let y := y.shade (1 + r.info.nops)
  let y := y.next r.w (y.slot + 1 + r.info.nops) t
  let d := outs.foldl (fun d p => d.setLword c p.1 p.2) d
  d.setCore c { y with shadow := y.shadow ++ sh }

/-- SETS of special register `k` (R270, R280, R284): the core, and the shadow it opens. -/
def Core.sets (x : Core) (k : Nat) (v : Word) : Core × List Shadow :=
  if k = 1 then (x, [⟨2, false, v.toNat % 2 ^ 24⟩])
  else if k = 2 then (x, [⟨2, true, v.toNat % 4⟩])
  else (x.setSpecial k v.toNat, [])

/-- SETS DSP or RSP: the stack goes on from the spill area at the new pointer, its cached entries discarded (R270). -/
def Dev.setsPointer (d : Dev) (c : Nat) (k : Nat) (v : Word) : Dev :=
  d.modCore c (fun x => if k = 3 then { x with ds := [], dsp := v.toNat % 65536 } else { x with rs := [], rsp := v.toNat % 65536 })

/-- The system instructions of class 0. -/
def Dev.runSystem (d : Dev) (c : Nat) (r : Ready) : Dev :=
  match r.code with
  | 2 =>
    let x := d.core c
    let y := { x with pass := 0, cycles := x.cycles + r.info.cyc }.shade 1
    d.setCore c (y.retx (d.codeWord c (x.epc % 2 ^ 40)))
  | 3 => d.retire c { d.core c with wait := 1, woken := false } r [] [] none [] 0
  | 4 => d.retire c { d.core c with ie := true } r [] [] none [] 0
  | 5 => d.retire c { d.core c with ie := false } r [] [] none [] 0
  | 6 =>
    let d := d.landAll c
    if (d.core c).run = 1 then d.retire c { d.core c with fenced := true } r [] [] none [] 0 else d
  | _ => d.retire c (d.core c) r [] [] none [] 0

/-- The memory instructions of class 5 (R271). -/
def Dev.runMemory (d : Dev) (c : Nat) (r : Ready) : Dev :=
  let pc := (d.core c).pc
  let next : List Word := if r.code = 0x504 ∨ r.code = 0x505 then [r.vs.headD 0 + 1] else []
  if isStore r.code then
    let kind := d.access c r.addr true
    (d.retire c (d.core c) r next [] none [] 1).coreStore c pc kind r.addr (r.vs.getD 1 0)
  else
    match (d.spilt c r r.addr).coreLoad c r.addr with
    | .wait d => d
    | .bus d => d.trap c 4
    | .got d v => if (d.core c).run = 1 then d.retire c (d.core c) r (v :: next) [] none [] 0 else d

/-- The transfers of class 7 (R266, R267). -/
def Dev.runTransfer (d : Dev) (c : Nat) (r : Ready) : Dev :=
  let x := d.core c
  let (t, push) := x.transfer r.w x.slot r.code r.vs r.rvs
  let taken := t.elim false (·.taken)
  let x := if r.code = 0x709 ∨ r.code = 0x70B then x.callLoop r.w else x
  d.retire c x r [] push t [] (if r.code ≤ 0x705 ∧ taken then 1 else 0)

/-- The loop instructions of class 8 (R276, R279). -/
def Dev.runLoop (d : Dev) (c : Nat) (r : Ready) : Dev :=
  let x := d.core c
  if r.code = 0x800 then
    d.retire c (x.loop r.w (slotOf r.w (x.slot + 1)) (r.vs.headD 0).toNat) r [] [] none [] 0
  else if r.code = 0x801 then
    d.retire c x r [] [BitVec.ofNat 48 x.lcnt, BitVec.ofNat 48 x.lbeg, BitVec.ofNat 48 x.lend] none [] 0
  else d.retire c (x.lpop r.rvs) r [] [] none [] 0

/-- GETS and SETS of class 9 (R270, R280). -/
def Dev.runSpecial (d : Dev) (c : Nat) (r : Ready) : Dev :=
  let x := d.core c
  let k := r.code % 16
  if r.code < 0x910 then
    let v := if k = 3 then r.dp.sp x.dsp else if k = 4 then r.rp.sp x.rsp else x.special k x.pc
    d.retire c x r [BitVec.ofNat 48 v] [] none [] 0
  else if k = 3 ∨ k = 4 then (d.retire c x r [] [] none [] 0).setsPointer c k (r.vs.headD 0)
  else
    let (y, sh) := x.sets k (r.vs.headD 0)
    d.retire c y r [] [] none sh 0

/-- The literal word of the LITW at the core's slot, fetched (R264). -/
def Dev.litAt (d : Dev) (c : Nat) (r : Ready) : Option Word × Dev :=
  let x := d.core c
  let a := (x.pc + 1 + litsBefore r.w x.slot) % 2 ^ 40
  (d.spilt c r a).fetchAt c a

/-- LITW: the literal word is fetched (R264). -/
def Dev.runLitw (d : Dev) (c : Nat) (r : Ready) : Dev :=
  match d.litAt c r with
  | (some v, d) => d.retire c (d.core c) r [v] [] none [] 0
  | (none, d) => d.trap c 4

/-- The moves between the stacks (R274). -/
def Dev.runMove (d : Dev) (c : Nat) (r : Ready) : Dev :=
  let x := d.core c
  if r.code = 0x107 then d.retire c x r [] r.vs none [] 0
  else if r.code = 0x108 then d.retire c x r r.rvs [] none [] 0
  else if r.code = 0x109 then d.retire c x r r.rvs r.rvs none [] 0
  else d.retire c x r [] [] none [] 0

/-- An instruction that raises nothing acts. -/
def Dev.runOp (d : Dev) (c : Nat) (r : Ready) : Dev :=
  match r.code / 256 with
  | 0 => d.runSystem c r
  | 5 => d.runMemory c r
  | 7 => d.runTransfer c r
  | 8 => d.runLoop c r
  | 9 => d.runSpecial c r
  | _ =>
    if r.code = 0x602 then d.runLitw c r
    else if 0x107 ≤ r.code ∧ r.code ≤ 0x10A then d.runMove c r
    else d.retire c (d.core c) r (dataRes r.code r.w (d.core c).slot r.vs) [] none [] 0

/-- The core's next slot, which lies in word `w`: its exception, or its effect. A load, or the fetch of a literal word, that ends in a bus
error raises BUS before a breakpoint on it counts (R285). -/
def Dev.runSlot (d : Dev) (c : Nat) (w : Word) : Dev :=
  let x := d.core c
  let code := slotOf w x.slot
  match opInfo code with
  | none => d.trap c 1
  | some i =>
    let r := d.ready c w code i
    match d.slotCause c r with
    | 0 => d.runOp c r
    | 8 => d.pointHalt c 1
    | 7 =>
      let stop (d : Dev) : Dev :=
        if d.breakHit c x.slotAddr then d.pointHalt c 0
        else if c < 72 ∧ d.anyFull then d.pointHalt c 0
        else d.trap c 7
      if isAccess code && !isStore code then
        match d.coreLoad c r.addr with
        | .wait d => d
        | .bus d => d.trap c 4
        | .got _ _ => stop d
      else if code = 0x602 then
        match d.litAt c r with
        | (none, d) => d.trap c 4
        | (some _, _) => stop d
      else stop d
    | e => d.trap c e

/-- A slot of core `c` may have executed, the core having been `x` before it: a slot of a step counts, whether it retires or raises an
exception (R531). A slot that still waits (for the answer to a read of a peer's memory) has not executed. -/
def Dev.slotCount (x : Core) (c : Nat) (d : Dev) : Dev :=
  let y := d.core c
  match y.steps with
  | some (true, n) =>
    if y.run = 1 ∧ y.pc = x.pc ∧ y.slot = x.slot ∧ y.cycles = x.cycles then d
    else if y.run ≠ 1 then d.modCore c (fun x => { x with steps := none }) |>.stepReply c
    else if n ≤ 1 ∧ y.haltOk then d.stepOver' c
    else d.modCore c (fun x => { x with steps := some (true, n - 1) })
  | _ => d

/-- Core `c` executes its next slot, if the slot holds an instruction that `want` names. Where the word cannot be fetched, or the slot holds
no instruction, the exception follows whichever instruction was named. A core on a gated branch executes nothing (R473). -/
def Dev.runIf (d : Dev) (c : Nat) (want : Nat → Bool) : Dev :=
  let x := d.core c
  if x.run = 1 ∧ x.wait = 0 ∧ !d.gated (coreBranch c) then
    match d.fetchSlot c with
    | (none, d') => Dev.slotCount x c (d'.trap c 4)
    | (some w, d') =>
      let code := slotOf w x.slot
      if want code || (opInfo code).isNone then Dev.slotCount x c (d'.runSlot c w) else d
  else d

/-- Core `c` executes its next slot, which holds the instruction with code `k`. -/
def Dev.runCode (d : Dev) (core : CoreId) (k : Nat) : Dev := d.runIf (coreCode core) (· == k)

/-- Core `c` executes its next slot, whatever it holds. -/
def Dev.runAny (d : Dev) (c : Nat) : Dev := d.runIf c (fun _ => true)

/-! ### Interrupts (R289) -/

/-- Does the boundary before the core's next slot permit an interrupt? -/
def Core.intOk (x : Core) : Bool :=
  decide (x.run = 1 ∧ x.wait = 0 ∧ x.mode ≠ 2) && x.ie && x.shadow.isEmpty && x.delay.isNone

/-- A pending request ends a WFI, and is taken where the boundary permits it; none is taken during a step (R531). Where a breakpoint matches
the slot at that boundary, the core halts and the request stays pending (R539). -/
def Dev.intEntry (d : Dev) (c : Nat) : Dev :=
  if c < 72 ∨ !d.irqReq (targetOf c) then d
  else
    let d := d.wfiWake c
    let x := d.core c
    if !x.intOk || x.steps.any (·.1) then d
    else if d.breakHit c x.slotAddr then d.pointHalt c 0
    else d.setCore c (x.enter 9)

/-! ### Stepping (R531) -/

/-- DBG.STEP of a core: `n` slots, a count of 0 acting as 1. A running core halts first; a halted one begins at once. The slots are executed
by the commands of their instructions, and the reply is owed until the core has halted again. An idle line core, and one that is stopped,
has no slot to execute and is answered at once (log entry 57). -/
def Dev.dbgStep (d : Dev) (c n : Nat) : Dev :=
  let x := d.core c
  let k := max n 1
  if x.run = 1 then d.setCore c { x with haltReq := true, steps := some (false, k) }
  else if x.run = 2 ∧ !d.coreIdle c then (d.setCore c { x with run := 1, steps := some (true, k) }).showHalted c false
  else if x.run = 0 ∧ c < 72 then d.haltNow c
  else d.stepReply c

/-! ### Commands -/

def execNop (core : CoreId) (s : State) := s.upd (·.runCode core 0x000)
def execBrk (core : CoreId) (s : State) := s.upd (·.runCode core 0x001)
def execRetx (core : CoreId) (s : State) := s.upd (·.runCode core 0x002)
def execWfi (core : CoreId) (s : State) := s.upd (·.runCode core 0x003)
def execEi (core : CoreId) (s : State) := s.upd (·.runCode core 0x004)
def execDi (core : CoreId) (s : State) := s.upd (·.runCode core 0x005)
def execFence (core : CoreId) (s : State) := s.upd (·.runCode core 0x006)
def execDup (core : CoreId) (s : State) := s.upd (·.runCode core 0x100)
def execDrop (core : CoreId) (s : State) := s.upd (·.runCode core 0x101)
def execSwap (core : CoreId) (s : State) := s.upd (·.runCode core 0x102)
def execOver (core : CoreId) (s : State) := s.upd (·.runCode core 0x103)
def execRot (core : CoreId) (s : State) := s.upd (·.runCode core 0x104)
def execNip (core : CoreId) (s : State) := s.upd (·.runCode core 0x105)
def execTuck (core : CoreId) (s : State) := s.upd (·.runCode core 0x106)
def execTor (core : CoreId) (s : State) := s.upd (·.runCode core 0x107)
def execFromr (core : CoreId) (s : State) := s.upd (·.runCode core 0x108)
def execRfetch (core : CoreId) (s : State) := s.upd (·.runCode core 0x109)
def execRdrop (core : CoreId) (s : State) := s.upd (·.runCode core 0x10A)
def execAdd (core : CoreId) (s : State) := s.upd (·.runCode core 0x200)
def execSub (core : CoreId) (s : State) := s.upd (·.runCode core 0x201)
def execAnd (core : CoreId) (s : State) := s.upd (·.runCode core 0x202)
def execOr (core : CoreId) (s : State) := s.upd (·.runCode core 0x203)
def execXor (core : CoreId) (s : State) := s.upd (·.runCode core 0x204)
def execNot (core : CoreId) (s : State) := s.upd (·.runCode core 0x205)
def execNeg (core : CoreId) (s : State) := s.upd (·.runCode core 0x206)
def execInc (core : CoreId) (s : State) := s.upd (·.runCode core 0x207)
def execDec (core : CoreId) (s : State) := s.upd (·.runCode core 0x208)
def execShl (core : CoreId) (s : State) := s.upd (·.runCode core 0x209)
def execShr (core : CoreId) (s : State) := s.upd (·.runCode core 0x20A)
def execSar (core : CoreId) (s : State) := s.upd (·.runCode core 0x20B)
def execMin (core : CoreId) (s : State) := s.upd (·.runCode core 0x20C)
def execMax (core : CoreId) (s : State) := s.upd (·.runCode core 0x20D)
def execAbs (core : CoreId) (s : State) := s.upd (·.runCode core 0x20E)
def execMul (core : CoreId) (s : State) := s.upd (·.runCode core 0x300)
def execMulh (core : CoreId) (s : State) := s.upd (·.runCode core 0x301)
def execMulhu (core : CoreId) (s : State) := s.upd (·.runCode core 0x302)
def execMulq (core : CoreId) (s : State) := s.upd (·.runCode core 0x303)
def execDiv (core : CoreId) (s : State) := s.upd (·.runCode core 0x304)
def execDivu (core : CoreId) (s : State) := s.upd (·.runCode core 0x305)
def execRem (core : CoreId) (s : State) := s.upd (·.runCode core 0x306)
def execRemu (core : CoreId) (s : State) := s.upd (·.runCode core 0x307)
def execDivq (core : CoreId) (s : State) := s.upd (·.runCode core 0x308)
def execEq (core : CoreId) (s : State) := s.upd (·.runCode core 0x400)
def execNe (core : CoreId) (s : State) := s.upd (·.runCode core 0x401)
def execLt (core : CoreId) (s : State) := s.upd (·.runCode core 0x402)
def execGe (core : CoreId) (s : State) := s.upd (·.runCode core 0x403)
def execLtu (core : CoreId) (s : State) := s.upd (·.runCode core 0x404)
def execGeu (core : CoreId) (s : State) := s.upd (·.runCode core 0x405)
def execLd (core : CoreId) (s : State) := s.upd (·.runCode core 0x500)
def execSt (core : CoreId) (s : State) := s.upd (·.runCode core 0x501)
def execLdf (core : CoreId) (s : State) := s.upd (·.runCode core 0x502)
def execStf (core : CoreId) (s : State) := s.upd (·.runCode core 0x503)
def execLdfi (core : CoreId) (s : State) := s.upd (·.runCode core 0x504)
def execStfi (core : CoreId) (s : State) := s.upd (·.runCode core 0x505)
def execLit12 (core : CoreId) (s : State) := s.upd (·.runCode core 0x600)
def execLit24 (core : CoreId) (s : State) := s.upd (·.runCode core 0x601)
def execLitw (core : CoreId) (s : State) := s.upd (·.runCode core 0x602)
def execCbEq (core : CoreId) (s : State) := s.upd (·.runCode core 0x700)
def execCbNe (core : CoreId) (s : State) := s.upd (·.runCode core 0x701)
def execCbLt (core : CoreId) (s : State) := s.upd (·.runCode core 0x702)
def execCbGe (core : CoreId) (s : State) := s.upd (·.runCode core 0x703)
def execCbLtu (core : CoreId) (s : State) := s.upd (·.runCode core 0x704)
def execCbGeu (core : CoreId) (s : State) := s.upd (·.runCode core 0x705)
def execJmp (core : CoreId) (s : State) := s.upd (·.runCode core 0x708)
def execCall (core : CoreId) (s : State) := s.upd (·.runCode core 0x709)
def execJmpi (core : CoreId) (s : State) := s.upd (·.runCode core 0x70A)
def execCalli (core : CoreId) (s : State) := s.upd (·.runCode core 0x70B)
def execRet (core : CoreId) (s : State) := s.upd (·.runCode core 0x70C)
def execLoop (core : CoreId) (s : State) := s.upd (·.runCode core 0x800)
def execLpush (core : CoreId) (s : State) := s.upd (·.runCode core 0x801)
def execLpop (core : CoreId) (s : State) := s.upd (·.runCode core 0x802)

/-- GETS of whichever special register the slot names (R280). -/
def execGets (core : CoreId) (s : State) :=
  s.upd (·.runIf (coreCode core) (fun k => decide (0x900 ≤ k ∧ k < 0x910)))

/-- SETS of whichever special register the slot names (R280). -/
def execSets (core : CoreId) (s : State) :=
  s.upd (·.runIf (coreCode core) (fun k => decide (0x910 ≤ k ∧ k < 0x920)))

def execInterruptEntry (core : CoreId) (s : State) := s.upd (·.intEntry (coreCode core))

/-- The cores of a lockstep pair differ (R298): T0 restarts, or paired T1 stops. -/
def execLockstepMismatch (paired : Bool) (s : State) :=
  s.upd (fun d =>
    if paired then (if d.paired && d.secState 1 == 1 then d.customerFault 1 true else d)
    else if d.pwr.stage = 3 then d.t0Fault else d)

/-- PIER02 is reset and the resident firmware restarts (R487): what follows a lockstep mismatch or a double fault of T0. -/
def execT0Restart (s : State) := s.upd (fun d => if d.pwr.stage = 3 then d.t0Fault else d)

end Sys2Proof.Machine
end

