-- ==== Sys2Proof/Machine/Trestle.lean ====
section
/-! DEFINITION. The trestle and the event merge (chapter 3). -/

namespace Sys2Proof.Machine

def Dev.modTrs (d : Dev) (f : Trestle → Trestle) : Dev := { d with trs := f d.trs }

/-! ### Entries (R62 to R65, R72, R73) -/

/-- The period of cadence `k` in TG0 frames. -/
def Dev.cadence (d : Dev) (k : Nat) : Nat := if 1 ≤ k ∧ k ≤ 31 then d.fld (rTRS_CAD k) fTRS_CAD_PERIOD else 0

/-- Is an action a REGL? -/
def isRegl (w : Nat) : Bool := actTarget w == 1

/-- Does an action name a target, a code and arguments that exist (R63, R65)? -/
def actOk (w : Nat) : Bool :=
  let t := actTarget w
  let c := actCode w
  let a := actArg w
  if t = 0 then c == 0 || (c == 1 && decide (a < 256)) || (c == 2 && decide (1 ≤ a ∧ a ≤ 510))
  else if t = 1 then c == 0 && decide (a / 2 ^ 26 < 40 ∧ a / 2 ^ 24 % 4 = 0)
  else if 8 ≤ t ∧ t ≤ 15 then decide (c ≤ 1)
  else if t = 0x10 then decide (c ≤ 1 ∧ a < 64)
  else if t = 0x18 then decide (c ≤ 1 ∧ a < 128)
  else if t = 0x20 then decide (c ≤ 1 ∧ a < 32)
  else if t = 0x28 then (if c = 0 then decide (1 ≤ a / 256 ∧ a % 128 < 96) else decide (c ≤ 2 ∧ a < 96))
  else if t = 0x29 then c == 0 && decide (a < 16)
  else false

/-- Is an entry refused with BAD_ACTION (R65)? -/
def Dev.actBad (d : Dev) (w : Nat) : Bool := !actOk w || (actCad w != 0 && d.cadence (actCad w) == 0)

/-- The generation of a slot; handle 0 names no entry, so a generation is never 0 (R73, R74; log entry 19). -/
def Dev.trsGen (d : Dev) (s : Nat) : Nat := (assocGet d.trs.gens s).getD 1

/-- An entry's handle (R73). -/
def TrsEntry.handle (e : TrsEntry) : Nat := e.slot * 256 + e.gen

/-- The entry a handle names. -/
def Dev.trsEntry (d : Dev) (h : Nat) : Option TrsEntry := d.trs.entries.find? (fun e => e.handle == h)

/-- TRS_COUNT's highest value kept. -/
def Dev.trsPeak (d : Dev) : Dev := d.peak rTRS_HIGH fTRS_HIGH_HIGH d.trs.entries.length

/-- The first slot from `s` on, cyclically, that no entry holds. -/
def calSlot (es : List TrsEntry) (s : Nat) : Nat → Nat
  | 0 => s
  | n + 1 => if es.any (fun e => e.slot == s) then calSlot es ((s + 1) % 65536) n else s

/-- An entry inserted by session `owner`; its handle, and whether it is already due (R69). Which free slot it takes is a free
value. -/
def Dev.trsInsert (d : Dev) (bt act owner : Nat) : Nat × Bool × Dev :=
  let (k, d) := d.takeNat
  let s := calSlot d.trs.entries (k % 65536) d.trs.entries.length
  let e : TrsEntry := ⟨s, d.trsGen s, bt, act, owner, d.trs.nextOrder, false⟩
  let late := btGe d.bt bt
  let d := (d.modTrs (fun t => { t with entries := t.entries ++ [e], nextOrder := t.nextOrder + 1 })).trsPeak
  let d := d.when late (fun d => (d.bump rTRS_LATE_CNT fTRS_LATE_CNT_COUNT).raise rTRS_STATUS fTRS_STATUS_LATE)
  (e.handle, late, d)

/-- The entries of a TRS.ADD inserted in payload order; those withheld (R74) get handle 0. Answers the handles, and whether one was
already due. -/
def Dev.trsInsertAll (d : Dev) (owner : Nat) (withheld : Nat → Bool) : List (Nat × Nat) → List Nat × Bool × Dev
  | [] => ([], false, d)
  | (bt, act) :: es =>
    if withheld act then
      let (hs, late, d) := d.trsInsertAll owner withheld es
      (0 :: hs, late, d)
    else
      let (h, l, d) := d.trsInsert bt act owner
      let (hs, late, d) := d.trsInsertAll owner withheld es
      (h :: hs, l || late, d)

/-- An entry removed: its slot is freed and the slot's generation steps (R73). -/
def Dev.trsRemove (d : Dev) (e : TrsEntry) : Dev :=
  d.modTrs (fun t => { t with
    entries := t.entries.filter (fun x => x.slot != e.slot)
    gens := (e.slot, e.gen % 255 + 1) :: t.gens.filter (fun p => p.1 != e.slot) })

/-- The beam time by which a cancel that arrives now finds an entry: the one at which it was due, where a firing of this very clock has
armed it again (R82). -/
def Dev.trsDueBt (d : Dev) (e : TrsEntry) : Nat :=
  if d.trs.firedAt = d.now then (assocGet d.trs.rearmed e.handle).getD e.bt else e.bt

/-- TRS.CANCEL_MATCH: the entries whose action word matches under a mask, and whose BT lies in the window when there is one (R74). A
repeating entry that fires in the clock of the packet is among them by the BT at which it fired (R82). -/
def Dev.trsMatches (d : Dev) (value mask : Nat) (window : Option (Nat × Nat)) : List TrsEntry :=
  d.trs.entries.filter (fun e => e.act &&& mask == value &&& mask &&
    match window with
    | none => true
    | some (a, b) => btGe (d.trsDueBt e) a && btGe b (d.trsDueBt e))

/-! ### REGL lists (R64) -/

/-- A list write that does not lie in a block of the pier named, an action at a pier held OFF, and a RESTART of a locked PWM channel are
discarded and counted. -/
def Dev.trsDiscard (d : Dev) : Dev := (d.bump rTRS_DISCARD_CNT fTRS_DISCARD_CNT_COUNT).raise rTRS_STATUS fTRS_STATUS_DISCARD

/-- The address and value pairs of a list's words. -/
def reglPairs : List Word → List (Nat × Nat)
  | a :: v :: ws => (a.toNat % 2 ^ 40, v.toNat % 2 ^ 24) :: reglPairs ws
  | _ => []

/-- A list read as its entry fires, as master 0x09: queued to be applied, or dropped whole and counted once, also where main memory is held OFF
(log entry 19). -/
def Dev.reglRead (d : Dev) (arg : Nat) : Dev :=
  let a := arg % 2 ^ 24
  let d := d.wakeMain
  if d.mainOff then d.trsDiscard
  else
    let (r, d) := d.mainRead 0x09 a
    let n := r.val.toNat % 128
    if r.ue ∨ n = 0 ∨ 64 < n ∨ 0x1000000 ≤ a + 2 * n then d.trsDiscard
    else
      let (ws, ue, d) := d.mainReadRun 0x09 (a + 1) (2 * n)
      if ue then d.trsDiscard
      else d.modTrs (fun t => { t with lists := t.lists ++ [⟨arg / 2 ^ 26, reglPairs ws⟩] })

/-- One write of a list that named pier `p`: a write of an OUTn register lands whatever pier the list named, any other only in a block
of that pier. A write that its target refuses, for want of rights or held OFF, is dropped and counted as one outside the pier is (log entry 19). -/
def Dev.reglWrite (d : Dev) (p a v : Nat) : Dev :=
  let b := blockOf a
  if isRegAddr a ∧ blockKnown b ∧ ((0x50 ≤ b ∧ b ≤ 0x57) ∨ d.pierOfReg a = p) then
    let (x, d) := d.regWriteAs .trs a v
    if x.viol ∨ x.err ≠ 0 then d.trsDiscard else d
  else d.trsDiscard

/-- The oldest read list applied, its writes in order. -/
def Dev.reglApply (d : Dev) : Dev :=
  match d.trs.lists with
  | [] => d
  | l :: ls => l.writes.foldl (fun d w => d.reglWrite l.pier w.1 w.2) (d.modTrs (fun t => { t with lists := ls }))

/-! ### Firing (R66 to R71, R76) -/

/-- An action takes effect at its target (R63). Overlays are T0's to apply, while it runs; a RESTART of a channel locked to an output is
discarded and counted (R233). -/
def Dev.actDo (d : Dev) (w : Nat) : Dev :=
  let t := actTarget w
  let c := actCode w
  let a := actArg w
  if t = 0 then (if c = 1 then d.evRaise (a % 256) else if c = 2 then d.irqRaise (a % 512) else d)
  else if t = 1 then d.reglRead a
  else if 8 ≤ t ∧ t ≤ 15 then (if c = 0 then d.keyArm (t - 8) a else d.keyDisarm (t - 8))
  else if t = 0x10 then (if d.pwr.stage = 3 then d.ovlAction (a % 64) (c == 0) else d)
  else if t = 0x18 then d.voiceAsk (c == 0) (a % 128)
  else if t = 0x20 then (if c = 0 then d.chStart (a % 32) else d.chStop (a % 32))
  else if t = 0x28 then (if c = 0 then d.pinAction (a % 128) 3 (natBit a 7) else d.pinAction (a % 128) c false)
  else if t = 0x29 then (if (d.pwmLock (a % 16)).isSome then d.trsDiscard else d.pwmStart (a % 16))
  else d

/-- The clock branch of an action's target (R473). -/
def Dev.actBranch (d : Dev) (w : Nat) : Nat :=
  let t := actTarget w
  if 8 ≤ t ∧ t ≤ 15 then 3 + d.pipeOf (t - 8) else if t = 0x10 then 20 else if t = 0x18 then 24 else if t = 0x20 then 25
  else if t = 0x28 then 29 else if t = 0x29 then 30 else 2

/-- An action fires: at a pier that is not ON it is held, and the pier woken, or discarded where the pier is held OFF (R76). -/
def Dev.actFire (d : Dev) (w : Nat) : Dev :=
  let p := d.actPier w
  if d.awake p then ((d.demandWake p).gateOpen (d.actBranch w)).actDo w
  else if d.holdOf p = 2 then d.trsDiscard
  else (d.demandWake p).modTrs (fun t => { t with held := t.held ++ [w] })

/-- The actions of one clock as they reach their targets: in firing order, but a voice's or a channel's start comes behind the stops (R411,
R436). -/
def startsLast (ws : List Nat) : List Nat :=
  let start (w : Nat) : Bool := (actTarget w == 0x18 || actTarget w == 0x20) && actCode w == 0
  ws.filter (fun w => !start w) ++ ws.filter start

/-- A fired entry removed, or armed again at b + k × P × 2^24, behind every entry of the calendar (R68, R70, R71). -/
def Dev.trsRearm (d : Dev) (e : TrsEntry) : Dev :=
  let per := d.cadence (actCad e.act) * 2 ^ 24
  if per = 0 then d.trsRemove e
  else
    let k := (d.bt + 2 ^ 48 - e.bt) % 2 ^ 48 / per + 1
    let e' := { e with bt := (e.bt + k * per) % 2 ^ 48, order := d.trs.nextOrder, late := false }
    let d := d.modTrs (fun t => { t with
      entries := t.entries.filter (fun x => x.slot != e.slot) ++ [e'], nextOrder := t.nextOrder + 1
      rearmed := t.rearmed ++ [(e.handle, e.bt)] })
    d.when (decide (1 < k)) (fun d => (d.bumpBy rTRS_SKIP_CNT fTRS_SKIP_CNT_COUNT (k - 1)).raise rTRS_STATUS fTRS_STATUS_SKIP)

/-- One entry fires: it is logged (R535), counted if it is late, and removed or armed again. -/
def Dev.trsFire1 (d : Dev) (e : TrsEntry) : Dev :=
  let d := d.when e.late (fun d => (d.bump rTRS_BUNCH_CNT fTRS_BUNCH_CNT_COUNT).raise rTRS_STATUS fTRS_STATUS_BUNCH)
  (d.trsPush (BitVec.ofNat 48 e.act)).trsRearm e

/-- Does entry `x` fire before `y`: the earlier beam time, then the earlier place in insertion order (R67)? -/
def trsBefore (now : Nat) (x y : TrsEntry) : Bool :=
  let ax := (now + 2 ^ 48 - x.bt) % 2 ^ 48
  let ay := (now + 2 ^ 48 - y.bt) % 2 ^ 48
  decide (ay < ax ∨ (ax = ay ∧ x.order ≤ y.order))

/-- An entry put in its place in a list in firing order. -/
def trsPlace (now : Nat) (e : TrsEntry) : List TrsEntry → List TrsEntry
  | [] => [e]
  | x :: xs => if trsBefore now e x then e :: x :: xs else x :: trsPlace now e xs

/-- The entries due now, in the order in which they fire. -/
def Dev.trsDue (d : Dev) : List TrsEntry :=
  (d.trs.entries.filter (fun e => btGe d.bt e.bt)).foldl (fun l e => trsPlace d.bt e l) []

/-- One firing clock: at most 16 due entries fire, and those left wait (R66, R67). Nothing fires while FIRE_EN is 0 or PIER39 is not
ON. -/
def Dev.trsFire (d : Dev) : Dev :=
  let d := d.modTrs (fun t => { t with rearmed := [], firedAt := d.now })
  if d.flag rTRS_CTRL fTRS_CTRL_FIRE_EN ∧ d.awake 39 then
    let es := d.trsDue.take 16
    ((startsLast (es.map TrsEntry.act)).foldl Dev.actFire (es.foldl Dev.trsFire1 d)).trsLeave
  else d.trsLeave

/-- The beam time reaches `bt`, within the TG0 frame. -/
def Dev.btReach (d : Dev) (bt : Nat) : Dev :=
  if btGe bt d.bt then d.advanceTo (d.btu.e + (bt + 2 ^ 48 - d.bt) % 2 ^ 48) else d

/-- The actions held for pier `p` are delivered, counted late, once it is ON, or discarded if it has been held OFF (R76). -/
def Dev.heldDeliver (d : Dev) (p : Nat) : Dev :=
  let mine := d.trs.held.filter (fun w => d.actPier w == p)
  let rest := d.trs.held.filter (fun w => d.actPier w != p)
  let go (f : Dev → Nat → Dev) : Dev := (startsLast mine).foldl f (d.modTrs (fun t => { t with held := rest }))
  if d.awake p then go (fun d w => (d.bump rTRS_BUNCH_CNT fTRS_BUNCH_CNT_COUNT).gateOpen (d.actBranch w) |>.actDo w)
  else if d.holdOf p = 2 then go (fun d _ => d.trsDiscard)
  else d

/-! ### The event merge (R79 to R81) -/

/-- The lines whose latches are set, ascending. -/
def Dev.latched (d : Dev) : List Nat := (List.range 256).filter (fun l => natBit (d.rd (rTRS_EV_LATCH (l / 24))) (l % 24))

/-- A one-clock pulse on a line to every waiter (R81): cores, timers, crossbar outputs, DMA channels and the interrupt controller. -/
def Dev.evPulse (d : Dev) (l : Nat) : Dev := ((((d.corePulse l).tmrPulse l).evoPulse l).dmaPulse l).irqRaise (l + 1)

/-- A pass of the merge: the set latches are taken and cleared, and delivered in ascending order. -/
def Dev.evPass (d : Dev) : Dev :=
  d.latched.foldl Dev.evPulse ((List.range 11).foldl (fun d k => d.wr (rTRS_EV_LATCH k) 0) d)

/-! ### Commands -/

def execTrestleFire (bt : BitVec 48) (s : State) := s.upd (fun d => (d.btReach bt.toNat).trsFire)

def execReglListApply (s : State) := s.upd Dev.reglApply

def execTrestleHeldDelivery (pier : Fin 40) (s : State) := s.upd (·.heldDeliver pier)

def execEventRaise (line : BitVec 8) (s : State) := s.upd (·.evRaise line.toNat)

def execTrsEvLatchWrite (k : Fin 11) (value : Reg) (s : State) :=
  s.upd (fun d => (d.regWriteAs .t0 (rTRS_EV_LATCH k) value.toNat).2)

def execEventMergePass (s : State) := s.upd Dev.evPass

end Sys2Proof.Machine
end

