-- ==== Sys2Proof/Machine/Packets.lean ====
section
/-! DEFINITION. The packets of the opcode catalogue (R340 to R342) but for the session, debug and telltale groups: layouts, levels and
effects. -/

namespace Sys2Proof.Machine

/-! ### Requests -/

/-- A request as T0 reads it (R318). -/
structure Req where
  ep : Endpoint
  w0 : Nat
  count : Nat
  args : Nat
  ws : List Nat
deriving DecidableEq, Repr

def Req.op (r : Req) : Nat := natBits r.w0 36 12
def Req.slot (r : Req) : Nat := natBits r.w0 33 3
def Req.rr (r : Req) : Bool := natBit r.w0 31
def Req.wait (r : Req) : Bool := natBit r.w0 30
def Req.fwd (r : Req) : Bool := natBit r.w0 29
def Req.dev (r : Req) : Nat := natBits r.w0 27 2
def Req.w (r : Req) (i : Nat) : Nat := r.ws.getD i 0
/-- The unit index U: output, cluster or camera port. -/
def Req.u (r : Req) : Nat := natBits r.args 33 3

/-- The words of a request. -/
def Req.words (r : Req) : List Word :=
  [BitVec.ofNat 48 r.w0, BitVec.ofNat 48 (r.count * 2 ^ 36 + r.args)] ++ r.ws.map (BitVec.ofNat 48)

/-- The rights a request acts with: its session, as an owner of buffers and trestle entries, and that session's levels (R333). -/
structure Rights where
  owner : Nat
  level : Nat
  debug : Nat
deriving DecidableEq, Repr

/-- What executing a request came to: the status, DETAIL and results of its reply, whether a part of it fell under the silent rule (R339),
and whether its reply comes at completion. -/
structure Out where
  st : Nat
  detail : Nat
  res : List Nat
  viol : Bool
  later : Bool
  d : Dev

def Out.ok (d : Dev) (res : List Nat) : Out := ⟨0, 0, res, false, false, d⟩
def Out.done (d : Dev) : Out := Out.ok d []
def Out.fail (d : Dev) (st : Nat) (detail : Nat := 0) : Out := ⟨st, detail, [], false, false, d⟩
/-- OK with `n` result words of zero, and a violation. -/
def Out.silent (d : Dev) (n : Nat) : Out := ⟨0, 0, List.replicate n 0, true, false, d⟩
/-- OK once the operation completes. -/
def Out.wait (d : Dev) : Out := ⟨0, 0, [], false, true, d⟩

/-- An opcode's row of the catalogue (R341): the payload lengths it takes, the ARGS bits it names, the lowest level and debug level, the
number of results, that number where the state decides it (R339), the checks of R320 on fields and on addresses (a status and the offending word), whether its unit can act (0, NOT_READY
or UNIT_RETIRED), and its effect. -/
structure Op where
  len : Req → Bool
  mask : Nat
  level : Nat
  debug : Nat := 0
  results : Req → Nat := fun _ => 0
  zeros : Dev → Req → Nat := fun _ r => results r
  field : Req → Option (Nat × Nat) := fun _ => none
  addr : Dev → Req → Option (Nat × Nat) := fun _ _ => none
  ready : Dev → Req → Nat := fun _ _ => 0
  run : Rights → Req → Dev → Out

def maskU : Nat := 7 * 2 ^ 33
def lenIs (n : Nat) (r : Req) : Bool := r.ws.length == n
def lenIn (lo hi : Nat) (r : Req) : Bool := decide (lo ≤ r.ws.length ∧ r.ws.length ≤ hi)
def lenPairs (r : Req) : Bool := decide (2 ≤ r.ws.length ∧ r.ws.length ≤ 1022 ∧ r.ws.length % 2 = 0)

/-- The alternating words of a payload. -/
def pairsOf : List Nat → List (Nat × Nat)
  | a :: b :: t => (a, b) :: pairsOf t
  | _ => []

/-- BAD_FIELD at word `i`, unless `b`. -/
def fieldIf (b : Bool) (i : Nat) : Option (Nat × Nat) := if b then none else some (0x103, i)

/-- Every payload word `i` of the list fits in `w` bits. -/
def fits (w : Nat) (is : List Nat) (r : Req) : Option (Nat × Nat) :=
  (is.find? (fun i => decide (2 ^ w ≤ r.w i))).map (fun i => (0x103, 2 + i))

/-- Every offset of a pair names a register that the opcode reaches. -/
def offsets (ok : Nat → Bool) (r : Req) : Option (Nat × Nat) :=
  (((List.range r.ws.length).filter (fun i => i % 2 == 0)).find? (fun i => !ok (r.w i))).map (fun i => (0x103, 2 + i))

/-! ### Units (R332) -/

/-- Can the pipe that serves output U be changed: its pier is not held OFF, and it is not retired without a replacement? -/
def Dev.outReady (d : Dev) (r : Req) : Nat :=
  if d.pierShut (d.outPier r.u) then 0x403 else if d.noPipe r.u then 0x502 else 0
/-- Can its registers be read? -/
def Dev.outReads (d : Dev) (r : Req) : Nat := if d.pierShut (d.outPier r.u) then 0x403 else 0
def Dev.lccReady (d : Dev) (r : Req) : Nat := if d.pierShut (14 + r.u) then 0x403 else 0
def Dev.camHeld (d : Dev) (r : Req) : Nat := if d.pierShut (26 + r.u / 4) then 0x403 else 0
def Dev.audReady (d : Dev) (_ : Req) : Nat := if d.pierShut 28 then 0x403 else 0

/-! ### Registers written and read for packets -/

/-- Registers read in order. -/
def Dev.readRegs (d : Dev) (as : List Nat) : List Nat × Bool × Dev :=
  match as with
  | [] => ([], false, d)
  | a :: t =>
    let (x, d) := d.regReadAs .pkt a
    let (vs, viol, d) := d.readRegs t
    (x.val.toNat :: vs, x.viol || viol, d)

/-- Pairs of address and value written in order; whether one fell under the silent rule. -/
def Dev.writeRegs (d : Dev) (who : Who) : List (Nat × Nat) → Bool × Dev
  | [] => (false, d)
  | (a, v) :: t =>
    let (x, d) := d.regWriteAs who a (v % 2 ^ 24)
    let (viol, d) := d.writeRegs who t
    (x.viol || viol, d)

/-- Registers written; the reply is OK. -/
def Dev.writeOut (d : Dev) (ps : List (Nat × Nat)) : Out :=
  let (viol, d) := d.writeRegs .pkt ps
  ⟨0, 0, [], viol, false, d⟩

/-- Registers read; the reply carries them. -/
def Dev.readOut (d : Dev) (as : List Nat) : Out :=
  let (vs, viol, d) := d.readRegs as
  ⟨0, 0, vs, viol, false, d⟩

/-- Pairs of offset and value within the block or group at `base`. -/
def atBase (base : Nat) (ws : List Nat) : List (Nat × Nat) := (pairsOf ws).map (fun p => (base + p.1, p.2))

/-- The value of a pair from its two halves. -/
def join24 (lo hi : Nat) : Nat := lo + hi * 2 ^ 24

/-! ### REG, MEM and BUF -/

/-- Register addresses at every `step`th payload word (R562, R565). -/
def regFields (step : Nat) (r : Req) : Option (Nat × Nat) :=
  (((List.range r.ws.length).filter (fun i => i % step == 0)).find? (fun i => decide (2 ^ 40 ≤ r.w i))).map (fun i => (0x103, 2 + i))
def Dev.regAddrs (step : Nat) (d : Dev) (r : Req) : Option (Nat × Nat) :=
  (((List.range r.ws.length).filter (fun i => i % step == 0)).find? (fun i => !d.regServes (r.w i))).map (fun i => (0x105, 2 + i))

/-- Does a run of words lie in main memory with its aliases, in the exchange memory or in LPDDR5X (R385)? -/
def Dev.memReach (d : Dev) (a n : Nat) : Bool :=
  let z := a + n - 1
  decide (z < 0x3000000) || decide (0x200000000 ≤ a ∧ z ≤ 0x200000FFF) ||
    (decide (0x8000000000 ≤ a) && d.ddrThere (a - 0x8000000000) && d.ddrThere (z - 0x8000000000))
def Dev.memAddr (n : Req → Nat) (d : Dev) (r : Req) : Option (Nat × Nat) :=
  if d.memReach (r.w 0) (n r) then none else some (0x105, 2)

/-- Main memory and LPDDR5X are not ready while their piers are held OFF (R332) or being reset (R343). -/
def Dev.memReady (d : Dev) (r : Req) : Nat :=
  let a := r.w 0
  if (a < 0x3000000 ∧ [22, 23, 24, 25].any d.pierShut) ∨ (0x8000000000 ≤ a ∧ a ≤ 0x807FFFFFFF ∧ d.pierShut 35) then 0x403 else 0

/-- `n` words read as master 0x50; none when one is uncorrectable. -/
def Dev.memWords (d : Dev) (a : Nat) : Nat → Option (List Nat) × Dev
  | 0 => (some [], d)
  | n + 1 =>
    let (x, d) := d.busRead .t0 masterT0 0x4A a
    let (vs, d) := d.memWords (a + 1) n
    match x with
    | some ⟨v, _, 0⟩ => (vs.map (v.toNat :: ·), d)
    | _ => (none, d)

/-- Words written as T0, and whether a part of them fell under the silent rule (R339, R379). -/
def Dev.memPut (d : Dev) (a : Nat) : List Nat → Bool × Dev
  | [] => (false, d)
  | v :: t =>
    let (x, d) := d.busWrite .t0 masterT0 a (BitVec.ofNat 48 v)
    let (viol, d) := d.memPut (a + 1) t
    (x.viol || viol, d)

/-- `n` words filled through the fill engine (R385), and whether a part fell under the silent rule. -/
def Dev.memFill (d : Dev) (a v : Nat) : Nat → Bool × Dev
  | 0 => (false, d)
  | n + 1 =>
    let (x, d) := d.busWrite .t0 0x72 a (BitVec.ofNat 48 v)
    let (viol, d) := d.memFill (a + 1) v n
    (x.viol || viol, d)

/-- The end of a packet that has written memory. -/
def Out.wrote (x : Bool × Dev) : Out := ⟨0, 0, [], x.1, false, x.2⟩

def opRegRead : Op where
  len := lenIn 1 1022
  mask := 0
  level := 3
  results r := r.ws.length
  field := regFields 1
  addr := Dev.regAddrs 1
  run _ r d := d.readOut r.ws

def opRegWrite : Op where
  len := lenPairs
  mask := 0
  level := 3
  field := regFields 2
  addr := Dev.regAddrs 2
  run _ r d := d.writeOut (pairsOf r.ws)

def opMemRead : Op where
  len := lenIs 1
  mask := 0x7FF
  level := 3
  results r := r.args % 2048
  field r := if 1 ≤ r.args % 2048 ∧ r.args % 2048 ≤ 1022 then fits 40 [0] r else some (0x103, 1)
  addr := Dev.memAddr (fun r => r.args % 2048)
  ready := Dev.memReady
  run _ r d :=
    match d.memWords (r.w 0) (r.args % 2048) with
    | (some vs, d) => Out.ok d vs
    | (none, d) => Out.fail d 0x501

def opMemWrite : Op where
  len := lenIn 2 1022
  mask := 0
  level := 3
  field := fits 40 [0]
  addr := Dev.memAddr (fun r => r.ws.length - 1)
  ready := Dev.memReady
  run _ r d := Out.wrote (d.memPut (r.w 0) (r.ws.drop 1))

def opMemFill : Op where
  len := lenIs 3
  mask := 0
  level := 3
  field r := if 2 ^ 40 ≤ r.w 0 then some (0x103, 2) else fieldIf (decide (1 ≤ r.w 1 ∧ r.w 1 ≤ 16777216)) 3
  addr := Dev.memAddr (fun r => r.w 1)
  ready := Dev.memReady
  run _ r d := Out.wrote (d.memFill (r.w 0) (r.w 2) (r.w 1))

def opBufAlloc : Op where
  len := lenIs 0
  mask := 0xFFF
  level := 2
  results _ := 2
  run x r d :=
    match d.bufAlloc (r.args % 4096 + 1) x.owner with
    | some (h, d) => Out.ok d [h, h / 4096 * 4096]
    | none => Out.fail d 0x303

/-- BUF.FREE (R363, R364): the generation is checked first, then ownership. -/
def opBufFree : Op where
  len := lenIs 0
  mask := 0xFFFFFF
  level := 2
  run x r d :=
    match d.bufOf r.args with
    | some b => if (if b.orphan then x.level == 3 else b.owner == x.owner) then Out.done (d.bufRelease b) else Out.silent d 0
    | none => if (d.regionOf r.args).isSome then Out.silent d 0 else Out.fail d 0x401

def opBufInfo : Op where
  len := lenIs 0
  mask := 0xFFFFFF
  level := 1
  results _ := 2
  run _ r d :=
    match d.bufOf r.args, d.regionOf r.args with
    | some b, _ => Out.ok d [b.first * 4096, b.orphan.toNat * 2 ^ 15 + b.owner % 8 * 2 ^ 12 + (b.count - 1)]
    | none, some g => Out.ok d [g.1 * 4096, 2 ^ 16 + (g.2 - 1)]
    | none, none => Out.fail d 0x401

/-! ### Layers, sprites, tiles and line programs -/

def Req.layBase (r : Req) : Nat := rOUT_LAYER_CTRL r.u (r.args % 32)
def Req.tilBase (r : Req) : Nat := rOUT_TL_CTRL r.u (r.args % 16)
def runFrom (a n : Nat) : List Nat := (List.range n).map (a + ·)

def opLaySet : Op where
  len := lenPairs
  mask := maskU + 0x1F
  level := 2
  field := offsets (fun o => decide (o ≤ 0x18))
  ready := Dev.outReady
  run _ r d := d.writeOut (atBase r.layBase r.ws)

def opLayGet : Op where
  len := lenIs 0
  mask := maskU + 0x1F
  level := 1
  results _ := 25
  ready := Dev.outReads
  run _ r d := d.readOut (runFrom r.layBase 25)

def opLayStage : Op where
  len := lenIs 1
  mask := maskU
  level := 2
  field := fits 32 [0]
  ready := Dev.outReady
  run _ r d := d.writeOut [(rOUT_STAGED0 r.u, r.w 0 % 2 ^ 24), (rOUT_STAGED1 r.u, r.w 0 / 2 ^ 24)]

/-- SPR.PUBLISH (R126): the reply follows the end of the build. -/
def opSprPublish : Op where
  len := lenIs 1
  mask := maskU + 0xFFF
  level := 2
  field := fits 24 [0]
  ready := Dev.outReady
  run _ r d := Out.wait ((d.owe 0 r.u r.ep r.w0).writeOut [(rOUT_SPR_SAT_COUNT r.u, r.args % 4096), (rOUT_SPR_SAT_BASE r.u, r.w 0)]).d

def opSprStatus : Op where
  len := lenIs 0
  mask := maskU
  level := 1
  results _ := 11
  ready := Dev.outReads
  run _ r d := d.readOut (runFrom (rOUT_SPR_STATUS r.u) 11)

def opSprAffine : Op where
  len := lenIs 4
  mask := maskU + 0x3F
  level := 2
  field r := if r.args % 64 = 0 then some (0x103, 1) else fits 24 [0, 1, 2, 3] r
  ready := Dev.outReady
  run _ r d := d.writeOut ((List.range 4).map (fun i => (rOUT_SPR_AFF r.u (r.args % 64) i, r.w i)))

def opTilSet : Op where
  len := lenPairs
  mask := maskU + 0xF
  level := 2
  field := offsets (fun o => decide (o ≤ 0x11) || o == 0x18)
  ready := Dev.outReady
  run _ r d := d.writeOut (atBase r.tilBase r.ws)

def opTilGet : Op where
  len := lenIs 0
  mask := maskU + 0xF
  level := 1
  results _ := 26
  ready := Dev.outReads
  run _ r d := d.readOut (runFrom r.tilBase 26)

def opTilPalette : Op where
  len r := lenIn 1 (256 - r.args % 256) r
  mask := maskU + 0x3FFF
  level := 2
  ready := Dev.outReady
  run _ r d :=
    let p := natBits r.args 8 6
    d.writeOut ((List.range r.ws.length).flatMap (fun i =>
      [(rOUT_PAL_LO r.u p (r.args % 256 + i), r.w i % 2 ^ 24), (rOUT_PAL_HI r.u p (r.args % 256 + i), r.w i / 2 ^ 24)]))

/-- LPG.LOAD (R158): the reply follows the end of the load. -/
def opLpgLoad : Op where
  len := lenIs 1
  mask := maskU + 0x3FF
  level := 3
  field := fits 24 [0]
  ready := Dev.lccReady
  run _ r d := Out.wait ((d.owe 1 r.u r.ep r.w0).writeOut [(rLCC_PROG_LEN r.u, r.args % 1024), (rLCC_PROG_BASE r.u, r.w 0)]).d

def opLpgParam : Op where
  len := lenIs 0
  mask := maskU + 0xFFFFFF
  level := 2
  ready := Dev.lccReady
  run _ r d := d.writeOut [(rLCC_PARAM r.u, r.args)]

def opLpgStatus : Op where
  len := lenIs 0
  mask := maskU
  level := 1
  results _ := 14
  ready := Dev.lccReady
  run _ r d := d.readOut (runFrom (rLCC_STATUS r.u) 14)

/-! ### Keystone and trestle -/

/-- KEY.ARM (R191, R343). A commit on a dark output would never apply: with WAIT that is NOT_READY. -/
def opKeyArm : Op where
  len := lenIs 1
  mask := maskU
  level := 2
  results r := if r.wait then 2 else 0
  field := fits 32 [0]
  ready := Dev.outReady
  run _ r d :=
    if !r.wait then Out.done (d.keyArm r.u (r.w 0))
    else if !d.lit r.u then Out.fail d 0x403
    else if d.isOwed 2 r.u then Out.fail d 0x402
    else Out.wait ((d.owe 2 r.u r.ep r.w0).keyArm r.u (r.w 0))

def opKeyDisarm : Op where
  len := lenIs 0
  mask := maskU
  level := 2
  ready := Dev.outReady
  run _ r d := Out.done (d.keyDisarm r.u)

def opKeyStatus : Op where
  len := lenIs 0
  mask := maskU
  level := 1
  results _ := 7
  ready := Dev.outReads
  run _ r d :=
    let n := r.u
    let (vs, _, d) := d.readRegs [rOUT_KEY_STATUS n, rOUT_KEY_ARMED_LO n, rOUT_KEY_ARMED_HI n, rOUT_KEY_NR_LO n, rOUT_KEY_NR_HI n,
      rOUT_KEY_DEFER_CNT n, rOUT_COMMIT_SEQ n, rOUT_FRAME_LO n, rOUT_FRAME_HI n, rOUT_FLIP_BT_LO n, rOUT_FLIP_BT_HI n]
    let v (i : Nat) : Nat := vs.getD i 0
    Out.ok d [v 0, join24 (v 1) (v 2), join24 (v 3) (v 4 % 256) + natBits (v 4) 8 3 * 2 ^ 32, v 5, v 6, join24 (v 7) (v 8),
      join24 (v 9) (v 10)]

/-- The entries of a TRS.ADD: BT and action word. -/
def Req.entries (r : Req) : List (Nat × Nat) := pairsOf r.ws

/-- BAD_ACTION at the first entry that R65 refuses. -/
def badEntry (bad : Nat → Bool) (r : Req) : Option (Nat × Nat) :=
  ((List.range (r.ws.length / 2)).find? (fun i => bad (r.w (2 * i + 1)))).map (fun i => (0x104, 3 + 2 * i))

/-- TRS.ADD (R69, R72, R74): all or nothing; a REGL entry below INTEGRATOR level is withheld, and needs no free entry (log entry 19).
Where it is refused with TIMELINE_FULL, the withheld entry steps no violation counter (DESIGN CHOICE, log entry 56). -/
def opTrsAdd : Op where
  len := lenPairs
  mask := 0
  level := 2
  results r := r.ws.length / 2
  field := badEntry (fun w => !actOk w)
  addr d := badEntry d.actBad
  run x r d :=
    let withheld (w : Nat) : Bool := isRegl w && decide (x.level < 3)
    let want := (r.entries.filter (fun e => !withheld e.2)).length
    if 65536 < d.trs.entries.length + want then Out.fail (d.raise rTRS_STATUS fTRS_STATUS_FULL) 0x301
    else
      let late := (r.entries.filter (fun e => !withheld e.2 && btGe d.bt e.1)).length
      let (hs, _, d) := d.trsInsertAll x.owner withheld r.entries
      ⟨if late = 0 then 0 else 1, late, hs, r.entries.any (fun e => withheld e.2), false, d⟩

/-- May a session cancel an entry (R74)? -/
def Rights.cancels (x : Rights) (e : TrsEntry) : Bool := e.owner == x.owner || x.level == 3

def opTrsCancel : Op where
  len := lenIs 0
  mask := 0xFFFFFF
  level := 2
  run x r d :=
    match d.trsEntry r.args with
    | none => Out.fail d 0x401
    | some e => if x.cancels e then Out.done (d.trsRemove e) else Out.silent d 0

def opTrsCancelMatch : Op where
  len := lenIs 4
  mask := 1
  level := 2
  results _ := 1
  run x r d :=
    let es := d.trsMatches (r.w 0) (r.w 1) (if natBit r.args 0 then some (r.w 2, r.w 3) else none)
    let mine := es.filter x.cancels
    ⟨0, 0, [mine.length], !(es.all x.cancels), false, mine.foldl Dev.trsRemove d⟩

def opTrsQuery : Op where
  len := lenIs 0
  mask := 0xFFFFFF
  level := 1
  results _ := 2
  run _ r d :=
    match d.trsEntry r.args with
    | none => Out.fail d 0x401
    | some e => Out.ok d [e.bt, e.act]

def opTrsCadence : Op where
  len := lenIs 0
  mask := 0x1FFFFF
  level := 2
  field r := fieldIf (decide (r.args / 2 ^ 16 ≠ 0)) 1
  run _ r d := d.writeOut [(rTRS_CAD (r.args / 2 ^ 16), r.args % 2 ^ 16)]

/-! ### Cameras and outputs -/

def opCamConfig : Op where
  len := lenPairs
  mask := maskU
  level := 3
  field := offsets (fun o => decide (o ≤ 0xF))
  ready := Dev.camHeld
  run _ r d := d.writeOut (atBase (rCAM_CTRL r.u) r.ws)

def opCamWarp : Op where
  len := lenIs 0
  mask := maskU + 0xFFFFFF
  level := 2
  ready := Dev.camHeld
  run _ r d := d.writeOut [(rCAM_WARP_BASE r.u, r.args)]

def opCamStatus : Op where
  len := lenIs 0
  mask := maskU
  level := 1
  results _ := 13
  ready := Dev.camHeld
  run _ r d := d.readOut (runFrom (rCAM_STATUS r.u) 13)

/-- OUT.LIGHT: with WAIT the reply comes when the output is lit or refused. -/
def opOutLight : Op where
  len := lenIs 0
  mask := maskU + 0xFFFFFF
  level := 3
  field r := fieldIf (r.args &&& 0x60C0FF == 0) 1
  ready := Dev.outReads
  run _ r d :=
    let v := r.args % 2 ^ 24
    if r.wait ∧ natBit v 23 ∧ !d.lit r.u then Out.wait ((d.owe 3 r.u r.ep r.w0).writeOut [(rOUT_CTRL r.u, v)]).d
    else d.writeOut [(rOUT_CTRL r.u, v)]

def opOutStatus : Op where
  len := lenIs 0
  mask := maskU
  level := 1
  results _ := 10
  ready := Dev.outReads
  run _ r d :=
    let n := r.u
    d.readOut [rOUT_STATUS n, rOUT_PIPE n, rOUT_PIXEL_RATE n, rOUT_RETRAIN_CNT n, rOUT_SR_STATUS n, rOUT_REPLAY_CNT n, rOUT_OMIT_CNT n,
      rOUT_COMP_LATE_CNT n, rOUT_STALE_LINE n, rOUT_STALE_FRAME n]

def opOutSr : Op where
  len := lenIs 0
  mask := maskU + 1
  level := 2
  ready := Dev.outReady
  run _ r d := d.writeOut [(rOUT_SR_CTRL r.u, natSetBits (d.rd (rOUT_SR_CTRL r.u)) 23 1 (r.args % 2))]

def opOutBacklight : Op where
  len := lenIs 3
  mask := maskU
  level := 2
  field := fits 24 [0, 1, 2]
  ready := Dev.outReady
  run _ r d := d.writeOut [(rOUT_BL_CTRL r.u, r.w 0), (rOUT_BL_PHASE r.u, r.w 1), (rOUT_BL_DUTY r.u, r.w 2)]

/-- Free bytes, packed six to a word with the last word padded (R318). -/
def Dev.freeBytes (d : Dev) (n : Nat) : Nat → List Nat × Dev
  | 0 => ([], d)
  | k + 1 =>
    let (w, d) := d.takeWord
    let left := n - 6 * (cdiv n 6 - (k + 1))
    let v := if left < 6 then w.toNat / 2 ^ (48 - 8 * left) * 2 ^ (48 - 8 * left) else w.toNat
    let (ws, d) := d.freeBytes n k
    (v :: ws, d)

/-- A transaction with the sink of an output (R220, R222): whether the sink takes it, and what it answers, are free. The output must be lit,
through a port of the right kind. -/
def Dev.sinkTalk (d : Dev) (n kind bytes : Nat) (read : Bool) : Out :=
  if !d.lit n ∨ portKind (d.outPort n) ≠ kind then Out.fail d 0x403
  else
    let (ok, d) := d.takeBool
    if !ok then
      let (c, d) := d.takeNat
      Out.fail d 0x407 (c % 2 ^ 24)
    else if read then
      let (ws, d) := d.freeBytes bytes (cdiv bytes 6)
      Out.ok d ws
    else Out.done d

def opOutAux : Op where
  len r := lenIs (if natBit r.args 32 then 0 else cdiv (r.args % 16 + 1) 6) r
  mask := maskU + 2 ^ 32 + 0xFFFFF00F
  level := 3
  results r := if natBit r.args 32 then cdiv (r.args % 16 + 1) 6 else 0
  ready := Dev.outReady
  run _ r d := d.sinkTalk r.u 1 (r.args % 16 + 1) (natBit r.args 32)

def opOutDcs : Op where
  len r := lenIs (if natBit r.args 32 then 0 else cdiv (r.args % 256) 6) r
  mask := maskU + 2 ^ 32 + 0xFFFF
  level := 3
  results r := if natBit r.args 32 then cdiv (r.args % 256) 6 else 0
  field r := fieldIf (decide (r.args % 256 ≤ 64)) 1
  ready := Dev.outReady
  run _ r d := d.sinkTalk r.u 2 (r.args % 256) (natBit r.args 32)

def opOutSig : Op where
  len r := if natBit r.args 6 then lenIs 1 r else lenPairs r
  mask := maskU + 0x7F
  level := 2
  field r := if natBit r.args 6 then fieldIf (decide (r.w 0 < 2 ^ 24 ∧ r.w 0 &&& 0x7FFE00 = 0)) 2 else offsets (fun o => decide (o ≤ 0xC)) r
  ready := Dev.outReady
  run _ r d :=
    if natBit r.args 6 then d.writeOut [(rOUT_SIG_CTRL r.u, r.w 0)]
    else d.writeOut (atBase (rOUT_SIG_CTRLk r.u (r.args % 64)) r.ws)

def opOutSigRead : Op where
  len := lenIs 0
  mask := maskU + 0x3F
  level := 1
  results _ := 5
  ready := Dev.outReads
  run _ r d :=
    let n := r.u
    let k := r.args % 64
    let (vs, _, d) := d.readRegs [rOUT_SIG_LAST_LO n k, rOUT_SIG_LAST_HI n k, rOUT_SIG_STATUSk n k, rOUT_SIG_MISS_CNT n,
      rOUT_SIG_TRIP_CNT n, rOUT_SIG_UNJ_CNT n]
    Out.ok d (join24 (vs.getD 0 0) (vs.getD 1 0) :: vs.drop 2)

/-! ### Audio -/

def opAudVoice : Op where
  len := lenIs 0
  mask := 0xFF
  level := 2
  ready := Dev.audReady
  run _ r d := Out.done (d.voiceAsk (!natBit r.args 7) (r.args % 128))

/-- AUD.SET: the configuration registers, AUD_CTRL and offset 0x0800 and above, need INTEGRATOR level (R437). -/
def opAudSet : Op where
  len := lenPairs
  mask := 0
  level := 2
  field := offsets (fun o => decide (o < 0x10000))
  ready := Dev.audReady
  run x r d :=
    let may (o : Nat) : Bool := x.level == 3 || (o != 0 && decide (o < 0x800))
    let o := d.writeOut (atBase rAUD_CTRL ((pairsOf r.ws).filter (fun p => may p.1) |>.flatMap (fun p => [p.1, p.2])))
    { o with viol := o.viol || (pairsOf r.ws).any (fun p => !may p.1) }

def opAudStatus : Op where
  len := lenIs 0
  mask := 0x3FFFFFF
  level := 1
  results r := r.args / 2 ^ 16 + 1
  field r := fieldIf (decide (r.args / 2 ^ 16 < 1022 ∧ r.args % 2 ^ 16 + r.args / 2 ^ 16 < 2 ^ 16)) 1
  ready := Dev.audReady
  run _ r d := d.readOut (runFrom (rAUD_CTRL + r.args % 2 ^ 16) (r.args / 2 ^ 16 + 1))

/-! ### Configuration -/

def opCfgApply : Op where
  len := lenIs 0
  mask := 0x3F
  level := 2
  run _ r d :=
    let (st, det, d) := d.ovlApply (r.args % 64) r.wait
    if st ≠ 0 then Out.fail d st det
    else if r.wait then Out.wait (d.owe 4 (r.args % 64) r.ep r.w0)
    else Out.done d

def opCfgRemove : Op where
  len := lenIs 0
  mask := 0x3F
  level := 2
  run _ r d := Out.done (d.ovlRemove (r.args % 64))

/-- CFG.STATUS: the active overlays in order, the first in [23:18] as in DEFAULTS (R345). -/
def opCfgStatus : Op where
  len := lenIs 0
  mask := 0
  level := 1
  results _ := 2
  run _ _ d :=
    let ids := d.cfg.active.map (·.1)
    let ovl := (List.range 4).foldl (fun v i => v * 64 + ids.getD i 0 % 64) 0
    Out.ok d [ids.length % 8 * 2 ^ 24 + ovl, (d.cfg.base.getD 1 0).toNat]

/-- CFG.WRITE (R355). -/
def opCfgWrite : Op where
  len := lenIs 2
  mask := 0x7F
  level := 3
  field := fits 24 [0, 1]
  addr _ r := if r.w 0 + r.w 1 ≤ 0x1000000 then none else some (0x105, 2)
  ready d _ := if d.mainOff then 0x403 else 0
  run _ r d :=
    let base := natBit r.args 6
    let id := r.args % 64
    if r.w 1 = 0 ∧ !base then
      let (st, det, d) := d.cfgErase id
      Out.fail d st det
    else
      let (ws, ue, d) := d.mainReadRun masterT0 (r.w 0) (r.w 1)
      if ue then Out.fail d 0x501
      else
        let (st, det, d) := d.cfgWrite base id ws
        Out.fail d st det

def opCfgSteward : Op where
  len := lenPairs
  mask := 3
  level := 3
  field r := if r.args = 1 ∨ r.args = 2 then offsets (fun o => decide (o ≤ 7)) r else some (0x103, 1)
  run _ r d :=
    let (viol, d) := d.writeRegs .t0 (atBase (rSEC_T_CTRL (r.args % 4)) r.ws)
    ⟨0, 0, [], viol, false, d⟩

/-! ### Updates (R493, R495) -/

/-- Has word `k` of the slot been written, and with what? -/
def Slot.word (s : Slot) (k : Nat) : Option Word := assocGet s.words k

def opUpdBegin : Op where
  len := lenIs 2
  mask := 0
  level := 3
  field r := fieldIf (decide (12 ≤ r.w 0 ∧ r.w 0 ≤ 1048576)) 2
  run _ r d :=
    let st := d.updState
    if st = 6 then Out.fail d 0x604
    else if st = 3 ∨ st = 5 ∨ st = 7 then Out.fail d 0x601
    else
      let d := d.bootWrite { d.bootRec with fallback := false }
      let d := (d.modSlot d.inactive (fun _ => ⟨3, [], r.w 0, r.w 1⟩)).setUpdState 1
      Out.done ((d.wr rUPD_RECEIVED 0).updShow)

/-- The first payload word that lies past the image's length, or that differs from a word already written. -/
def Dev.updBad (d : Dev) (r : Req) : Option Nat :=
  let s := d.slot d.inactive
  let off := r.args % 2 ^ 24
  (List.range r.ws.length).find? (fun i => decide (s.len ≤ off + i) ||
    (match s.word (off + i) with
     | some w => w.toNat != r.w i
     | none => false))

def opUpdData : Op where
  len := lenIn 1 1022
  mask := 0xFFFFFF
  level := 3
  run _ r d :=
    if d.updState ≠ 1 then Out.fail d 0x601
    else
      match d.updBad r with
      | some i => Out.fail d 0x103 (2 + i)
      | none =>
        let off := r.args % 2 ^ 24
        let d := d.modSlot d.inactive (fun s => { s with
          words := (List.range r.ws.length).foldl (fun l i => spInsert l (off + i) (BitVec.ofNat 48 (r.w i))) s.words })
        let s := d.slot d.inactive
        let d := d.wr rUPD_RECEIVED s.words.length
        if s.words.length < s.len then Out.done d
        else Out.done ((d.modSlot d.inactive (fun s => { s with status := 1 })).setUpdState 2)

def opUpdVerify : Op where
  len := lenIs 0
  mask := 0
  level := 3
  run _ r d :=
    let st := d.updState
    if st = 1 then Out.fail d 0x603
    else if st = 2 ∨ st = 4 then Out.wait ((d.owe 6 0 r.ep r.w0).setUpdState 3)
    else Out.fail d 0x601

def opUpdActivate : Op where
  len := lenIs 0
  mask := 1
  level := 3
  run _ r d :=
    let st := d.updState
    let live := natBit r.args 0
    if st = 1 then Out.fail d 0x603
    else if st ≠ 4 then Out.fail d 0x601
    else
      let v := (d.slot d.inactive).ver
      let d := (d.setUpdState 5).bootWrite
        { d.bootRec with active := d.inactive, trial := true, fallback := true, tries := live.toNat, ver := v }
      if live then Out.wait ((d.owe 7 0 r.ep r.w0).modUpd (fun u => { u with hand := some 0 }))
      else Out.done (d.setUpdState 6).updShow

def opUpdConfirm : Op where
  len := lenIs 0
  mask := 0
  level := 3
  run _ _ d := if d.updState = 6 then Out.done (d.setFld rUPD_STATUS fUPD_STATUS_CONFIRM_RCVD 1) else Out.fail d 0x601

def opUpdStatus : Op where
  len := lenIs 0
  mask := 0
  level := 1
  results _ := 3
  run _ _ d := Out.ok d [d.updState, join24 (d.rd rUPD_VER_ACT_LO) (d.rd rUPD_VER_ACT_HI),
    join24 (d.rd rUPD_VER_INACT_LO) (d.rd rUPD_VER_INACT_HI)]

/-- UPD.ABORT: in trial, a live revert once the previous image has verified, which is a free choice. -/
def opUpdAbort : Op where
  len := lenIs 0
  mask := 0
  level := 3
  run _ _ d :=
    let st := d.updState
    if st = 0 then Out.done d
    else if st = 1 ∨ st = 2 ∨ st = 4 then
      Out.done (((d.modSlot d.inactive (fun s => { s with status := 3 })).setUpdState 0).raise rUPD_STATUS fUPD_STATUS_INCOMPLETE)
    else if st = 6 then
      if d.imageGood d.inactive then Out.done d.revert else Out.fail d 0x605
    else Out.fail d 0x601

/-! ### Faults and power -/

def opFltStatus : Op where
  len := lenIs 0
  mask := 0
  level := 1
  results _ := 3
  run _ _ d :=
    let n := d.flt.ring.length
    Out.ok d [d.fld rFLT_STATUS fFLT_STATUS_DEGRADED, n, (d.rd rFLT_JOURNAL_NEXT + 2 ^ 24 - n) % 2 ^ 24]

/-- FLT.JOURNAL: the records asked for that the ring holds; NOT_FOUND where it does not hold the first. -/
def opFltJournal : Op where
  len := lenIs 0
  mask := 0xFFFFFFFF
  level := 1
  results r := 4 * (r.args / 2 ^ 24 + 1)
  field r := fieldIf (decide (r.args / 2 ^ 24 < 255)) 1
  run _ r d :=
    let n := d.flt.ring.length
    let old := (d.rd rFLT_JOURNAL_NEXT + 2 ^ 24 - n) % 2 ^ 24
    let k := (r.args % 2 ^ 24 + 2 ^ 24 - old) % 2 ^ 24
    if n ≤ k then Out.fail d 0x408
    else Out.ok d ((((d.flt.ring.reverse.drop k).take (r.args / 2 ^ 24 + 1)).flatten).map (·.toNat))

def opFltClear : Op where
  len := lenIs 0
  mask := 0
  level := 3
  run _ _ d := Out.done (d.modFlt (fun t => { t with ring := [], hist := [], merge := [] }))

/-- The number of instances of each unit class (R29). -/
def classCount (cls : Nat) : Nat :=
  [0, 1, 1, 4, 272, 9, 8, 72, 8, 1, 1, 4, 1, 1, 1, 1, 3, 54, 1, 2, 1, 4, 4, 2, 1, 1].getD cls 0

/-- FLT.RETIRE: a report under code 0x11, which the fault manager judges (R481). -/
def opFltRetire : Op where
  len := lenIs 0
  mask := 0x1FFFF
  level := 3
  field r := fieldIf (decide (r.args / 2 ^ 8 < classCount (r.args % 256))) 1
  run _ r d := Out.done (d.reportUnit 0x11 (r.args % 256) (r.args / 2 ^ 8))

def opPwrState : Op where
  len := lenIs 0
  mask := 3
  level := 3
  field r := fieldIf (decide (r.args < 3)) 1
  run _ r d := Out.done (d.targetWrite r.args)

def opPwrHold : Op where
  len := lenIs 0
  mask := 0xFF
  level := 3
  field r :=
    let p := r.args % 64
    let h := r.args / 64
    fieldIf (decide (p < 40 ∧ h < 3 ∧ ¬(h = 2 ∧ (p ≤ 2 ∨ p = 39)))) 1
  run _ r d :=
    let p := r.args % 64
    Out.done (d.pierCtrlWrite p (natSetBits (d.rd (rPMU_PIER_CTRL p)) 22 2 (r.args / 64)))

/-- The states of `n` piers from `p` on, two bits each, the first lowest. -/
def Dev.pierWord (d : Dev) (p : Nat) : Nat → Nat
  | 0 => 0
  | n + 1 => d.pier p + 4 * d.pierWord (p + 1) n

def opPwrStatus : Op where
  len := lenIs 0
  mask := 0
  level := 1
  results _ := 3
  run _ _ d := Out.ok d [d.dstate, d.pierWord 0 24, d.pierWord 24 16]

end Sys2Proof.Machine
end

