-- ==== Sys2Proof/Machine/Talk.lean ====
section
/-! DEFINITION. The packets of the session, debug and telltale groups, the catalogue of opcodes (R340, R341), the checks of R320, the silent
rule (R339), and how T0 serves a packet. -/

namespace Sys2Proof.Machine

/-! ### Sessions (R335 to R337) -/

/-- SES.HELLO and SES.PROVE are served apart, by `Dev.hello` and `Dev.prove`. -/
def opSesHello : Op where
  len := lenIs 0
  mask := 0
  level := 0
  results _ := 4
  run _ _ d := Out.done d

def opSesProve : Op where
  len := lenIs 6
  mask := maskU + 0x33
  level := 0
  results _ := 1
  field r :=
    if r.args % 4 = 0 ∨ natBits r.args 4 2 = 3 then some (0x103, 1)
    else fieldIf (decide (r.w 5 % 2 ^ 32 = 0)) 7
  run _ _ d := Out.done d

/-- SES.CLOSE: the session is over before the reply, and its owed replies are discarded (R343). -/
def opSesClose : Op where
  len := lenIs 0
  mask := 0
  level := 0
  run _ r d := Out.done (d.sesEnd r.slot)

/-- SES.INFO: the violation count shows at INTEGRATOR level only (R339). -/
def opSesInfo : Op where
  len := lenIs 0
  mask := 7
  level := 1
  results _ := 2
  run x r d := ⟨0, 0, [d.sesReg r.args, if x.level = 3 then d.rd (rSEC_SES_VIOL_CNT r.args) else 0], x.level != 3, false, d⟩

def opSesPing : Op where
  len := lenIs 0
  mask := 0
  level := 1
  results _ := 1
  run _ _ d := Out.ok d [d.bt]

/-- The transport code of an endpoint in SEC_SESs. -/
def epCode : Endpoint → Nat
  | .ring _ => 0
  | .steward _ => 1
  | .udp _ _ _ _ => 2
  | _ => 3

def epIsRing : Endpoint → Bool
  | .ring _ => true
  | .steward _ => true
  | _ => false

def epIsUdp : Endpoint → Bool
  | .udp _ _ _ _ => true
  | _ => false

def epIsPeer : Endpoint → Bool
  | .peer _ _ _ => true
  | _ => false

/-- What a packet executed over UDP with RR at 1 leaves for its repeats: the last 16 of its endpoint (R327). -/
def Dev.udpNote (d : Dev) (r : Req) (reply : Option (List Word)) : Dev :=
  if epIsUdp r.ep && r.rr then
    let mine := d.talk.udp.filter (fun u => u.ep == r.ep)
    let rest := d.talk.udp.filter (fun u => u.ep != r.ep)
    d.modTalk (fun t => { t with udp := rest ++ mine.drop (mine.length - 15) ++ [⟨r.ep, r.w0, crcWords r.words, reply⟩] })
  else d

/-- Three words of nonce: 128 bits, the last word padded (R318). -/
def Dev.nonce (d : Dev) : List Word × Dev :=
  let (a, d) := d.takeWord
  let (b, d) := d.takeWord
  let (c, d) := d.takeWord
  ([a, b, c &&& 0xFFFFFFFF0000#48], d)

/-- The device serial. -/
def Dev.serial (d : Dev) : Nat := d.rd rSEC_SERIAL_HI * 2 ^ 24 + d.rd rSEC_SERIAL_LO

/-- SES.HELLO (R335): the lowest free slot becomes CHALLENGED; its number stands in the reply's word 0. -/
def Dev.challenge (d : Dev) (r : Req) : Dev :=
  match (List.range 8).find? (fun s => d.sesState s == 0) with
  | none =>
    let d := (d.raise rSEC_STATUS fSEC_STATUS_LIMIT).udpNote r none
    d.reply r.ep r.w0 0x302 0 []
  | some s =>
    let (n, d) := d.nonce
    let d := d.wr (rSEC_SES s) (2 ^ 22 + epCode r.ep * 2 ^ 12)
    let d := (d.setSes s ⟨some r.ep, n, d.btu.clocks⟩).sesShow s
    let w0 := natSetBits r.w0 33 3 s
    let res := n ++ [BitVec.ofNat 48 d.serial]
    let d := d.udpNote r (some (replyWords w0 0 0 res))
    d.reply r.ep w0 0 0 res

/-- An endpoint whose proof has failed gets no answer for 100 ms. -/
def Dev.hello (d : Dev) (r : Req) : Dev :=
  match d.talk.barred.find? (·.1 == r.ep) with
  | some (_, at') =>
    if d.btu.clocks < at' + 100000000 then d
    else (d.modTalk (fun t => { t with barred := t.barred.filter (·.1 != r.ep) })).challenge r
  | none => d.challenge r

/-- The bytes of a nonce. -/
def nonceBytes (n : List Word) : List Nat := (n.flatMap (fun w => beBytes w.toNat 6)).take 16

/-- The highest session level that an endpoint's transport allows (R336). -/
def Dev.epLevel (d : Dev) : Endpoint → Nat
  | .steward t => d.fld (rSEC_T_CTRL (t.val + 1)) fSEC_T_CTRL_LEVEL
  | _ => 3

/-- SES.PROVE (R336). -/
def Dev.proof (d : Dev) (r : Req) : Nat × List Nat × Dev :=
  let s := r.slot
  let k := r.u
  let dbg := natBits r.args 4 2
  let lev := r.args % 4
  let x := d.ses s
  if d.sesState s ≠ 1 ∨ x.ep ≠ some r.ep then (0x201, [], d)
  else if !d.flag (rSEC_KEY k) fSEC_KEY_VALID then (0x203, [], d.sesFree s)
  else if d.fld (rSEC_KEY k) fSEC_KEY_MAX_LEVEL < lev ∨ d.fld (rSEC_KEY k) fSEC_KEY_MAX_DEBUG < dbg ∨ d.epLevel r.ep < lev then
    (0x204, [], d.sesFree s)
  else
    let m := nonceBytes x.nonce ++ beBytes d.serial 6 ++ [dbg * 16 + lev]
    let mac := hmacSha256 (beBytes (d.talk.keys.getD k 0) 32) m
    if mac = (r.ws.flatMap (fun w => beBytes w 6)).take 32 then
      let v := 2 * 2 ^ 22 + lev * 2 ^ 20 + dbg * 2 ^ 18 + k * 2 ^ 15 + epCode r.ep * 2 ^ 12
      let d := (d.wr (rSEC_SES s) v).setSes s ⟨some r.ep, [], d.btu.clocks⟩
      let d := (d.wr (rSEC_SES_VIOL_CNT s) 0).sesShow s
      (0, [d.fld rSEC_CTRL fSEC_CTRL_IDLE_S * 2 ^ 12 + dbg * 16 + lev], d)
    else
      let d := (d.sesFree s).bump rSEC_PROOF_FAIL_CNT fSEC_PROOF_FAIL_CNT_COUNT
      let d := d.raise rSEC_STATUS fSEC_STATUS_PROOF_FAIL
      (0x202, [], d.modTalk (fun t => { t with barred := (r.ep, d.btu.clocks) :: t.barred.filter (·.1 != r.ep) }))

def Dev.prove (d : Dev) (r : Req) : Dev :=
  let (st, res, d) := (d.udpNote r none).proof r
  d.reply r.ep r.w0 st 0 (res.map (BitVec.ofNat 48))

/-! ### Debug (R522 to R537) -/

def Req.core (r : Req) : Nat := natBits r.args 29 7
def maskCore : Nat := 0x7F * 2 ^ 29

/-- BAD_FIELD for a core that is not there (R341). -/
def coreField (r : Req) : Option (Nat × Nat) := fieldIf (decide (r.core ≤ 0x49)) 1
/-- BAD_FIELD for T2 while T1 is paired (R523). -/
def Dev.corePaired (d : Dev) (r : Req) : Option (Nat × Nat) := fieldIf (!(r.core == 0x49 && d.paired)) 1

def opDbgAttach : Op where
  len := lenIs 0
  mask := 0
  level := 0
  debug := 1
  run x _ d := Out.done (d.attach x.owner (x.debug == 2))

def opDbgDetach : Op where
  len := lenIs 0
  mask := 0
  level := 0
  debug := 1
  run x _ d := Out.done (d.detach x.owner)

/-- The core whose debug view holds address `a` (R526). -/
def viewCore (a : Nat) : Option Nat :=
  let c := (a - 0xFE00000000) / 0x10000
  if 0xFE00000000 ≤ a ∧ c ≤ 0x49 then some c else none

/-- The addresses that DBG.READ reaches (R526). -/
def Dev.dbgReach (d : Dev) (a : Nat) : Bool := d.memReach a 1 || d.regServes a || (viewCore a).isSome

/-- A word read by the debug monitor; none when it is uncorrectable. A read of IRQC_Tt_CLAIM claims nothing (R313). -/
def Dev.dbgRead (d : Dev) (a : Nat) : Option Nat × Dev :=
  match viewCore a with
  | some c => (some (d.viewRead c (a % 0x10000)).toNat, d)
  | none =>
    if isRegAddr a then
      if blockOf a = 0x0C then (some (d.rd a), d)
      else if (idxOf rIRQC_T_CLAIM 3 a).isSome then (some (d.claimValue ((idxOf rIRQC_T_CLAIM 3 a).getD 0)), d)
      else
        let (x, d) := d.regReadAs (if pktClosed (blockOf a) then .t0 else .pkt) a
        (some x.val.toNat, d)
    else
      match d.busRead .t0 masterT0 0x4A a with
      | (some ⟨v, _, 0⟩, d) => (some v.toNat, d)
      | (_, d) => (none, d)

def Dev.dbgReads (d : Dev) (a : Nat) : Nat → Option (List Nat) × Dev
  | 0 => (some [], d)
  | n + 1 =>
    let (v, d) := d.dbgRead a
    let (vs, d) := d.dbgReads (a + 1) n
    (v.bind (fun v => vs.map (v :: ·)), d)

/-- NOT_READY of DBG.READ (R332): a core's view follows the core's own pier. -/
def Dev.dbgReady (d : Dev) (r : Req) : Nat :=
  match viewCore (r.w 0) with
  | some c => if d.pierShut (corePier c) then 0x403 else 0
  | none => d.memReady r

def opDbgRead : Op where
  len := lenIs 1
  mask := 0x7FF
  level := 0
  debug := 1
  results r := r.args % 2048
  field r := if 1 ≤ r.args % 2048 ∧ r.args % 2048 ≤ 1022 then fits 40 [0] r else some (0x103, 1)
  addr d r :=
    let as := runFrom (r.w 0) (r.args % 2048)
    if d.paired ∧ as.any (fun a => viewCore a == some 0x49) then some (0x103, 2)
    else if as.all d.dbgReach then none
    else some (0x105, 2)
  ready := Dev.dbgReady
  run _ r d :=
    match d.dbgReads (r.w 0) (r.args % 2048) with
    | (some vs, d) => Out.ok d vs
    | (none, d) => Out.fail d 0x501

/-- Records read from a log at a session's position (R537): how many were lost, the index of the first, and the records. -/
def Log.readFrom (l : Log) (pos most : Nat) : Nat × Nat × List (List Word) :=
  let start := max pos l.oldest
  (start - pos, start, (l.recs.reverse.drop (start - l.oldest)).take most)

/-- The log that DBG.TRACE names, and the most records it returns (R537). -/
def Dev.traceLog (d : Dev) (r : Req) : Log := if natBits r.args 24 1 = 0 then d.dbg.trsLog else d.dbg.stlLog
def traceMost (r : Req) : Nat := min (r.args % 2048) (if natBits r.args 24 1 = 0 then 510 else 340)

/-- DBG.TRACE (R537): a header and records; the session's position moves on. One without the rights gets as many zero words as one that
attaches now would get words (R339). -/
def opDbgTrace : Op where
  len := lenIs 0
  mask := 2 ^ 24 + 0x7FF
  level := 0
  debug := 1
  zeros d r := 1 + ((d.traceLog r).readFrom (d.traceLog r).oldest (traceMost r)).2.2.flatten.length
  run x r d :=
    let k := natBits r.args 24 1
    let l := d.traceLog r
    let at' := ((d.dbg.pos.find? (fun p => p.1 == x.owner && p.2.1 == k)).map (·.2.2)).getD l.oldest
    let (lost, start, recs) := l.readFrom at' (traceMost r)
    let pos := d.dbg.pos.map (fun p => if p.1 = x.owner ∧ p.2.1 = k then (p.1, p.2.1, start + recs.length) else p)
    Out.ok { d with dbg := { d.dbg with pos := pos } } ((lost % 2 ^ 24 * 2 ^ 24 + start % 1024) :: recs.flatten.map (·.toNat))

/-- NOT_READY for a core whose pier is held OFF (R332). -/
def Dev.coreReady (d : Dev) (r : Req) : Nat := if d.pierShut (corePier r.core) then 0x403 else 0

def opDbgHalt : Op where
  len := lenIs 0
  mask := maskCore
  level := 0
  debug := 2
  field := coreField
  addr := Dev.corePaired
  ready := Dev.coreReady
  run _ r d := Out.done (d.dbgHalt r.core)

def opDbgResume : Op where
  len := lenIs 0
  mask := maskCore
  level := 0
  debug := 2
  field := coreField
  addr := Dev.corePaired
  ready := Dev.coreReady
  run _ r d := Out.done (d.resume r.core)

/-- DBG.STEP (R531): the resume address and ST are the results of its completion reply. -/
def opDbgStep : Op where
  len := lenIs 0
  mask := maskCore + 0xFFFF
  level := 0
  debug := 2
  results _ := 2
  field := coreField
  addr := Dev.corePaired
  ready := Dev.coreReady
  run _ r d := Out.wait ((d.owe 9 r.core r.ep r.w0).dbgStep r.core (r.args % 2 ^ 16))

/-- DBG.POINT (R533). -/
def opDbgPoint : Op where
  len := lenIs 1
  mask := maskCore + 0x3F
  level := 0
  debug := 2
  field r :=
    if 0x49 < r.core ∨ (if natBit r.args 4 then 1 else 3) < r.args % 16 then some (0x103, 1) else fits 42 [0] r
  addr := Dev.corePaired
  ready := Dev.coreReady
  run x r d := Out.done (d.setPoint r.core (r.args % 16) (natBit r.args 4) (natBit r.args 5) (r.w 0) x.owner)

/-- Words written into a debug view in order. -/
def Dev.viewPut (d : Dev) (c off : Nat) : List Nat → Dev
  | [] => d
  | v :: t => (d.viewWrite c off (BitVec.ofNat 48 v)).viewPut c (off + 1) t

/-- DBG.WRITE (R532). -/
def opDbgWrite : Op where
  len r := r.ws.length == r.args % 2048 + 1
  mask := maskCore + 0x7FF
  level := 0
  debug := 2
  field r := if 0x49 < r.core then some (0x103, 1) else fits 16 [0] r
  addr d r :=
    match d.corePaired r with
    | some e => some e
    | none => if r.w 0 + r.args % 2048 ≤ 0x10000 then none else some (0x105, 2)
  ready := Dev.coreReady
  run _ r d :=
    if (d.core r.core).run = 2 then Out.done (d.viewPut r.core (r.w 0) (r.ws.drop 1))
    else Out.done (d.raise rDBG_STATUS fDBG_STATUS_WR_IGNORED)

/-! ### Telltales (R250, R254, R330) -/

/-- A telltale command takes effect from the sentinel port, and from a session while HOST_TT_EN is 1. -/
def Dev.ttServe (d : Dev) (x : Rights) (f : Dev → Dev) : Out :=
  if x.level = 4 ∨ d.flag rPRP_CTRL fPRP_CTRL_HOST_TT_EN then Out.done (f d) else Out.silent d 0

def opTtlSet : Op where
  len := lenIs 0
  mask := 0xFF
  level := 2
  run x r d := d.ttServe x (·.ttCommand r.args 1 0)

def opTtlClear : Op where
  len := lenIs 0
  mask := 0xFF
  level := 2
  run x r d := d.ttServe x (·.ttCommand r.args 0 0)

def opTtlBlink : Op where
  len := lenIs 1
  mask := 0xFF
  level := 2
  field := fits 24 [0]
  run x r d := d.ttServe x (·.ttCommand r.args 2 (r.w 0))

/-- TTL.HEARTBEAT belongs to the sentinel port: no session has its level. -/
def opTtlHeartbeat : Op where
  len := lenIs 0
  mask := 0xFFFF
  level := 4
  run _ _ d := Out.done d.heartbeat

/-- The states of 24 telltales from `t` on, two bits each, the first lowest; those past 255 read zero. -/
def Dev.ttPack (d : Dev) (t : Nat) : Nat → Nat
  | 0 => 0
  | n + 1 => (if t < 256 then d.ttState t else 0) + 4 * d.ttPack (t + 1) n

def opTtlStatus : Op where
  len := lenIs 0
  mask := 0
  level := 1
  results _ := 12
  run _ _ d := Out.ok d (d.rd rPRP_STATUS :: (List.range 11).map (fun m => d.ttPack (24 * m) 24))

/-- Words put into the parapet store. -/
def Dev.prpPutAll (d : Dev) (a : Nat) : List Nat → Dev
  | [] => d
  | v :: t => (d.prpStore a (BitVec.ofNat 48 v)).prpPutAll (a + 1) t

def opTtlLoad : Op where
  len := lenIn 1 1022
  mask := 0x7FFFF
  level := 3
  addr _ r := if r.args + r.ws.length ≤ 0x48000 then none else some (0x105, 1)
  run _ r d := Out.done (d.prpPutAll r.args r.ws)

/-! ### The catalogue (R340, R341) -/

/-- The functions of each group, from 0 on. -/
def catalogueGroup : Nat → List Op
  | 0x01 => [opSesHello, opSesProve, opSesClose, opSesInfo, opSesPing]
  | 0x02 => [opRegRead, opRegWrite]
  | 0x03 => [opMemRead, opMemWrite, opMemFill]
  | 0x04 => [opBufAlloc, opBufFree, opBufInfo]
  | 0x05 => [opLaySet, opLayGet, opLayStage]
  | 0x06 => [opSprPublish, opSprStatus, opSprAffine]
  | 0x07 => [opTilSet, opTilGet, opTilPalette]
  | 0x08 => [opLpgLoad, opLpgParam, opLpgStatus]
  | 0x09 => [opKeyArm, opKeyDisarm, opKeyStatus]
  | 0x0A => [opTrsAdd, opTrsCancel, opTrsCancelMatch, opTrsQuery, opTrsCadence]
  | 0x0B => [opCamConfig, opCamWarp, opCamStatus]
  | 0x0C => [opOutLight, opOutStatus, opOutSr, opOutBacklight, opOutAux, opOutDcs, opOutSig, opOutSigRead]
  | 0x0D => [opAudVoice, opAudSet, opAudStatus]
  | 0x0E => [opCfgApply, opCfgRemove, opCfgStatus, opCfgWrite, opCfgSteward]
  | 0x0F => [opUpdBegin, opUpdData, opUpdVerify, opUpdActivate, opUpdConfirm, opUpdStatus, opUpdAbort]
  | 0x10 => [opFltStatus, opFltJournal, opFltClear, opFltRetire]
  | 0x11 => [opPwrState, opPwrHold, opPwrStatus]
  | 0x12 => [opDbgAttach, opDbgDetach, opDbgRead, opDbgTrace, opDbgHalt, opDbgResume, opDbgStep, opDbgPoint, opDbgWrite]
  | 0x13 => [opTtlSet, opTtlClear, opTtlBlink, opTtlHeartbeat, opTtlStatus, opTtlLoad]
  | _ => []

/-- The row of an opcode; none where it is unassigned. -/
def catalogue (op : Nat) : Option Op := (catalogueGroup (op / 64))[op % 64]?

/-! ### The checks of R320 -/

/-- Does the transport carry the opcode (R330, R331)? -/
def Req.carried (r : Req) : Bool :=
  match r.ep with
  | .sentinel => decide (0x4C0 ≤ r.op ∧ r.op ≤ 0x4C4)
  | .peer _ _ _ => decide (64 ≤ r.op ∧ r.op / 64 ≠ 1)
  | _ => true

/-- Is the packet forwarded to another device (R331)? -/
def Dev.away (d : Dev) (r : Req) : Bool := r.fwd && r.dev != d.devNum && !(epIsPeer r.ep) && r.ep != .sentinel

/-- The largest packet of a transport (R323). -/
def epLimit : Endpoint → Nat
  | .sentinel => 64
  | _ => 1024

/-- Does the packet need an open session (R320, R330, R331)? -/
def Req.needsSession (r : Req) : Bool := !(r.op == 0x040 || r.op == 0x041 || epIsPeer r.ep || r.ep == .sentinel)

/-- The first check of R320 that a packet fails: status and offending word. -/
def Dev.check (d : Dev) (r : Req) : Option (Nat × Nat) :=
  if r.count ≠ r.ws.length ∨ epLimit r.ep < r.ws.length + 2 then some (0x101, 1)
  else
    match catalogue r.op with
    | none => some (0x102, 0)
    | some o =>
      if !o.len r then some (0x101, 1)
      else if !r.carried then some (0x106, 0)
      else if natBits r.w0 24 3 ≠ 0 ∨ natBit r.w0 32 ∨ (r.fwd && r.op / 64 == 1) then some (0x103, 0)
      else if r.args &&& (2 ^ 36 - 1 - o.mask) ≠ 0 then some (0x103, 1)
      else
        match o.field r with
        | some e => some e
        | none =>
          match (if d.away r then none else o.addr d r) with
          | some e => some e
          | none => if r.needsSession && !d.sesBound r.slot r.ep then some (0x201, 0) else none

/-! ### Executing (R322, R331, R339) -/

/-- The rights of a request (R330, R331, R333). -/
def Dev.rights (d : Dev) (r : Req) : Rights :=
  match r.ep with
  | .sentinel => ⟨9, 4, 0⟩
  | .peer p level debug => ⟨256 + 8 * d.peerDev p + r.slot, level, debug⟩
  | _ => ⟨r.slot, d.sesLevel r.slot, d.sesDebug r.slot⟩

/-- Do a request's rights reach its opcode (R333, R523)? -/
def Dev.within (d : Dev) (x : Rights) (r : Req) (o : Op) : Bool :=
  decide (o.level ≤ x.level ∧ o.debug ≤ x.debug) && (r.op / 64 != 0x12 || r.op == 0x480 || d.attached x.owner)

/-- A request that has passed the checks, executed. -/
def Dev.execute (d : Dev) (r : Req) (o : Op) : Out :=
  let x := d.rights r
  if !d.within x r o then Out.silent d (o.zeros d r)
  else if o.ready d r ≠ 0 then Out.fail d (o.ready d r)
  else o.run x r d

/-- What executing a request came to, counted and answered (R321, R331, R339). -/
def Req.conclude (r : Req) (o : Out) : Dev :=
  let d := o.d
  let res := o.res.map (BitVec.ofNat 48)
  match r.ep with
  | .peer p _ _ =>
    if o.later || !r.rr then d
    else
      let ws := replyWords r.w0 o.st o.detail res
      (d.modTalk (fun t => { t with last := some ⟨r.ep, ws⟩ })).cmdSend p ws (if o.viol then 16 else 0)
  | _ =>
    let d := if o.viol ∧ r.ep ≠ .sentinel then d.bump (rSEC_SES_VIOL_CNT r.slot) fSEC_SES_VIOL_CNT_COUNT else d
    if o.later then d
    else if r.ep = .sentinel ∧ !r.rr then d.setExUnit 0xC1 0
    else d.reply r.ep r.w0 o.st o.detail res

/-- A packet forwarded over the Wearan CMD class with the levels of its session (R331). -/
def Dev.forward (d : Dev) (r : Req) : Dev :=
  match d.portTo r.dev with
  | none => d
  | some p =>
    if d.linkUp p then
      let d := (d.udpNote r none).cmdSend p r.words (d.sesLevel r.slot + 4 * d.sesDebug r.slot)
      d.when r.rr (·.modTalk (fun t => { t with fwd := t.fwd ++ [⟨r.dev, r.ep, r.w0⟩] }))
    else d.reply r.ep r.w0 0x406 0 []

/-- A packet that T0, or the parapet's sequencer for the sentinel port, has taken. -/
def Dev.serve (d : Dev) (r : Req) : Dev :=
  match d.check r with
  | some (st, det) => r.conclude (Out.fail d st det)
  | none =>
    if r.op = 0x040 then d.hello r
    else if r.op = 0x041 then d.prove r
    else if d.away r then d.forward r
    else
      match catalogue r.op with
      | some o => r.conclude ((d.udpNote r none).execute r o)
      | none => d

/-- The packets of an endpoint whose replies are owed (R322): none is owed to one with RR at 0 (R321). -/
def Dev.owedTo (d : Dev) (ep : Endpoint) : Nat :=
  (d.talk.owed.filter (fun o => o.ep == ep && natBit o.w0 31)).length + (d.talk.fwd.filter (·.ep == ep)).length +
    (d.talk.held.filter (·.ep == ep)).length + (if ep = .spi then d.talk.spi.length else 0)

/-- The packet of a UDP endpoint that this one repeats (R327). -/
def Dev.udpRepeat (d : Dev) (r : Req) : Option UdpSeen :=
  if epIsUdp r.ep && r.rr then
    let crc := crcWords r.words
    d.talk.udp.find? (fun u => u.ep == r.ep && u.w0 == r.w0 && u.crc == crc)
  else none

/-- The arrival of a packet of an open session (R337). -/
def Dev.sesArrive (d : Dev) (r : Req) : Dev :=
  if d.sesBound r.slot r.ep then d.setSes r.slot { d.ses r.slot with at' := d.btu.clocks } else d

/-- May the next packet of an endpoint be taken: none while a reply to it is held for want of room, nor, from a ring, at the limit of owed
replies (R322, R325)? -/
def Dev.takes (d : Dev) (ep : Endpoint) : Bool :=
  !d.talk.held.any (·.ep == ep) && !(epIsRing ep && decide (16 ≤ d.owedTo ep))

/-- Does nothing execute the packets of an endpoint: T0 has found no image to run (R496)? The parapet's sequencer still serves the sentinel port. -/
def Dev.deaf (d : Dev) (ep : Endpoint) : Bool := d.pwr.stage == 4 && ep != .sentinel

/-- A packet that arrives and may be taken: it wakes T0's pier (R459). While a live handover waits no packet is executed but those of the sentinel port (R498); at the
limit, one over UDP or SPI is answered with BUSY (R322). -/
def Dev.arrive (d : Dev) (r : Req) : Dev :=
  let d := (if r.ep = .sentinel then d else d.wake 2).sesArrive r
  match d.udpRepeat r with
  | some u =>
    (match u.reply with
     | some ws => d.modTalk (fun t => { t with last := some ⟨r.ep, ws⟩ })
     | none => d)
  | none =>
    if !(epIsRing r.ep) && !(epIsPeer r.ep) && r.ep != .sentinel && decide (16 ≤ d.owedTo r.ep) then d.reply r.ep r.w0 0x304 0 []
    else if d.upd.hand.isSome && r.ep != .sentinel then
      (if !(epIsRing r.ep) && !(epIsPeer r.ep) && decide (16 ≤ (d.talk.later.filter (·.ep == r.ep)).length) then d.reply r.ep r.w0 0x304 0 []
       else d.modTalk (fun t => { t with later := t.later ++ [⟨r.ep, r.words⟩] }))
    else d.serve r

/-- A request from its words; fewer than two make none. -/
def Req.ofWords (ep : Endpoint) : List Word → Option Req
  | a :: b :: t => some ⟨ep, a.toNat, natBits b.toNat 36 12, b.toNat % 2 ^ 36, t.map (·.toNat)⟩
  | _ => none

/-- The words of a request taken from its endpoint. -/
def Dev.arriveWords (d : Dev) (ep : Endpoint) (ws : List Word) : Dev :=
  match Req.ofWords ep ws with
  | some r => if d.deaf ep then d else d.arrive r
  | none => d

/-- The packet of a row with opcode `op`: it is taken if its endpoint's packets may be taken. -/
def Dev.packet (d : Dev) (op : Nat) (p : Packet) : Dev :=
  let r : Req := ⟨p.ep, Packet.w0 p op, p.count.toNat, p.args.toNat, p.payload.map (·.toNat)⟩
  let d := d.when (epIsRing p.ep) Dev.sendHeld
  if d.takes p.ep ∧ !d.deaf p.ep then d.arrive r else d

/-! ### Commands -/

def execSesHello (p : Packet) (s : State) := s.upd (·.packet 0x040 p)
def execSesProve (p : Packet) (s : State) := s.upd (·.packet 0x041 p)
def execSesClose (p : Packet) (s : State) := s.upd (·.packet 0x042 p)
def execSesInfo (p : Packet) (s : State) := s.upd (·.packet 0x043 p)
def execSesPing (p : Packet) (s : State) := s.upd (·.packet 0x044 p)
def execRegRead (p : Packet) (s : State) := s.upd (·.packet 0x080 p)
def execMemRead (p : Packet) (s : State) := s.upd (·.packet 0x0C0 p)
def execMemWrite (p : Packet) (s : State) := s.upd (·.packet 0x0C1 p)
def execMemFill (p : Packet) (s : State) := s.upd (·.packet 0x0C2 p)
def execBufAlloc (p : Packet) (s : State) := s.upd (·.packet 0x100 p)
def execBufFree (p : Packet) (s : State) := s.upd (·.packet 0x101 p)
def execBufInfo (p : Packet) (s : State) := s.upd (·.packet 0x102 p)
def execLaySet (p : Packet) (s : State) := s.upd (·.packet 0x140 p)
def execLayGet (p : Packet) (s : State) := s.upd (·.packet 0x141 p)
def execLayStage (p : Packet) (s : State) := s.upd (·.packet 0x142 p)
def execSprPublish (p : Packet) (s : State) := s.upd (·.packet 0x180 p)
def execSprStatus (p : Packet) (s : State) := s.upd (·.packet 0x181 p)
def execSprAffine (p : Packet) (s : State) := s.upd (·.packet 0x182 p)
def execTilSet (p : Packet) (s : State) := s.upd (·.packet 0x1C0 p)
def execTilGet (p : Packet) (s : State) := s.upd (·.packet 0x1C1 p)
def execTilPalette (p : Packet) (s : State) := s.upd (·.packet 0x1C2 p)
def execLpgLoad (p : Packet) (s : State) := s.upd (·.packet 0x200 p)
def execLpgParam (p : Packet) (s : State) := s.upd (·.packet 0x201 p)
def execLpgStatus (p : Packet) (s : State) := s.upd (·.packet 0x202 p)
def execKeyArm (p : Packet) (s : State) := s.upd (·.packet 0x240 p)
def execKeyDisarm (p : Packet) (s : State) := s.upd (·.packet 0x241 p)
def execKeyStatus (p : Packet) (s : State) := s.upd (·.packet 0x242 p)
def execTrsAdd (p : Packet) (s : State) := s.upd (·.packet 0x280 p)
def execTrsCancel (p : Packet) (s : State) := s.upd (·.packet 0x281 p)
def execTrsCancelMatch (p : Packet) (s : State) := s.upd (·.packet 0x282 p)
def execTrsQuery (p : Packet) (s : State) := s.upd (·.packet 0x283 p)
def execTrsCadence (p : Packet) (s : State) := s.upd (·.packet 0x284 p)
def execCamConfig (p : Packet) (s : State) := s.upd (·.packet 0x2C0 p)
def execCamWarp (p : Packet) (s : State) := s.upd (·.packet 0x2C1 p)
def execCamStatus (p : Packet) (s : State) := s.upd (·.packet 0x2C2 p)
def execOutLight (p : Packet) (s : State) := s.upd (·.packet 0x300 p)
def execOutStatus (p : Packet) (s : State) := s.upd (·.packet 0x301 p)
def execOutSr (p : Packet) (s : State) := s.upd (·.packet 0x302 p)
def execOutBacklight (p : Packet) (s : State) := s.upd (·.packet 0x303 p)
def execOutAux (p : Packet) (s : State) := s.upd (·.packet 0x304 p)
def execOutDcs (p : Packet) (s : State) := s.upd (·.packet 0x305 p)
def execOutSig (p : Packet) (s : State) := s.upd (·.packet 0x306 p)
def execOutSigRead (p : Packet) (s : State) := s.upd (·.packet 0x307 p)
def execAudVoice (p : Packet) (s : State) := s.upd (·.packet 0x340 p)
def execAudSet (p : Packet) (s : State) := s.upd (·.packet 0x341 p)
def execAudStatus (p : Packet) (s : State) := s.upd (·.packet 0x342 p)
def execCfgApply (p : Packet) (s : State) := s.upd (·.packet 0x380 p)
def execCfgRemove (p : Packet) (s : State) := s.upd (·.packet 0x381 p)
def execCfgStatus (p : Packet) (s : State) := s.upd (·.packet 0x382 p)
def execCfgWrite (p : Packet) (s : State) := s.upd (·.packet 0x383 p)
def execCfgSteward (p : Packet) (s : State) := s.upd (·.packet 0x384 p)
def execUpdBegin (p : Packet) (s : State) := s.upd (·.packet 0x3C0 p)
def execUpdData (p : Packet) (s : State) := s.upd (·.packet 0x3C1 p)
def execUpdVerify (p : Packet) (s : State) := s.upd (·.packet 0x3C2 p)
def execUpdActivate (p : Packet) (s : State) := s.upd (·.packet 0x3C3 p)
def execUpdConfirm (p : Packet) (s : State) := s.upd (·.packet 0x3C4 p)
def execUpdStatus (p : Packet) (s : State) := s.upd (·.packet 0x3C5 p)
def execUpdAbort (p : Packet) (s : State) := s.upd (·.packet 0x3C6 p)
def execFltStatus (p : Packet) (s : State) := s.upd (·.packet 0x400 p)
def execFltJournal (p : Packet) (s : State) := s.upd (·.packet 0x401 p)
def execFltClear (p : Packet) (s : State) := s.upd (·.packet 0x402 p)
def execFltRetire (p : Packet) (s : State) := s.upd (·.packet 0x403 p)
def execPwrState (p : Packet) (s : State) := s.upd (·.packet 0x440 p)
def execPwrHold (p : Packet) (s : State) := s.upd (·.packet 0x441 p)
def execPwrStatus (p : Packet) (s : State) := s.upd (·.packet 0x442 p)
def execDbgAttach (p : Packet) (s : State) := s.upd (·.packet 0x480 p)
def execDbgDetach (p : Packet) (s : State) := s.upd (·.packet 0x481 p)
def execDbgRead (p : Packet) (s : State) := s.upd (·.packet 0x482 p)
def execDbgTrace (p : Packet) (s : State) := s.upd (·.packet 0x483 p)
def execDbgHalt (p : Packet) (s : State) := s.upd (·.packet 0x484 p)
def execDbgResume (p : Packet) (s : State) := s.upd (·.packet 0x485 p)
def execDbgStep (p : Packet) (s : State) := s.upd (·.packet 0x486 p)
def execDbgPoint (p : Packet) (s : State) := s.upd (·.packet 0x487 p)
def execDbgWrite (p : Packet) (s : State) := s.upd (·.packet 0x488 p)
def execTtlSet (p : Packet) (s : State) := s.upd (·.packet 0x4C0 p)
def execTtlClear (p : Packet) (s : State) := s.upd (·.packet 0x4C1 p)
def execTtlBlink (p : Packet) (s : State) := s.upd (·.packet 0x4C2 p)
def execTtlHeartbeat (p : Packet) (s : State) := s.upd (·.packet 0x4C3 p)
def execTtlStatus (p : Packet) (s : State) := s.upd (·.packet 0x4C4 p)
def execTtlLoad (p : Packet) (s : State) := s.upd (·.packet 0x4C5 p)

end Sys2Proof.Machine
end

