-- ==== Sys2Proof/Machine/Transport.lean ====
section
/-! DEFINITION. How packets reach T0 and replies leave (R323 to R331): command rings, UDP, the SPI target port, the sentinel port with its
mailbox and the exchange memory behind it (R379 to R382), the Wearan CMD class (R453), and the live handover (R498). -/

namespace Sys2Proof.Machine

/-! ### Command rings (R324, R325) -/

/-- Words of a request ring from index `i` on, wrapping, read by T0; whether one of them is uncorrectable. -/
def Dev.ringRead (d : Dev) (r : Ring) (i : Nat) : Nat → List Word × Bool × Dev
  | 0 => ([], false, d)
  | n + 1 =>
    let (x, d) := d.mainRead masterT0 (r.req + i % 2 ^ r.reqLog)
    let (ws, ue, d) := d.ringRead r (i + 1) n
    (x.val :: ws, x.ue || ue, d)

/-- Words of a request ring that have not been taken. -/
def Ring.waiting (r : Ring) : Nat := (r.reqTail + 2 ^ 24 - r.reqHead) % 2 ^ 24

/-- The words of the packet at the head of a ring, as word 1 announces them; 0 while word 1 has not come. -/
def Dev.ringNext (d : Dev) (r : Ring) : Nat :=
  if r.waiting < 2 then 0 else natBits (d.peek (r.req + (r.reqHead + 1) % 2 ^ r.reqLog)).toNat 36 12 + 2

/-- RING_BAD for a PCIe ring whose descriptor cannot be served. -/
def Dev.ringBad (d : Dev) : Endpoint → Dev
  | .ring r => (d.wr rHOST_CMD_STATUS (natSetBits (d.rd rHOST_CMD_STATUS) r 1 1)).irqRaise (irqOfAddr rHOST_CMD_STATUS)
  | _ => d

/-- The next whole packet of a ring taken, if there is one and the ring may be read: an uncorrectable word gives DEVICE_FAULT. -/
def Dev.ringTake (d : Dev) (ep : Endpoint) : Option Dev :=
  if d.upd.hand.isSome || d.mainOff || d.ringBase ep == 0 || !d.takes ep then none
  else
    match d.ringAt (d.ringBase ep) with
    | none => none
    | some r =>
      let n := d.ringNext r
      if n = 0 ∨ r.waiting < n then none
      else
        let (ws, ue, d) := d.ringRead r r.reqHead n
        let d := d.mainPut masterT0 (r.at' + 3) (BitVec.ofNat 48 ((r.reqHead + n) % 2 ^ 24))
        if ue then some (d.reply ep (ws.getD 0 0).toNat 0x501 0 []) else some (d.arriveWords ep ws)

/-- The ring endpoints: eight PCIe rings and the two stewards' (R323). -/
def ringEnds : List Endpoint := (List.finRange 8).map .ring ++ [.steward 0, .steward 1]

/-- One turn of each ring (R322), and whether a packet was taken. -/
def Dev.ringTurn (d : Dev) : Bool × Dev :=
  ringEnds.foldl (fun (x : Bool × Dev) ep =>
    match x.2.ringTake ep with
    | some d => (true, d)
    | none => x) (false, d)

/-- Turns until no ring gives a packet. -/
def Dev.ringTurns (d : Dev) : Nat → Dev
  | 0 => d
  | n + 1 =>
    let (took, d) := d.ringTurn
    if took then d.ringTurns n else d

/-- T0 examines every ring (R325): the replies held for room go first, and an invalid descriptor shows in RING_BAD. A T0 that has found no image
to run examines none (R496). -/
def Dev.ringPoll (d : Dev) : Dev :=
  if d.pwr.stage = 4 then d else
  let d := d.sendHeld
  let d := ringEnds.foldl (fun d ep => d.when (d.ringBase ep != 0) (fun d => d.ringLook (d.ringBase ep))) d
  let bad := ringEnds.filter (fun ep => d.ringBase ep != 0 && (d.ringAt (d.ringBase ep)).isNone)
  let d := bad.foldl Dev.ringBad d
  let words := ringEnds.foldl (fun n ep => n + ((d.ringAt (d.ringBase ep)).map Ring.waiting).getD 0) 0
  d.ringTurns (words + 1)

/-- T0 answers a doorbell that has rung, whoever wrote it (R325): the transports answer one that a packet they brought has rung, and a clock in
which the block is idle answers every other. -/
def Dev.bells (d : Dev) : Dev :=
  if d.talk.bell then (d.modTalk (fun t => { t with bell := false })).ringPoll else d

/-! ### UDP (R326) -/

/-- Bytes as words, six to a word, high byte first. -/
def packWords : List (BitVec 8) → List Word
  | a :: b :: c :: e :: f :: g :: t => (a ++ b ++ c ++ e ++ f ++ g) :: packWords t
  | _ => []

/-- A datagram that a MAC brings: taken when it is addressed to UDP_PORT on a MAC that carries packets; discarded and counted when it is a
fragment, fails its checksum, or does not hold 2 to 1,024 words. -/
def Dev.datagram (d : Dev) (mac : Fin 2) (vlan ip src dst : Nat) (frag badSum : Bool) (bytes : List (BitVec 8)) : Dev :=
  if !d.flag rHOST_CMD_CTRL fHOST_CMD_CTRL_UDP_EN || !natBit (d.fld rHOST_CMD_CTRL fHOST_CMD_CTRL_MACS) mac ||
      dst != d.fld rHOST_CMD_CTRL fHOST_CMD_CTRL_UDP_PORT then d
  else
    let d := d.wake 34
    let n := bytes.length
    if frag || badSum || n % 6 != 0 || decide (n < 12) || decide (6144 < n) then
      d.bump rHOST_UDP_DROP_CNT fHOST_UDP_DROP_CNT_COUNT
    else d.arriveWords (.udp mac vlan ip src) (packWords bytes)

/-! ### The SPI target port (R328) -/

/-- Does the port take part in transactions? A disabled port does not. -/
def Dev.spiOn (d : Dev) : Bool := d.flag rHOST_CMD_CTRL fHOST_CMD_CTRL_SPI_EN

/-- Is a packet accepted: while T0 runs it takes each as it is submitted (R321, R322), and while it does not run it takes none (log entry 34). -/
def Dev.spiAccepts (d : Dev) : Bool := d.pwr.stage == 3

/-- A WRITE transaction: discarded and counted when no packet is accepted, or when its bytes are no whole words. -/
def Dev.spiWrite (d : Dev) (bytes : List (BitVec 8)) : Dev :=
  if !d.spiOn then d
  else
    let d := d.wake 38
    if !d.spiAccepts ∨ bytes.length % 6 ≠ 0 then d.bump rHOST_SPI_DROP_CNT fHOST_SPI_DROP_CNT_COUNT
    else
      match packWords bytes with
      | [] => d
      | [w] => d.arrive ⟨.spi, w.toNat, 1, 0, []⟩
      | ws => d.arriveWords .spi ws

/-- A READ transaction of `n` bytes after the command byte: the word count of the oldest reply, then its words. -/
def Dev.spiRead (d : Dev) (n : Nat) : Dev :=
  if !d.spiOn then d
  else
    let d := d.wake 38
    let ws := d.talk.spi.headD []
    let out := beBytes ws.length 2 ++ ws.flatMap (fun w => beBytes w.toNat 6)
    d.modTalk (fun t => { t with spiOut := out.take n, spi := if out.length ≤ n then t.spi.drop 1 else t.spi })

/-- A STATUS transaction. -/
def Dev.spiStatus (d : Dev) : Dev :=
  if !d.spiOn then d
  else (d.wake 38).modTalk (fun t => { t with spiOut := [2 * d.spiAccepts.toNat + (!t.spi.isEmpty).toNat] })

/-! ### The sentinel port (R329, R379 to R382) -/

/-- The packet in the request area, `n` words long, handed to the parapet's sequencer. A request of no words is none. -/
def Dev.submit (d : Dev) (n : Nat) : Dev :=
  let (ws, ue, d) := (List.range (min n 65)).foldl (fun (x : List Word × Bool × Dev) k =>
    let (r, d) := x.2.2.exRead none k
    (x.1 ++ [r.val], x.2.1 || r.ue, d.when r.ue (·.exUe none k))) ([], false, d.setExUnit 0xC1 1)
  let w0 := (ws.getD 0 0).toNat
  if n = 0 then d.setExUnit 0xC1 0
  else if ue then (⟨.sentinel, w0, 0, 0, []⟩ : Req).conclude (Out.fail d 0x501)
  else
    match ws with
    | [w] => d.arrive ⟨.sentinel, w.toNat, 1, 0, []⟩
    | _ => d.arriveWords .sentinel ws

/-- A unit of the mailbox written by the MCU. -/
def Dev.mailWrite (d : Dev) (u v : Nat) : Dev :=
  if u = 0xC0 then (if d.exUnit 0xC1 = 0 then ((d.exSeen 0xC1).setExUnit 0xC0 v).submit v else d.exSeen 0xC1)
  else if (0xC1 ≤ u ∧ u < 0x100) ∨ 0x1C2 ≤ u then d
  else if u = 0x1C0 then
    let d := d.setExUnit 0x1C0 v
    if v = 0 then d.sendHeld else d
  else d.setExUnit u v

/-- An access of the port: counted, and answered only while the port is enabled and FCLK runs. While the exchange memory is zeroed the MCU
holds the access until XBUSY rises (R382), and it finds the memory zero. -/
def Dev.snpAccess (d : Dev) (u : Nat) (f : Dev → Dev) : Dev :=
  if !d.flag rSNP_CTRL fSNP_CTRL_EN || (d.mem.exBusy && decide (d.pwr.stage < 2)) then d
  else
    let d := d.setFld rSNP_ACC_CNT fSNP_ACC_CNT_COUNT ((d.fld rSNP_ACC_CNT fSNP_ACC_CNT_COUNT + 1) % 2 ^ 24)
    if 0x3000 ≤ u then f (d.raise rSNP_STATUS fSNP_STATUS_RANGE) else f d

/-- The fabric master number under which the model shows what a sentinel read returned; R367 gives the port none. -/
def masterSnp : Nat := 0xFF

/-- A live read of a unit: a part-0 read of a word above the mailbox latches the word. -/
def Dev.snpLive (d : Dev) (u flips : Nat) : Dev :=
  let w := u / 3
  let d := if flips = 0 then d else
    { d with mem := { d.mem with exchErr := spSet zeroErr d.mem.exchErr w (spGet zeroErr d.mem.exchErr w ^^^ BitVec.ofNat 55 flips) } }
  let (r, d) := d.exRead none w
  let d := d.when r.ue (·.raise rSNP_STATUS fSNP_STATUS_UE)
  let v : Word := if r.ue then 0 else r.val
  let d := if u % 3 = 0 then { d with mem := { d.mem with exLatch := if 171 ≤ w then some (w, v) else none } } else d
  d.respond masterSnp u (BitVec.ofNat 48 (wordPart v (u % 3)).toNat) 0

/-- What the port answers to a read of unit `u` (R379, R380, R382). -/
def Dev.snpRead (d : Dev) (u flips : Nat) : Dev :=
  let w := u / 3
  let p := u % 3
  if 0x3000 ≤ u then d.respond masterSnp u 0 0
  else
    match d.mem.exLatch with
    | some (lw, v) =>
      if lw = w ∧ p ≠ 0 then d.respond masterSnp u (BitVec.ofNat 48 (wordPart v p).toNat) 0
      else d.snpLive u flips
    | none => d.snpLive u flips

/-- A unit written by the port: it merges into its word as every partial write does (R372, R381). -/
def Dev.snpWrite (d : Dev) (u v : Nat) : Dev :=
  if 0x3000 ≤ u then d else if u < 0x200 then d.mailWrite u v else d.setExUnit u v

/-! ### The Wearan CMD class (R331, R453) -/

/-- A reply that has come back for a forwarded packet: it goes to the origin, and a violation reported with it steps the session's counter. -/
def Dev.fwdReply (d : Dev) (p mark : Nat) (ws : List Word) : Dev :=
  let w0 := (ws.getD 0 0).toNat - 2 ^ 32
  match d.talk.fwd.find? (fun f => f.dev == d.peerDev p && f.w0 == w0) with
  | none => d
  | some f =>
    let d := d.modTalk (fun t => { t with fwd := t.fwd.erase f })
    let s := natBits w0 33 3
    let d := if natBit mark 4 ∧ d.sesBound s f.ep then d.bump (rSEC_SES_VIOL_CNT s) fSEC_SES_VIOL_CNT_COUNT else d
    d.send ⟨f.ep, ws⟩

/-- A packet or reply that has landed whole. -/
def Dev.cmdLanded (d : Dev) (p : Fin 3) (mark : Nat) (ws : List Word) : Dev :=
  if natBit (ws.getD 0 0).toNat 32 then d.fwdReply p mark ws
  else d.arriveWords (.peer p (mark % 4) (natBits mark 2 2)) ws

/-- A CMD cell: CLS [19] marks the first of a packet, [18] the last, [3:0] the words used. -/
def Dev.cmdCell (d : Dev) (p : Fin 3) (h : CellHead) (cls : Nat) (ws : List Word) (mark : Nat) : Dev :=
  let (ok, d) := d.cellRx p h
  if !ok then d
  else
    let here := ws.take (min 9 (cls % 16))
    let all := if natBit cls 19 then here else (d.port p).cmd ++ here
    if natBit cls 18 then (d.modPort p (fun x => { x with cmd := [] })).cmdLanded p mark all
    else d.modPort p (fun x => { x with cmd := all })

/-! ### The live handover (R498) -/

/-- The packets that waited for the handover, in order. -/
def Dev.serveLater (d : Dev) : List Sent → Dev
  | [] => d
  | x :: t => (d.arriveWords x.ep x.words).serveLater t

/-- Does the TG0 frame begin now: is this its first clock, in which BT has moved by at most three units (R38)? -/
def Dev.frameBegins (d : Dev) : Bool := decide (d.btu.e % 2 ^ 24 < 4)

/-- The new image starts at a TG0 frame boundary with no recovery slot busy and no overlay being staged: in trial after an activation, or the
previous image again after a revert. The packets that waited are then taken. That the copy in main memory equals the verified image is not held
again (log entry 17). -/
def Dev.handover (d : Dev) : Dev :=
  match d.upd.hand with
  | none => d
  | some k =>
    if d.flt.spans.any (fun x => x.busy.isSome) ∨ !d.cfg.staging.isEmpty ∨ !d.frameBegins then d
    else
      let d := d.modUpd (fun u => { u with hand := none })
      let d := d.setUpdState (if k = 0 then 6 else 0)
      let d := d.updBegin.updShow.modUpd (fun u => { u with trial := k == 0 })
      let d := if k = 0 then (d.journalDev 0x33 0 (BitVec.ofNat 48 d.bootRec.ver)).complete 7 0 0 0 []
        else d.raise rUPD_STATUS fUPD_STATUS_REVERTED
      let later := d.talk.later
      (d.modTalk (fun t => { t with later := [] })).serveLater later

/-! ### A lost peer (R455) -/

/-- Does the loss of port `p` hide a live REMOTE layer of output `n` in frame `f`? -/
def Dev.peerHides (d : Dev) (p n f : Nat) : Bool := (List.range 32).any (fun k => d.remFeeds p n k && d.remHidden p n k f)

/-- PEER_LOST: a REMOTE layer that the peer feeds is hidden in its output's present frame. -/
def Dev.peerShow (d : Dev) (p : Nat) : Dev :=
  d.setFld (rWRN_STATUS p) fWRN_STATUS_PEER_LOST (d.litOuts.any (fun n => d.peerHides p n (d.outp n).frame)).toNat

/-- The loss overlay, applied once, in the frame of an output before the one from which on a layer is hidden. -/
def Dev.peerOvl (d : Dev) (p n : Nat) : Dev :=
  if d.linkUp p || !d.flag (rWRN_CTRL p) fWRN_CTRL_PEER_LOST_EN || (d.port p).ovl || !d.lit n ||
      !d.peerHides p n (((d.outp n).frame + 1) % 2 ^ 24) then d
  else
    let (st, _, d) := d.ovlApply (d.fld (rWRN_CTRL p) fWRN_CTRL_PEER_LOST_OVL) false
    if st = 0 then d.modPort p (fun x => { x with ovl := true }) else d

/-- What the loss of a peer does on output `n` as its frames go by (R455): the overlay is applied, and PEER_LOST shown. -/
def Dev.peerHold (d : Dev) (p n : Nat) : Dev := if (d.port p).down.isEmpty then d else (d.peerOvl p n).peerShow p

/-- Does the loss of port `p` still hide a live REMOTE layer of output `n`, or will it until the layer has bound a frame again? -/
def Dev.peerWaits (d : Dev) (p n : Nat) : Bool :=
  (List.range 32).any (fun k => d.remFeeds p n k && (d.port p).down.any (fun q =>
    q.1 == 32 * n + k && q.2.2.elim true (fun b => frameBefore (d.outp n).frame b)))

/-- The link is up again: T0 stages the removal of the overlay in the first line 0 (DEDUCED: it cannot know whether the next binding will succeed;
log entry 40). Once every layer has been shown again the loss is over. -/
def Dev.peerBack (d : Dev) (p n : Nat) : Dev :=
  if !d.linkUp p then d
  else
    let d := if (d.port p).ovl && (d.outp n).line == 0 then
        (d.modPort p (fun x => { x with ovl := false })).ovlRemove (d.fld (rWRN_CTRL p) fWRN_CTRL_PEER_LOST_OVL)
      else d
    if (d.port p).down.isEmpty || d.litOuts.any (d.peerWaits p) then d else (d.modPort p (fun x => { x with down := [] })).peerShow p

/-! ### Commands -/

def execHostRingBell (_r : Fin 8) (value : Reg) (s : State) := s.upd (fun d => if natBit value.toNat 0 then d.ringPoll.bells else d)

def execRingPoll (s : State) := s.upd (fun d => (d.modTalk (fun t => { t with bell := false })).ringPoll.bells)

/-- A register write by T0 to any register of the map (R15). -/
def execRegisterWrite (addr : Nat) (value : Reg) (s : State) :=
  s.upd (fun d => (d.regWriteAs .t0 addr value.toNat).2.bells)

def execRegWrite (p : Packet) (s : State) := s.upd (fun d => (d.packet 0x081 p).bells)

def execUdpDatagram (mac : Fin 2) (vlan ip src dst : Nat) (frag badSum : Bool) (bytes : List (BitVec 8)) (s : State) :=
  s.upd (fun d => (d.datagram mac vlan ip src dst frag badSum bytes).bells)

def execSpiTargetWrite (bytes : List (BitVec 8)) (s : State) := s.upd (fun d => (d.spiWrite bytes).bells)

def execSpiTargetRead (count : Nat) (s : State) := s.upd (·.spiRead count)

def execSpiTargetStatus (s : State) := s.upd Dev.spiStatus

def execSentinelSubmit (length : BitVec 16) (s : State) := s.upd (fun d => (d.snpAccess 0xC0 (·.snpWrite 0xC0 length.toNat)).bells)

def execSentinelReplyRelease (s : State) := s.upd (·.snpAccess 0x1C0 (·.snpWrite 0x1C0 0))

def execSentinelRead (unit : BitVec 14) (flips : BitVec 55) (s : State) :=
  s.upd (·.snpAccess unit.toNat (·.snpRead unit.toNat flips.toNat))

def execSentinelWrite (unit : BitVec 14) (value : BitVec 16) (s : State) :=
  s.upd (fun d => (d.snpAccess unit.toNat (·.snpWrite unit.toNat value.toNat)).bells)

def execCmdCell (port : Fin 3) (head : CellHead) (cls : BitVec 20) (words : List Word) (mark : BitVec 5) (s : State) :=
  s.upd (fun d => (d.cmdCell port head cls.toNat words mark.toNat).bells)

def execLiveHandover (s : State) := s.upd (fun d => d.handover.bells)

def execPeerHoldExpiry (port : Fin 3) (out : Fin 8) (s : State) := s.upd (·.peerHold port out)

end Sys2Proof.Machine
end

