-- ==== Sys2Proof/Machine/Frame.lean ====
section
/-! DEFINITION. The two boundaries with everything that hangs on them: the TG0 frame's and an output's line, with what T0 does there for
overlays, start-up, lost peers and the power target. -/

namespace Sys2Proof.Machine

/-- The TG0 frame boundary (R37): the BTU's part, the tracker peaks of the frame (R34) and the healthy frame (R497). BT that has not started has
no frame. -/
def Dev.tg0Boundary (d : Dev) : Dev := if d.btRuns then d.frameBoundary.trackFrame.healthyFrame else d

/-- While TARGET is QUIET or PARK, an output that has left self-refresh is asked for it again (R466). -/
def Dev.srAgain (d : Dev) (n was : Nat) : Dev :=
  let a := rOUT_SR_CTRL n
  if was = 3 ∧ d.fld (rOUT_SR_STATUS n) fOUT_SR_STATUS_SR_STATE = 0 ∧ d.lit n ∧ d.fld rPMU_CTRL fPMU_CTRL_TARGET ≠ 0 ∧
      d.fld a fOUT_SR_CTRL_MODE ≠ 0 then
    (d.srCtrlWrite n (natSetBits (d.rd a) 23 1 0)).srCtrlWrite n (natSetBits (d.rd a) 23 1 1)
  else d

/-- What T0 does after a line of output `n`: awaited overlays that are shown complete (R358), the time of the last lighting is noted (R478), and
what the loss of a peer asks for is done (R455). At line 0 a change of what the parapet draws ends self-refresh (R259). -/
def Dev.lineAfter (d : Dev) (n was : Nat) : Dev :=
  let d := ((List.range 3).foldl (fun d p => (d.peerHold p n).peerBack p n) d.ovlWaits).bootLit
  let d := if (d.outp n).line = 0 then d.parapetChange n (d.prpMoved n) else d
  d.srAgain n was

/-- The replies owed to steps that something other than their last slot has ended: a stopped core, or one lost with its pier (log entry 57). -/
def Dev.stepsEnd (d : Dev) : Dev :=
  ((d.talk.owed.filter (fun o => o.kind == 9 && (d.core o.key).steps.isNone)).map (·.key)).foldl Dev.stepReply d

/-- What a clock without a command does (log entry 3): BT advances, what T0 has staged is armed (R358), T0 looks at a doorbell that has rung (R325), pads
whose pier is ON again follow their sources (R512), each core's oldest posted store lands (R272), level conditions of the pins are found (R513),
and steps that have ended are answered (R531). -/
def Dev.idle (d : Dev) : Dev :=
  let d := d.tick.stagingEnd.bells
  let d := d.when (d.awake 38 && d.pins.held.isSome) Dev.padsFollow
  ((d.cores.map (·.1)).foldl Dev.landOne d).pinsClock.stepsEnd

/-! ### Commands -/

def execBtFrameBoundary (s : State) := s.upd Dev.tg0Boundary

/-- `late` are the layers whose source missed its point, `stall` says that the compositor did, and `chk` lists the telltales whose
read-back differs. -/
def execOutputLineBoundary (out : Fin 8) (late : BitVec 32) (stall : Bool) (chk : List (Fin 256)) (s : State) :=
  s.upd (fun d =>
    let was := d.fld (rOUT_SR_STATUS out) fOUT_SR_STATUS_SR_STATE
    (d.lineBoundary out late.toNat stall (chk.map (·.val))).lineAfter out was)

def execOutputLights (out : Fin 8) (s : State) := s.upd (fun d => (d.lights out).bootLit)

end Sys2Proof.Machine
end

