-- ==== Sys2Proof/Machine/Dispatch.lean ====
section
/-! DEFINITION. The meaning of every command: one arm per constructor of `Instr`. -/

namespace Sys2Proof.Machine

def exec (i : Instr) (s : State) : Host.Outcome State Fault Refusal :=
  match i with
  | .registerWrite addr value => Sys2Proof.Machine.execRegisterWrite addr value s
  | .pairLoRead addr => Sys2Proof.Machine.execPairLoRead addr s
  | .pairHiWrite addr value => Sys2Proof.Machine.execPairHiWrite addr value s
  | .powerGood osc dev => Sys2Proof.Machine.execPowerGood osc dev s
  | .por => Sys2Proof.Machine.execPor s
  | .xresetAssert => Sys2Proof.Machine.execXresetAssert s
  | .pmuDeviceReset => Sys2Proof.Machine.execPmuDeviceReset s
  | .pmuPierReset value => Sys2Proof.Machine.execPmuPierReset value s
  | .coreReset => Sys2Proof.Machine.execCoreReset s
  | .oscWaitExpiry => Sys2Proof.Machine.execOscWaitExpiry s
  | .bootRecordRead okA okB => Sys2Proof.Machine.execBootRecordRead okA okB s
  | .parapetLoad ok ctrl mask store early => Sys2Proof.Machine.execParapetLoad ok ctrl mask store early s
  | .configStartApply => Sys2Proof.Machine.execConfigStartApply s
  | .xtalFail => Sys2Proof.Machine.execXtalFail s
  | .pllLockLoss pll => Sys2Proof.Machine.execPllLockLoss pll s
  | .btFrameBoundary => Sys2Proof.Machine.execBtFrameBoundary s
  | .asSyncReceived mac domain gptpNs freq => Sys2Proof.Machine.execAsSyncReceived mac domain gptpNs freq s
  | .sourceLossTimeout src => Sys2Proof.Machine.execSourceLossTimeout src s
  | .holdoverExpiry => Sys2Proof.Machine.execHoldoverExpiry s
  | .revertSwitch => Sys2Proof.Machine.execRevertSwitch s
  | .forceNext => Sys2Proof.Machine.execForceNext s
  | .btuSrcListWrite value => Sys2Proof.Machine.execBtuSrcListWrite value s
  | .btuEpochWrite value => Sys2Proof.Machine.execBtuEpochWrite value s
  | .btuCamPhaseWrite value => Sys2Proof.Machine.execBtuCamPhaseWrite value s
  | .btuRateWrite value => Sys2Proof.Machine.execBtuRateWrite value s
  | .btuOutMapWrite value => Sys2Proof.Machine.execBtuOutMapWrite value s
  | .trsAdd p => Sys2Proof.Machine.execTrsAdd p s
  | .trsCancel p => Sys2Proof.Machine.execTrsCancel p s
  | .trsCancelMatch p => Sys2Proof.Machine.execTrsCancelMatch p s
  | .trsQuery p => Sys2Proof.Machine.execTrsQuery p s
  | .trsCadence p => Sys2Proof.Machine.execTrsCadence p s
  | .trestleFire bt => Sys2Proof.Machine.execTrestleFire bt s
  | .reglListApply => Sys2Proof.Machine.execReglListApply s
  | .gpioPulseEnd pin => Sys2Proof.Machine.execGpioPulseEnd pin s
  | .trestleHeldDelivery pier => Sys2Proof.Machine.execTrestleHeldDelivery pier s
  | .eventRaise line => Sys2Proof.Machine.execEventRaise line s
  | .trsEvLatchWrite k value => Sys2Proof.Machine.execTrsEvLatchWrite k value s
  | .eventMergePass => Sys2Proof.Machine.execEventMergePass s
  | .outputLineBoundary out late stall chk => Sys2Proof.Machine.execOutputLineBoundary out late stall chk s
  | .lineStartDelayed out => Sys2Proof.Machine.execLineStartDelayed out s
  | .signatureJudge out region => Sys2Proof.Machine.execSignatureJudge out region s
  | .positionError out => Sys2Proof.Machine.execPositionError out s
  | .backlightPeriodStart out j => Sys2Proof.Machine.execBacklightPeriodStart out j s
  | .sprSatBaseWrite out value => Sys2Proof.Machine.execSprSatBaseWrite out value s
  | .spriteBuildDone out => Sys2Proof.Machine.execSpriteBuildDone out s
  | .lccProgBaseWrite out value => Sys2Proof.Machine.execLccProgBaseWrite out value s
  | .codeLoadDone out => Sys2Proof.Machine.execCodeLoadDone out s
  | .codeRefill out => Sys2Proof.Machine.execCodeRefill out s
  | .recw0Store out core value => Sys2Proof.Machine.execRecw0Store out core value s
  | .recw1Store out core value => Sys2Proof.Machine.execRecw1Store out core value s
  | .spanQueueRoom out core => Sys2Proof.Machine.execSpanQueueRoom out core s
  | .doneStore out core => Sys2Proof.Machine.execDoneStore out core s
  | .evwaitStore out core ev => Sys2Proof.Machine.execEvwaitStore out core ev s
  | .evwaitSatisfied out core => Sys2Proof.Machine.execEvwaitSatisfied out core s
  | .lutBaseWrite out value => Sys2Proof.Machine.execLutBaseWrite out value s
  | .lutCopyDone out => Sys2Proof.Machine.execLutCopyDone out s
  | .keyCtrlArm out value => Sys2Proof.Machine.execKeyCtrlArm out value s
  | .keyCtrlDisarm out value => Sys2Proof.Machine.execKeyCtrlDisarm out value s
  | .stagedWrite out k value => Sys2Proof.Machine.execStagedWrite out k value s
  | .scanStoreWrite out value => Sys2Proof.Machine.execScanStoreWrite out value s
  | .csiFrameStart cam vc => Sys2Proof.Machine.execCsiFrameStart cam vc s
  | .csiFrameEnd cam vc => Sys2Proof.Machine.execCsiFrameEnd cam vc s
  | .csiLongPacket cam vc dt hdr crcOk bytes => Sys2Proof.Machine.execCsiLongPacket cam vc dt hdr crcOk bytes s
  | .cameraLineLanded cam => Sys2Proof.Machine.execCameraLineLanded cam s
  | .cameraRingMove cam => Sys2Proof.Machine.execCameraRingMove cam s
  | .cameraStreamLost cam => Sys2Proof.Machine.execCameraStreamLost cam s
  | .dphySyncLoss cam inFlight => Sys2Proof.Machine.execDphySyncLoss cam inFlight s
  | .vcClr cam value => Sys2Proof.Machine.execVcClr cam value s
  | .lightOnWrite out value => Sys2Proof.Machine.execLightOnWrite out value s
  | .portReady out psr gran => Sys2Proof.Machine.execPortReady out psr gran s
  | .outputLights out => Sys2Proof.Machine.execOutputLights out s
  | .lightTimeout out => Sys2Proof.Machine.execLightTimeout out s
  | .lightOffWrite out value => Sys2Proof.Machine.execLightOffWrite out value s
  | .outputGoesDark out => Sys2Proof.Machine.execOutputGoesDark out s
  | .hpdLoss out => Sys2Proof.Machine.execHpdLoss out s
  | .hpdReturn out => Sys2Proof.Machine.execHpdReturn out s
  | .irqHpd out lost => Sys2Proof.Machine.execIrqHpd out lost s
  | .srReqWrite out value => Sys2Proof.Machine.execSrReqWrite out value s
  | .parapetChangeExit out inBand => Sys2Proof.Machine.execParapetChangeExit out inBand s
  | .pipeRetire pipe => Sys2Proof.Machine.execPipeRetire pipe s
  | .sparePipeRetire => Sys2Proof.Machine.execSparePipeRetire s
  | .sparePipeLocked => Sys2Proof.Machine.execSparePipeLocked s
  | .prpDataHiWrite value => Sys2Proof.Machine.execPrpDataHiWrite value s
  | .prpDataLoRead => Sys2Proof.Machine.execPrpDataLoRead s
  | .heartbeatTimeout => Sys2Proof.Machine.execHeartbeatTimeout s
  | .sentinelSubmit length => Sys2Proof.Machine.execSentinelSubmit length s
  | .sentinelReplyRelease => Sys2Proof.Machine.execSentinelReplyRelease s
  | .sentinelRead unit flips => Sys2Proof.Machine.execSentinelRead unit flips s
  | .sentinelWrite unit value => Sys2Proof.Machine.execSentinelWrite unit value s
  | .nop core => Sys2Proof.Machine.execNop core s
  | .brk core => Sys2Proof.Machine.execBrk core s
  | .retx core => Sys2Proof.Machine.execRetx core s
  | .wfi core => Sys2Proof.Machine.execWfi core s
  | .wfiWake core => Sys2Proof.Machine.execWfiWake core s
  | .ei core => Sys2Proof.Machine.execEi core s
  | .di core => Sys2Proof.Machine.execDi core s
  | .fence core => Sys2Proof.Machine.execFence core s
  | .dup core => Sys2Proof.Machine.execDup core s
  | .drop core => Sys2Proof.Machine.execDrop core s
  | .swap core => Sys2Proof.Machine.execSwap core s
  | .over core => Sys2Proof.Machine.execOver core s
  | .rot core => Sys2Proof.Machine.execRot core s
  | .nip core => Sys2Proof.Machine.execNip core s
  | .tuck core => Sys2Proof.Machine.execTuck core s
  | .tor core => Sys2Proof.Machine.execTor core s
  | .fromr core => Sys2Proof.Machine.execFromr core s
  | .rfetch core => Sys2Proof.Machine.execRfetch core s
  | .rdrop core => Sys2Proof.Machine.execRdrop core s
  | .add core => Sys2Proof.Machine.execAdd core s
  | .sub core => Sys2Proof.Machine.execSub core s
  | .and core => Sys2Proof.Machine.execAnd core s
  | .or core => Sys2Proof.Machine.execOr core s
  | .xor core => Sys2Proof.Machine.execXor core s
  | .not core => Sys2Proof.Machine.execNot core s
  | .neg core => Sys2Proof.Machine.execNeg core s
  | .inc core => Sys2Proof.Machine.execInc core s
  | .dec core => Sys2Proof.Machine.execDec core s
  | .shl core => Sys2Proof.Machine.execShl core s
  | .shr core => Sys2Proof.Machine.execShr core s
  | .sar core => Sys2Proof.Machine.execSar core s
  | .min core => Sys2Proof.Machine.execMin core s
  | .max core => Sys2Proof.Machine.execMax core s
  | .abs core => Sys2Proof.Machine.execAbs core s
  | .mul core => Sys2Proof.Machine.execMul core s
  | .mulh core => Sys2Proof.Machine.execMulh core s
  | .mulhu core => Sys2Proof.Machine.execMulhu core s
  | .mulq core => Sys2Proof.Machine.execMulq core s
  | .div core => Sys2Proof.Machine.execDiv core s
  | .divu core => Sys2Proof.Machine.execDivu core s
  | .rem core => Sys2Proof.Machine.execRem core s
  | .remu core => Sys2Proof.Machine.execRemu core s
  | .divq core => Sys2Proof.Machine.execDivq core s
  | .eq core => Sys2Proof.Machine.execEq core s
  | .ne core => Sys2Proof.Machine.execNe core s
  | .lt core => Sys2Proof.Machine.execLt core s
  | .ge core => Sys2Proof.Machine.execGe core s
  | .ltu core => Sys2Proof.Machine.execLtu core s
  | .geu core => Sys2Proof.Machine.execGeu core s
  | .ld core => Sys2Proof.Machine.execLd core s
  | .st core => Sys2Proof.Machine.execSt core s
  | .ldf core => Sys2Proof.Machine.execLdf core s
  | .stf core => Sys2Proof.Machine.execStf core s
  | .ldfi core => Sys2Proof.Machine.execLdfi core s
  | .stfi core => Sys2Proof.Machine.execStfi core s
  | .lit12 core => Sys2Proof.Machine.execLit12 core s
  | .lit24 core => Sys2Proof.Machine.execLit24 core s
  | .litw core => Sys2Proof.Machine.execLitw core s
  | .cbEq core => Sys2Proof.Machine.execCbEq core s
  | .cbNe core => Sys2Proof.Machine.execCbNe core s
  | .cbLt core => Sys2Proof.Machine.execCbLt core s
  | .cbGe core => Sys2Proof.Machine.execCbGe core s
  | .cbLtu core => Sys2Proof.Machine.execCbLtu core s
  | .cbGeu core => Sys2Proof.Machine.execCbGeu core s
  | .jmp core => Sys2Proof.Machine.execJmp core s
  | .call core => Sys2Proof.Machine.execCall core s
  | .jmpi core => Sys2Proof.Machine.execJmpi core s
  | .calli core => Sys2Proof.Machine.execCalli core s
  | .ret core => Sys2Proof.Machine.execRet core s
  | .loop core => Sys2Proof.Machine.execLoop core s
  | .lpush core => Sys2Proof.Machine.execLpush core s
  | .lpop core => Sys2Proof.Machine.execLpop core s
  | .gets core => Sys2Proof.Machine.execGets core s
  | .sets core => Sys2Proof.Machine.execSets core s
  | .interruptEntry core => Sys2Proof.Machine.execInterruptEntry core s
  | .pioSetWrite core value => Sys2Proof.Machine.execPioSetWrite core value s
  | .pioClrWrite core value => Sys2Proof.Machine.execPioClrWrite core value s
  | .pioTglWrite core value => Sys2Proof.Machine.execPioTglWrite core value s
  | .lockstepMismatch paired => Sys2Proof.Machine.execLockstepMismatch paired s
  | .t0Restart => Sys2Proof.Machine.execT0Restart s
  | .secLoad t => Sys2Proof.Machine.execSecLoad t s
  | .stewardLoadDone t => Sys2Proof.Machine.execStewardLoadDone t s
  | .secRunStart t => Sys2Proof.Machine.execSecRunStart t s
  | .secRunStop t => Sys2Proof.Machine.execSecRunStop t s
  | .secPairWrite pair => Sys2Proof.Machine.execSecPairWrite pair s
  | .customerAutoRestart t => Sys2Proof.Machine.execCustomerAutoRestart t s
  | .irqSourceRaise src => Sys2Proof.Machine.execIrqSourceRaise src s
  | .irqcSetpWrite k value => Sys2Proof.Machine.execIrqcSetpWrite k value s
  | .irqcClrpWrite k value => Sys2Proof.Machine.execIrqcClrpWrite k value s
  | .irqcClaimRead t => Sys2Proof.Machine.execIrqcClaimRead t s
  | .irqcEoiPop t => Sys2Proof.Machine.execIrqcEoiPop t s
  | .hostRingBell r value => Sys2Proof.Machine.execHostRingBell r value s
  | .ringPoll => Sys2Proof.Machine.execRingPoll s
  | .udpDatagram mac vlan ip src dst frag badSum bytes => Sys2Proof.Machine.execUdpDatagram mac vlan ip src dst frag badSum bytes s
  | .spiTargetWrite bytes => Sys2Proof.Machine.execSpiTargetWrite bytes s
  | .spiTargetRead count => Sys2Proof.Machine.execSpiTargetRead count s
  | .spiTargetStatus => Sys2Proof.Machine.execSpiTargetStatus s
  | .sessionIdleTimeout slot => Sys2Proof.Machine.execSessionIdleTimeout slot s
  | .challengeExpiry slot => Sys2Proof.Machine.execChallengeExpiry slot s
  | .sesHello p => Sys2Proof.Machine.execSesHello p s
  | .sesProve p => Sys2Proof.Machine.execSesProve p s
  | .sesClose p => Sys2Proof.Machine.execSesClose p s
  | .sesInfo p => Sys2Proof.Machine.execSesInfo p s
  | .sesPing p => Sys2Proof.Machine.execSesPing p s
  | .regRead p => Sys2Proof.Machine.execRegRead p s
  | .regWrite p => Sys2Proof.Machine.execRegWrite p s
  | .memRead p => Sys2Proof.Machine.execMemRead p s
  | .memWrite p => Sys2Proof.Machine.execMemWrite p s
  | .memFill p => Sys2Proof.Machine.execMemFill p s
  | .bufAlloc p => Sys2Proof.Machine.execBufAlloc p s
  | .bufFree p => Sys2Proof.Machine.execBufFree p s
  | .bufInfo p => Sys2Proof.Machine.execBufInfo p s
  | .slabScrubDone slab => Sys2Proof.Machine.execSlabScrubDone slab s
  | .laySet p => Sys2Proof.Machine.execLaySet p s
  | .layGet p => Sys2Proof.Machine.execLayGet p s
  | .layStage p => Sys2Proof.Machine.execLayStage p s
  | .sprPublish p => Sys2Proof.Machine.execSprPublish p s
  | .sprStatus p => Sys2Proof.Machine.execSprStatus p s
  | .sprAffine p => Sys2Proof.Machine.execSprAffine p s
  | .tilSet p => Sys2Proof.Machine.execTilSet p s
  | .tilGet p => Sys2Proof.Machine.execTilGet p s
  | .tilPalette p => Sys2Proof.Machine.execTilPalette p s
  | .lpgLoad p => Sys2Proof.Machine.execLpgLoad p s
  | .lpgParam p => Sys2Proof.Machine.execLpgParam p s
  | .lpgStatus p => Sys2Proof.Machine.execLpgStatus p s
  | .keyArm p => Sys2Proof.Machine.execKeyArm p s
  | .keyDisarm p => Sys2Proof.Machine.execKeyDisarm p s
  | .keyStatus p => Sys2Proof.Machine.execKeyStatus p s
  | .camConfig p => Sys2Proof.Machine.execCamConfig p s
  | .camWarp p => Sys2Proof.Machine.execCamWarp p s
  | .camStatus p => Sys2Proof.Machine.execCamStatus p s
  | .outLight p => Sys2Proof.Machine.execOutLight p s
  | .outStatus p => Sys2Proof.Machine.execOutStatus p s
  | .outSr p => Sys2Proof.Machine.execOutSr p s
  | .outBacklight p => Sys2Proof.Machine.execOutBacklight p s
  | .outAux p => Sys2Proof.Machine.execOutAux p s
  | .outDcs p => Sys2Proof.Machine.execOutDcs p s
  | .outSig p => Sys2Proof.Machine.execOutSig p s
  | .outSigRead p => Sys2Proof.Machine.execOutSigRead p s
  | .audVoice p => Sys2Proof.Machine.execAudVoice p s
  | .audSet p => Sys2Proof.Machine.execAudSet p s
  | .audStatus p => Sys2Proof.Machine.execAudStatus p s
  | .cfgApply p => Sys2Proof.Machine.execCfgApply p s
  | .cfgRemove p => Sys2Proof.Machine.execCfgRemove p s
  | .cfgStatus p => Sys2Proof.Machine.execCfgStatus p s
  | .cfgWrite p => Sys2Proof.Machine.execCfgWrite p s
  | .cfgSteward p => Sys2Proof.Machine.execCfgSteward p s
  | .triggerDeclared t => Sys2Proof.Machine.execTriggerDeclared t s
  | .canFdFrame ctl ide id data => Sys2Proof.Machine.execCanFdFrame ctl ide id data s
  | .updBegin p => Sys2Proof.Machine.execUpdBegin p s
  | .updData p => Sys2Proof.Machine.execUpdData p s
  | .updVerify p => Sys2Proof.Machine.execUpdVerify p s
  | .updVerifyDone ok => Sys2Proof.Machine.execUpdVerifyDone ok s
  | .updActivate p => Sys2Proof.Machine.execUpdActivate p s
  | .updConfirm p => Sys2Proof.Machine.execUpdConfirm p s
  | .updStatus p => Sys2Proof.Machine.execUpdStatus p s
  | .updAbort p => Sys2Proof.Machine.execUpdAbort p s
  | .trialConfirmed => Sys2Proof.Machine.execTrialConfirmed s
  | .trialLimitExpiry ok => Sys2Proof.Machine.execTrialLimitExpiry ok s
  | .liveHandover => Sys2Proof.Machine.execLiveHandover s
  | .fltStatus p => Sys2Proof.Machine.execFltStatus p s
  | .fltJournal p => Sys2Proof.Machine.execFltJournal p s
  | .fltClear p => Sys2Proof.Machine.execFltClear p s
  | .fltRetire p => Sys2Proof.Machine.execFltRetire p s
  | .errorReport found => Sys2Proof.Machine.execErrorReport found s
  | .recoveryEnd span => Sys2Proof.Machine.execRecoveryEnd span s
  | .recoveryTimeout span => Sys2Proof.Machine.execRecoveryTimeout span s
  | .fltLcRetireGo value => Sys2Proof.Machine.execFltLcRetireGo value s
  | .pwrState p => Sys2Proof.Machine.execPwrState p s
  | .pwrHold p => Sys2Proof.Machine.execPwrHold p s
  | .pwrStatus p => Sys2Proof.Machine.execPwrStatus p s
  | .pierStateChoice pier => Sys2Proof.Machine.execPierStateChoice pier s
  | .pierEntryDone pier => Sys2Proof.Machine.execPierEntryDone pier s
  | .demandWake pier => Sys2Proof.Machine.execDemandWake pier s
  | .plannedWake pier => Sys2Proof.Machine.execPlannedWake pier s
  | .pierWakeDone pier => Sys2Proof.Machine.execPierWakeDone pier s
  | .lingerExpiry pier => Sys2Proof.Machine.execLingerExpiry pier s
  | .parkWakeEvent bit => Sys2Proof.Machine.execParkWakeEvent bit s
  | .memoryRead master addr flips waited held => Sys2Proof.Machine.execMemoryRead master addr flips waited held s
  | .memoryWrite master addr value mask waited held => Sys2Proof.Machine.execMemoryWrite master addr value mask waited held s
  | .bitSetStore master addr value => Sys2Proof.Machine.execBitSetStore master addr value s
  | .bitClearStore master addr value => Sys2Proof.Machine.execBitClearStore master addr value s
  | .patrolScrubRead bank flips => Sys2Proof.Machine.execPatrolScrubRead bank flips s
  | .scrubPeriodEnd => Sys2Proof.Machine.execScrubPeriodEnd s
  | .spanZeroed span => Sys2Proof.Machine.execSpanZeroed span s
  | .spareGo spare bank => Sys2Proof.Machine.execSpareGo spare bank s
  | .spareAbort spare => Sys2Proof.Machine.execSpareAbort spare s
  | .spareRemap spare => Sys2Proof.Machine.execSpareRemap spare s
  | .ddrEnable value => Sys2Proof.Machine.execDdrEnable value s
  | .ddrTrained ok => Sys2Proof.Machine.execDdrTrained ok s
  | .dmaStartWrite c value => Sys2Proof.Machine.execDmaStartWrite c value s
  | .dmaStopWrite c value => Sys2Proof.Machine.execDmaStopWrite c value s
  | .dmaMove c => Sys2Proof.Machine.execDmaMove c s
  | .dmaLoop c => Sys2Proof.Machine.execDmaLoop c s
  | .dmaEndloop c => Sys2Proof.Machine.execDmaEndloop c s
  | .dmaWait c => Sys2Proof.Machine.execDmaWait c s
  | .dmaWaitSatisfied c => Sys2Proof.Machine.execDmaWaitSatisfied c s
  | .dmaSignal c => Sys2Proof.Machine.execDmaSignal c s
  | .dmaHalt c => Sys2Proof.Machine.execDmaHalt c s
  | .dmaBurstComplete c => Sys2Proof.Machine.execDmaBurstComplete c s
  | .bltCopy value => Sys2Proof.Machine.execBltCopy value s
  | .bltFill value => Sys2Proof.Machine.execBltFill value s
  | .bltBlend value => Sys2Proof.Machine.execBltBlend value s
  | .bltDone => Sys2Proof.Machine.execBltDone s
  | .bltListStart value => Sys2Proof.Machine.execBltListStart value s
  | .ytSrc => Sys2Proof.Machine.execYtSrc s
  | .ytDst => Sys2Proof.Machine.execYtDst s
  | .ytClip => Sys2Proof.Machine.execYtClip s
  | .ytCopy => Sys2Proof.Machine.execYtCopy s
  | .ytFill => Sys2Proof.Machine.execYtFill s
  | .ytBlend => Sys2Proof.Machine.execYtBlend s
  | .ytSignal => Sys2Proof.Machine.execYtSignal s
  | .ytJump => Sys2Proof.Machine.execYtJump s
  | .ytEnd => Sys2Proof.Machine.execYtEnd s
  | .audVstartWrite k value => Sys2Proof.Machine.execAudVstartWrite k value s
  | .audVstopWrite k value => Sys2Proof.Machine.execAudVstopWrite k value s
  | .audioSamplePeriod late got => Sys2Proof.Machine.execAudioSamplePeriod late got s
  | .audGainWrite gain value => Sys2Proof.Machine.execAudGainWrite gain value s
  | .audEqA2Write bus band value => Sys2Proof.Machine.execAudEqA2Write bus band value s
  | .monitorWindowExpiry mon => Sys2Proof.Machine.execMonitorWindowExpiry mon s
  | .jackPlugDebounced jack => Sys2Proof.Machine.execJackPlugDebounced jack s
  | .jackIdDone jack r2s left sleeve ring2 => Sys2Proof.Machine.execJackIdDone jack r2s left sleeve ring2 s
  | .jackRemoval jack => Sys2Proof.Machine.execJackRemoval jack s
  | .jackButtonChange jack micI => Sys2Proof.Machine.execJackButtonChange jack micI s
  | .jackShort jack => Sys2Proof.Machine.execJackShort jack s
  | .wrnEnWrite port value => Sys2Proof.Machine.execWrnEnWrite port value s
  | .wrnTrained port peer peerPort tx rx => Sys2Proof.Machine.execWrnTrained port peer peerPort tx rx s
  | .wrnRetrainTimer port => Sys2Proof.Machine.execWrnRetrainTimer port s
  | .wrnLinkDown port => Sys2Proof.Machine.execWrnLinkDown port s
  | .laneError port dir lane => Sys2Proof.Machine.execLaneError port dir lane s
  | .nakReceived port ack => Sys2Proof.Machine.execNakReceived port ack s
  | .wrnLaneGo port value => Sys2Proof.Machine.execWrnLaneGo port value s
  | .laneSwapDone port => Sys2Proof.Machine.execLaneSwapDone port s
  | .linkCell port head msg => Sys2Proof.Machine.execLinkCell port head msg s
  | .timeCellSend port => Sys2Proof.Machine.execTimeCellSend port s
  | .timeCell port head words freq => Sys2Proof.Machine.execTimeCell port head words freq s
  | .pixCell port head cls words w h => Sys2Proof.Machine.execPixCell port head cls words w h s
  | .cmdCell port head cls words mark => Sys2Proof.Machine.execCmdCell port head cls words mark s
  | .memCell port head cls data => Sys2Proof.Machine.execMemCell port head cls data s
  | .wrnMemReadTimeout port tag => Sys2Proof.Machine.execWrnMemReadTimeout port tag s
  | .wrnStreamEnable port stream value => Sys2Proof.Machine.execWrnStreamEnable port stream value s
  | .peerHoldExpiry port out => Sys2Proof.Machine.execPeerHoldExpiry port out s
  | .gpioInputChange pin level => Sys2Proof.Machine.execGpioInputChange pin level s
  | .wakeDetect k => Sys2Proof.Machine.execWakeDetect k s
  | .bankSupplyChange bank mv => Sys2Proof.Machine.execBankSupplyChange bank mv s
  | .xbarTrsRelease pin value => Sys2Proof.Machine.execXbarTrsRelease pin value s
  | .eviEdge j rising => Sys2Proof.Machine.execEviEdge j rising s
  | .evoWidthExpiry j => Sys2Proof.Machine.execEvoWidthExpiry j s
  | .tmrEnable n value => Sys2Proof.Machine.execTmrEnable n value s
  | .tmrStep n k => Sys2Proof.Machine.execTmrStep n k s
  | .tmrCaptureEdge n rising back => Sys2Proof.Machine.execTmrCaptureEdge n rising back s
  | .tmrCaptureWrite n value => Sys2Proof.Machine.execTmrCaptureWrite n value s
  | .tmrCapqRead n => Sys2Proof.Machine.execTmrCapqRead n s
  | .pwmPeriodStart c => Sys2Proof.Machine.execPwmPeriodStart c s
  | .dbgAttach p => Sys2Proof.Machine.execDbgAttach p s
  | .dbgDetach p => Sys2Proof.Machine.execDbgDetach p s
  | .dbgRead p => Sys2Proof.Machine.execDbgRead p s
  | .dbgTrace p => Sys2Proof.Machine.execDbgTrace p s
  | .dbgHalt p => Sys2Proof.Machine.execDbgHalt p s
  | .debugHaltTaken core => Sys2Proof.Machine.execDebugHaltTaken core s
  | .dbgResume p => Sys2Proof.Machine.execDbgResume p s
  | .dbgStep p => Sys2Proof.Machine.execDbgStep p s
  | .dbgPoint p => Sys2Proof.Machine.execDbgPoint p s
  | .dbgWrite p => Sys2Proof.Machine.execDbgWrite p s
  | .ttlSet p => Sys2Proof.Machine.execTtlSet p s
  | .ttlClear p => Sys2Proof.Machine.execTtlClear p s
  | .ttlBlink p => Sys2Proof.Machine.execTtlBlink p s
  | .ttlHeartbeat p => Sys2Proof.Machine.execTtlHeartbeat p s
  | .ttlStatus p => Sys2Proof.Machine.execTtlStatus p s
  | .ttlLoad p => Sys2Proof.Machine.execTtlLoad p s
  | .asCapableChange mac capable => Sys2Proof.Machine.execAsCapableChange mac capable s
  | .timeClassTimeout port => Sys2Proof.Machine.execTimeClassTimeout port s
  | .groupFrameStart group => Sys2Proof.Machine.execGroupFrameStart group s
  | .edpRetrainDone out => Sys2Proof.Machine.execEdpRetrainDone out s
  | .pllRelock pll => Sys2Proof.Machine.execPllRelock pll s
  | .xtalRecovery => Sys2Proof.Machine.execXtalRecovery s
  | .exchangeZeroed => Sys2Proof.Machine.execExchangeZeroed s

end Sys2Proof.Machine
end

