-- ==== Sys2Proof/Safety.lean ====
section
/-! DEFINITION. What holds of a run: the lines that follow other state agree with it, and the memories stay in their canonical form. -/

namespace Sys2Proof.Machine

/-- The request line of each interrupt target is up exactly when a source is eligible and the target's stack has room (R311, R313). -/
def Dev.requestsFollow (d : Dev) : Prop :=
  ∀ t, t < 3 → d.flag (rIRQC_T_STATUS t) fIRQC_T_STATUS_REQ = d.irqReq t

/-- ATTN is up exactly when a flag of the parapet that ATTN_MASK selects is set (R257). -/
def Dev.attnFollows (d : Dev) : Prop :=
  d.flag rPRP_STATUS fPRP_STATUS_ATTN = ((d.rd rPRP_STATUS % 64) &&& (d.rd rPRP_ATTN_MASK % 64) != 0)

/-- SEC_STATUS shows, for each session slot, whether it is open and whether it is challenged. -/
def Dev.slotsFollow (d : Dev) : Prop :=
  ∀ k, k < 8 →
    natBit (d.fld rSEC_STATUS fSEC_STATUS_OPEN) k = decide (d.fld (rSEC_SES k) fSEC_SES_STATE = 2) ∧
    natBit (d.fld rSEC_STATUS fSEC_STATUS_CHALLENGED) k = decide (d.fld (rSEC_SES k) fSEC_SES_STATE = 1)

/-- How many entries the device's fixed tables have: outputs, clusters, camera ports, Wearan ports, DMA channels, interrupt targets, voices,
gains, buses, spans, copies of the boot record, image slots, tracker counts, and the regions of each output. -/
def Dev.shape (d : Dev) : List Nat :=
  [d.outs.length, d.lcc.length, d.cams.length, d.wrn.length, d.dma.ch.length, d.irqc.rows.length, d.aud.voices.length, d.aud.gains.length,
    d.aud.bus.length, d.flt.spans.length, d.upd.br.length, d.upd.slots.length, d.trk.length] ++ d.outs.map (·.sigs.length)

/-- Every fixed table of the device has its entries: the premises on lengths of the statements about commands rule out no state that a run
reaches. -/
def Dev.Shaped (d : Dev) : Prop := d.shape = [8, 8, 8, 3, 32, 3, 128, 147, 16, 4, 2, 2, 28] ++ List.replicate 8 64

/-- The lines that follow other state agree with it. -/
def State.Settled (s : State) : Prop := s.dev.requestsFollow ∧ s.dev.attnFollows ∧ s.dev.slotsFollow

end Sys2Proof.Machine
end

