-- ==== Sys2Proof/Certificates/Slice0/Obligations.lean ====
section
/-! DEFINITION. The statements for the provers, chapter by chapter. Each clause is a definition of its own, with the rule it follows;
an obligation is a conjunction of clauses over every state and every operand. -/

namespace Sys2Proof.Machine

/-! ### How a clause says what a command does -/

/-- The command completes: it answers a next state with the queue as it was, whose device satisfies `P`. -/
def Completes (c : Instr) (s : State) (P : Dev → Prop) : Prop :=
  ∃ t : State, exec c s = .next t ∧ t.pending = s.pending ∧ P t.dev

/-- The command completes, and the device becomes `e`, with the lines that follow other state brought up to date (R311, R257, R335). -/
def Becomes (c : Instr) (s : State) (e : Dev) : Prop := Completes c s (· = e.settle)

/-- The registers that show lines which follow other state: the three interrupt requests, the parapet's attention, the session slots. -/
def followers : List Nat := [rIRQC_T_STATUS 0, rIRQC_T_STATUS 1, rIRQC_T_STATUS 2, rPRP_STATUS, rSEC_STATUS]

/-- Every register is as before, except those of `as` and the followers. -/
def RegsKeep (as : List Nat) (d e : Dev) : Prop := ∀ a, a ∉ as → a ∉ followers → e.rd a = d.rd a

/-- The frame of a command that writes registers only: every other piece of state, every memory among them, is as before, and every
register but those of `as` and the followers. -/
def OnlyRegs (as : List Nat) (d e : Dev) : Prop := e = { d with regs := e.regs } ∧ RegsKeep as d e

/-- The registers that raising the interrupt source of the unit at register `a` may touch (R310). -/
def raiseRegs (a : Nat) : List Nat := [rIRQC_SRC (irqOfAddr a), rIRQC_COAL_CNT]

/-- One step of a counter of `w` bits, which saturates (R14). -/
def satInc (x w : Nat) : Nat := min (x + 1) (2 ^ w - 1)

end Sys2Proof.Machine

open Sys2Proof Sys2Proof.Machine

/-! ### Chapters 1 and 24: commands, steps and registers -/

namespace Sys2Proof.Machine

/-- Pier `p` is ON and enters nothing: an arrival leaves it as it is (R459). -/
def IsOn (d : Dev) (p : Nat) : Prop := d.pier p = 0 ∧ d.pwr.entering.any (·.1 == p) = false

/-- An access of T0 meets a unit that is there, presented, ON and ungated, so that the access itself changes nothing (R459, R473, R563, R566). -/
def Meets (d : Dev) (a : Nat) : Prop :=
  d.regServes a = true ∧ d.unpresented a = false ∧ IsOn d (d.pierOfReg a) ∧ (d.branchOf (blockOf a)).all (fun k => !d.gated k) = true

/-- R13, R15: each bit of a register of row `r` after a write: fields that software writes take the value, a W1C bit is cleared by 1, a W1S bit
is set by 1, and every other bit stays. -/
def TypedBits (d : Dev) (a v : Nat) (r : RegRow) (k : Nat) : Prop :=
  natBit ((d.typedWrite a v).rd a) k =
    (((if natBit (r.rw ||| r.ct ||| r.sh) k then natBit v k else natBit (d.rd a) k) && !(natBit v k && natBit r.w1c k)) || (natBit v k && natBit r.w1s k))

/-- The bits of a register's row by access type: RW, W1C, W1S, CT, SH and SC (R13). -/
def typeMasks (r : RegRow) : List Nat := [r.rw, r.w1c, r.w1s, r.ct, r.sh, r.sc]

/-- R13: SLEW_CAP takes the value written, SLEW_NOW, which is read only, stays. -/
def SlewCapWrite (s : State) (v : Reg) : Prop :=
  Meets s.dev rBTU_SLEW →
  Completes (.registerWrite rBTU_SLEW v) s (fun e =>
    e.fld rBTU_SLEW fBTU_SLEW_SLEW_CAP = v.toNat / 2 ^ 12 ∧ e.fld rBTU_SLEW fBTU_SLEW_SLEW_NOW = s.dev.fld rBTU_SLEW fBTU_SLEW_SLEW_NOW ∧
    OnlyRegs [rBTU_SLEW] s.dev e)

/-- R13: a 1 written to LOSS clears it; the state and the source in use stay. -/
def LossFlagCleared (s : State) : Prop :=
  Meets s.dev rBTU_STATUS →
  Completes (.registerWrite rBTU_STATUS 0x1000) s (fun e =>
    e.flag rBTU_STATUS fBTU_STATUS_LOSS = false ∧ e.flag rBTU_STATUS fBTU_STATUS_SWITCH = s.dev.flag rBTU_STATUS fBTU_STATUS_SWITCH ∧
    e.btuState = s.dev.btuState ∧ e.btuActive = s.dev.btuActive ∧ OnlyRegs [rBTU_STATUS] s.dev e)

/-- R10: a read of BT's low half gives it and latches the high half for the next read of that. -/
def BeamTimeReadWhole (s : State) : Prop :=
  Meets s.dev rBTU_BT_LO →
  Completes (.pairLoRead rBTU_BT_LO) s (fun e =>
    (∃ r, e.mem.resp = some r ∧ r.addr = rBTU_BT_LO ∧ r.status = 0 ∧ r.data.toNat = s.dev.bt % 2 ^ 24) ∧
    assocGet e.latch rBTU_BT_HI = some (BitVec.ofNat 24 (s.dev.bt / 2 ^ 24)) ∧
    e = { s.dev with regs := e.regs, latch := e.latch, mem := { s.dev.mem with resp := e.mem.resp } } ∧ RegsKeep [] s.dev e)

/-- R10: a write of a low half is staged and changes no register. -/
def LowHalfStaged (s : State) (v : Reg) : Prop :=
  Meets s.dev rBTU_EPOCH_LO →
  Completes (.registerWrite rBTU_EPOCH_LO v) s (fun e =>
    e.staged rBTU_EPOCH_LO = v.toNat ∧ e = { s.dev with regs := e.regs, stage := e.stage } ∧ RegsKeep [] s.dev e)

/-- R10: a write of a high half applies it together with the staged low half. -/
def HighHalfApplies (s : State) (v : Reg) : Prop :=
  Meets s.dev rBTU_EPOCH_HI →
  Completes (.pairHiWrite rBTU_EPOCH_HI v) s (fun e =>
    e.rd rBTU_EPOCH_HI = v.toNat ∧ e.rd rBTU_EPOCH_LO = s.dev.staged rBTU_EPOCH_LO ∧ OnlyRegs [rBTU_EPOCH_LO, rBTU_EPOCH_HI] s.dev e)

end Sys2Proof.Machine

/-- A step takes the command at the front of the queue and runs it with the queue's rest. -/
def Obligations.StepRunsTheFrontCommand : Prop :=
  ∀ (s : State) (c : Instr) (rest : List Instr), s.pending = c :: rest → step s = exec c { s with pending := rest }

/-- Every command answers a next state and leaves the queue alone: no command of this block faults or is refused. -/
def Obligations.EveryCommandAnswersNext : Prop :=
  ∀ (s : State) (c : Instr), ∃ t : State, exec c s = .next t ∧ t.pending = s.pending

/-- The idle step is the model's own (log entry 3): a clock passes and beam time does not go back, nor past the end of its frame (log entry 4). A
level condition of a pad that holds sets its bit in each clock (R513). -/
def Obligations.IdleStepIsOneClock : Prop :=
  ∀ s : State, s.pending = [] → s.dev.cfg.staging = [] → s.dev.cfg.waits = [] → (∀ c ∈ s.dev.cores, c.2.posted = []) → s.dev.pins.held = none →
    s.dev.talk.bell = false → s.dev.talk.owed = [] →
    ∃ t : State, step s = .next t ∧ t.pending = [] ∧ t.dev.btu.clocks = s.dev.btu.clocks + 1 ∧ s.dev.btu.e ≤ t.dev.btu.e ∧
      t.dev.btu.e / 2 ^ 24 = s.dev.btu.e / 2 ^ 24 ∧ t.dev.mem = s.dev.mem ∧
      ((s.dev.awake 38 = true → ∀ p < 96, s.dev.fld (rGPIO_PAD p) fGPIO_PAD_IRQ < 4) → RegsKeep [] s.dev t.dev) ∧
      ∀ p < 96, s.dev.awake 38 = true → s.dev.fld (rGPIO_PAD p) fGPIO_PAD_IRQ = 4 → s.dev.padLevel p = true →
        natBit (t.dev.rd (rGPIO_IRQ_STAT (p / 16))) (p % 16) = true

/-- For every state in which the lines that follow other state agree with it, a step gives such a state: the interrupt requests (R311), the
parapet's attention (R257) and the slots shown in SEC_STATUS (R335). -/
def Obligations.StepKeepsLinesSettled : Prop :=
  ∀ s t : State, s.Settled → step s = .next t → t.Settled

/-- For every state whose fixed tables have their entries, a step gives such a state: no command takes an entry away or adds one. -/
def Obligations.StepKeepsTheTables : Prop :=
  ∀ s t : State, s.dev.Shaped → step s = .next t → t.dev.Shaped

/-- R12: after reset every register holds its reset value; the state has its tables and its lines settled and its memories in canonical form, with
nothing listed and nothing waiting. A value that the spec does not state is the model's own (log entry 2). -/
def Obligations.ResetMeetsTheInvariants : Prop :=
  (∀ a, State.reset.dev.rd a = (resetOf a).toNat) ∧
  State.reset.dev.rd rBTU_CTRL = 0x078002 ∧ State.reset.dev.rd rBTU_SRC_LIST = 0x1F ∧ State.reset.dev.rd rBTU_RATE = 0x5555 ∧
  State.reset.dev.rd rBTU_REF_CTRL = 0x258600 ∧ State.reset.dev.rd rBTU_STATUS = 0x17C ∧
  State.reset.Settled ∧ State.reset.dev.Shaped ∧ Memory.wf State.reset.dev.mem = true ∧ State.reset.pending = [] ∧ State.reset.dev.mem.main = [] ∧ State.reset.dev.bt = 0

/-- R13, R15: what a write does to each bit of a register, and that no bit of any register has two access types. -/
def Obligations.RegisterBitsFollowTheirTypes : Prop :=
  (∀ (d : Dev) (a v : Nat) (r : RegRow) (i k : Nat), rowOf a = some (r, i) → v < 2 ^ 24 → k < 24 → TypedBits d a v r k) ∧
  (∀ b, b < 256 → ∀ r ∈ rowsOfBlock b, (typeMasks r).Pairwise (fun x y => x &&& y = 0))

/-- R10, R13: writes and paired reads of registers by T0. Each of these answers a next state with its own effect, on conditions of the state and the
operands alone: registerWrite, pairLoRead, pairHiWrite. -/
def Obligations.RegisterAccessesOfTheBeamTimeUnit : Prop :=
  ∀ (s : State) (v : Reg), SlewCapWrite s v ∧ LossFlagCleared s ∧ BeamTimeReadWhole s ∧ LowHalfStaged s v ∧ HighHalfApplies s v

/-! ### Chapter 2: beam time -/

namespace Sys2Proof.Machine

/-- R37: at the end of the phase the frame number steps, modulo 2^24, and the phase is 0. On the crystal alone no step or switch is due there. EV000
is raised (R78). -/
def FrameBoundaryWraps (s : State) : Prop :=
  s.dev.btRuns = true → s.dev.awake 39 = true → s.dev.rd rBTU_SRC_LIST = 0x1F → s.dev.btuActive = 0x1F → s.dev.btuState ≠ 2 → s.dev.rd rBTU_PHASE_ERR = 0 →
  Completes .btFrameBoundary s (fun e =>
    e.bt = (s.dev.bt / 2 ^ 24 + 1) % 2 ^ 24 * 2 ^ 24 ∧ natBit (e.rd (rTRS_EV_LATCH 0)) 0 = true ∧
    e.mem.main = s.dev.mem.main ∧ e.cores = s.dev.cores ∧ e.live = s.dev.live)

/-- R55: the list, the epoch and the camera phase that have been written come into force at the boundary. -/
def FrameBoundaryAdopts (s : State) : Prop :=
  s.dev.btRuns = true → s.dev.awake 39 = true →
  Completes .btFrameBoundary s (fun e =>
    e.btu.list = s.dev.rd rBTU_SRC_LIST ∧ e.btu.epoch = s.dev.rd rBTU_EPOCH_LO + s.dev.rd rBTU_EPOCH_HI * 2 ^ 24 ∧
    e.btu.camPhase = s.dev.rd rBTU_CAM_PHASE)

/-- R55: a write of the list completes with the register at the value written, and changes that alone: what is in force stays. -/
def SourceListIsWritten (s : State) (v : Reg) : Prop :=
  Completes (.btuSrcListWrite v) s (fun e => e.rd rBTU_SRC_LIST = v.toNat ∧ OnlyRegs [rBTU_SRC_LIST] s.dev e)

/-- R55, R10: a write of the high half completes with both halves of the epoch in the registers, and changes those alone: what is in force stays. -/
def EpochIsWritten (s : State) (v : Reg) : Prop :=
  Completes (.btuEpochWrite v) s (fun e =>
    e.rd rBTU_EPOCH_HI = v.toNat ∧ e.rd rBTU_EPOCH_LO = s.dev.staged rBTU_EPOCH_LO ∧ OnlyRegs [rBTU_EPOCH_LO, rBTU_EPOCH_HI] s.dev e)

/-- R55: a write of the camera phase completes with the register at the value written, and changes that alone. -/
def CameraPhaseIsWritten (s : State) (v : Reg) : Prop :=
  Completes (.btuCamPhaseWrite v) s (fun e => e.rd rBTU_CAM_PHASE = v.toNat ∧ OnlyRegs [rBTU_CAM_PHASE] s.dev e)

/-- What entering holdover on source `code` leaves (R51): HOLDOVER, LOSS, one more loss counted, the correction and BT as they were. -/
def HeldOver (code : Nat) (d e : Dev) : Prop :=
  e.btuState = 2 ∧ e.flag rBTU_STATUS fBTU_STATUS_LOSS = true ∧ e.fld rBTU_LOSS_CNT fBTU_LOSS_CNT_LOSSES = satInc (d.fld rBTU_LOSS_CNT fBTU_LOSS_CNT_LOSSES) 16 ∧
  e.btu.held = code ∧ e.btu.qualified code = false ∧ e.rd rBTU_FREQ_CORR = d.rd rBTU_FREQ_CORR ∧ e.bt = d.bt ∧
  e = { d with regs := e.regs, btu := e.btu } ∧ RegsKeep (rBTU_LOSS_CNT :: rBTU_STATUS :: raiseRegs rBTU_STATUS) d e

/-- R48, R51: the loss of the source in use starts holdover at once. -/
def LossStartsHoldover (s : State) (code : BitVec 5) : Prop :=
  srcNorm code.toNat = code.toNat → code ≠ 0 → code ≠ 0x1F → s.dev.btuActive = code.toNat → s.dev.btuState = 1 →
  Completes (.sourceLossTimeout code) s (HeldOver code.toNat s.dev)

/-- R48, R51: asCapable becoming false loses the 802.1AS source of that MAC. -/
def AsCapableLossStartsHoldover (s : State) (mac : Fin 2) : Prop :=
  s.dev.btuActive = mac.val + 1 → s.dev.btuState = 1 →
  Completes (.asCapableChange mac false) s (HeldOver (mac.val + 1) s.dev)

/-- R54: FORCE_NEXT treats the source in use as lost. -/
def ForceNextStartsHoldover (s : State) : Prop :=
  s.dev.btuState ≠ 2 → s.dev.btuActive ≠ 0x1F → s.dev.btuActive ≠ 0 →
  Completes .forceNext s (HeldOver s.dev.btuActive s.dev)

/-- R54: while the crystal is in use FORCE_NEXT has no effect. -/
def ForceNextOnCrystal (s : State) : Prop :=
  s.dev.btuState ≠ 2 → s.dev.btuActive = 0x1F → Becomes .forceNext s s.dev

/-- R54: in holdover FORCE_NEXT ends the holdover; no loss is counted again. -/
def ForceNextEndsHoldover (s : State) : Prop :=
  s.dev.btuState = 2 →
  Completes .forceNext s (fun e =>
    e.btu.holdDone = true ∧ e.rd rBTU_LOSS_CNT = s.dev.rd rBTU_LOSS_CNT ∧ e.btuState = 2 ∧
    e = { s.dev with regs := e.regs, btu := e.btu } ∧ RegsKeep [rBTU_STATUS] s.dev e)

/-- R51: the end of HOLD_FRAMES makes the switch due at the next frame boundary, and changes nothing before. -/
def HoldoverExpires (s : State) : Prop :=
  (s.dev.btuState = 2 → s.dev.btu.holdDone = false →
    Becomes .holdoverExpiry s { s.dev with btu := { s.dev.btu with holdDone := true, holdAt := some s.dev.now } }) ∧
  (s.dev.btuState ≠ 2 ∨ s.dev.btu.holdDone = true → Becomes .holdoverExpiry s s.dev)

/-- R51, R50: at the boundary after the end of the holdover the BTU switches to the highest qualified entry of the list then in force. -/
def HoldoverEndsAtBoundary (s : State) : Prop :=
  s.dev.btRuns = true → s.dev.awake 39 = true → s.dev.btuState = 2 → s.dev.btu.holdDone = true →
  Completes .btFrameBoundary s (fun e => e.btuActive = ({ s.dev.btu with list := s.dev.rd rBTU_SRC_LIST } : Btu).best ∧ e.flag rBTU_STATUS fBTU_STATUS_SWITCH = true)

/-- R53: with REVERT at 0 no higher source is taken while the one in use is good. -/
def NoRevert (s : State) : Prop :=
  s.dev.flag rBTU_CTRL fBTU_CTRL_REVERT = false → Becomes .revertSwitch s s.dev

/-- R53: with REVERT at 1, the highest entry of the list in force, `code`, has stayed qualified for REVERT_DELAY whole frames while a lower one is
in use. -/
def RevertIsDue (d : Dev) (code : Nat) : Prop :=
  d.flag rBTU_CTRL fBTU_CTRL_REVERT = true ∧ d.btuState ≠ 2 ∧ (srcEntries d.btu.list).head? = some code ∧ code ≠ d.btuActive ∧
  d.btuActive ∈ srcUsable d.btu.list ∧ d.btu.qualified code = true ∧
  d.fld rBTU_REF_CTRL fBTU_REF_CTRL_REVERT_DELAY ≤ (d.btu.src code).high

/-- What a switch to `code` leaves (R50, R53). -/
def SwitchedTo (code : Nat) (d e : Dev) : Prop :=
  e.btuActive = code ∧ e.flag rBTU_STATUS fBTU_STATUS_SWITCH = true ∧
  e.fld rBTU_LOSS_CNT fBTU_LOSS_CNT_SWITCHES = satInc (d.fld rBTU_LOSS_CNT fBTU_LOSS_CNT_SWITCHES) 8 ∧ e.mem = d.mem ∧ e.cores = d.cores

/-- R53: a due return to a higher entry is made at this TG0 frame boundary when BT stands on one; within a frame it is kept for the next boundary, which
makes it. -/
def RevertSwitches (s : State) (code : Nat) : Prop :=
  RevertIsDue s.dev code →
  (s.dev.btu.e % 2 ^ 24 = 0 → Completes .revertSwitch s (SwitchedTo code s.dev)) ∧
  (s.dev.btu.e % 2 ^ 24 ≠ 0 → Becomes .revertSwitch s { s.dev with btu := { s.dev.btu with revert := some code } }) ∧
  (s.dev.btRuns = true → s.dev.awake 39 = true → s.dev.btu.revert.isSome = true → (s.dev.btu.src code).part = false →
    s.dev.rd rBTU_SRC_LIST = s.dev.btu.list →
    Completes .btFrameBoundary s (fun e => e.btuActive = code ∧ e.flag rBTU_STATUS fBTU_STATUS_SWITCH = true))

/-- The extended count at the next TG0 frame boundary (R37, R42). -/
def nextBoundary (d : Dev) : Nat := (d.btu.e / 2 ^ 24 + 1) * 2 ^ 24 % 2 ^ 64

/-- How far a step moves BT for a phase error `err` (R56): never back, a retard to the next occurrence of the target phase. -/
def stepFor (err : Int) : Int := if 0 ≤ err then err else 2 ^ 24 + err

/-- R53: at the coming TG0 frame boundary the BTU takes the qualified entry `c` from the crystal, which the list in force then does not hold. The
references stay as they are, and no slew is under way. -/
def TakesFromCrystal (d : Dev) (c : Nat) : Prop :=
  d.btRuns = true ∧ d.awake 39 = true ∧ d.btuActive = 0x1F ∧ d.btuState ≠ 2 ∧ d.rd rBTU_PHASE_ERR = 0 ∧ 0x1F ∉ srcUsable (d.rd rBTU_SRC_LIST) ∧
  ({ d.btu with list := d.rd rBTU_SRC_LIST } : Btu).best = c ∧ c ≠ 0x1F ∧ d.btu.epoch = d.rd rBTU_EPOCH_LO + d.rd rBTU_EPOCH_HI * 2 ^ 24 ∧
  d.btu.camPhase = d.rd rBTU_CAM_PHASE

/-- R53, R56, R58: with no output lit the entry is taken with a step: of the phase alone for a source without frame numbers, of the frame number
too for one that carries them and stands later than BT. -/
def EntryTakenDark (s : State) (c : Nat) : Prop :=
  let full := s.dev.btu.ofsOf c
  TakesFromCrystal s.dev c → s.dev.litOuts = [] →
  (srcHasFrames c = false → Completes .btFrameBoundary s (fun e =>
    e.btuActive = c ∧ e.btuState = 1 ∧ e.rd rBTU_PHASE_ERR = 0 ∧ (e.btu.e : Int) = ((nextBoundary s.dev : Int) + stepFor (phaseErr full)) % 2 ^ 64 ∧
    (phaseErr full ≠ 0 → e.flag rBTU_STATUS fBTU_STATUS_STEPPED = true))) ∧
  (srcHasFrames c = true → 0 < full → full < 2 ^ 47 → Completes .btFrameBoundary s (fun e =>
    e.btuActive = c ∧ e.btuState = 1 ∧ e.rd rBTU_PHASE_ERR = 0 ∧ (e.btu.e : Int) = ((nextBoundary s.dev : Int) + full) % 2 ^ 64 ∧
    e.flag rBTU_STATUS fBTU_STATUS_STEPPED = true))

/-- R56, R57: with an output lit the error is left to the slew, and BT stands on the boundary, unless STEP_FIRST is 1 and the entry is the first
source taken since reset: then the phase is stepped, and every scanning output takes its line anew (R571). -/
def EntryTakenLit (s : State) (c : Nat) : Prop :=
  let err := phaseErr (s.dev.btu.ofsOf c)
  TakesFromCrystal s.dev c → s.dev.litOuts ≠ [] →
  (s.dev.flag rBTU_CTRL fBTU_CTRL_STEP_FIRST = false ∨ s.dev.btu.taken = true → Completes .btFrameBoundary s (fun e =>
    e.btuActive = c ∧ e.btu.e = nextBoundary s.dev ∧ e.rd rBTU_PHASE_ERR = intToNat 24 err ∧
    e.flag rBTU_STATUS fBTU_STATUS_SLEWING = decide (err ≠ 0))) ∧
  (s.dev.flag rBTU_CTRL fBTU_CTRL_STEP_FIRST = true → s.dev.btu.taken = false → Completes .btFrameBoundary s (fun e =>
    e.btuActive = c ∧ e.rd rBTU_PHASE_ERR = 0 ∧ (e.btu.e : Int) = ((nextBoundary s.dev : Int) + stepFor err) % 2 ^ 64 ∧
    ∀ n, n < 8 → err ≠ 0 → (s.dev.outp n).st = 3 → (e.outp n).stepped = true))

/-- R57: on the listed crystal a slew goes on at each boundary: PHASE_ERR falls by the units of the frame, SLEWING ends with it, and BT stands on the
boundary; with no output lit any more the rest is stepped out. -/
def SlewGoesOn (s : State) : Prop :=
  let err := sgn24 (s.dev.rd rBTU_PHASE_ERR)
  let units := min (s.dev.fld rBTU_SLEW fBTU_SLEW_SLEW_NOW) err.natAbs
  s.dev.btRuns = true → s.dev.awake 39 = true → s.dev.rd rBTU_SRC_LIST = 0x1F → s.dev.btuActive = 0x1F → s.dev.btuState ≠ 2 → err ≠ 0 →
  (s.dev.litOuts ≠ [] → Completes .btFrameBoundary s (fun e =>
    sgn24 (e.rd rBTU_PHASE_ERR) = (if 0 < err then err - units else err + units) ∧ e.btu.e = nextBoundary s.dev ∧
    e.flag rBTU_STATUS fBTU_STATUS_SLEWING = decide (err.natAbs ≠ units) ∧ e.fld rBTU_SLEW fBTU_SLEW_SLEW_NOW = s.dev.slewLimit % 2 ^ 12)) ∧
  (s.dev.litOuts = [] → Completes .btFrameBoundary s (fun e =>
    e.rd rBTU_PHASE_ERR = 0 ∧ e.flag rBTU_STATUS fBTU_STATUS_SLEWING = false ∧ e.flag rBTU_STATUS fBTU_STATUS_STEPPED = true ∧
    (e.btu.e : Int) = ((nextBoundary s.dev : Int) + stepFor err) % 2 ^ 64))

/-- R58: BTU_FRAME_OFS reads the source's frame number minus BT's while the source in use carries frame numbers, and 0 otherwise. -/
def FrameOffsetReads (d : Dev) : Prop :=
  let src := ((d.btu.e : Int) + d.btu.ofsOf d.btuActive - d.btuSlewPart) / 2 ^ 24
  Meets d rBTU_FRAME_OFS →
  (srcHasFrames d.btuActive = true →
    (d.regReadAs .t0 rBTU_FRAME_OFS).1 = Acc.ok (BitVec.ofNat 48 (intToNat 24 (src - (d.btu.e / 2 ^ 24 : Nat))))) ∧
  (srcHasFrames d.btuActive = false → (d.regReadAs .t0 rBTU_FRAME_OFS).1 = Acc.ok 0)

/-- R48: a Frame Start on the reference channel of a tracked camera: an interval within 0.025 % of the group's frame counts, any other begins the run
again; with the sixteenth in a row the source is qualified. What the slew added to BT is no part of the interval (R57). -/
def CameraIntervalCounts (s : State) (cam : Fin 8) (vc : BitVec 4) : Prop :=
  let x := s.dev.btu.src (8 + cam.val)
  let dev := s.dev.btuUnslewed - x.lastE - 2 ^ 24
  s.dev.camOn cam = true → (s.dev.cam cam).track.any (fun t => t.vc == vc.toNat) = true → vc.toNat = natBits s.dev.btu.list 20 4 →
  x.code = 8 + cam.val → x.seen = true → x.qual = false → s.dev.btuActive = 0x1F → s.dev.btuState ≠ 2 →
  (dev.natAbs * 4000 ≤ 2 ^ 24 → Completes (.csiFrameStart cam vc) s (fun e =>
    (e.btu.src (8 + cam.val)).run = x.run + 1 ∧ (e.btu.src (8 + cam.val)).qual = decide (15 ≤ x.run))) ∧
  (2 ^ 24 < dev.natAbs * 4000 → dev.natAbs < 2 ^ 62 → Completes (.csiFrameStart cam vc) s (fun e =>
    (e.btu.src (8 + cam.val)).run = 0 ∧ (e.btu.src (8 + cam.val)).qual = false))

/-- R47, R48: a good TIME cell of a port whose class is up counts for the peer source, sixteen in a row qualify it. -/
def PeerTimeCounts (s : State) (port : Fin 3) (head : CellHead) (words : List Word) (freq : Int) : Prop :=
  let x := s.dev.btu.src (0x10 + port.val)
  let w3 := (words.getD 3 0).toNat
  s.dev.timeUp port = true → head.reserved = false → head.crcOk = true → head.nak = false →
  natBits w3 40 8 = s.dev.fld (rWRN_SUCC port) fWRN_SUCC_LIST → natBits w3 33 4 = (s.dev.port port).links →
  x.code = 0x10 + port.val → x.qual = false → s.dev.btuActive = 0x1F → s.dev.btuState ≠ 2 →
  Completes (.timeCell port head words freq) s (fun e =>
    (e.btu.src (0x10 + port.val)).run = x.run + 1 ∧ (e.btu.src (0x10 + port.val)).qual = decide (15 ≤ x.run))

/-- R48: a pair of another gPTP domain is not used. -/
def OtherDomainIgnored (s : State) (mac : Fin 2) (dom ns : Nat) (freq : Int) : Prop :=
  dom ≠ s.dev.fld rBTU_REF_CTRL fBTU_REF_CTRL_AS_DOMAIN → Becomes (.asSyncReceived mac dom ns freq) s s.dev

/-- R47, R48: a good interval of a source not in use is counted; with the sixteenth in a row the source is qualified. -/
def GoodSyncCounts (s : State) (mac : Fin 2) (dom ns : Nat) (freq : Int) : Prop :=
  let err : Int := (((ns : Int) - (s.dev.btu.epoch : Int) * 1000000000) * ((s.dev.groupHz 0 * 2 ^ 24 : Nat) : Int)) / 1000000000 - (s.dev.btu.e : Int)
  let x := s.dev.btu.src (mac.val + 1)
  dom = s.dev.fld rBTU_REF_CTRL fBTU_REF_CTRL_AS_DOMAIN → s.dev.btu.asCap.getD mac false = true → -8000000 ≤ freq → freq ≤ 8000000 →
  x.code = mac.val + 1 → x.seen = true → x.qual = false → (err - x.lastErr).natAbs * 1000000 ≤ s.dev.groupHz 0 * 2 ^ 24 → s.dev.btuActive = 0x1F →
  s.dev.btuState ≠ 2 →
  Completes (.asSyncReceived mac dom ns freq) s (fun e =>
    (e.btu.src (mac.val + 1)).run = x.run + 1 ∧ (e.btu.src (mac.val + 1)).qual = decide (15 ≤ x.run) ∧
    e = { s.dev with regs := e.regs, btu := e.btu } ∧ RegsKeep [rBTU_STATUS] s.dev e)

/-- R40, R41, R43: a group none of whose outputs is lit or marked ×2 takes an offered rate, and nothing is refused where the other groups keep theirs. -/
def RateLands (s : State) (v : Reg) : Prop :=
  (∀ g, g < 4 → natBits v.toNat (4 * g) 4 ≤ 0xA ∧ ∀ n, n < 8 → s.dev.outTg n = g → s.dev.lit n = false ∧ s.dev.outX2 n = false) →
  Completes (.btuRateWrite v) s (fun e => e.rd rBTU_RATE = v.toNat % 65536 ∧ OnlyRegs [rBTU_RATE] s.dev e)

/-- R40: a reserved code leaves the group's rate unchanged and sets MAP_REFUSED. -/
def ReservedRateRefused (s : State) (v : Reg) (g : Fin 4) : Prop :=
  0xB ≤ natBits v.toNat (4 * g.val) 4 → natBits v.toNat (4 * g.val) 4 ≠ s.dev.rateCode g →
  Completes (.btuRateWrite v) s (fun e =>
    e.rateCode g = s.dev.rateCode g ∧ e.flag rBTU_STATUS fBTU_STATUS_MAP_REFUSED = true ∧
    OnlyRegs (rBTU_RATE :: rBTU_STATUS :: raiseRegs rBTU_STATUS) s.dev e)

/-- R43: a group with a lit output keeps its rate. -/
def LitGroupKeepsRate (s : State) (v : Reg) (n : Fin 8) : Prop :=
  s.dev.lit n = true → natBits v.toNat (4 * s.dev.outTg n) 4 ≠ s.dev.rateCode (s.dev.outTg n) →
  Completes (.btuRateWrite v) s (fun e =>
    e.rateCode (s.dev.outTg n) = s.dev.rateCode (s.dev.outTg n) ∧ e.flag rBTU_STATUS fBTU_STATUS_MAP_REFUSED = true ∧
    OnlyRegs (rBTU_RATE :: rBTU_STATUS :: raiseRegs rBTU_STATUS) s.dev e)

/-- R41, R43: while no output is lit and every ×2 mark goes to a group of at most 60 Hz, a write of the map lands. -/
def OutMapLands (s : State) (v : Reg) : Prop :=
  s.dev.litOuts = [] → (∀ n, n < 8 → natBit v.toNat (16 + n) = true → s.dev.rateCode (natBits v.toNat (2 * n) 2) ≤ 5) →
  Completes (.btuOutMapWrite v) s (fun e => e.rd rBTU_OUT_MAP = v.toNat ∧ OnlyRegs [rBTU_OUT_MAP] s.dev e)

/-- R43: the group and the mark of a lit output stay, and the write is refused. -/
def LitOutputKeepsGroup (s : State) (v : Reg) (n : Fin 8) : Prop :=
  s.dev.lit n = true → (natBits v.toNat (2 * n.val) 2 ≠ s.dev.outTg n ∨ natBit v.toNat (16 + n.val) ≠ s.dev.outX2 n) →
  Completes (.btuOutMapWrite v) s (fun e =>
    e.outTg n = s.dev.outTg n ∧ e.outX2 n = s.dev.outX2 n ∧ e.flag rBTU_STATUS fBTU_STATUS_MAP_REFUSED = true ∧
    OnlyRegs (rBTU_OUT_MAP :: rBTU_STATUS :: raiseRegs rBTU_STATUS) s.dev e)

end Sys2Proof.Machine

/-- R39: of two beam times one is later than or equal to the other when their difference modulo 2^48 is less than 2^47; a value more than 2^47 units
ahead is in the past. -/
def Obligations.BeamTimesAreOrderedModulo : Prop :=
  (∀ a b : Nat, a < 2 ^ 48 → b < 2 ^ 48 → (btGe a b = true ↔ ((a : Int) - (b : Int)) % 2 ^ 48 < 2 ^ 47)) ∧
  (∀ b k : Nat, b < 2 ^ 48 → k < 2 ^ 48 → (btGe ((b + k) % 2 ^ 48) b = true ↔ k < 2 ^ 47))

/-- R44: the line, the dot and the frame number that an output's phase gives; a phase within the frame stands on a line and a dot of the mode, line
0 begins at phase 0, and a line number never falls as the phase advances. -/
def Obligations.ScanPositionFollowsPhase : Prop :=
  (∀ (m : Mode) (p : Nat), p < 2 ^ 24 → 0 < m.v → 0 < m.h → (posOf m p).1 < m.v ∧ (posOf m p).2 < m.h) ∧
  (∀ m : Mode, posOf m 0 = (0, 0)) ∧
  (∀ (m : Mode) (p q : Nat), p ≤ q → (posOf m p).1 ≤ (posOf m q).1) ∧
  (∀ (m : Mode) (p : Nat), (posOf m p).1 = p * m.v / 2 ^ 24 ∧ (posOf m p).2 = (p * m.v) % 2 ^ 24 * m.h / 2 ^ 24) ∧
  (∀ (d : Dev) (n : Nat),
    let p := d.gbt (d.outTg n) % 2 ^ 24
    let frame := d.gbt (d.outTg n) / 2 ^ 24
    (d.outX2 n = false → d.outPhase n = p ∧ d.outFrame44 n = frame ∧ frame < 2 ^ 24) ∧
    (d.outX2 n = true → d.outPhase n = 2 * p % 2 ^ 24 ∧ d.outFrame44 n = (2 * frame + 2 * p / 2 ^ 24) % 2 ^ 24))

/-- R87: pixel `k` of a run at `b` bits a pixel takes stream bits k·b to k·b + b − 1, most significant first; stream bit s lies in word ⌊s / 48⌋ of
the run at bit position 47 − (s mod 48), so a pixel may straddle two words. -/
def Obligations.PixelRunsAreBitStreams : Prop :=
  ∀ (word : Nat → Nat) (b k : Nat), (∀ i, word i < 2 ^ 48) → 0 < b → b ≤ 48 →
    streamBits word (k * b) b < 2 ^ b ∧
    ∀ j, j < b → natBit (streamBits word (k * b) b) (b - 1 - j) = natBit (word ((k * b + j) / 48)) (47 - (k * b + j) % 48)

/-- R37, R51, R53, R55 to R58: what a TG0 frame boundary does, the taking of an entry, its steps and slews among it. Each of these answers a next state with its own effect, on conditions of the state and the
operands alone: btFrameBoundary. -/
def Obligations.FrameBoundaryWrapsAndAdopts : Prop :=
  (∀ s : State, FrameBoundaryWraps s ∧ FrameBoundaryAdopts s ∧ HoldoverEndsAtBoundary s ∧ SlewGoesOn s ∧ FrameOffsetReads s.dev) ∧
  (∀ (s : State) (c : Nat), EntryTakenDark s c ∧ EntryTakenLit s c)

/-- R48, R51, R54: how the source in use is lost, and what ends a holdover. Each of these answers a next state with its own effect, on conditions of
the state and the operands alone: sourceLossTimeout, holdoverExpiry, forceNext, asCapableChange. -/
def Obligations.LostSourceIsHeldOver : Prop :=
  (∀ (s : State) (code : BitVec 5), LossStartsHoldover s code) ∧ (∀ (s : State) (mac : Fin 2), AsCapableLossStartsHoldover s mac) ∧
  (∀ s : State, ForceNextStartsHoldover s ∧ ForceNextOnCrystal s ∧ ForceNextEndsHoldover s ∧ HoldoverExpires s)

/-- R47, R48, R53: how a source qualifies, and when a higher one is taken. Each of these answers a next state with its own effect, on conditions of
the state and the operands alone: btFrameBoundary, asSyncReceived, csiFrameStart, timeCell, revertSwitch. -/
def Obligations.SourcesQualifyAndRevert : Prop :=
  (∀ (s : State) (mac : Fin 2) (dom ns : Nat) (freq : Int), OtherDomainIgnored s mac dom ns freq ∧ GoodSyncCounts s mac dom ns freq) ∧
  (∀ (s : State) (cam : Fin 8) (vc : BitVec 4), CameraIntervalCounts s cam vc) ∧
  (∀ (s : State) (port : Fin 3) (head : CellHead) (words : List Word) (freq : Int), PeerTimeCounts s port head words freq) ∧
  (∀ (s : State) (code : Nat), NoRevert s ∧ RevertSwitches s code)

/-- R40, R41, R43, R55: which writes of the group rates and of the output map land, and which are refused; writes of the references change their
registers alone until the boundary. Each of these answers a next state with its own effect, on conditions of the state and the operands alone:
btuSrcListWrite, btuEpochWrite, btuCamPhaseWrite, btuRateWrite, btuOutMapWrite. -/
def Obligations.TimeWritesLandOrWait : Prop :=
  (∀ (s : State) (v : Reg), RateLands s v ∧ OutMapLands s v ∧ SourceListIsWritten s v ∧ EpochIsWritten s v ∧ CameraPhaseIsWritten s v) ∧
  (∀ (s : State) (v : Reg) (g : Fin 4), ReservedRateRefused s v g) ∧
  (∀ (s : State) (v : Reg) (n : Fin 8), LitGroupKeepsRate s v n ∧ LitOutputKeepsGroup s v n)
/-! ### Chapter 3: the trestle and the event lines -/

namespace Sys2Proof.Machine

/-- R79: raising an event line sets its latch; where it is set already, the raise is coalesced and counted. Nothing else changes. -/
def RaisesLine (line : Nat) (d e : Dev) : Prop :=
  let a := rTRS_EV_LATCH (line / 24)
  natBit (e.rd a) (line % 24) = true ∧
  (natBit (d.rd a) (line % 24) = false → e.rd a = d.rd a + 2 ^ (line % 24) ∧ OnlyRegs [a] d e) ∧
  (natBit (d.rd a) (line % 24) = true →
    e.fld rTRS_EV_COAL_CNT fTRS_EV_COAL_CNT_COUNT = satInc (d.fld rTRS_EV_COAL_CNT fTRS_EV_COAL_CNT_COUNT) 24 ∧
    e.flag rTRS_STATUS fTRS_STATUS_COALESCE = true ∧ OnlyRegs (rTRS_EV_COAL_CNT :: rTRS_STATUS :: raiseRegs rTRS_STATUS) d e)

/-- R79: a producer raises a line. -/
def ProducerRaises (s : State) (line : BitVec 8) : Prop := Completes (.eventRaise line) s (RaisesLine line.toNat s.dev)

/-- R78: a group's frame start raises its line, EV000 to EV003. -/
def GroupStartRaises (s : State) (g : Fin 4) : Prop :=
  (s.dev.awake 39 = true → Completes (.groupFrameStart g) s (RaisesLine g.val s.dev)) ∧
  (s.dev.awake 39 = false → Becomes (.groupFrameStart g) s s.dev)

/-- R81: a 1 written to a latch bit raises that line. -/
def LatchWriteRaises (s : State) (k : Fin 11) (b : Fin 24) : Prop :=
  24 * k.val + b.val < 256 → Meets s.dev (rTRS_EV_LATCH k) →
  Completes (.trsEvLatchWrite k (BitVec.ofNat 24 (2 ^ b.val))) s (RaisesLine (24 * k.val + b.val) s.dev)

/-- R80, R81: the merge clears the latch it delivers, sets the line's interrupt source pending and wakes the cores that wait for it. -/
def MergeDelivers (s : State) (l c : Nat) : Prop :=
  s.dev.latched = [l] →
  Completes .eventMergePass s (fun e =>
    e.latched = [] ∧ e.flag (rIRQC_SRC (l + 1)) fIRQC_SRC_PEND = true ∧
    ((s.dev.core c).wait = 2 → (s.dev.core c).waitArg = l → (e.core c).woken = true) ∧ e.mem = s.dev.mem ∧ e.trs = s.dev.trs)

/-- R80: with no latch set a pass changes nothing. -/
def MergeOfNothing (s : State) : Prop :=
  s.dev.latched = [] → Completes .eventMergePass s (fun e => OnlyRegs ((List.range 11).map rTRS_EV_LATCH) s.dev e ∧ e.latched = [])

/-- R66: an entry that is not due does not fire. -/
def NotDueStays (s : State) (bt : BitVec 48) : Prop :=
  bt.toNat = s.dev.bt → (∀ x ∈ s.dev.trs.entries, btGe bt.toNat x.bt = false) →
  Completes (.trestleFire bt) s (fun e =>
    e = { s.dev with regs := e.regs, btu := e.btu, trs := { s.dev.trs with rearmed := [], firedAt := e.trs.firedAt } } ∧ RegsKeep [] s.dev e ∧
    e.bt = s.dev.bt)

/-- R66, R82: while FIRE_EN is 0 nothing fires; the entries wait. -/
def NothingFiresDisabled (s : State) (bt : BitVec 48) : Prop :=
  s.dev.flag rTRS_CTRL fTRS_CTRL_FIRE_EN = false →
  Completes (.trestleFire bt) s (fun e =>
    e.trs.entries.map (·.handle) = s.dev.trs.entries.map (·.handle) ∧ e.mem = s.dev.mem ∧ RegsKeep [] s.dev e)

/-- R66, R70, R73: a due entry that does not repeat fires: it leaves the calendar, its slot's generation steps and its action is done; here
the action raises an event line. -/
def DueEntryFires (s : State) (x : TrsEntry) (line : BitVec 8) : Prop :=
  s.dev.trs.entries = [x] → btGe s.dev.bt x.bt = true → x.act = 2 ^ 32 + line.toNat → x.late = false →
  s.dev.flag rTRS_CTRL fTRS_CTRL_FIRE_EN = true → s.dev.pier 39 = 0 → s.dev.pwr.entering = [] →
  Completes (.trestleFire (BitVec.ofNat 48 s.dev.bt)) s (fun e =>
    e.trs.entries = [] ∧ e.trsGen x.slot = x.gen % 255 + 1 ∧
    natBit (e.rd (rTRS_EV_LATCH (line.toNat / 24))) (line.toNat % 24) = true ∧ e.mem = s.dev.mem)

/-- R70, R71: an entry with a cadence is armed again, one period later when it fires in its own frame. -/
def RepeatingEntryArmedAgain (s : State) (x : TrsEntry) (line : BitVec 8) : Prop :=
  s.dev.trs.entries = [x] → x.bt = s.dev.bt → x.act = 2 ^ 43 + 2 ^ 32 + line.toNat → x.late = false →
  0 < s.dev.fld (rTRS_CAD 1) fTRS_CAD_PERIOD →
  s.dev.flag rTRS_CTRL fTRS_CTRL_FIRE_EN = true → s.dev.pier 39 = 0 → s.dev.pwr.entering = [] →
  Completes (.trestleFire (BitVec.ofNat 48 s.dev.bt)) s (fun e =>
    e.trs.entries.map (fun y => (y.handle, y.act, y.bt)) =
      [(x.handle, x.act, (x.bt + s.dev.fld (rTRS_CAD 1) fTRS_CAD_PERIOD * 2 ^ 24) % 2 ^ 48)] ∧
    natBit (e.rd (rTRS_EV_LATCH (line.toNat / 24))) (line.toNat % 24) = true)

/-- R64: a list write outside the pier that the list named is dropped and counted. -/
def ForeignReglWriteDropped (s : State) (v : Nat) (rest : List ReglList) : Prop :=
  s.dev.trs.lists = ⟨0, [(rBTU_CAM_PHASE, v)]⟩ :: rest →
  Completes .reglListApply s (fun e =>
    e.trs.lists = rest ∧ e.rd rBTU_CAM_PHASE = s.dev.rd rBTU_CAM_PHASE ∧
    e.fld rTRS_DISCARD_CNT fTRS_DISCARD_CNT_COUNT = satInc (s.dev.fld rTRS_DISCARD_CNT fTRS_DISCARD_CNT_COUNT) 24 ∧
    e.flag rTRS_STATUS fTRS_STATUS_DISCARD = true ∧ e.mem = s.dev.mem)

/-- R64: a list write within the pier named lands. -/
def ReglWriteLands (s : State) (v : Nat) (rest : List ReglList) : Prop :=
  s.dev.trs.lists = ⟨39, [(rBTU_CAM_PHASE, v)]⟩ :: rest → v < 2 ^ 24 → Meets s.dev rBTU_CAM_PHASE →
  Completes .reglListApply s (fun e =>
    e.trs.lists = rest ∧ e.rd rBTU_CAM_PHASE = v ∧ e.mem = s.dev.mem ∧ RegsKeep [rBTU_CAM_PHASE] s.dev e)

/-- R76: an action held for a pier that is now ON is delivered and counted. -/
def HeldActionDelivered (s : State) (line : BitVec 8) : Prop :=
  s.dev.trs.held = [2 ^ 32 + line.toNat] → s.dev.awake 39 = true →
  Completes (.trestleHeldDelivery 39) s (fun e =>
    e.trs.held = [] ∧ natBit (e.rd (rTRS_EV_LATCH (line.toNat / 24))) (line.toNat % 24) = true ∧
    e.fld rTRS_BUNCH_CNT fTRS_BUNCH_CNT_COUNT = satInc (s.dev.fld rTRS_BUNCH_CNT fTRS_BUNCH_CNT_COUNT) 24 ∧ e.mem = s.dev.mem)

/-- R76: until its pier is ON an action stays held. -/
def HeldActionWaits (s : State) (p : Fin 40) : Prop :=
  s.dev.awake p = false → s.dev.holdOf p ≠ 2 → Becomes (.trestleHeldDelivery p) s s.dev

end Sys2Proof.Machine

/-- R79, R78, R81: every way to raise an event line sets its latch, or is coalesced. Each of these answers a next state with its own effect, on
conditions of the state and the operands alone: eventRaise, trsEvLatchWrite, groupFrameStart. -/
def Obligations.RaisedLinesLatchOrCoalesce : Prop :=
  (∀ (s : State) (line : BitVec 8), ProducerRaises s line) ∧ (∀ (s : State) (g : Fin 4), GroupStartRaises s g) ∧
  (∀ (s : State) (k : Fin 11) (b : Fin 24), LatchWriteRaises s k b)

/-- R80, R81: what a pass of the event merge delivers. Each of these answers a next state with its own effect, on conditions of the state and the
operands alone: eventMergePass. -/
def Obligations.MergePassDelivers : Prop := ∀ (s : State) (l c : Nat), MergeDelivers s l c ∧ MergeOfNothing s

/-- R66, R70, R71, R73: which calendar entries fire, and what becomes of them. Each of these answers a next state with its own effect, on conditions
of the state and the operands alone: trestleFire. -/
def Obligations.CalendarEntriesFire : Prop :=
  (∀ (s : State) (bt : BitVec 48), NotDueStays s bt ∧ NothingFiresDisabled s bt) ∧
  (∀ (s : State) (x : TrsEntry) (line : BitVec 8), DueEntryFires s x line ∧ RepeatingEntryArmedAgain s x line)

/-- R64, R76: register lists and held actions. Each of these answers a next state with its own effect, on conditions of the state and the operands
alone: reglListApply, trestleHeldDelivery. -/
def Obligations.ReglListsAndHeldActions : Prop :=
  (∀ (s : State) (v : Nat) (rest : List ReglList), ForeignReglWriteDropped s v rest ∧ ReglWriteLands s v rest) ∧
  (∀ (s : State) (line : BitVec 8), HeldActionDelivered s line) ∧ (∀ (s : State) (p : Fin 40), HeldActionWaits s p)


/-! ### Chapters 2 and 5 to 7: lines, sprite builds, line programs, composition and the keystone -/

namespace Sys2Proof.Machine

/-- Nothing of T0's after-line work is due: no overlay waits, no loss overlay is to go, the first lighting is noted and no output leaves
self-refresh. -/
def NoLineDuty (d : Dev) (n : Nat) : Prop :=
  d.cfg.waits = [] ∧ (∀ p < 3, (d.port p).ovl = false ∧ (d.port p).down = []) ∧ d.fld rPMU_BOOT_MS fPMU_BOOT_MS_LIT ≠ 0 ∧
  d.fld (rOUT_SR_STATUS n) fOUT_SR_STATUS_SR_STATE ≠ 3

/-- R44, R45: a line boundary of a lit output in the vertical blanking, away from the keystone point, moves the scan position to the next
line and beam time on with it; no register changes, no line is composed and no memory is touched. An output that is not lit has no line. -/
def BlankLineIsPassed (s : State) (n : Fin 8) (late : BitVec 32) (stall : Bool) : Prop :=
  NoLineDuty s.dev n → s.dev.outs.length = 8 →
  ((s.dev.outp n).st ≠ 3 → Becomes (.outputLineBoundary n late stall []) s s.dev) ∧
  ((s.dev.outp n).st = 3 → (s.dev.outp n).stepped = false → (s.dev.outp n).offPending = false → (s.dev.outp n).spareLock = false →
    (s.dev.outp n).line ≠ 0 → (s.dev.outp n).fifo = [] → (s.dev.clu n).progs = [] → s.dev.btRuns = true →
    (∀ f k, k < 32 → (s.dev.view n f).layEn n k = false) → (∀ k < 32, s.dev.layEn n k = false) →
    (s.dev.mode n).va < (s.dev.outp n).line + 1 → (s.dev.outp n).line + 1 + s.dev.lccLead n < (s.dev.mode n).v →
    (s.dev.outp n).line + 1 + 4 < (s.dev.mode n).v → (s.dev.outp n).line + 1 + s.dev.keyK n ≠ (s.dev.mode n).v →
    Completes (.outputLineBoundary n late stall []) s (fun e =>
      s.dev.btu.e ≤ e.btu.e ∧ e = { s.dev with regs := e.regs, btu := e.btu, outs := e.outs } ∧ RegsKeep [] s.dev e ∧
      ((s.dev.advanceToLine n ((s.dev.outp n).line + 1) (s.dev.outp n).frame).1 = true →
        (e.outp n).line = (s.dev.outp n).line + 1 ∧ (e.outp n).frame = (s.dev.outp n).frame) ∧
      ((s.dev.advanceToLine n ((s.dev.outp n).line + 1) (s.dev.outp n).frame).1 = false → (e.outp n).line = (s.dev.outp n).line)))

/-- R171, R182: with no layer visible the compositor puts a composed line in the line FIFO; a line at whose point the compositor stalls is
replayed instead, and counted (R186, R188). -/
def LineIsComposedOrReplayed (d : Dev) (n : Fin 8) (l f : Nat) : Prop :=
  d.outs.length = 8 → (∀ k < 32, (d.view n f).layEn n k = false) → (d.clu n).queue = [] →
  (16 + cdiv (d.mode n).ha 16 ≤ d.lineClocks n - 32 →
    (d.composeLine n l f false).regs = d.regs ∧
    ∃ px cd, ((d.composeLine n l f false).outp n).fifo = (d.outp n).fifo ++ [⟨l, f, 0, px, cd⟩] ∧ l ∈ ((d.composeLine n l f false).outp n).valid) ∧
  (∃ px, ((d.composeLine n l f true).outp n).fifo = (d.outp n).fifo ++ [⟨l, f, 1, px, []⟩]) ∧
  (d.composeLine n l f true).fld (rOUT_REPLAY_CNT n) fOUT_REPLAY_CNT_COUNT = satInc (d.fld (rOUT_REPLAY_CNT n) fOUT_REPLAY_CNT_COUNT) 24 ∧
  (d.composeLine n l f true).fld (rOUT_COMP_LATE_CNT n) fOUT_COMP_LATE_CNT_COUNT = satInc (d.fld (rOUT_COMP_LATE_CNT n) fOUT_COMP_LATE_CNT_COUNT) 24 ∧
  (d.composeLine n l f true).mem = d.mem

/-- What the line under composition is made from: its records, its closed span layers, and the palette and alpha effects in force (R101, R144, R151). -/
def jobOf (d : Dev) (n l f : Nat) : LineJob :=
  let t := d.lccTake n l f
  ⟨l, f, t.1, t.2.1, palRecs t.1 (d.outp n).palFx, alphaRecs t.1 (d.outp n).alphaFx⟩

/-- R148, R161, R165 to R171, R182, R186, R188: whatever layers are visible on a line that the compositor can work in its time: with no HOLD layer stale it
is blended from the valid layers that are not stale, packed, stored and put in the line FIFO; with one stale it is replayed. Stale layers are
counted, each line once as omitted or replayed. -/
def VisibleLayersMakeTheLine (d : Dev) (n : Fin 8) (l f : Nat) : Prop :=
  let v := (d.lccTake n l f).2.2.view n f
  let j := jobOf d n l f
  let shown := (List.range 32).filter (fun k => v.layShows n k l)
  let stale := shown.filter (fun k => v.layStale n k j)
  let hold := stale.filter (fun k => !v.layOmit n k)
  let e := d.composeLine n l f false
  let count (x : Dev) (a : Nat) (fld : Fld) (on : Prop) : Prop := (on → x.fld a fld = satInc (d.fld a fld) fld.w) ∧ (¬ on → x.fld a fld = d.fld a fld)
  d.outs.length = 8 → v.composeCost n ((List.range 32).filter (fun k => v.layOn n k l)) ≤ d.lineClocks n - 32 →
  (hold = [] → ∃ cd, (e.outp n).fifo = (d.outp n).fifo ++ [⟨l, f, 0, v.packLine n l f (v.blendLine n (shown.filter (fun k => !stale.contains k)) j), cd⟩] ∧
    l ∈ (e.outp n).valid) ∧
  (hold ≠ [] → ∃ px, (e.outp n).fifo = (d.outp n).fifo ++ [⟨l, f, 1, px, []⟩]) ∧
  count e (rOUT_REPLAY_CNT n) fOUT_REPLAY_CNT_COUNT (hold ≠ []) ∧ count e (rOUT_OMIT_CNT n) fOUT_OMIT_CNT_COUNT (stale ≠ [] ∧ hold = []) ∧
  ∀ k < 32, count e (rOUT_LAYER_STALE_CNT n k) fOUT_LAYER_STALE_CNT_COUNT (k ∈ stale)

/-- R161, R165 to R167: a SOLID layer over the layers below it: inside its window its colour, after the layer's steps, is blended over them; outside it
they stand. With no layer a dot is OUTn_BG. -/
def SolidLayerIsDrawn (v : Dev) (n : Fin 8) (ks : List Nat) (k : Nat) (j : LineJob) (x : Nat) : Prop :=
  let w := v.layWin n k
  let (r, g, b) := wordRgb (v.laySrc n k 0 + v.laySrc n k 1 * 2 ^ 24)
  let (r0, g0, b0) := wordRgb (v.lrd (rOUT_BG_LO n) + v.lrd (rOUT_BG_HI n) * 2 ^ 24)
  let px := layerSteps (v.layCol n k (v.alphaNow n j.alpha k)) false ⟨r, g, b, one14⟩
  x < (v.mode n).ha →
  (v.blendLine n [] j)[x]? = some ⟨r0, g0, b0, one14⟩ ∧
  (v.layKind n k = 0 → (v.blendLine n (ks ++ [k]) j)[x]? = (v.blendLine n ks j)[x]?.map (fun cd =>
    if w.x ≤ x ∧ x < w.x + w.w then blendPx (v.lv (rOUT_LAYER_CTRL n k) fOUT_LAYER_CTRL_BLEND) cd px else cd))

/-- The device as the scan of output `n` comes to its next line: beam time is there, no work of the line done. -/
def atNextLine (d : Dev) (n : Nat) : Dev :=
  let l := (d.outp n).line + 1
  (d.advanceToLine n l (d.outp n).frame).2.modOutp n (fun o => { o with line := l })

/-- An output scans on from line to line: it is lit, no step, darkness or switch is pending, and its next line starts within the TG0 frame. -/
def ScansOn (d : Dev) (n : Nat) : Prop :=
  NoLineDuty d n ∧ d.outs.length = 8 ∧ (d.outp n).st = 3 ∧ (d.outp n).stepped = false ∧ (d.outp n).offPending = false ∧ (d.outp n).spareLock = false ∧
    (d.advanceToLine n ((d.outp n).line + 1) (d.outp n).frame).1 = true

/-- R44, R171, R182: the boundary at which line s comes has line s + 2 composed: what the line FIFO then holds for it, and what is counted, is what the
compositor makes of it; `late` names the layers that the fabric held back. -/
def BoundaryComposes (s : State) (n : Fin 8) (late : BitVec 32) (stall : Bool) : Prop :=
  let o := s.dev.outp n
  let l := o.line + 3
  let d := (atNextLine s.dev n).holdBack n l o.frame late.toNat
  let its (x : LineOut) : Bool := x.line == l && x.frame == o.frame
  ScansOn s.dev n → l < (s.dev.mode n).va → o.line + 1 + s.dev.keyK n ≠ (s.dev.mode n).v → (s.dev.clu n).progs = [] → o.compFrame = some o.frame →
  d.lineKind n l o.frame = 0 →
  Completes (.outputLineBoundary n late stall []) s (fun e =>
    (e.outp n).line = o.line + 1 ∧ (e.outp n).fifo.find? its = ((d.composeLine n l o.frame stall).outp n).fifo.find? its ∧
    ∀ a ∈ [rOUT_REPLAY_CNT n, rOUT_OMIT_CNT n, rOUT_COMP_LATE_CNT n], e.rd a = (d.composeLine n l o.frame stall).rd a)

/-- R109, R110: a write of SPR_SAT_BASE starts a build, which shows BUILDING; one that runs is restarted. -/
def SpriteBuildStarts (s : State) (n : Fin 8) (v : Reg) : Prop :=
  s.dev.outs.length = 8 →
  Completes (.sprSatBaseWrite n v) s (fun e =>
    e.rd (rOUT_SPR_SAT_BASE n) = v.toNat ∧ e.flag (rOUT_SPR_STATUS n) fOUT_SPR_STATUS_BUILDING = true ∧
    e.flag (rOUT_SPR_STATUS n) fOUT_SPR_STATUS_READY = false ∧ (e.outp n).sprNew = none ∧
    (e.outp n).sprBuild = some (v.toNat, s.dev.fld (rOUT_SPR_SAT_COUNT n) fOUT_SPR_SAT_COUNT_COUNT_M1) ∧
    ((s.dev.outp n).sprBuild.isSome = true → e.flag (rOUT_SPR_STATUS n) fOUT_SPR_STATUS_RESTART = true) ∧
    ((s.dev.outp n).sprBuild = none → RegsKeep [rOUT_SPR_SAT_BASE n, rOUT_SPR_STATUS n] s.dev e) ∧
    e = { s.dev with regs := e.regs, outs := e.outs })

/-- R110 to R112: a build that ends keeps, in table order, the entries that exist, name an enabled plane and pass the check, and shows READY. -/
def SpriteBuildEnds (s : State) (n : Fin 8) (base m1 : Nat) : Prop :=
  ((s.dev.outp n).sprBuild = none → Becomes (.spriteBuildDone n) s s.dev) ∧
  ((s.dev.outp n).sprBuild = some (base, m1) → s.dev.outs.length = 8 → s.dev.talk.owed = [] →
    Completes (.spriteBuildDone n) s (fun e =>
      (e.outp n).sprBuild = none ∧ e.flag (rOUT_SPR_STATUS n) fOUT_SPR_STATUS_BUILDING = false ∧
      e.flag (rOUT_SPR_STATUS n) fOUT_SPR_STATUS_READY = true ∧
      (e.outp n).sprNew = some ((List.range (m1 + 1)).filterMap (fun i => (s.dev.satEntry base i).bind (fun x =>
        if x.en && (s.dev.shadowView.planeLayer n x.plane).isSome && x.good then some x else none))) ∧
      (e.outp n).spr = (s.dev.outp n).spr))

/-- R170: a write of LUT_BASE starts the copy of the table selected; codes 10 to 15 ignore it. -/
def TableCopyStarts (s : State) (n : Fin 8) (v : Reg) : Prop :=
  s.dev.outs.length = 8 →
  (9 < s.dev.fld (rOUT_LUT_CTRL n) fOUT_LUT_CTRL_TABLE → Becomes (.lutBaseWrite n v) s s.dev) ∧
  (s.dev.fld (rOUT_LUT_CTRL n) fOUT_LUT_CTRL_TABLE ≤ 9 →
    Completes (.lutBaseWrite n v) s (fun e =>
      e.rd (rOUT_LUT_BASE n) = v.toNat ∧ e.flag (rOUT_LUT_STATUS n) fOUT_LUT_STATUS_LOADING = true ∧
      (e.outp n).lutCopy = some (s.dev.fld (rOUT_LUT_CTRL n) fOUT_LUT_CTRL_TABLE, v.toNat) ∧ (e.outp n).lut = (s.dev.outp n).lut ∧
      ((s.dev.outp n).lutCopy.isSome = true → e.flag (rOUT_LUT_STATUS n) fOUT_LUT_STATUS_RESTART = true) ∧
      e = { s.dev with regs := e.regs, outs := e.outs }))

/-- R170: a copy that ends leaves its words for the keystone, the live table as it was; a copy beyond main memory sets COPY_BAD. -/
def TableCopyEnds (s : State) (n : Fin 8) (t base : Nat) : Prop :=
  ((s.dev.outp n).lutCopy = none → Becomes (.lutCopyDone n) s s.dev) ∧
  ((s.dev.outp n).lutCopy = some (t, base) → s.dev.outs.length = 8 →
    (0x1000000 < base + lutSize t →
      Completes (.lutCopyDone n) s (fun e =>
        e.flag (rOUT_LUT_STATUS n) fOUT_LUT_STATUS_COPY_BAD = true ∧ e.flag (rOUT_LUT_STATUS n) fOUT_LUT_STATUS_LOADING = false ∧
        (e.outp n).lutCopy = none ∧ (e.outp n).lutNew = (s.dev.outp n).lutNew ∧ (e.outp n).lut = (s.dev.outp n).lut ∧ e.mem = s.dev.mem ∧
        RegsKeep [rOUT_LUT_STATUS n] s.dev e)) ∧
    (base + lutSize t ≤ 0x1000000 → s.dev.mem.mainErr = [] → s.dev.awake 39 = true → s.dev.pier 22 = 0 →
      Completes (.lutCopyDone n) s (fun e =>
        e.flag (rOUT_LUT_STATUS n) fOUT_LUT_STATUS_COPY_BAD = false ∧ e.flag (rOUT_LUT_STATUS n) fOUT_LUT_STATUS_LOADING = false ∧
        (e.outp n).lutCopy = none ∧ assocGet (e.outp n).lutNew t = some ((List.range (lutSize t)).map (fun i => s.dev.peek (base + i))) ∧
        (e.outp n).lut = (s.dev.outp n).lut)))

/-- R137: a write of PROG_BASE starts a load: LOADING, not READY, and what had been loaded for the swap is gone. -/
def CodeLoadStarts (s : State) (n : Fin 8) (v : Reg) : Prop :=
  s.dev.lcc.length = 8 →
  Completes (.lccProgBaseWrite n v) s (fun e =>
    e.rd (rLCC_PROG_BASE n) = v.toNat ∧ e.flag (rLCC_STATUS n) fLCC_STATUS_LOADING = true ∧ e.flag (rLCC_STATUS n) fLCC_STATUS_READY = false ∧
    (e.clu n).load = some (v.toNat, s.dev.fld (rLCC_PROG_LEN n) fLCC_PROG_LEN_LEN_M1) ∧ (e.clu n).fresh = none ∧
    ((s.dev.clu n).load.isSome = true → e.flag (rLCC_STATUS n) fLCC_STATUS_LOAD_RESTART = true) ∧
    e = { s.dev with regs := e.regs, lcc := e.lcc })

/-- R137, R138: a load that ends fills the inactive bank of all nine cores, and awaits the swap; an image that leaves main memory
fills it with zeros and shows LOAD_BAD. The active bank keeps its words. -/
def CodeLoadEnds (s : State) (n : Fin 8) (base len : Nat) : Prop :=
  ((s.dev.clu n).load = none → Becomes (.codeLoadDone n) s s.dev) ∧
  ((s.dev.clu n).load = some (base, len) → s.dev.lcc.length = 8 → s.dev.talk.owed = [] → (s.dev.clu n).bank ≤ 1 → len < 1024 →
    (0x1000000 < base + len + 1 →
      Completes (.codeLoadDone n) s (fun e =>
        e.flag (rLCC_STATUS n) fLCC_STATUS_LOAD_BAD = true ∧ e.flag (rLCC_STATUS n) fLCC_STATUS_LOADING = false ∧ (e.clu n).load = none ∧
        (e.clu n).fresh = none ∧ (e.clu n).bad = true ∧ (e.clu n).bank = (s.dev.clu n).bank ∧
        ∀ p < 9, ∀ i < 1024, e.lword (9 * n + p) (bankBase (1 - (s.dev.clu n).bank) + i) = 0 ∧
          e.lword (9 * n + p) (bankBase (s.dev.clu n).bank + i) = s.dev.lword (9 * n + p) (bankBase (s.dev.clu n).bank + i))) ∧
    (base + len + 1 ≤ 0x1000000 → s.dev.mem.mainErr = [] → s.dev.awake 39 = true → s.dev.pier 22 = 0 →
      Completes (.codeLoadDone n) s (fun e =>
        e.flag (rLCC_STATUS n) fLCC_STATUS_LOADED = true ∧ e.flag (rLCC_STATUS n) fLCC_STATUS_READY = true ∧ (e.clu n).load = none ∧
        (e.clu n).fresh = some (base, len) ∧ (e.clu n).bad = false ∧ (e.clu n).bank = (s.dev.clu n).bank ∧
        ∀ p < 9, ∀ i ≤ len, e.lword (9 * n + p) (bankBase (1 - (s.dev.clu n).bank) + i) = s.dev.peek (base + i))))

/-- R138: the banks of a cluster whose pier was OFF are filled again from their images. -/
def CodeIsRefilled (s : State) (n : Fin 8) : Prop :=
  ((s.dev.clu n).lost = false → Becomes (.codeRefill n) s s.dev) ∧
  ((s.dev.clu n).lost = true → s.dev.lcc.length = 8 → (s.dev.clu n).fresh = none → (s.dev.clu n).bank ≤ 1 →
    s.dev.lrd (rLCC_PROG_BASE n) + s.dev.lv (rLCC_PROG_LEN n) fLCC_PROG_LEN_LEN_M1 + 1 ≤ 0x1000000 → s.dev.mem.mainErr = [] →
    s.dev.awake 39 = true → s.dev.pier 22 = 0 →
    Completes (.codeRefill n) s (fun e => (e.clu n).lost = false ∧
      ∀ p < 9, ∀ i ≤ s.dev.lv (rLCC_PROG_LEN n) fLCC_PROG_LEN_LEN_M1,
        e.lword (9 * n + p) (bankBase (s.dev.clu n).bank + i) = s.dev.peek (s.dev.lrd (rLCC_PROG_BASE n) + i)))

/-- R129, R132: the first start that waits goes to the lowest idle logical core, whose program begins with its environment block; with none
waiting or no core idle nothing happens. -/
def DelayedStartBegins (s : State) (n : Fin 8) (w : Prog) (k p : Nat) : Prop :=
  ((s.dev.clu n).progs.find? (·.st == 0) = none ∨ s.dev.lccIdle n = none → Becomes (.lineStartDelayed n) s s.dev) ∧
  ((s.dev.clu n).progs.find? (·.st == 0) = some w → s.dev.lccIdle n = some (k, p) → s.dev.lcc.length = 8 → w.line < 65536 → w.frame < 2 ^ 24 →
    Completes (.lineStartDelayed n) s (fun e =>
      (e.core (9 * n + p)).run = 1 ∧ (e.core (9 * n + p)).pc = 0xFFFF000000 + bankBase ((s.dev.view n w.frame).clu n).bank ∧ (e.core (9 * n + p)).slot = 0 ∧
      (e.core (9 * n + p)).ds = [] ∧ (e.core (9 * n + p)).line = w.line ∧ (e.core (9 * n + p)).frame = w.frame ∧
      (e.lword (9 * n + p) 0).toNat = w.line ∧ (e.lword (9 * n + p) 1).toNat = w.frame ∧ (e.lword (9 * n + p) 5).toNat = k % 2 ^ 48 ∧
      (∀ c, c ≠ 9 * n.val + p → e.core c = s.dev.core c) ∧ RegsKeep [] s.dev e ∧
      (∀ c b, b < 65536 → (c ≠ 9 * n.val + p ∨ 0x400 ≤ b) → e.lword c b = s.dev.lword c b) ∧
      e = { s.dev with regs := e.regs, cores := e.cores, lmem := e.lmem, lcc := e.lcc, free := e.free }))

/-- R139, R157: a store to RECW0 stages the record's first word; a core that no line program holds stores nothing. -/
def RecordWordStaged (s : State) (n : Fin 8) (p : Fin 9) (w : Word) : Prop :=
  (s.dev.lccHolds n p = true →
    Completes (.recw0Store n p w) s (fun e =>
      (e.core (9 * n + p)).recw0 = w ∧ (∀ c, c ≠ 9 * n.val + p.val → e.core c = s.dev.core c) ∧ RegsKeep [] s.dev e ∧
      e = { s.dev with regs := e.regs, cores := e.cores })) ∧
  (s.dev.lccHolds n p = false →
    Becomes (.recw0Store n p w) s s.dev ∧ Becomes (.recw1Store n p w) s s.dev ∧ Becomes (.doneStore n p) s s.dev ∧
    Becomes (.evwaitStore n p w) s s.dev)

/-- R139, R140: a store to RECW1 queues the record of its two words for the program's line, counts one that is malformed or of a reserved type,
and stalls while the queue of 2,048 is full. -/
def RecordIsQueued (s : State) (n : Fin 8) (p : Fin 9) (w : Word) : Prop :=
  s.dev.lcc.length = 8 → s.dev.lccHolds n p = true → s.dev.lccOver n p = false →
  let c := s.dev.core (9 * n + p)
  let t := recType c.recw0.toNat
  ((s.dev.clu n).queue.length < 2048 → recOk c.recw0.toNat w.toNat = true →
    (s.dev.clu n).closed.contains (c.frame, c.line, recSl c.recw0.toNat) = false →
    t ≠ 2 ∧ t ≠ 3 ∨ (s.dev.clu n).tileTaken ≠ some (c.line, c.frame) →
    Completes (.recw1Store n p w) s (fun e =>
      (e.clu n).queue = (s.dev.clu n).queue ++ [⟨c.line, c.frame, c.recw0, w⟩] ∧
      (t = 6 → (c.frame, c.line, recSl c.recw0.toNat) ∈ (e.clu n).closed) ∧ RegsKeep [] s.dev e ∧ e = { s.dev with regs := e.regs, lcc := e.lcc })) ∧
  ((s.dev.clu n).queue.length < 2048 → recOk c.recw0.toNat w.toNat = false →
    Completes (.recw1Store n p w) s (fun e =>
      e.fld (rLCC_BAD_CNT n) fLCC_BAD_CNT_COUNT = satInc (s.dev.fld (rLCC_BAD_CNT n) fLCC_BAD_CNT_COUNT) 24 ∧
      e.flag (rLCC_STATUS n) fLCC_STATUS_BAD_REC = true ∧ e = { s.dev with regs := e.regs } ∧
      RegsKeep ([rLCC_BAD_CNT n, rLCC_STATUS n] ++ raiseRegs (rLCC_STATUS n)) s.dev e)) ∧
  ((s.dev.clu n).queue.length = 2048 →
    Completes (.recw1Store n p w) s (fun e =>
      (e.core (9 * n + p)).wait = 3 ∧ (e.core (9 * n + p)).stall = w ∧ e.flag (rLCC_STATUS n) fLCC_STATUS_QFULL = true ∧ e.lcc = s.dev.lcc))

/-- R139: a stalled store completes once there is room. -/
def StalledRecordLands (s : State) (n : Fin 8) (p : Fin 9) : Prop :=
  s.dev.lcc.length = 8 →
  let c := s.dev.core (9 * n + p)
  ((s.dev.lccHolds n p = false ∨ c.wait ≠ 3 ∨ 2048 ≤ (s.dev.clu n).queue.length) → Becomes (.spanQueueRoom n p) s s.dev) ∧
  (s.dev.lccHolds n p = true → c.wait = 3 → (s.dev.clu n).queue.length < 2048 → recOk c.recw0.toNat c.stall.toNat = true →
    (s.dev.clu n).closed.contains (c.frame, c.line, recSl c.recw0.toNat) = false →
    recType c.recw0.toNat ≠ 2 ∧ recType c.recw0.toNat ≠ 3 ∨ (s.dev.clu n).tileTaken ≠ some (c.line, c.frame) →
    Completes (.spanQueueRoom n p) s (fun e =>
      (e.core (9 * n + p)).wait = 0 ∧ (e.clu n).queue = (s.dev.clu n).queue ++ [⟨c.line, c.frame, c.recw0, c.stall⟩] ∧ RegsKeep [] s.dev e))

/-- R139, R143: a store to DONE completes every span layer of the line and frees the core; one that a halt was asked of stands halted then (R527). -/
def ProgramIsDone (s : State) (n : Fin 8) (p : Fin 9) : Prop :=
  s.dev.lcc.length = 8 → s.dev.lccHolds n p = true → s.dev.lccOver n p = false →
  ((s.dev.core (9 * n + p)).haltReq = true → (s.dev.core (9 * n + p)).steps = none → s.dev.talk.owed = [] →
    Completes (.doneStore n p) s (fun e => (e.core (9 * n + p)).run = 2 ∧ (e.core (9 * n + p)).haltReq = false)) ∧
  ((s.dev.core (9 * n + p)).haltReq = false → (s.dev.core (9 * n + p)).steps = none →
  Completes (.doneStore n p) s (fun e =>
    (e.core (9 * n + p)).run = 0 ∧ (e.core (9 * n + p)).ds = [] ∧ (∀ sl < 4, ((s.dev.core (9 * n + p)).frame, (s.dev.core (9 * n + p)).line, sl) ∈ (e.clu n).closed) ∧
    (∀ q ∈ (e.clu n).progs, q.phys = p.val → q.st = 0 ∨ q.st = 2) ∧ (e.clu n).queue = (s.dev.clu n).queue ∧
    (∀ c, c ≠ 9 * n.val + p.val → e.core c = s.dev.core c) ∧ RegsKeep [] s.dev e))

/-- R136: a store to EVWAIT makes the core wait for the event named, and the wait ends once it has come. -/
def EventWaitBeginsAndEnds (s : State) (n : Fin 8) (p : Fin 9) (w : Word) : Prop :=
  (s.dev.lccHolds n p = true → Completes (.evwaitStore n p w) s (fun e =>
    (e.core (9 * n + p)).wait = 2 ∧ (e.core (9 * n + p)).waitArg = w.toNat ∧ (e.core (9 * n + p)).woken = false ∧
    (∀ c, c ≠ 9 * n.val + p.val → e.core c = s.dev.core c) ∧ RegsKeep [] s.dev e)) ∧
  ((s.dev.core (9 * n + p)).wait = 2 → (s.dev.core (9 * n + p)).woken = true →
    Completes (.evwaitSatisfied n p) s (fun e =>
      (e.core (9 * n + p)).wait = 0 ∧ (e.core (9 * n + p)).pc = (s.dev.core (9 * n + p)).pc ∧
      (∀ c, c ≠ 9 * n.val + p.val → e.core c = s.dev.core c) ∧ RegsKeep [] s.dev e)) ∧
  ((s.dev.core (9 * n + p)).woken = false → Becomes (.evwaitSatisfied n p) s s.dev)

/-- R173: arming ORs the mask registers into the armed set; a disarm empties it and ends the run of deferrals, and comes before an arm in the
same write. -/
def CommitIsArmedAndDisarmed (s : State) (n : Fin 8) (v : Reg) : Prop :=
  s.dev.outs.length = 8 → s.dev.talk.owed = [] → s.dev.rd (rOUT_KEY_MASK_HI n) < 256 → s.dev.rd (rOUT_KEY_ARMED_HI n) < 256 →
  let mask := s.dev.rd (rOUT_KEY_MASK_LO n) + s.dev.rd (rOUT_KEY_MASK_HI n) * 2 ^ 24
  Completes (.keyCtrlArm n v) s (fun e =>
    e.armed n = (if natBit v.toNat 1 then mask else s.dev.armed n ||| mask) ∧ e.flag (rOUT_KEY_STATUS n) fOUT_KEY_STATUS_ARMED = true ∧
    e.fld (rOUT_KEY_CTRL n) fOUT_KEY_CTRL_DEFER_LIMIT = natBits v.toNat fOUT_KEY_CTRL_DEFER_LIMIT.lo fOUT_KEY_CTRL_DEFER_LIMIT.w ∧
    e = { s.dev with regs := e.regs, outs := e.outs } ∧
    RegsKeep [rOUT_KEY_CTRL n, rOUT_KEY_STATUS n, rOUT_KEY_ARMED_LO n, rOUT_KEY_ARMED_HI n] s.dev e) ∧
  Completes (.keyCtrlDisarm n v) s (fun e =>
    e.armed n = (if natBit v.toNat 0 then mask else 0) ∧ e.fld (rOUT_KEY_STATUS n) fOUT_KEY_STATUS_DEFER_RUN = 0 ∧
    e.flag (rOUT_KEY_STATUS n) fOUT_KEY_STATUS_ARMED = natBit v.toNat 0 ∧ e = { s.dev with regs := e.regs, outs := e.outs } ∧
    RegsKeep [rOUT_KEY_CTRL n, rOUT_KEY_STATUS n, rOUT_KEY_ARMED_LO n, rOUT_KEY_ARMED_HI n] s.dev e)

/-- R172, R174, R177, R178, R180, R181: the boundary that brings the keystone point. With no commit armed the live state stays. A commit that is ready
applies: the state being built of this output becomes live, no other, the sequence steps, the armed set, the run of deferrals and the STAGED bits of
layers that ask for staging are cleared. Else it is deferred and stays armed: counted, with its run, and what was not ready is shown. -/
def KeystoneCommits (s : State) (n : Fin 8) (late : BitVec 32) (stall : Bool) : Prop :=
  let d := s.dev
  let o := d.outp n
  let v := d.buildView n
  let late' (k : Nat) : Bool := natBit (d.armed n) k && d.layNotReady v n k
  let lut := o.lutCopy.isSome || d.flag (rOUT_LUT_STATUS n) fOUT_LUT_STATUS_COPY_BAD
  let ready := (∀ k < 32, late' k = false) ∧ lut = false ∧ d.lccNotReady n = false ∧ o.ovl = false
  let run (e : Dev) := e.fld (rOUT_KEY_STATUS n) fOUT_KEY_STATUS_DEFER_RUN
  let Answers (P : Dev → Prop) : Prop := Completes (.outputLineBoundary n late stall []) s P
  ScansOn d n → 0 < d.keyK n → o.line + 1 + d.keyK n = (d.mode n).v → (d.mode n).va < o.line + 1 → o.keyed ≠ some o.frame →
  o.sr = none → o.hand = none → o.degPipe = false → d.flag (rOUT_COMP_CTRL n) fOUT_COMP_CTRL_SCAN_STORE = false →
  (d.isArmed n = false → Answers (fun e => e.live = d.live ∧ e.rd (rOUT_COMMIT_SEQ n) = d.rd (rOUT_COMMIT_SEQ n) ∧ (e.outp n).keyed = some o.frame)) ∧
  (d.isArmed n = true → ready → Answers (fun e =>
    (∀ a, isRegAddr a = true → inShadow n a = true → e.lrd a = d.rd a) ∧ (∀ a, inShadow n a = false → e.lrd a = d.lrd a) ∧
    e.rd (rOUT_COMMIT_SEQ n) = (d.rd (rOUT_COMMIT_SEQ n) + 1) % 2 ^ 24 ∧ e.armed n = 0 ∧ e.isArmed n = false ∧
    e.flag (rOUT_KEY_STATUS n) fOUT_KEY_STATUS_ARMED = false ∧ run e = 0 ∧ (e.outp n).liveFrom = (o.frame + 1) % 2 ^ 24 ∧
    ∀ k < 32, e.layStaged n k = (d.layStaged n k && d.fld (rOUT_LAYER_CTRL n k) fOUT_LAYER_CTRL_STAGE_REQ == 0))) ∧
  (d.isArmed n = true → ¬ ready → Answers (fun e =>
    e.live = d.live ∧ e.rd (rOUT_COMMIT_SEQ n) = d.rd (rOUT_COMMIT_SEQ n) ∧ e.armed n = d.armed n ∧ e.isArmed n = true ∧
    run e = min (run d + 1) 255 ∧ e.flag (rOUT_KEY_STATUS n) fOUT_KEY_STATUS_DEFERRED = true ∧
    e.fld (rOUT_KEY_DEFER_CNT n) fOUT_KEY_DEFER_CNT_COUNT = satInc (d.fld (rOUT_KEY_DEFER_CNT n) fOUT_KEY_DEFER_CNT_COUNT) fOUT_KEY_DEFER_CNT_COUNT.w ∧
    (∀ k < 24, natBit (e.rd (rOUT_KEY_NR_LO n)) k = late' k) ∧ (∀ k < 8, natBit (e.rd (rOUT_KEY_NR_HI n)) k = late' (24 + k)) ∧
    natBit (e.rd (rOUT_KEY_NR_HI n)) 8 = lut ∧ natBit (e.rd (rOUT_KEY_NR_HI n)) 9 = d.lccNotReady n ∧ natBit (e.rd (rOUT_KEY_NR_HI n)) 10 = o.ovl))

/-- R177: 1 bits written to STAGED0 and STAGED1 set theirs, and 0 bits leave theirs. -/
def StagedBitsAreSet (s : State) (n : Fin 8) (v : Reg) : Prop :=
  Completes (.stagedWrite n 0 v) s (fun e => e.rd (rOUT_STAGED0 n) = s.dev.rd (rOUT_STAGED0 n) ||| v.toNat ∧ OnlyRegs [rOUT_STAGED0 n] s.dev e) ∧
  Completes (.stagedWrite n 1 v) s (fun e => e.rd (rOUT_STAGED1 n) = s.dev.rd (rOUT_STAGED1 n) ||| v.toNat % 256 ∧ OnlyRegs [rOUT_STAGED1 n] s.dev e)

/-- R189, R213: SCAN_STORE written 1 on a lit output scans the store from line 0 of the next frame; DEPTH may not change while the output
is not dark. -/
def StoreIsScanned (s : State) (n : Fin 8) (v : Reg) : Prop :=
  s.dev.outs.length = 8 →
  ((s.dev.outp n).st = 0 → Completes (.scanStoreWrite n v) s (fun e =>
    e.rd (rOUT_COMP_CTRL n) = natBits v.toNat 23 1 * 2 ^ 23 + natBits v.toNat 8 2 * 2 ^ 8 + natBits v.toNat 4 2 * 2 ^ 4 + v.toNat % 4 ∧
    OnlyRegs [rOUT_COMP_CTRL n] s.dev e)) ∧
  ((s.dev.outp n).st = 3 → (s.dev.outp n).store = none → (s.dev.outp n).fifo = [] → natBit v.toNat 23 = true →
    Completes (.scanStoreWrite n v) s (fun e =>
      (e.outp n).store = some (((s.dev.outp n).frame + 1) % 2 ^ 24, none) ∧ e.flag (rOUT_COMP_CTRL n) fOUT_COMP_CTRL_SCAN_STORE = true ∧
      e.fld (rOUT_COMP_CTRL n) fOUT_COMP_CTRL_DEPTH = s.dev.fld (rOUT_COMP_CTRL n) fOUT_COMP_CTRL_DEPTH ∧
      (v.toNat % 4 ≠ s.dev.fld (rOUT_COMP_CTRL n) fOUT_COMP_CTRL_DEPTH → e.flag (rOUT_STATUS n) fOUT_STATUS_MAP_REFUSED = true)))

end Sys2Proof.Machine

/-- R44, R148, R161, R165 to R171, R182, R186, R188: what a line boundary does in the blanking and among the active lines, and how a line is composed,
with its layers or without, or replayed. Each of these answers a next state with its own effect, on conditions of the state and the operands alone:
outputLineBoundary. -/
def Obligations.LinesArePassedAndComposed : Prop :=
  (∀ (s : State) (n : Fin 8) late stall, BlankLineIsPassed s n late stall ∧ BoundaryComposes s n late stall) ∧
  ∀ (d : Dev) (n : Fin 8) l f, LineIsComposedOrReplayed d n l f ∧ VisibleLayersMakeTheLine d n l f ∧ ∀ ks k j x, SolidLayerIsDrawn d n ks k j x

/-- R109 to R112, R170: sprite indexes and colour tables are built beside the live ones. Each of these answers a next state with its own effect, on
conditions of the state and the operands alone: sprSatBaseWrite, spriteBuildDone, lutBaseWrite, lutCopyDone. -/
def Obligations.IndexesAndTablesAreBuilt : Prop :=
  ∀ (s : State) (n : Fin 8), (∀ v, SpriteBuildStarts s n v ∧ TableCopyStarts s n v) ∧ ∀ a b, SpriteBuildEnds s n a b ∧ TableCopyEnds s n a b

/-- R172 to R174, R177, R178, R180, R181, R189: commits are armed and disarmed, and applied or deferred at the keystone point; layers are staged, the
store scanned. Each of these answers a next state with its own effect, on conditions of the state and the operands alone: keyCtrlArm, keyCtrlDisarm,
stagedWrite, scanStoreWrite, outputLineBoundary. -/
def Obligations.CommitsAreArmedAndStaged : Prop :=
  ∀ (s : State) (n : Fin 8) (v : Reg), CommitIsArmedAndDisarmed s n v ∧ StagedBitsAreSet s n v ∧ StoreIsScanned s n v ∧
    ∀ late stall, KeystoneCommits s n late stall

/-- R129, R132, R136 to R140, R143: line programs are loaded, refilled and started, and what their stores to service words do. Each of these answers
a next state with its own effect, on conditions of the state and the operands alone: lineStartDelayed, lccProgBaseWrite, codeLoadDone, codeRefill,
recw0Store, recw1Store, spanQueueRoom, doneStore, evwaitStore, evwaitSatisfied. -/
def Obligations.LineProgramsRunAndDeliver : Prop :=
  ∀ (s : State) (n : Fin 8), (∀ v, CodeLoadStarts s n v) ∧ (∀ base len, CodeLoadEnds s n base len) ∧ CodeIsRefilled s n ∧
    (∀ w k p, DelayedStartBegins s n w k p) ∧
    ∀ p : Fin 9, StalledRecordLands s n p ∧ ProgramIsDone s n p ∧
      ∀ w, RecordWordStaged s n p w ∧ RecordIsQueued s n p w ∧ EventWaitBeginsAndEnds s n p w

/-! ### Chapter 8: cameras -/

namespace Sys2Proof.Machine

/-- What a camera port's packet leaves alone: it writes registers and the port's state only. -/
def CamOnly (as : List Nat) (d e : Dev) : Prop := e = { d with regs := e.regs, cams := e.cams } ∧ RegsKeep as d e

/-- Does virtual channel `vc` find a tracking slot on port `c` (R195)? -/
def Dev.camTakes (d : Dev) (c vc : Nat) : Bool := (d.cam c).track.any (·.vc == vc) || decide ((d.cam c).track.length < 4)

/-- R195, R208: a Frame Start of the stored channel begins the next camera frame: its number, its phase and the counter step and LOST is cleared.
A port that is not enabled, or whose pier is not ON, takes nothing. -/
def FrameStartBegins (s : State) (c : Fin 8) (vc : BitVec 4) : Prop :=
  s.dev.cams.length = 8 →
  (s.dev.camOn c = false → Becomes (.csiFrameStart c vc) s s.dev) ∧
  (s.dev.camOn c = true → s.dev.camTakes c vc.toNat = true → vc.toNat = s.dev.camVc c →
    Completes (.csiFrameStart c vc) s (fun e =>
      (e.cam c).frame = (s.dev.cam c).frame + 1 ∧ (e.cam c).count = 0 ∧ (e.cam c).fsNew = true ∧ (e.cam c).idle = 0 ∧
      e.flag (rCAM_STATUS c) fCAM_STATUS_LOST = false ∧ e.rd (rCAM_FRAME_CNT c) = (s.dev.rd (rCAM_FRAME_CNT c) + 1) % 2 ^ 24 ∧
      (e.cam c).ring = (s.dev.cam c).ring ∧
      (vc.toNat ≠ natBits s.dev.btu.list 20 4 → e.rd (rCAM_FS_PHASE c) = s.dev.bt % 2 ^ 24 ∧
        CamOnly [rCAM_STATUS c, rCAM_FS_PHASE c, rCAM_FRAME_CNT c, rCAM_VC_TRACK c] s.dev e)))

/-- R195: a Frame End closes the frame of its channel. -/
def FrameEndCloses (s : State) (c : Fin 8) (vc : BitVec 4) : Prop :=
  s.dev.cams.length = 8 → s.dev.camOn c = true → (s.dev.cam c).track.any (·.vc == vc.toNat) = true →
  Completes (.csiFrameEnd c vc) s (fun e =>
    (∀ t ∈ (e.cam c).track, t.vc = vc.toNat → t.isOpen = false) ∧ (e.cam c).track.length = (s.dev.cam c).track.length ∧ CamOnly [] s.dev e)

/-- R195: a packet of a fifth channel is discarded and counted. -/
def FifthChannelDropped (s : State) (c : Fin 8) (vc : BitVec 4) : Prop :=
  s.dev.camOn c = true → s.dev.camTakes c vc.toNat = false →
  Completes (.csiFrameEnd c vc) s (fun e =>
    e.fld (rCAM_VC_DROP_CNT c) fCAM_VC_DROP_CNT_COUNT = satInc (s.dev.fld (rCAM_VC_DROP_CNT c) fCAM_VC_DROP_CNT_COUNT) fCAM_VC_DROP_CNT_COUNT.w ∧
    e.flag (rCAM_STATUS c) fCAM_STATUS_VC_OVF = true ∧ e = { s.dev with regs := e.regs } ∧
    RegsKeep ([rCAM_VC_DROP_CNT c, rCAM_STATUS c] ++ raiseRegs (rCAM_STATUS c)) s.dev e)

/-- R193 to R196: a long packet of the stored channel and format lands as the next line; one of another length is counted and lost, as is one that
finds both landing lines taken; either still counts as a line of its frame. -/
def LongPacketLands (s : State) (c : Fin 8) (vc : BitVec 4) (dt : BitVec 6) (hdr : Fin 3) (ok : Bool) (bytes : List (BitVec 8)) : Prop :=
  s.dev.cams.length = 8 → s.dev.camOn c = true → s.dev.camTakes c vc.toNat = true → vc.toNat = s.dev.camVc c → camIgnored dt.toNat = false →
  (dt.toNat ≠ camType (s.dev.camFmt c) →
    Completes (.csiLongPacket c vc dt hdr ok bytes) s (fun e =>
      e.flag (rCAM_STATUS c) fCAM_STATUS_BAD_DT = true ∧ (e.cam c).landing = (s.dev.cam c).landing)) ∧
  (dt.toNat = camType (s.dev.camFmt c) →
    Completes (.csiLongPacket c vc dt hdr ok bytes) s (fun e =>
      (e.cam c).count = (s.dev.cam c).count + 1 ∧ (e.cam c).ring = (s.dev.cam c).ring ∧
      (bytes.length ≠ camBytes (s.dev.camFmt c) (s.dev.camSw c) →
        (e.cam c).landing = (s.dev.cam c).landing ∧ e.flag (rCAM_STATUS c) fCAM_STATUS_LEN_ERR = true ∧
        e.fld (rCAM_LEN_CNT c) fCAM_LEN_CNT_COUNT = satInc (s.dev.fld (rCAM_LEN_CNT c) fCAM_LEN_CNT_COUNT) fCAM_LEN_CNT_COUNT.w) ∧
      (bytes.length = camBytes (s.dev.camFmt c) (s.dev.camSw c) → 2 ≤ (s.dev.cam c).landing.length →
        (e.cam c).landing = (s.dev.cam c).landing ∧ e.flag (rCAM_STATUS c) fCAM_STATUS_OVERRUN = true) ∧
      (bytes.length = camBytes (s.dev.camFmt c) (s.dev.camSw c) → (s.dev.cam c).landing.length < 2 →
        ∃ l, (e.cam c).landing = (s.dev.cam c).landing ++ [l] ∧ l.1.frame = (s.dev.cam c).frame ∧ l.1.y = (s.dev.cam c).count ∧
          l.1.bad = (!ok || decide (2 ≤ hdr.val)) ∧ natBit l.2 2 = false ∧ CamOnly [rCAM_VC_TRACK c] s.dev e)))

/-- R196: the check of a landing line: a good one becomes valid where it is, a bad one is dropped, counted and reported. -/
def LandingLineIsChecked (s : State) (c : Fin 8) (l : CamLine) (code : Nat) (rest : List (CamLine × Nat)) : Prop :=
  s.dev.cams.length = 8 → (s.dev.cam c).landing = (l, code) :: rest → natBit code 2 = false → (∀ x ∈ rest, x ≠ (l, code)) →
  (natBit code 0 = false → natBit code 1 = false →
    Completes (.cameraLineLanded c) s (fun e =>
      (e.cam c).landing = (l, code + 4) :: rest ∧ CamOnly [] s.dev e)) ∧
  (natBit code 0 = true →
    Completes (.cameraLineLanded c) s (fun e =>
      (e.cam c).landing = rest ∧ e.flag (rCAM_STATUS c) fCAM_STATUS_CRC_ERR = true ∧
      e.fld (rCAM_CRC_CNT c) fCAM_CRC_CNT_COUNT = satInc (s.dev.fld (rCAM_CRC_CNT c) fCAM_CRC_CNT_COUNT) fCAM_CRC_CNT_COUNT.w ∧
      e.reports.length = s.dev.reports.length + 1))

/-- R196: a valid line moves into its ring slot, unless a line that is still needed stands there. -/
def LineEntersTheRing (s : State) (c : Fin 8) (l : CamLine) (code : Nat) (rest : List (CamLine × Nat)) : Prop :=
  s.dev.cams.length = 8 → (s.dev.cam c).landing = (l, code) :: rest → natBit code 2 = true →
  ((∀ y ∈ (s.dev.cam c).ring, y.y % 128 = l.y % 128 → s.dev.camNeeded c y = false) →
    Completes (.cameraRingMove c) s (fun e =>
      (e.cam c).landing = rest ∧ { l with at' := s.dev.btu.e } ∈ (e.cam c).ring ∧ (∀ y ∈ (s.dev.cam c).ring, y.y % 128 ≠ l.y % 128 → y ∈ (e.cam c).ring) ∧
      ((s.dev.cam c).owed = [] → CamOnly [] s.dev e))) ∧
  (∀ y, y ∈ (s.dev.cam c).ring → y.y % 128 = l.y % 128 → s.dev.camNeeded c y = true → Becomes (.cameraRingMove c) s s.dev)

/-- R208: LOSS_FRAMES frames without a Frame Start make a stream lost; a lane that loses synchronisation in a packet makes its line bad. -/
def StreamIsLost (s : State) (c : Fin 8) : Prop :=
  s.dev.cams.length = 8 → s.dev.camOn c = true →
  (s.dev.flag (rCAM_STATUS c) fCAM_STATUS_LOST = false → s.dev.flag (rCAM_CTRL c) fCAM_CTRL_EV_EN = false →
    max 1 (s.dev.fld (rCAM_CTRL c) fCAM_CTRL_LOSS_FRAMES) < (s.dev.cam c).idle →
    Completes (.cameraStreamLost c) s (fun e => e.flag (rCAM_STATUS c) fCAM_STATUS_LOST = true ∧ OnlyRegs [rCAM_STATUS c] s.dev e)) ∧
  ((s.dev.cam c).idle ≤ max 1 (s.dev.fld (rCAM_CTRL c) fCAM_CTRL_LOSS_FRAMES) → Becomes (.cameraStreamLost c) s s.dev) ∧
  Completes (.dphySyncLoss c true) s (fun e =>
    (e.cam c).count = (s.dev.cam c).count + 1 ∧ e.flag (rCAM_STATUS c) fCAM_STATUS_CRC_ERR = true ∧
    e.fld (rCAM_CRC_CNT c) fCAM_CRC_CNT_COUNT = satInc (s.dev.fld (rCAM_CRC_CNT c) fCAM_CRC_CNT_COUNT) fCAM_CRC_CNT_COUNT.w) ∧
  Becomes (.dphySyncLoss c false) s s.dev

/-- R195: VC_CLR frees the tracking slots. -/
def TrackingIsCleared (s : State) (c : Fin 8) (v : Reg) : Prop :=
  s.dev.cams.length = 8 →
  Completes (.vcClr c v) s (fun e =>
    (e.cam c).track = [] ∧ e.rd (rCAM_VC_TRACK c) = 0 ∧ e.flag (rCAM_CTRL c) fCAM_CTRL_EN = natBit v.toNat fCAM_CTRL_EN.lo ∧
    (e.cam c).ring = (s.dev.cam c).ring ∧ CamOnly [rCAM_CTRL c, rCAM_VC_TRACK c] s.dev e)

/-! ### Chapter 9: outputs, ports and pipes -/

/-- R226: LIGHT written 1 to a dark output begins to light it when no cause refuses, and otherwise shows the lowest cause; to a lit
output it withdraws a pending turn-dark. -/
def LightIsWritten (s : State) (n : Fin 8) (v : Reg) : Prop :=
  s.dev.outs.length = 8 → s.dev.talk.owed = [] →
  let w := s.dev.wr (rOUT_CTRL n) ((v.toNat ||| 0x800000) &&& 0x9F3F00)
  (s.dev.pwr.stage = 4 → (s.dev.outp n).early = false → (s.dev.outp n).st = 0 → Completes (.lightOnWrite n v) s (fun e => (e.outp n).st = 0)) ∧
  (s.dev.pwr.stage ≠ 4 →
  ((s.dev.outp n).st = 0 → w.refuseCause n = 0 →
    Completes (.lightOnWrite n v) s (fun e => (e.outp n).st = 1 ∧ e.flag (rOUT_CTRL n) fOUT_CTRL_LIGHT = true ∧ e.lit n = s.dev.lit n)) ∧
  ((s.dev.outp n).st = 0 → w.refuseCause n ≠ 0 →
    Completes (.lightOnWrite n v) s (fun e =>
      (e.outp n).st = 0 ∧ e.fld (rOUT_STATUS n) fOUT_STATUS_REFUSE_CAUSE = w.refuseCause n ∧
      e.flag (rOUT_STATUS n) fOUT_STATUS_LIGHT_REFUSED = true ∧ e.flag (rOUT_STATUS n) fOUT_STATUS_PORT_READY = false)) ∧
  ((s.dev.outp n).st = 3 → Completes (.lightOnWrite n v) s (fun e => (e.outp n).offPending = false ∧ (e.outp n).st = 3)))

/-- R228: LIGHT written 0 to a lit output waits for its frame boundary; it abandons a lighting at once. -/
def LightIsCleared (s : State) (n : Fin 8) (v : Reg) : Prop :=
  s.dev.outs.length = 8 →
  ((s.dev.outp n).st = 3 → Completes (.lightOffWrite n v) s (fun e =>
    (e.outp n).offPending = true ∧ (e.outp n).st = 3 ∧ e.lit n = s.dev.lit n ∧ e.flag (rOUT_CTRL n) fOUT_CTRL_LIGHT = false)) ∧
  ((s.dev.outp n).st = 1 ∨ (s.dev.outp n).st = 2 → Completes (.lightOffWrite n v) s (fun e =>
    (e.outp n).st = 0 ∧ e.flag (rOUT_STATUS n) fOUT_STATUS_PORT_READY = false)) ∧
  ((s.dev.outp n).st = 0 → Completes (.lightOffWrite n v) s (fun e =>
    e.rd (rOUT_CTRL n) = v.toNat &&& 0x1F3F00 ∧ OnlyRegs [rOUT_CTRL n] s.dev e))

/-- R226: PORT_READY ends the port's start-up; without it in 100 ms lighting is refused with cause 9. -/
def PortGetsReady (s : State) (n : Fin 8) (psr : BitVec 2) (gran : Nat) : Prop :=
  s.dev.outs.length = 8 → s.dev.talk.owed = [] →
  ((s.dev.outp n).st = 1 →
    Completes (.portReady n psr gran) s (fun e =>
      (e.outp n).st = 2 ∧ (e.outp n).psr = psr.toNat ∧ (e.outp n).psrGran = max gran 1 ∧
      e.flag (rOUT_STATUS n) fOUT_STATUS_PORT_READY = true ∧ RegsKeep [rOUT_STATUS n] s.dev e ∧
      e = { s.dev with regs := e.regs, outs := e.outs }) ∧
    Completes (.lightTimeout n) s (fun e =>
      (e.outp n).st = 0 ∧ e.fld (rOUT_STATUS n) fOUT_STATUS_REFUSE_CAUSE = 9 ∧ e.flag (rOUT_STATUS n) fOUT_STATUS_LIGHT_REFUSED = true)) ∧
  ((s.dev.outp n).st ≠ 1 → Becomes (.portReady n psr gran) s s.dev ∧ Becomes (.lightTimeout n) s s.dev)

/-- R226, R227: a ready output lights at its frame boundary with the dark frame; an output that is not ready does not. -/
def OutputLights (s : State) (n : Fin 8) : Prop :=
  s.dev.outs.length = 8 → s.dev.fld rPMU_BOOT_MS fPMU_BOOT_MS_LIT ≠ 0 →
  ((s.dev.outp n).st ≠ 2 → Becomes (.outputLights n) s s.dev) ∧
  ((s.dev.outp n).st = 2 → s.dev.outPhase n = 0 → s.dev.talk.owed = [] → s.dev.prp.shown = [] → s.dev.prp.next = [] → (s.dev.clu n).progs = [] →
    (∀ f k, k < 32 → (s.dev.view n f).layEn n k = false) → (∀ f k, k < 64 → (s.dev.view n f).sigOn n k = false) →
    (∀ t, t < 256 → (s.dev.ttEn t && s.dev.ttOut t == n) = false) →
    Completes (.outputLights n) s (fun e =>
      (e.outp n).st = 3 ∧ e.lit n = true ∧ (e.outp n).line = 0 ∧ (e.outp n).frame = s.dev.outFrame44 n % 2 ^ 24 ∧
      (e.outp n).darkFrame = some (s.dev.outFrame44 n % 2 ^ 24) ∧ e.flag (rOUT_STATUS n) fOUT_STATUS_DARK_FRAME = true))

/-- R228: at its frame boundary a lit output whose turn-dark is pending goes dark. -/
def OutputGoesDark (s : State) (n : Fin 8) : Prop :=
  s.dev.outs.length = 8 → s.dev.lcc.length = 8 →
  ((s.dev.outp n).st ≠ 3 ∨ (s.dev.outp n).offPending = false → Becomes (.outputGoesDark n) s s.dev) ∧
  ((s.dev.outp n).st = 3 → (s.dev.outp n).offPending = true → s.dev.outPhase n = 0 →
    Completes (.outputGoesDark n) s (fun e =>
      (e.outp n).st = 0 ∧ e.lit n = false ∧ e.flag (rOUT_STATUS n) fOUT_STATUS_PORT_READY = false ∧ (e.outp n).fifo = [] ∧ (e.clu n).queue = [] ∧
      e.rd (rOUT_PIXEL_RATE n) = 0 ∧ (e.outp n).spr = (s.dev.outp n).spr ∧ (e.outp n).lut = (s.dev.outp n).lut ∧ e.live = s.dev.live))

/-- R220: how an eDP link of a lit output is lost and trained again. -/
def EdpLinkRetrains (s : State) (n : Fin 8) : Prop :=
  s.dev.outs.length = 8 → (s.dev.outp n).st = 3 →
  (s.dev.isEdp n = true → Completes (.hpdLoss n) s (fun e =>
    (e.outp n).link = 1 ∧ e.flag (rOUT_STATUS n) fOUT_STATUS_LINK_LOST = true ∧ e = { s.dev with regs := e.regs, outs := e.outs } ∧
    RegsKeep (rOUT_STATUS n :: raiseRegs (rOUT_STATUS n)) s.dev e)) ∧
  ((s.dev.outp n).link = 1 → Completes (.hpdReturn n) s (fun e =>
    (e.outp n).link = 2 ∧ e.fld (rOUT_RETRAIN_CNT n) fOUT_RETRAIN_CNT_COUNT =
      satInc (s.dev.fld (rOUT_RETRAIN_CNT n) fOUT_RETRAIN_CNT_COUNT) fOUT_RETRAIN_CNT_COUNT.w ∧ RegsKeep [rOUT_RETRAIN_CNT n] s.dev e)) ∧
  (s.dev.isEdp n = true → (s.dev.outp n).link = 0 → Completes (.irqHpd n true) s (fun e =>
    (e.outp n).link = (if (s.dev.outp n).line < (s.dev.mode n).va then 4 else 2) ∧ RegsKeep [rOUT_RETRAIN_CNT n] s.dev e)) ∧
  (s.dev.isEdp n = true → (s.dev.outp n).link = 3 → Completes (.irqHpd n true) s (fun e =>
    (e.outp n).link = 2 ∧ RegsKeep [rOUT_RETRAIN_CNT n] s.dev e)) ∧
  Becomes (.irqHpd n false) s s.dev ∧
  ((s.dev.outp n).link = 2 → Completes (.edpRetrainDone n) s (fun e => (e.outp n).link = 3 ∧ RegsKeep [] s.dev e)) ∧
  (s.dev.isEdp n = false → Becomes (.hpdLoss n) s s.dev ∧ ((s.dev.outp n).link = 0 → Becomes (.irqHpd n true) s s.dev)) ∧
  ((s.dev.outp n).link = 0 → Becomes (.hpdReturn n) s s.dev ∧ Becomes (.edpRetrainDone n) s s.dev)

/-- R229 to R231: a request to enter self-refresh names the first frame not sent, or is refused where mode and sink do not suit; a request
withdrawn before its frame leaves no trace but the register. One that comes while an exit is under way names the frame after the exit's (R230). -/
def SelfRefreshRequested (s : State) (n : Fin 8) (v : Reg) : Prop :=
  let w := s.dev.wr (rOUT_SR_CTRL n) (v.toNat &&& 0xF00000)
  (∀ a b, s.dev.outs.length = 8 → (s.dev.outp n).st = 3 → (s.dev.outp n).sr = some (a, some b) → (s.dev.outp n).srBlocked = false →
    s.dev.flag (rOUT_SR_CTRL n) fOUT_SR_CTRL_REQ = false → natBit v.toNat 23 = true → w.srSuits n = true →
    Completes (.srReqWrite n v) s (fun e => (e.outp n).srNext = some ((b + 1) % 2 ^ 24) ∧ (e.outp n).sr = (s.dev.outp n).sr)) ∧
  (s.dev.outs.length = 8 → (s.dev.outp n).st = 3 → (s.dev.outp n).sr = none →
  (natBit v.toNat 23 = true → (s.dev.outp n).srBlocked = false → w.srSuits n = true →
    Completes (.srReqWrite n v) s (fun e =>
      (e.outp n).sr = some (((s.dev.outp n).frame + (if (s.dev.outp n).keyed = some (s.dev.outp n).frame then 2 else 1)) % 2 ^ 24, none) ∧
      e.rd (rOUT_SR_CTRL n) = v.toNat &&& 0xF00000 ∧ RegsKeep [rOUT_SR_CTRL n] s.dev e)) ∧
  (natBit v.toNat 23 = true → (s.dev.outp n).srBlocked = false → w.srSuits n = false →
    Completes (.srReqWrite n v) s (fun e =>
      (e.outp n).sr = none ∧ e.flag (rOUT_SR_STATUS n) fOUT_SR_STATUS_ENTER_REFUSED = true ∧
      RegsKeep ([rOUT_SR_CTRL n, rOUT_SR_STATUS n] ++ raiseRegs (rOUT_SR_STATUS n)) s.dev e)) ∧
  (natBit v.toNat 23 = false →
    Completes (.srReqWrite n v) s (fun e => (e.outp n).srBlocked = false ∧ (e.outp n).sr = none ∧ RegsKeep [rOUT_SR_CTRL n] s.dev e)))

/-- R231, R259: a parapet change takes an output out of self-refresh while PRP_EXIT is 1, and blocks entry; where nothing that the parapet draws
has changed, nothing happens. -/
def ParapetChangeExits (s : State) (n : Fin 8) (a : Nat) : Prop :=
  s.dev.outs.length = 8 → (s.dev.outp n).st = 3 → s.dev.suBand n = false →
  ((s.dev.outp n).sr = none ∨ s.dev.flag (rOUT_SR_CTRL n) fOUT_SR_CTRL_PRP_EXIT = false ∨ s.dev.prpChanged n = [] →
    Becomes (.parapetChangeExit n false) s s.dev) ∧
  ((s.dev.outp n).sr = some (a, none) → s.dev.fld (rOUT_SR_STATUS n) fOUT_SR_STATUS_SR_STATE = 2 →
    s.dev.flag (rOUT_SR_CTRL n) fOUT_SR_CTRL_PRP_EXIT = true → s.dev.prpChanged n ≠ [] →
    Completes (.parapetChangeExit n false) s (fun e =>
      e.fld (rOUT_SR_STATUS n) fOUT_SR_STATUS_SR_STATE = 3 ∧ e.flag (rOUT_SR_STATUS n) fOUT_SR_STATUS_PRP_EXITED = true ∧
      (e.outp n).srBlocked = true ∧ RegsKeep (rOUT_SR_STATUS n :: raiseRegs (rOUT_SR_STATUS n)) s.dev e))

/-- The registers that show the recovery slots (R483). -/
def slotRegs : List Nat := rFLT_STATUS :: (List.range 4).map rFLT_RECOVER

/-- R32, R235, R236: a pipe that serves no output is retired at once; one that serves a lit output hands it to an idle PIPE8, the output's lines being
replayed from the third after the present one on, and holds its span's recovery slot, or waits for it. -/
def PipeRetires (s : State) (p n : Fin 8) : Prop :=
  s.dev.outs.length = 8 → s.dev.flt.spans.length = 4 →
  (s.dev.pipeState p = 3 → Becomes (.pipeRetire p) s s.dev.fltShow) ∧
  (s.dev.pipeState p ≠ 3 → s.dev.pipeServes p = none →
    Completes (.pipeRetire p) s (fun e => e.pipeState p = 3 ∧ OnlyRegs (rPIPE_STATUS p :: slotRegs) s.dev e)) ∧
  (s.dev.pipeState p = 0 ∨ s.dev.pipeState p = 1 → s.dev.pipeServes p = some n.val → s.dev.pipeState 8 = 0 → s.dev.pier 13 = 0 →
    s.dev.pwr.entering = [] → (s.dev.outp n).st = 3 → (s.dev.outp n).hand = none →
    ((s.dev.span (classSpan 5 p)).busy.isSome = true → Completes (.pipeRetire p) s (fun e =>
      e.pipeState p = s.dev.pipeState p ∧ e.pipeState 8 = 0 ∧ e.outs = s.dev.outs ∧
      ((5, p.val) ∈ (e.span (classSpan 5 p)).queue ∨ (5, p.val) ∈ (e.span (classSpan 5 p)).waiting))) ∧
    ((s.dev.span (classSpan 5 p)).busy = none → Completes (.pipeRetire p) s (fun e =>
      (e.span (classSpan 5 p)).busy = some [5, p.val, 5, 8] ∧
      e.pipeState p = 2 ∧ e.pipeState 8 = 2 ∧ e.fld (rPIPE_STATUS 8) fPIPE_STATUS_OUT = n.val ∧ e.pipeOf n = s.dev.pipeOf n ∧
      (e.outp n).hand = some ((s.dev.ahead n (s.dev.outp n).line (s.dev.outp n).frame 3).2,
        (s.dev.ahead n (s.dev.outp n).line (s.dev.outp n).frame 3).1, none) ∧
      RegsKeep ([rPIPE_STATUS p, rPIPE_STATUS 8, rFLT_JOURNAL_NEXT, rDBG_STL_OVW_CNT] ++ slotRegs) s.dev e))) ∧
  (s.dev.pipeState p = 1 → s.dev.pipeServes p = some n.val → s.dev.pipeState 8 = 3 → (s.dev.outp n).st = 0 →
    Completes (.pipeRetire p) s (fun e => e.pipeState p = 3 ∧ e.flag (rPIPE_STATUS p) fPIPE_STATUS_NO_SPARE = true))

/-- R235 to R237: PIPE8 retired idle serves no output; its lock makes the switch due at the next line boundary of a lit output. -/
def SparePipeTakesOver (s : State) (n : Fin 8) : Prop :=
  s.dev.outs.length = 8 →
  (s.dev.pipeState 8 = 0 → Completes .sparePipeRetire s (fun e => e.pipeState 8 = 3 ∧ OnlyRegs [rPIPE_STATUS 8] s.dev e)) ∧
  (s.dev.pipeState 8 ≠ 2 → Becomes .sparePipeLocked s s.dev) ∧
  (s.dev.pipeState 8 = 2 → s.dev.fld (rPIPE_STATUS 8) fPIPE_STATUS_OUT = n.val → (s.dev.outp n).st = 3 →
    Completes .sparePipeLocked s (fun e =>
      e.flag (rPIPE_STATUS 8) fPIPE_STATUS_PLL_LOCK = true ∧ (e.outp n).spareLock = true ∧ e.pipeOf n = s.dev.pipeOf n ∧
      RegsKeep [rPIPE_STATUS 8, rCKG_PLL_STATUS 12] s.dev e))

/-- R216: a scan position out of bounds on a lit output clears its pipe's PLL_LOCK, sets POS_ERR and is reported. -/
def PositionErrorIsReported (s : State) (n : Fin 8) : Prop :=
  ((s.dev.outp n).st = 3 →
    Completes (.positionError n) s (fun e =>
      e.flag (rOUT_STATUS n) fOUT_STATUS_POS_ERR = true ∧ e.flag (rPIPE_STATUS (s.dev.pipeOf n)) fPIPE_STATUS_PLL_LOCK = false ∧
      e.reports.length = s.dev.reports.length + 1 ∧ e = { s.dev with regs := e.regs, reports := e.reports } ∧
      RegsKeep ([rOUT_STATUS n, rPIPE_STATUS (s.dev.pipeOf n)] ++ raiseRegs (rOUT_STATUS n)) s.dev e)) ∧
  ((s.dev.outp n).st ≠ 3 → Becomes (.positionError n) s s.dev)

/-! ### Chapter 10: signatures and the parapet -/

/-- R243, R247: a MATCH region whose signature is an expected one passes; another signature fails with cause 1 and counts; a region that is not
due is not judged. -/
def SignatureIsJudged (s : State) (n : Fin 8) (k : Fin 64) (sg : Nat) : Prop :=
  s.dev.outs.length = 8 → (s.dev.outp n).sigs.length = 64 → (s.dev.outp n).prev = none →
  ((s.dev.sig n k).due = false → Becomes (.signatureJudge n k) s s.dev) ∧
  ((s.dev.sig n k).due = true → s.dev.sigOn n k = true → s.dev.sigBad s.dev n k = false → (s.dev.sig n k).fed = (s.dev.sigRect n k).h →
    (s.dev.outp n).darkFrame = none → (s.dev.outp n).early = false → (s.dev.outp n).store = none → (s.dev.sig n k).lossy = false →
    s.dev.lv (rOUT_SIG_CTRLk n k) fOUT_SIG_CTRLk_KIND = 0 → (s.dev.sig n k).last = some ((s.dev.outp n).frame, sg) →
    (∀ j ∈ s.dev.sigSlots s.dev n k, s.dev.sigExp n k j = sg →
      Completes (.signatureJudge n k) s (fun e =>
        e.flag (rOUT_SIG_STATUSk n k) fOUT_SIG_STATUSk_PASS = true ∧ e.fld (rOUT_SIG_STATUSk n k) fOUT_SIG_STATUSk_RUN = 0 ∧
        (e.sig n k).lastPass = true ∧ (e.sig n k).due = false ∧ RegsKeep [rOUT_SIG_STATUSk n k] s.dev e)) ∧
    ((∀ j ∈ s.dev.sigSlots s.dev n k, s.dev.sigExp n k j ≠ sg) →
      Completes (.signatureJudge n k) s (fun e =>
        e.flag (rOUT_SIG_STATUSk n k) fOUT_SIG_STATUSk_PASS = false ∧ e.flag (rOUT_SIG_STATUSk n k) fOUT_SIG_STATUSk_MISMATCH = true ∧
        e.fld (rOUT_SIG_STATUSk n k) fOUT_SIG_STATUSk_CAUSE = 1 ∧
        e.fld (rOUT_SIG_STATUSk n k) fOUT_SIG_STATUSk_RUN = min (s.dev.fld (rOUT_SIG_STATUSk n k) fOUT_SIG_STATUSk_RUN + 1) 15 ∧
        e.fld (rOUT_SIG_MISS_CNT n) fOUT_SIG_MISS_CNT_COUNT = satInc (s.dev.fld (rOUT_SIG_MISS_CNT n) fOUT_SIG_MISS_CNT_COUNT)
          fOUT_SIG_MISS_CNT_COUNT.w ∧ (e.sig n k).due = false)))

/-- R10, R251, R253: the window on the parapet store: a write of the high half stores the word at ADDR, a read of the low half shows it and
latches the high half, and either steps ADDR. -/
def ParapetWindowMoves (s : State) (v : Reg) : Prop :=
  let a := s.dev.rd rPRP_ADDR
  Completes (.prpDataHiWrite v) s (fun e =>
    e.rd rPRP_ADDR = (a + 1) % 2 ^ 19 ∧ (a < 0x40100 → (e.prpWord a).toNat = v.toNat * 2 ^ 24 + s.dev.staged rPRP_DATA_LO) ∧
    (∀ b, b ≠ a → e.prpWord b = s.dev.prpWord b) ∧ e = { s.dev with regs := e.regs, prp := e.prp } ∧ RegsKeep [rPRP_ADDR] s.dev e) ∧
  Completes .prpDataLoRead s (fun e =>
    e.rd rPRP_ADDR = (a + 1) % 2 ^ 19 ∧ e.rd rPRP_DATA_LO = (s.dev.prpWord a).toNat % 2 ^ 24 ∧
    assocGet e.latch rPRP_DATA_HI = some (BitVec.ofNat 24 ((s.dev.prpWord a).toNat / 2 ^ 24)) ∧ e.prp = s.dev.prp ∧
    RegsKeep [rPRP_ADDR, rPRP_DATA_LO] s.dev e)

/-- R257, R260: a heartbeat that is missed shows HB_ABSENT and HB_LOST, and a telltale with a fail-safe state takes it; with HB_MS 0, or where one
has arrived in the very same clock, none is missed. -/
def HeartbeatIsMissed (s : State) (t : Fin 256) : Prop :=
  (s.dev.fld rPRP_CTRL fPRP_CTRL_HB_MS = 0 ∨ s.dev.prp.hbAt = some s.dev.now → Becomes .heartbeatTimeout s s.dev) ∧
  (s.dev.fld rPRP_CTRL fPRP_CTRL_HB_MS ≠ 0 → s.dev.prp.hbAt ≠ some s.dev.now →
    Completes .heartbeatTimeout s (fun e =>
      e.flag rPRP_STATUS fPRP_STATUS_HB_ABSENT = true ∧ e.flag rPRP_STATUS fPRP_STATUS_HB_LOST = true ∧
      (natBits (s.dev.ttWord t 0) 38 2 = 0 → e.ttState t = s.dev.ttState t) ∧
      (natBits (s.dev.ttWord t 0) 38 2 ≠ 0 → e.ttState t = natBits (s.dev.ttWord t 0) 38 2 - 1 ∧
        e.flag rPRP_STATUS fPRP_STATUS_FAILSAFE = true) ∧
      e = { s.dev with regs := e.regs, prp := e.prp } ∧ RegsKeep (rPRP_STATUS :: raiseRegs rPRP_STATUS) s.dev e))

end Sys2Proof.Machine

/-- R193 to R196, R208: what a camera port does with packets, lines and the loss of its stream. Each of these answers a next state with its own
effect, on conditions of the state and the operands alone: csiFrameStart, csiFrameEnd, csiLongPacket, cameraLineLanded, cameraRingMove,
cameraStreamLost, dphySyncLoss, vcClr. -/
def Obligations.CamerasTakePacketsAndLines : Prop :=
  ∀ (s : State) (c : Fin 8), (∀ vc, FrameStartBegins s c vc ∧ FrameEndCloses s c vc ∧ FifthChannelDropped s c vc) ∧
    (∀ vc dt hdr ok bytes, LongPacketLands s c vc dt hdr ok bytes) ∧
    (∀ l code rest, LandingLineIsChecked s c l code rest ∧ LineEntersTheRing s c l code rest) ∧ StreamIsLost s c ∧ ∀ v, TrackingIsCleared s c v

/-- R226 to R228: how an output lights and goes dark. Each of these answers a next state with its own effect, on conditions of the state and the
operands alone: lightOnWrite, portReady, outputLights, lightTimeout, lightOffWrite, outputGoesDark. -/
def Obligations.OutputsLightAndGoDark : Prop :=
  ∀ (s : State) (n : Fin 8), (∀ v, LightIsWritten s n v ∧ LightIsCleared s n v) ∧ (∀ psr gran, PortGetsReady s n psr gran) ∧ OutputLights s n ∧
    OutputGoesDark s n

/-- R216, R220, R229 to R231, R235 to R237: links, self-refresh and pipes of a lit output. Each of these answers a next state with its own effect,
on conditions of the state and the operands alone: positionError, hpdLoss, hpdReturn, irqHpd, srReqWrite, parapetChangeExit, pipeRetire,
sparePipeRetire, sparePipeLocked, edpRetrainDone. -/
def Obligations.LinksPanelsAndPipes : Prop :=
  ∀ (s : State) (n : Fin 8), EdpLinkRetrains s n ∧ (∀ v, SelfRefreshRequested s n v) ∧ (∀ a, ParapetChangeExits s n a) ∧ (∀ p, PipeRetires s p n) ∧
    SparePipeTakesOver s n ∧ PositionErrorIsReported s n

/-- R10, R243, R247, R251, R253, R257: signatures are judged, the parapet's store is reached, a missed heartbeat shows. Each of these answers a next
state with its own effect, on conditions of the state and the operands alone: signatureJudge, prpDataHiWrite, prpDataLoRead, heartbeatTimeout. -/
def Obligations.SignaturesAndParapet : Prop :=
  ∀ s : State, (∀ n k sg, SignatureIsJudged s n k sg) ∧ (∀ v, ParapetWindowMoves s v) ∧ ∀ t, HeartbeatIsMissed s t
/-! ### Chapter 11: the Silis instruction set -/

namespace Sys2Proof.Machine

/-- Core `core` runs, its clock on, and is about to execute slot `slot` of the word `w` that it has fetched, which holds the instruction `code`. No
shadow, no skip, no step and no debug point is pending, and its stacks are within their cached entries. -/
def AtSlot (d : Dev) (core : CoreId) (w : Word) (code : Nat) : Prop :=
  let x := d.core (coreCode core)
  x.run = 1 ∧ x.wait = 0 ∧ x.steps = none ∧ d.gated (coreBranch (coreCode core)) = false ∧ x.cur = some (x.pc, w) ∧ x.slot < 4 ∧ slotOf w x.slot = code ∧ x.shadow = [] ∧ x.skip = [] ∧
    d.dbg.points = [] ∧ x.dsp < 65536 ∧ x.rsp < 65536 ∧ x.ds.length ≤ 32 ∧ x.rs.length ≤ 16

/-- The core is in no delay slot. -/
def NoDelay (d : Dev) (core : CoreId) : Prop := (d.core (coreCode core)).delay = none

/-- The command changes one core alone, which becomes `y`. -/
def CoreBecomes (i : Instr) (s : State) (core : CoreId) (y : Core) : Prop :=
  Completes i s (fun e =>
    e.core (coreCode core) = y ∧ (∀ k, k ≠ coreCode core → e.core k = s.dev.core k) ∧ e = { s.dev with regs := e.regs, cores := e.cores } ∧
    RegsKeep [] s.dev e)

/-- The core after an instruction of `n` operand slots with its stacks and cycles (R264, R275, R277). -/
def stepped (x : Core) (w : Word) (ds rs : List Word) (cyc n : Nat) : Core :=
  { x with ds := ds, rs := rs, cycles := x.cycles + cyc, pass := 0 }.advance w (x.slot + 1 + n)

/-- R273, R274: an instruction that takes two operands, `b` on top of `a`, and leaves `f a b`. -/
def BinaryOp (i : CoreId → Instr) (code cyc : Nat) (f : Word → Word → Word) : Prop :=
  ∀ (s : State) (core : CoreId) (w a b : Word) (rest : List Word),
    let x := s.dev.core (coreCode core)
    AtSlot s.dev core w code → NoDelay s.dev core → x.ds = b :: a :: rest →
    CoreBecomes (i core) s core (stepped x w (f a b :: rest) x.rs cyc 0)

/-- R273: a division, where the divisor is not zero. -/
def DivisionOp (i : CoreId → Instr) (code cyc : Nat) (f : Word → Word → Word) : Prop :=
  ∀ (s : State) (core : CoreId) (w a b : Word) (rest : List Word),
    let x := s.dev.core (coreCode core)
    AtSlot s.dev core w code → NoDelay s.dev core → x.ds = b :: a :: rest → b ≠ 0 →
    CoreBecomes (i core) s core (stepped x w (f a b :: rest) x.rs cyc 0)

/-- R273, R274: an instruction that takes one operand and leaves one. -/
def UnaryOp (i : CoreId → Instr) (code : Nat) (f : Word → Word) : Prop :=
  ∀ (s : State) (core : CoreId) (w a : Word) (rest : List Word),
    let x := s.dev.core (coreCode core)
    AtSlot s.dev core w code → NoDelay s.dev core → x.ds = a :: rest →
    CoreBecomes (i core) s core (stepped x w (f a :: rest) x.rs 1 0)

/-- R274: an instruction that moves entries of the data stack: those of `before`, top first, become those of `after`. -/
def StackMove (i : CoreId → Instr) (code : Nat) (before after : List Word) : Prop :=
  ∀ (s : State) (core : CoreId) (w : Word) (rest : List Word),
    let x := s.dev.core (coreCode core)
    AtSlot s.dev core w code → NoDelay s.dev core → x.ds = before ++ rest → (after ++ rest).length ≤ 32 →
    CoreBecomes (i core) s core (stepped x w (after ++ rest) x.rs 1 0)

/-- R274: an instruction that moves entries between the stacks; each pair is a data stack and a return stack. -/
def BothStacks (i : CoreId → Instr) (code : Nat) (before after : List Word × List Word) : Prop :=
  ∀ (s : State) (core : CoreId) (w : Word) (ds rs : List Word),
    let x := s.dev.core (coreCode core)
    AtSlot s.dev core w code → NoDelay s.dev core → x.ds = before.1 ++ ds → x.rs = before.2 ++ rs → (after.1 ++ ds).length ≤ 32 →
    (after.2 ++ rs).length ≤ 16 →
    CoreBecomes (i core) s core (stepped x w (after.1 ++ ds) (after.2 ++ rs) 1 0)

/-- R274, R285: an instruction that needs supervisor mode, with its effect `f` on the core. -/
def SystemOp (i : CoreId → Instr) (code cyc : Nat) (f : Core → Core) : Prop :=
  ∀ (s : State) (core : CoreId) (w : Word),
    let x := s.dev.core (coreCode core)
    AtSlot s.dev core w code → NoDelay s.dev core → x.mode = 1 →
    CoreBecomes (i core) s core (stepped (f x) w x.ds x.rs cyc 0)

/-- R274: NOP does nothing but advance, and FENCE of a core with no posted store only notes that it has come (R272). -/
def NopAndFence (s : State) (core : CoreId) (w : Word) : Prop :=
  let x := s.dev.core (coreCode core)
  NoDelay s.dev core →
  (AtSlot s.dev core w 0x000 → CoreBecomes (.nop core) s core (stepped x w x.ds x.rs 1 0)) ∧
  (AtSlot s.dev core w 0x006 → x.posted = [] → CoreBecomes (.fence core) s core (stepped { x with fenced := true } w x.ds x.rs 1 0))

/-- R264: the literals push their operand slots, sign extended, and LITW the literal word, here one of core-local memory. -/
def LiteralsPush (s : State) (core : CoreId) (w : Word) : Prop :=
  let x := s.dev.core (coreCode core)
  let a := (x.pc + 1 + litsBefore w x.slot) % 2 ^ 40
  NoDelay s.dev core → x.ds.length ≤ 31 →
  (AtSlot s.dev core w 0x600 → x.slot ≤ 2 →
    CoreBecomes (.lit12 core) s core (stepped x w (BitVec.ofInt 48 (natToInt 12 (slotOf w (x.slot + 1))) :: x.ds) x.rs 1 1)) ∧
  (AtSlot s.dev core w 0x601 → x.slot ≤ 1 →
    CoreBecomes (.lit24 core) s core
      (stepped x w (BitVec.ofInt 48 (natToInt 24 (slotOf w (x.slot + 1) * 4096 + slotOf w (x.slot + 2))) :: x.ds) x.rs 1 2)) ∧
  (AtSlot s.dev core w 0x602 → s.dev.access (coreCode core) a false = 0 →
    CoreBecomes (.litw core) s core (stepped x w (s.dev.lword (coreCode core) (a % 65536) :: x.ds) x.rs 1 0))

/-- Where sequential execution goes on after the delay slot of a branch at slot `k` of word `w` (R266). -/
def pastDelay (x : Core) (w : Word) (k : Nat) : Nat := if k + 3 < 4 then (k + 3) * 2 ^ 40 + x.pc else (x.seqNext w).1

/-- R266: a conditional branch with relation `rel`: its delay slot is due, then the target where the relation holds, and the slot after the delay
slot where it does not. -/
def Branch (i : CoreId → Instr) (code : Nat) (rel : Word → Word → Bool) : Prop :=
  ∀ (s : State) (core : CoreId) (w a b : Word) (rest : List Word),
    let x := s.dev.core (coreCode core)
    let target := intToNat 40 ((x.pc : Int) + natToInt 12 (slotOf w (x.slot + 1)))
    AtSlot s.dev core w code → NoDelay s.dev core → x.ds = b :: a :: rest → x.slot ≤ 1 →
    CoreBecomes (i core) s core
      { x with
        ds := rest, slot := x.slot + 2, pass := 0, cycles := x.cycles + (if rel a b then 2 else 1)
        delay := some (if rel a b then ⟨target, true, x.leavesLoop target, false⟩ else ⟨pastDelay x w x.slot, false, false, false⟩) }

/-- R267, R278: the jumps and calls; a call pushes the resolved next word. -/
def JumpsAndCalls (s : State) (core : CoreId) (w : Word) (t : Word) (rest : List Word) : Prop :=
  let x := s.dev.core (coreCode core)
  let target := intToNat 40 ((x.pc : Int) + natToInt 12 (slotOf w (x.slot + 1)))
  let popped := t.toNat % 2 ^ 40
  let ret : Word := BitVec.ofNat 48 (x.seqNext w).1
  NoDelay s.dev core →
  (AtSlot s.dev core w 0x708 → x.slot ≤ 1 →
    CoreBecomes (.jmp core) s core
      { x with slot := x.slot + 2, pass := 0, cycles := x.cycles + 2, delay := some ⟨target, true, x.leavesLoop target, false⟩ }) ∧
  (AtSlot s.dev core w 0x709 → x.slot ≤ 1 → x.rs.length ≤ 15 →
    CoreBecomes (.call core) s core
      { x.callLoop w with rs := ret :: x.rs, slot := x.slot + 2, pass := 0, cycles := x.cycles + 2, delay := some ⟨target, true, false, false⟩ }) ∧
  (AtSlot s.dev core w 0x70A → x.slot ≤ 2 → x.ds = t :: rest →
    CoreBecomes (.jmpi core) s core
      { x with ds := rest, slot := x.slot + 1, pass := 0, cycles := x.cycles + 2, delay := some ⟨popped, true, x.leavesLoop popped, false⟩ }) ∧
  (AtSlot s.dev core w 0x70B → x.slot ≤ 2 → x.ds = t :: rest → x.rs.length ≤ 15 →
    CoreBecomes (.calli core) s core
      { x.callLoop w with
        ds := rest, rs := ret :: x.rs, slot := x.slot + 1, pass := 0, cycles := x.cycles + 2, delay := some ⟨popped, true, false, false⟩ }) ∧
  (AtSlot s.dev core w 0x70C → x.slot ≤ 2 → x.rs = t :: rest →
    CoreBecomes (.ret core) s core
      { x with rs := rest, slot := x.slot + 1, pass := 0, cycles := x.cycles + 2, delay := some ⟨popped, true, x.leavesLoop popped, false⟩ })

/-- R266: once the delay slot, here a NOP, has run, a transfer that was taken goes to its target. -/
def DelaySlotThenTarget (s : State) (core : CoreId) (w : Word) (dl : Delay) : Prop :=
  let x := s.dev.core (coreCode core)
  AtSlot s.dev core w 0x000 → x.delay = some dl → dl.taken = true → dl.ends = false → x.fenced = false →
  CoreBecomes (.nop core) s core
    { x with pc := dl.target % 2 ^ 40, slot := dl.target / 2 ^ 40 % 4, cur := none, delay := none, pass := 0, cycles := x.cycles + 1 }

/-- R264, R277: after slot 3 the core goes on at the next word, or at the start of the loop body while passes are left. -/
def WordEnds (s : State) (core : CoreId) (w : Word) : Prop :=
  let x := s.dev.core (coreCode core)
  AtSlot s.dev core w 0x000 → NoDelay s.dev core → x.slot = 3 → x.pc + 1 < 2 ^ 40 → litsBefore w 4 = 0 →
  (x.lcnt = 0 → CoreBecomes (.nop core) s core { x with pc := x.pc + 1, slot := 0, cur := none, pass := 0, cycles := x.cycles + 1 }) ∧
  (2 ≤ x.lcnt → x.lend = x.pc → x.lbeg ≤ x.pc →
    CoreBecomes (.nop core) s core
      { x with pc := x.lbeg, slot := 0, cur := none, lcnt := x.lcnt - 1, pass := 0, cycles := x.cycles + 1 })

/-- R276: LOOP N with a count that is not 0 sets up a loop over the N words that follow. -/
def LoopSetUp (s : State) (core : CoreId) (w n : Word) (rest : List Word) : Prop :=
  let x := s.dev.core (coreCode core)
  let b := (x.pc + 1 + litsBefore w 4) % 2 ^ 40
  AtSlot s.dev core w 0x800 → NoDelay s.dev core → x.ds = n :: rest → n ≠ 0 → x.slot ≤ 1 → slotOf w (x.slot + 1) ≠ 0 →
  CoreBecomes (.loop core) s core
    { x with
      ds := rest, slot := x.slot + 2, pass := 0, cycles := x.cycles + 1
      lbeg := b, lend := (b + slotOf w (x.slot + 1) - 1) % 2 ^ 40, lcnt := n.toNat }

/-- R279: LPUSH saves LEND, LBEG and LCNT on the return stack and LPOP takes them back. -/
def LoopStateSaved (s : State) (core : CoreId) (w a b c : Word) (rest : List Word) : Prop :=
  let x := s.dev.core (coreCode core)
  NoDelay s.dev core → x.slot ≤ 2 →
  (AtSlot s.dev core w 0x801 → x.rs.length ≤ 13 →
    CoreBecomes (.lpush core) s core
      (stepped x w x.ds (BitVec.ofNat 48 x.lcnt :: BitVec.ofNat 48 x.lbeg :: BitVec.ofNat 48 x.lend :: x.rs) 3 0)) ∧
  (AtSlot s.dev core w 0x802 → x.rs = a :: b :: c :: rest →
    CoreBecomes (.lpop core) s core
      (stepped { x with lcnt := a.toNat, lbeg := b.toNat % 2 ^ 40, lend := c.toNat % 2 ^ 40 } w x.ds rest 3 0))

/-- R280, R282: what GETS pushes for each special register but the two stack pointers; PC gives the address of the word. -/
def specialOf (x : Core) : List (Nat × Nat) :=
  [(0, x.pc), (1, x.bnk), (2, x.mode), (5, x.dsl), (6, x.rsl), (7, x.lcnt), (8, x.lbeg), (9, x.lend), (10, x.st), (11, x.epc), (12, x.etgt),
   (13, x.emode), (14, if x.mode = 2 then 0 else x.evmask)]

/-- R280: GETS. -/
def GetsPushes (s : State) (core : CoreId) (w : Word) (k v : Nat) : Prop :=
  let x := s.dev.core (coreCode core)
  (k, v) ∈ specialOf x → AtSlot s.dev core w (0x900 + k) → NoDelay s.dev core → x.ds.length ≤ 31 →
  CoreBecomes (.gets core) s core (stepped x w (BitVec.ofNat 48 v :: x.ds) x.rs 1 0)

/-- SETS of special register `k` leaves the core as `y`, advanced. -/
def SetsTo (s : State) (core : CoreId) (w : Word) (rest : List Word) (k : Nat) (y : Core) : Prop :=
  AtSlot s.dev core w (0x910 + k) → CoreBecomes (.sets core) s core (stepped y w rest y.rs 1 0)

/-- R280, R284: SETS of the special registers that take their value at once, and of MODE and BNK, which take it two slots later. -/
def SetsWrites (s : State) (core : CoreId) (w v : Word) (rest : List Word) : Prop :=
  let x := s.dev.core (coreCode core)
  let n := v.toNat
  NoDelay s.dev core → x.mode = 1 → x.ds = v :: rest → x.slot ≤ 2 →
  SetsTo s core w rest 5 { x with dsl := n % 2 ^ 32 } ∧ SetsTo s core w rest 6 { x with rsl := n % 2 ^ 32 } ∧ SetsTo s core w rest 7 { x with lcnt := n } ∧
  SetsTo s core w rest 8 { x with lbeg := n % 2 ^ 40 } ∧ SetsTo s core w rest 9 { x with lend := n % 2 ^ 40 } ∧ SetsTo s core w rest 11 { x with epc := n % 2 ^ 42 } ∧
  SetsTo s core w rest 12 { x with etgt := n % 2 ^ 42 } ∧ SetsTo s core w rest 13 { x with emode := n % 4 } ∧ SetsTo s core w rest 14 { x with evmask := n &&& 0xC00000000FFF } ∧
  SetsTo s core w rest 10 { x with
    cause := n / 32 % 16, btTaken := natBit n 4, dslot := natBit n 3, ex := natBit n 2, pie := natBit n 1, ie := natBit n 0 } ∧
  (AtSlot s.dev core w 0x911 →
    CoreBecomes (.sets core) s core { stepped x w rest x.rs 1 0 with shadow := [⟨2, false, n % 2 ^ 24⟩] }) ∧
  (AtSlot s.dev core w 0x912 → n % 4 < 2 →
    CoreBecomes (.sets core) s core { stepped x w rest x.rs 1 0 with shadow := [⟨2, true, n % 4⟩] })

/-- R270: a read of a stack pointer whose stack has no cached entry, and a write of one, which discards the cached entries. -/
def StackPointers (s : State) (core : CoreId) (w v : Word) (rest : List Word) : Prop :=
  let x := s.dev.core (coreCode core)
  NoDelay s.dev core →
  (AtSlot s.dev core w 0x903 → x.ds = [] → CoreBecomes (.gets core) s core (stepped x w [BitVec.ofNat 48 x.dsp] x.rs 1 0)) ∧
  (AtSlot s.dev core w 0x904 → x.rs = [] → x.ds.length ≤ 31 →
    CoreBecomes (.gets core) s core (stepped x w (BitVec.ofNat 48 x.rsp :: x.ds) [] 1 0)) ∧
  (x.mode = 1 → x.ds = v :: rest →
    (AtSlot s.dev core w 0x913 → CoreBecomes (.sets core) s core { stepped x w [] x.rs 1 0 with dsp := v.toNat % 65536 }) ∧
    (AtSlot s.dev core w 0x914 → CoreBecomes (.sets core) s core { stepped x w rest [] 1 0 with rsp := v.toNat % 65536 }))

/-- R271, R133, R301: a load, here one that core-local memory answers, from the banked short address or from the 40-bit address. -/
def LocalLoads (s : State) (core : CoreId) (w t : Word) (rest : List Word) : Prop :=
  let c := coreCode core
  let x := s.dev.core c
  let short := (x.bnk * 65536 + t.toNat % 65536) % 2 ^ 40
  let far := t.toNat % 2 ^ 40
  NoDelay s.dev core → x.ds = t :: rest → rest.length ≤ 30 →
  (AtSlot s.dev core w 0x500 → s.dev.access c short false = 0 →
    CoreBecomes (.ld core) s core (stepped x w (s.dev.lword c (short % 65536) :: rest) x.rs 1 0)) ∧
  (AtSlot s.dev core w 0x502 → s.dev.access c far false = 0 →
    CoreBecomes (.ldf core) s core (stepped x w (s.dev.lword c (far % 65536) :: rest) x.rs 1 0)) ∧
  (AtSlot s.dev core w 0x504 → s.dev.access c far false = 0 →
    CoreBecomes (.ldfi core) s core (stepped x w (s.dev.lword c (far % 65536) :: (t + 1) :: rest) x.rs 1 0))

/-- What a store to word `a` of core-local memory leaves: that word, the core as `y`, and nothing else. -/
def StoresLocal (i : Instr) (s : State) (core : CoreId) (a : Nat) (v : Word) (y : Core) : Prop :=
  let c := coreCode core
  Completes i s (fun e =>
    e.core c = y ∧ (∀ k, k ≠ c → e.core k = s.dev.core k) ∧ e.lword c a = v ∧
    (∀ k b, b < 65536 → (k ≠ c ∨ b ≠ a) → e.lword k b = s.dev.lword k b) ∧
    e = { s.dev with regs := e.regs, cores := e.cores, lmem := e.lmem } ∧ RegsKeep [] s.dev e)

/-- R271: a store, here to core-local memory; not into the words that may have been fetched ahead (R272), and not of paired T1 (R298). -/
def LocalStores (s : State) (core : CoreId) (w t v : Word) (rest : List Word) : Prop :=
  let c := coreCode core
  let x := s.dev.core c
  let short := (x.bnk * 65536 + t.toNat % 65536) % 2 ^ 40
  let far := t.toNat % 2 ^ 40
  let ahead := [x.pc + 1, x.pc + 2, x.lbeg, x.lbeg + 1]
  NoDelay s.dev core → x.ds = t :: v :: rest → (coreCode core ≠ 0x48 ∨ s.dev.paired = false) →
  (AtSlot s.dev core w 0x501 → s.dev.access c short true = 0 → short ∉ ahead →
    StoresLocal (.st core) s core (short % 65536) v { stepped x w rest x.rs 1 0 with fenced := false }) ∧
  (AtSlot s.dev core w 0x503 → s.dev.access c far true = 0 → far ∉ ahead →
    StoresLocal (.stf core) s core (far % 65536) v { stepped x w rest x.rs 1 0 with fenced := false }) ∧
  (AtSlot s.dev core w 0x505 → s.dev.access c far true = 0 → far ∉ ahead →
    StoresLocal (.stfi core) s core (far % 65536) v { stepped x w ((t + 1) :: rest) x.rs 1 0 with fenced := false })

/-- R272: a store that leaves the core is posted: it joins the core's queue and memory does not change yet. -/
def FarStorePosted (s : State) (core : CoreId) (w t v : Word) (rest : List Word) : Prop :=
  let c := coreCode core
  let x := s.dev.core c
  let far := t.toNat % 2 ^ 40
  NoDelay s.dev core → x.ds = t :: v :: rest → x.posted.length < 8 → AtSlot s.dev core w 0x503 → s.dev.access c far true = 3 →
  far ∉ [x.pc + 1, x.pc + 2, x.lbeg, x.lbeg + 1] →
  CoreBecomes (.stf core) s core { stepped x w rest x.rs 1 0 with fenced := false, posted := x.posted ++ [(far, v)] }

/-- R285 to R289: what a core is after entry with a cause: the slot in EPC, the mode and IE saved, supervisor mode, and the vector. -/
def Entered (cause : Nat) (x y : Core) : Prop :=
  y.pc = 0xFFFF000000 + cause ∧ y.slot = 0 ∧ y.mode = 1 ∧ y.cause = cause ∧ y.epc = x.slotAddr ∧ y.emode = x.mode ∧ y.pie = x.ie ∧ y.ie = false ∧
  y.ex = true ∧ y.dslot = x.delay.isSome ∧ y.ds = x.ds ∧ y.rs = x.rs ∧ y.run = 1 ∧ y.delay = none ∧ y.cycles = x.cycles + 4

/-- A steward takes an exception: it has entered its vector, and nothing else has changed. -/
def Traps (i : Instr) (s : State) (core : CoreId) (cause : Nat) : Prop :=
  Completes i s (fun e =>
    Entered cause (s.dev.core (coreCode core)) (e.core (coreCode core)) ∧ (∀ k, k ≠ coreCode core → e.core k = s.dev.core k) ∧
    e = { s.dev with regs := e.regs, cores := e.cores } ∧ RegsKeep [] s.dev e)

/-- A steward that is in no exception. -/
def Steward (s : State) (core : CoreId) : Prop := 72 ≤ coreCode core ∧ (s.dev.core (coreCode core)).ex = false

/-- R273, R285: dividing by zero raises DIV0 and changes no operand. -/
def DivisionByZeroTraps (i : CoreId → Instr) (code : Nat) : Prop :=
  ∀ (s : State) (core : CoreId) (w a : Word) (rest : List Word),
    Steward s core → AtSlot s.dev core w code → (s.dev.core (coreCode core)).ds = 0 :: a :: rest → Traps (i core) s core 6

/-- R285: BRK raises BREAK. -/
def BrkTraps (s : State) (core : CoreId) (w : Word) : Prop :=
  Steward s core → AtSlot s.dev core w 0x001 → NoDelay s.dev core → Traps (.brk core) s core 7

/-- R283, R285: a privileged instruction of class 0 in user mode raises PRIV. -/
def PrivilegedTraps (i : CoreId → Instr) (code : Nat) : Prop :=
  ∀ (s : State) (core : CoreId) (w : Word),
    Steward s core → AtSlot s.dev core w code → NoDelay s.dev core → (s.dev.core (coreCode core)).mode = 0 → Traps (i core) s core 5

/-- R265, R285: a slot that holds no instruction raises ILLEGAL, whichever instruction the command names. -/
def ReservedSlotTraps (s : State) (core : CoreId) (w : Word) (code : Nat) : Prop :=
  Steward s core → AtSlot s.dev core w code → opInfo code = none → Traps (.nop core) s core 1

/-- R290: RETX returns to EPC with the mode and IE saved; where the exception stood in a delay slot, the transfer is due again. -/
def ReturnsFromException (s : State) (core : CoreId) (w : Word) : Prop :=
  let x := s.dev.core (coreCode core)
  AtSlot s.dev core w 0x002 → NoDelay s.dev core → x.mode = 1 →
  (x.dslot = false →
    CoreBecomes (.retx core) s core
      { x with
        pc := x.epc % 2 ^ 40, slot := x.epc / 2 ^ 40 % 4, cur := none, mode := x.emode, ie := x.pie, ex := false, pass := 0
        cycles := x.cycles + 2 }) ∧
  (x.dslot = true →
    Completes (.retx core) s (fun e =>
      let y := e.core (coreCode core)
      y.pc = x.epc % 2 ^ 40 ∧ y.slot = x.epc / 2 ^ 40 % 4 ∧ y.mode = x.emode ∧ y.ie = x.pie ∧ y.ex = false ∧ y.dslot = false ∧
      y.delay.map (fun dl => (dl.target, dl.taken, dl.ret)) = some (x.etgt, x.btTaken, true)))

/-- Every Silis row, with the codes of the slots it stands for. -/
def silisRows : List ((CoreId → Instr) × (Nat → Bool)) :=
  ([(.nop, (· == 0x000)), (.brk, (· == 0x001)), (.retx, (· == 0x002)), (.wfi, (· == 0x003)), (.ei, (· == 0x004)), (.di, (· == 0x005)),
   (.fence, (· == 0x006)), (.dup, (· == 0x100)), (.drop, (· == 0x101)), (.swap, (· == 0x102)), (.over, (· == 0x103)), (.rot, (· == 0x104)),
   (.nip, (· == 0x105)), (.tuck, (· == 0x106)), (.tor, (· == 0x107)), (.fromr, (· == 0x108)), (.rfetch, (· == 0x109)), (.rdrop, (· == 0x10A))] : List ((CoreId → Instr) × (Nat → Bool))) ++
  ([(.add, (· == 0x200)), (.sub, (· == 0x201)), (.and, (· == 0x202)), (.or, (· == 0x203)), (.xor, (· == 0x204)), (.not, (· == 0x205)),
   (.neg, (· == 0x206)), (.inc, (· == 0x207)), (.dec, (· == 0x208)), (.shl, (· == 0x209)), (.shr, (· == 0x20A)), (.sar, (· == 0x20B)),
   (.min, (· == 0x20C)), (.max, (· == 0x20D)), (.abs, (· == 0x20E)), (.mul, (· == 0x300)), (.mulh, (· == 0x301)), (.mulhu, (· == 0x302)),
   (.mulq, (· == 0x303)), (.div, (· == 0x304)), (.divu, (· == 0x305)), (.rem, (· == 0x306)), (.remu, (· == 0x307)), (.divq, (· == 0x308))] : List ((CoreId → Instr) × (Nat → Bool))) ++
  ([(.eq, (· == 0x400)), (.ne, (· == 0x401)), (.lt, (· == 0x402)), (.ge, (· == 0x403)), (.ltu, (· == 0x404)), (.geu, (· == 0x405)),
   (.ld, (· == 0x500)), (.st, (· == 0x501)), (.ldf, (· == 0x502)), (.stf, (· == 0x503)), (.ldfi, (· == 0x504)), (.stfi, (· == 0x505)),
   (.lit12, (· == 0x600)), (.lit24, (· == 0x601)), (.litw, (· == 0x602)), (.cbEq, (· == 0x700)), (.cbNe, (· == 0x701)), (.cbLt, (· == 0x702)),
   (.cbGe, (· == 0x703)), (.cbLtu, (· == 0x704)), (.cbGeu, (· == 0x705)), (.jmp, (· == 0x708)), (.call, (· == 0x709)), (.jmpi, (· == 0x70A)),
   (.calli, (· == 0x70B)), (.ret, (· == 0x70C)), (.loop, (· == 0x800)), (.lpush, (· == 0x801)), (.lpop, (· == 0x802)),
   (.gets, fun k => decide (0x900 ≤ k ∧ k < 0x910)), (.sets, fun k => decide (0x910 ≤ k ∧ k < 0x920))] : List ((CoreId → Instr) × (Nat → Bool)))

end Sys2Proof.Machine

/-- The model's reading of a row of an instruction (log entry 18): it says that the core executes its next slot and that the slot holds this
instruction. A core that does not run or that waits executes nothing, and neither does one whose slot holds another instruction. -/
def Obligations.SilisRowsNameTheNextSlot : Prop :=
  ∀ p ∈ silisRows, ∀ (s : State) (core : CoreId) (w : Word) (code : Nat),
    ((s.dev.core (coreCode core)).run ≠ 1 ∨ (s.dev.core (coreCode core)).wait ≠ 0 → Becomes (p.1 core) s s.dev) ∧
    (AtSlot s.dev core w code → p.2 code = false → (opInfo code).isSome = true → Becomes (p.1 core) s s.dev)

/-- R273, R274: addition, subtraction, logic, shifts, minimum and maximum. Each of these answers a next state with its own effect, on conditions of
the state and the operands alone: add, sub, and, or, xor, shl, shr, sar, min, max. -/
def Obligations.ArithmeticOfTwoOperands : Prop :=
  BinaryOp .add 0x200 1 (fun a b => a + b) ∧ BinaryOp .sub 0x201 1 (fun a b => a - b) ∧ BinaryOp .and 0x202 1 (fun a b => a &&& b) ∧
  BinaryOp .or 0x203 1 (fun a b => a ||| b) ∧ BinaryOp .xor 0x204 1 (fun a b => a ^^^ b) ∧
  BinaryOp .shl 0x209 1 (fun a b => BitVec.ofNat 48 (a.toNat * 2 ^ (b.toNat % 64))) ∧
  BinaryOp .shr 0x20A 1 (fun a b => BitVec.ofNat 48 (a.toNat / 2 ^ (b.toNat % 64))) ∧
  BinaryOp .sar 0x20B 1 (fun a b => BitVec.ofInt 48 (a.toInt / 2 ^ (b.toNat % 64))) ∧
  BinaryOp .min 0x20C 1 (fun a b => if a.toInt ≤ b.toInt then a else b) ∧ BinaryOp .max 0x20D 1 (fun a b => if a.toInt ≤ b.toInt then b else a)

/-- R273, R274: inversion, negation, increment, decrement and absolute value. Each of these answers a next state with its own effect, on conditions
of the state and the operands alone: not, neg, inc, dec, abs. -/
def Obligations.ArithmeticOfOneOperand : Prop :=
  UnaryOp .not 0x205 (fun a => BitVec.allOnes 48 - a) ∧ UnaryOp .neg 0x206 (fun a => 0 - a) ∧ UnaryOp .inc 0x207 (fun a => a + 1) ∧
  UnaryOp .dec 0x208 (fun a => a - 1) ∧ UnaryOp .abs 0x20E (fun a => BitVec.ofInt 48 (a.toInt.natAbs : Int))

/-- R273: products and quotients; a quotient truncates toward zero, and the signed remainder has the sign of the dividend. Each of these answers a
next state with its own effect, on conditions of the state and the operands alone: mul, mulh, mulhu, mulq, div, divu, rem, remu, divq. -/
def Obligations.ProductsAndQuotients : Prop :=
  BinaryOp .mul 0x300 3 (fun a b => BitVec.ofNat 48 (a.toNat * b.toNat)) ∧ BinaryOp .mulh 0x301 3 (fun a b => BitVec.ofInt 48 (a.toInt * b.toInt / 2 ^ 48)) ∧
  BinaryOp .mulhu 0x302 3 (fun a b => BitVec.ofNat 48 (a.toNat * b.toNat / 2 ^ 48)) ∧
  BinaryOp .mulq 0x303 3 (fun a b => BitVec.ofInt 48 (a.toInt * b.toInt / 2 ^ 24)) ∧
  DivisionOp .div 0x304 50 (fun a b => BitVec.ofInt 48 (a.toInt.tdiv b.toInt)) ∧ DivisionOp .divu 0x305 50 (fun a b => BitVec.ofNat 48 (a.toNat / b.toNat)) ∧
  DivisionOp .rem 0x306 50 (fun a b => a - BitVec.ofInt 48 (a.toInt.tdiv b.toInt) * b) ∧ DivisionOp .remu 0x307 50 (fun a b => BitVec.ofNat 48 (a.toNat % b.toNat)) ∧
  DivisionOp .divq 0x308 74 (fun a b => BitVec.ofInt 48 ((a.toInt * 2 ^ 24).tdiv b.toInt))

/-- R274: the compares leave 1 where the relation holds and 0 where it does not. Each of these answers a next state with its own effect, on
conditions of the state and the operands alone: eq, ne, lt, ge, ltu, geu. -/
def Obligations.ComparesLeaveFlags : Prop :=
  BinaryOp .eq 0x400 1 (fun a b => if a = b then 1 else 0) ∧ BinaryOp .ne 0x401 1 (fun a b => if a = b then 0 else 1) ∧
  BinaryOp .lt 0x402 1 (fun a b => if a.toInt < b.toInt then 1 else 0) ∧ BinaryOp .ge 0x403 1 (fun a b => if a.toInt < b.toInt then 0 else 1) ∧
  BinaryOp .ltu 0x404 1 (fun a b => if a.toNat < b.toNat then 1 else 0) ∧ BinaryOp .geu 0x405 1 (fun a b => if a.toNat < b.toNat then 0 else 1)

/-- R274: the instructions that only move stack entries, tops first. Each of these answers a next state with its own effect, on conditions of the
state and the operands alone: dup, drop, swap, over, rot, nip, tuck, tor, fromr, rfetch, rdrop. -/
def Obligations.StackEntriesMove : Prop :=
  ∀ a b c : Word,
    StackMove .dup 0x100 [a] [a, a] ∧ StackMove .drop 0x101 [a] [] ∧ StackMove .swap 0x102 [b, a] [a, b] ∧ StackMove .over 0x103 [b, a] [a, b, a] ∧
    StackMove .rot 0x104 [c, b, a] [a, c, b] ∧ StackMove .nip 0x105 [b, a] [b] ∧ StackMove .tuck 0x106 [b, a] [b, a, b] ∧
    BothStacks .tor 0x107 ([a], []) ([], [a]) ∧ BothStacks .fromr 0x108 ([], [a]) ([a], []) ∧ BothStacks .rfetch 0x109 ([], [a]) ([a], [a]) ∧
    BothStacks .rdrop 0x10A ([], [a]) ([], [])

/-- R264, R274, R289: literals, NOP, FENCE, and the instructions that set or clear IE or wait. Each of these answers a next state with its own
effect, on conditions of the state and the operands alone: nop, wfi, ei, di, fence, lit12, lit24, litw. -/
def Obligations.LiteralsAndSystemInstructions : Prop :=
  (∀ (s : State) (core : CoreId) (w : Word), LiteralsPush s core w ∧ NopAndFence s core w) ∧
  SystemOp .ei 0x004 1 (fun x => { x with ie := true }) ∧ SystemOp .di 0x005 1 (fun x => { x with ie := false }) ∧
  SystemOp .wfi 0x003 1 (fun x => { x with wait := 1, woken := false })

/-- R266, R267, R278: branches, jumps and calls wait for their delay slot, which leads to the target. Each of these answers a next state with its
own effect, on conditions of the state and the operands alone: nop, cbEq, cbNe, cbLt, cbGe, cbLtu, cbGeu, jmp, call, jmpi, calli, ret. -/
def Obligations.TransfersHaveADelaySlot : Prop :=
  Branch .cbEq 0x700 (fun a b => decide (a = b)) ∧ Branch .cbNe 0x701 (fun a b => decide (a ≠ b)) ∧
  Branch .cbLt 0x702 (fun a b => decide (a.toInt < b.toInt)) ∧ Branch .cbGe 0x703 (fun a b => decide (b.toInt ≤ a.toInt)) ∧
  Branch .cbLtu 0x704 (fun a b => decide (a.toNat < b.toNat)) ∧ Branch .cbGeu 0x705 (fun a b => decide (b.toNat ≤ a.toNat)) ∧
  (∀ (s : State) (core : CoreId) (w t : Word) (rest : List Word), JumpsAndCalls s core w t rest) ∧
  (∀ (s : State) (core : CoreId) (w : Word) (dl : Delay), DelaySlotThenTarget s core w dl)

/-- R264, R276, R277, R279: words and hardware loops. Each of these answers a next state with its own effect, on conditions of the state and the
operands alone: nop, loop, lpush, lpop. -/
def Obligations.HardwareLoopsRun : Prop :=
  (∀ (s : State) (core : CoreId) (w : Word), WordEnds s core w) ∧
  (∀ (s : State) (core : CoreId) (w n : Word) (rest : List Word), LoopSetUp s core w n rest) ∧
  (∀ (s : State) (core : CoreId) (w a b c : Word) (rest : List Word), LoopStateSaved s core w a b c rest)

/-- R280, R282, R284: the special registers are read and written. Each of these answers a next state with its own effect, on conditions of the state
and the operands alone: gets, sets. -/
def Obligations.SpecialRegistersAreReadAndWritten : Prop :=
  (∀ (s : State) (core : CoreId) (w : Word) (k v : Nat), GetsPushes s core w k v) ∧
  (∀ (s : State) (core : CoreId) (w v : Word) (rest : List Word), SetsWrites s core w v rest ∧ StackPointers s core w v rest)

/-- R271, R272: loads and stores of core-local memory, and stores that leave the core. Each of these answers a next state with its own effect, on
conditions of the state and the operands alone: ld, st, ldf, stf, ldfi, stfi. -/
def Obligations.LoadsAndStoresOfACore : Prop :=
  ∀ (s : State) (core : CoreId) (w t v : Word) (rest : List Word),
    LocalLoads s core w t rest ∧ LocalStores s core w t v rest ∧ FarStorePosted s core w t v rest

/-- R265, R273, R283, R285, R290: how a steward takes exceptions, and how it returns from them. Each of these answers a next state with its own
effect, on conditions of the state and the operands alone: brk, retx. -/
def Obligations.ExceptionsAreTakenAndLeft : Prop :=
  (DivisionByZeroTraps .div 0x304 ∧ DivisionByZeroTraps .divu 0x305 ∧ DivisionByZeroTraps .rem 0x306 ∧ DivisionByZeroTraps .remu 0x307 ∧
    DivisionByZeroTraps .divq 0x308) ∧
  (PrivilegedTraps .retx 0x002 ∧ PrivilegedTraps .wfi 0x003 ∧ PrivilegedTraps .ei 0x004 ∧ PrivilegedTraps .di 0x005) ∧
  (∀ (s : State) (core : CoreId) (w : Word), BrkTraps s core w ∧ ReturnsFromException s core w ∧ ∀ code, ReservedSlotTraps s core w code)

/-! ### Chapter 12: stewards and the interrupt controller -/

namespace Sys2Proof.Machine

/-- R310: raising a source sets its pending bit; where it is set already, the raise is coalesced and counted. -/
def RaisesSource (src : Nat) (d e : Dev) : Prop :=
  e.flag (rIRQC_SRC src) fIRQC_SRC_PEND = true ∧
  (d.flag (rIRQC_SRC src) fIRQC_SRC_PEND = false → OnlyRegs [rIRQC_SRC src] d e) ∧
  (d.flag (rIRQC_SRC src) fIRQC_SRC_PEND = true →
    e.fld rIRQC_COAL_CNT fIRQC_COAL_CNT_COUNT = satInc (d.fld rIRQC_COAL_CNT fIRQC_COAL_CNT_COUNT) 24 ∧ OnlyRegs [rIRQC_COAL_CNT] d e)

/-- R310: a producer raises a source, 0 naming none. -/
def SourceRaised (s : State) (src : Fin 511) : Prop :=
  (0 < src.val → Completes (.irqSourceRaise src) s (RaisesSource src.val s.dev)) ∧ (src.val = 0 → Becomes (.irqSourceRaise src) s s.dev)

/-- R310: a 1 written to SETP raises its source, and a 1 written to CLRP clears its pending bit. -/
def SetAndClearPending (s : State) (k : Fin 22) (b : Fin 24) : Prop :=
  let src := 24 * k.val + b.val
  0 < src → src < 511 →
  Completes (.irqcSetpWrite k (BitVec.ofNat 24 (2 ^ b.val))) s (RaisesSource src s.dev) ∧
  Completes (.irqcClrpWrite k (BitVec.ofNat 24 (2 ^ b.val))) s (fun e =>
    e.flag (rIRQC_SRC src) fIRQC_SRC_PEND = false ∧ OnlyRegs [rIRQC_SRC src] s.dev e)

/-- R312, R18: a claim takes the eligible source of the highest PRI, the lowest number among equals: the source is no longer pending, and the
running priority is pushed and becomes its PRI. -/
def ClaimTakesTheHighest (s : State) (t : Fin 3) (src c : Nat) : Prop :=
  spRising s.dev.regs = true → (src, c) ∈ s.dev.irqEligible t → (s.dev.irqStack t).length < 8 → s.dev.irqc.rows.length = 3 →
  (∀ p ∈ s.dev.irqEligible t, natBits p.2 0 4 < natBits c 0 4 ∨ (natBits p.2 0 4 = natBits c 0 4 ∧ src ≤ p.1)) →
  Completes (.irqcClaimRead t) s (fun e =>
    e.rd (rIRQC_T_CLAIM t) = src ∧ e.flag (rIRQC_SRC src) fIRQC_SRC_PEND = false ∧ e.irqStack t = s.dev.irqRunning t :: s.dev.irqStack t ∧
    e.irqRunning t = natBits c 0 4 ∧ e = { s.dev with regs := e.regs, irqc := e.irqc } ∧
    RegsKeep [rIRQC_T_CLAIM t, rIRQC_SRC src, rIRQC_T_RUN t] s.dev e)

/-- R312, R313: a claim with nothing eligible gives 0, or 511 where a request has been seen, which is counted as spurious. -/
def ClaimOfNothing (s : State) (t : Fin 3) : Prop :=
  s.dev.irqEligible t = [] →
  (s.dev.flag (rIRQC_T_STATUS t) fIRQC_T_STATUS_SEEN = false →
    Completes (.irqcClaimRead t) s (fun e => e.rd (rIRQC_T_CLAIM t) = 0 ∧ OnlyRegs [rIRQC_T_CLAIM t] s.dev e)) ∧
  (s.dev.flag (rIRQC_T_STATUS t) fIRQC_T_STATUS_SEEN = true →
    Completes (.irqcClaimRead t) s (fun e =>
      e.rd (rIRQC_T_CLAIM t) = 511 ∧
      e.fld (rIRQC_T_SPUR_CNT t) fIRQC_T_SPUR_CNT_COUNT = satInc (s.dev.fld (rIRQC_T_SPUR_CNT t) fIRQC_T_SPUR_CNT_COUNT) 24 ∧
      OnlyRegs [rIRQC_T_CLAIM t, rIRQC_T_SPUR_CNT t] s.dev e))

/-- R314: EOI pops the priority stack; on an empty one it sets STACK_UFL. -/
def EoiPopsTheStack (s : State) (t : Fin 3) (p : Nat) (rest : List Nat) : Prop :=
  s.dev.irqc.rows.length = 3 →
  (s.dev.irqStack t = p :: rest → p < 16 →
    Completes (.irqcEoiPop t) s (fun e =>
      e.irqStack t = rest ∧ e.irqRunning t = p ∧ e = { s.dev with regs := e.regs, irqc := e.irqc } ∧ RegsKeep [rIRQC_T_RUN t] s.dev e)) ∧
  (s.dev.irqStack t = [] →
    Completes (.irqcEoiPop t) s (fun e =>
      e.irqStack t = [] ∧ e.irqRunning t = 0 ∧ e.flag (rIRQC_T_STATUS t) fIRQC_T_STATUS_STACK_UFL = true ∧ RegsKeep [rIRQC_T_RUN t] s.dev e))

/-- R289, R531, R539: a request is taken where the boundary permits it: the core enters vector 9, where no breakpoint is set and no step runs. With
IE clear a running core goes on. A core that waits has its pier ON and its branch open. -/
def InterruptTaken (s : State) (core : CoreId) : Prop :=
  let x := s.dev.core (coreCode core)
  72 ≤ coreCode core → s.dev.irqReq (targetOf (coreCode core)) = true → x.run = 1 → x.mode ≠ 2 → x.shadow = [] → x.delay = none →
  x.steps.any (·.1) = false → s.dev.dbg.points = [] → IsOn s.dev (corePier (coreCode core)) → s.dev.gated (coreBranch (coreCode core)) = false →
  (x.ie = true → x.wait ≤ 1 → Traps (.interruptEntry core) s core 9) ∧ (x.ie = false → x.wait = 0 → Becomes (.interruptEntry core) s s.dev)

/-- R289, R308: a wait for interrupts ends once a request or an enabled event has come, and not before. The core's pier is ON and its branch open. -/
def WaitEnds (s : State) (core : CoreId) : Prop :=
  let x := s.dev.core (coreCode core)
  x.run = 1 → x.wait = 1 → IsOn s.dev (corePier (coreCode core)) → s.dev.gated (coreBranch (coreCode core)) = false →
  (x.woken = true → CoreBecomes (.wfiWake core) s core { x with wait := 0, woken := false }) ∧
  (x.woken = false → s.dev.irqReq (targetOf (coreCode core)) = false → Becomes (.wfiWake core) s s.dev)

/-- R303: stores to PIO_SET, PIO_CLR and PIO_TGL of a steward's private port; bits 15:0 count. -/
def PrivatePortStores (s : State) (core : CoreId) (v : Word) : Prop :=
  let x := s.dev.core (coreCode core)
  let n := v.toNat % 65536
  72 ≤ coreCode core → x.run = 1 → s.dev.pier 38 = 0 → s.dev.pwr.entering = [] →
  CoreBecomes (.pioSetWrite core v) s core { x with pioOut := x.pioOut ||| n } ∧
  CoreBecomes (.pioClrWrite core v) s core { x with pioOut := x.pioOut &&& (65535 - n) } ∧
  CoreBecomes (.pioTglWrite core v) s core { x with pioOut := x.pioOut ^^^ n }

/-- A steward's code. -/
def stewCode (t : Fin 2) : Nat := codeOfTarget (t.val + 1)

/-- R300, R304: RUN going to 1 starts a stopped customer core afresh. -/
def RunStarts (s : State) (t : Fin 2) : Prop :=
  s.dev.secMuted (t.val + 1) = false → s.dev.flag (rSEC_T_CTRL (t.val + 1)) fSEC_T_CTRL_RUN = false →
  s.dev.flag (rSEC_T_STATUS (t.val + 1)) fSEC_T_STATUS_LOADING = false →
  Completes (.secRunStart t) s (fun e =>
    let y := e.core (stewCode t)
    e.secState (t.val + 1) = 1 ∧ e.flag (rSEC_T_CTRL (t.val + 1)) fSEC_T_CTRL_RUN = true ∧ y.run = 1 ∧ y.pc = 0xFFFF000000 ∧ y.slot = 0 ∧ y.mode = 1 ∧
    y.ds = [] ∧ y.rs = [] ∧ y.dsp = 0x3800 ∧ y.rsp = 0x3C00 ∧ y.ie = false ∧ e.lmem = s.dev.lmem ∧ e.mem = s.dev.mem)

/-- R304: a start that finds a copy running waits for it. -/
def RunWaitsForLoad (s : State) (t : Fin 2) : Prop :=
  s.dev.secMuted (t.val + 1) = false → s.dev.flag (rSEC_T_CTRL (t.val + 1)) fSEC_T_CTRL_RUN = false →
  s.dev.flag (rSEC_T_STATUS (t.val + 1)) fSEC_T_STATUS_LOADING = true →
  Completes (.secRunStart t) s (fun e =>
    e.flag (rSEC_T_CTRL (t.val + 1)) fSEC_T_CTRL_RUN = true ∧ OnlyRegs [rSEC_T_CTRL (t.val + 1)] s.dev e)

/-- R304: RUN going to 0 stops the core at once. -/
def RunStops (s : State) (t : Fin 2) : Prop :=
  s.dev.secMuted (t.val + 1) = false → s.dev.flag (rSEC_T_CTRL (t.val + 1)) fSEC_T_CTRL_RUN = true →
  Completes (.secRunStop t) s (fun e =>
    e.secState (t.val + 1) = 0 ∧ e.flag (rSEC_T_CTRL (t.val + 1)) fSEC_T_CTRL_RUN = false ∧ (e.core (stewCode t)).run = 0 ∧
    (e.core (stewCode t)).ds = [] ∧ e.irqStack (t.val + 1) = [] ∧ e.mem = s.dev.mem ∧ e.lmem = s.dev.lmem)

/-- R297, R299: PAIR is taken while both targets are stopped, and only then. T2, which is absent once it is 1, gives up a copy that runs: the
model's choice (log entry 58). -/
def PairWrite (s : State) (v : Bool) : Prop :=
  (s.dev.secState 1 = 0 ∧ s.dev.secState 2 = 0 →
    Completes (.secPairWrite v) s (fun e =>
      e.paired = v ∧ e = { s.dev with regs := e.regs, loads := e.loads, cfg := e.cfg } ∧
      RegsKeep [rSEC_T_CTRL 1, rSEC_T_CTRL 2, rSEC_T_STATUS 2] s.dev e ∧
      (v = false → OnlyRegs [rSEC_T_CTRL 1] s.dev e) ∧
      (v = true → assocGet e.loads 2 = none ∧ assocGet e.loads 1 = assocGet s.dev.loads 1 ∧ e.flag (rSEC_T_STATUS 2) fSEC_T_STATUS_LOADING = false))) ∧
  (s.dev.secState 1 ≠ 0 ∨ s.dev.secState 2 ≠ 0 → Becomes (.secPairWrite v) s s.dev)

/-- R13, R304: LOAD begins a copy of an image that lies in main memory while the core is stopped, and reads 1 while it runs; otherwise it sets
LOAD_BAD. -/
def LoadBeginsOrIsRefused (s : State) (t : Fin 2) : Prop :=
  let a := rSEC_T_STATUS (t.val + 1)
  let ctrl := rSEC_T_CTRL (t.val + 1)
  let last := s.dev.rd (rSEC_T_LOAD_BASE (t.val + 1)) + s.dev.fld (rSEC_T_LOAD_LEN (t.val + 1)) fSEC_T_LOAD_LEN_LEN_M1 + 1
  s.dev.secMuted (t.val + 1) = false →
  (s.dev.secState (t.val + 1) = 0 → last ≤ 0x1000000 →
    Completes (.secLoad t) s (fun e => e.flag a fSEC_T_STATUS_LOADING = true ∧ e.flag ctrl fSEC_T_CTRL_LOAD = true ∧
      assocGet e.loads (t.val + 1) = some (s.dev.rd (rSEC_T_LOAD_BASE (t.val + 1)),
        s.dev.fld (rSEC_T_LOAD_LEN (t.val + 1)) fSEC_T_LOAD_LEN_LEN_M1 + 1) ∧
      e = { s.dev with regs := e.regs, loads := e.loads } ∧ RegsKeep [a, ctrl] s.dev e)) ∧
  (s.dev.secState (t.val + 1) = 0 → 0x1000000 < last →
    Completes (.secLoad t) s (fun e => e.flag a fSEC_T_STATUS_LOAD_BAD = true ∧ OnlyRegs [a] s.dev e)) ∧
  (s.dev.secState (t.val + 1) ≠ 0 → Completes (.secLoad t) s (fun e => e.flag a fSEC_T_STATUS_LOAD_BAD = true ∧ OnlyRegs [a] s.dev e))

/-- R304: when the copy completes, local memory holds the image and LOADED is set. No word is in error here, and no start waits. -/
def LoadCompletes (s : State) (t : Fin 2) (base len i : Nat) : Prop :=
  assocGet s.dev.loads (t.val + 1) = some (base, len) → s.dev.flag (rSEC_T_CTRL (t.val + 1)) fSEC_T_CTRL_RUN = false →
  s.dev.mem.mainErr = [] → s.dev.cfg.stews = [] → i < len → len ≤ 16384 →
  Completes (.stewardLoadDone t) s (fun e =>
    e.lword (stewCode t) i = s.dev.peek (base + i) ∧ e.flag (rSEC_T_STATUS (t.val + 1)) fSEC_T_STATUS_LOADED = true ∧
    e.flag (rSEC_T_STATUS (t.val + 1)) fSEC_T_STATUS_LOADING = false ∧ e.flag (rSEC_T_CTRL (t.val + 1)) fSEC_T_CTRL_LOAD = false ∧
    assocGet e.loads (t.val + 1) = none ∧ e.mem = s.dev.mem ∧ e.cores = s.dev.cores)

/-- R307: a core stopped by a fault is started again where AUTO_RESTART is 1; one that is not is left alone. -/
def AutoRestarts (s : State) (t : Fin 2) : Prop :=
  let base := s.dev.rd (rSEC_T_LOAD_BASE (t.val + 1))
  (s.dev.secState (t.val + 1) = 3 → s.dev.flag (rSEC_T_CTRL (t.val + 1)) fSEC_T_CTRL_AUTO_RESTART = true → s.dev.mem.mainErr = [] →
    base + s.dev.fld (rSEC_T_LOAD_LEN (t.val + 1)) fSEC_T_LOAD_LEN_LEN_M1 + 1 ≤ 0x1000000 →
    Completes (.customerAutoRestart t) s (fun e =>
      e.secState (t.val + 1) = 1 ∧ e.flag (rSEC_T_STATUS (t.val + 1)) fSEC_T_STATUS_RESTARTED = true ∧
      e.flag (rSEC_T_STATUS (t.val + 1)) fSEC_T_STATUS_LOADED = true ∧ (e.core (stewCode t)).run = 1 ∧
      (e.core (stewCode t)).pc = 0xFFFF000000)) ∧
  (s.dev.secState (t.val + 1) ≠ 3 → Becomes (.customerAutoRestart t) s s.dev)

/-- R298: a difference between the cores of the running pair stops T1 with LOCKSTEP and its source; R487: one between T0's cores restarts T0. -/
def LockstepDifference (s : State) : Prop :=
  (s.dev.paired = true → s.dev.secState 1 = 1 →
    Completes (.lockstepMismatch true) s (fun e =>
      e.secState 1 = 3 ∧ e.flag (rSEC_T_STATUS 1) fSEC_T_STATUS_LOCKSTEP = true ∧ (e.core 0x48).run = 3 ∧
      e.flag (rIRQC_SRC 346) fIRQC_SRC_PEND = true ∧ e.mem = s.dev.mem)) ∧
  (s.dev.pwr.stage = 3 →
    Completes (.lockstepMismatch false) s (fun e => e.pwr.stage = 5 ∧ (e.core 0x4A).run = 0 ∧ e.talk.owed = [] ∧ e.talk.barred = [])) ∧
  (s.dev.pwr.stage = 3 → Completes .t0Restart s (fun e => e.pwr.stage = 5 ∧ (e.core 0x4A).run = 0 ∧ e.talk.owed = [] ∧ e.talk.barred = [])) ∧
  (s.dev.pwr.stage ≠ 3 → Becomes .t0Restart s s.dev)

end Sys2Proof.Machine

/-- R289, R303, R308: interrupts and waits of a core, and its private port. Each of these answers a next state with its own effect, on conditions of
the state and the operands alone: wfiWake, interruptEntry, pioSetWrite, pioClrWrite, pioTglWrite. -/
def Obligations.CoresTakeInterruptsAndWake : Prop :=
  ∀ (s : State) (core : CoreId), InterruptTaken s core ∧ WaitEnds s core ∧ ∀ v, PrivatePortStores s core v

/-- R298, R299, R300, R304, R307, R487: how customer cores are loaded, started, paired and stopped, and what a fault of a steward does. Each of
these answers a next state with its own effect, on conditions of the state and the operands alone: lockstepMismatch, t0Restart, secLoad,
stewardLoadDone, secRunStart, secRunStop, secPairWrite, customerAutoRestart. -/
def Obligations.CustomerCoresAreControlled : Prop :=
  (∀ (s : State) (t : Fin 2), RunStarts s t ∧ RunWaitsForLoad s t ∧ RunStops s t ∧ LoadBeginsOrIsRefused s t ∧ AutoRestarts s t ∧ ∀ base len i, LoadCompletes s t base len i) ∧
  (∀ s : State, LockstepDifference s ∧ ∀ v, PairWrite s v)

/-- R310, R312 to R314: every way to raise or clear an interrupt source, claims and the end of interrupts. Each of these answers a next state with
its own effect, on conditions of the state and the operands alone: irqSourceRaise, irqcSetpWrite, irqcClrpWrite, irqcClaimRead, irqcEoiPop. -/
def Obligations.InterruptsAreRaisedAndClaimed : Prop :=
  ∀ s : State, (∀ src, SourceRaised s src) ∧ (∀ k b, SetAndClearPending s k b) ∧
    ∀ t : Fin 3, (∀ src c, ClaimTakesTheHighest s t src c) ∧ ClaimOfNothing s t ∧ ∀ p rest, EoiPopsTheStack s t p rest

/-! ### Chapter 13: packets, sessions and transports -/

namespace Sys2Proof.Machine

/-- The request that a row's packet spells (R318). -/
def reqOf (p : Packet) (op : Nat) : Req := ⟨p.ep, Packet.w0 p op, p.count.toNat, p.args.toNat, p.payload.map (·.toNat)⟩

/-- Main memory is there and sound: its piers ON, its branch open, no bit wrong, no bank being replaced. -/
def PlainMain (d : Dev) : Prop :=
  d.pier 39 = 0 ∧ d.pier 22 = 0 ∧ d.pwr.entering = [] ∧ d.mem.mainErr = [] ∧ (∀ j < 16, d.fld (rMEM_SPARE j) fMEM_SPARE_STATE = 0) ∧ d.mainOff = false ∧
    d.gated 0 = false

/-- The reply with these words has been sent, or waits for room: none is sent when RR is 0 (R321). -/
def Sends (p : Packet) (w0 st det : Nat) (res : List Nat) (e : Dev) : Prop :=
  p.rr = true →
  e.talk.last = some ⟨p.ep, replyWords w0 st det (res.map (BitVec.ofNat 48))⟩ ∨ ⟨p.ep, replyWords w0 st det (res.map (BitVec.ofNat 48))⟩ ∈ e.talk.held

/-- The packet comes from a host or a steward, nothing holds it back and it repeats none: T0, which has an image to run and whose pier is ON,
takes it (R322, R325, R327, R459, R496, R498). -/
def Taken (d : Dev) (op : Nat) (p : Packet) : Prop :=
  epIsPeer p.ep = false ∧ p.ep ≠ .sentinel ∧ d.talk.held = [] ∧ d.owedTo p.ep < 16 ∧ d.udpRepeat (reqOf p op) = none ∧ d.upd.hand = none ∧
    d.pwr.stage ≠ 4 ∧ IsOn d 2

/-- The packet is taken, is for this device, passes the checks of R320, is within its session's rights (R333) and its unit can act. -/
def Accepted (d : Dev) (op : Nat) (p : Packet) : Prop :=
  Taken d op p ∧ p.fwd = false ∧ d.check (reqOf p op) = none ∧
  ∃ o, catalogue op = some o ∧ d.within (d.rights (reqOf p op)) (reqOf p op) o = true ∧ o.ready d (reqOf p op) = 0

/-- The device as the packet finds it: its session's idle time starts again, and a UDP packet is remembered for its repeats (R327, R337). -/
def Dev.found (d : Dev) (r : Req) : Dev := (d.sesArrive r).udpNote r none

/-- An accepted packet of row `c`, whose opcode is `op`, completes with `P`. -/
def Acts (c : Packet → Instr) (op : Nat) (s : State) (p : Packet) (P : Dev → Prop) : Prop := Accepted s.dev op p → Completes (c p) s P

/-- The rows of the catalogue (R341) with their opcodes, but for HELLO and PROVE, which open sessions. -/
def IsPacketRow (op : Nat) (c : Packet → Instr) : Prop := (op, c) ∈ (([
  (0x042, .sesClose), (0x043, .sesInfo), (0x044, .sesPing), (0x080, .regRead), (0x081, .regWrite), (0x0C0, .memRead), (0x0C1, .memWrite),
  (0x0C2, .memFill), (0x100, .bufAlloc), (0x101, .bufFree), (0x102, .bufInfo), (0x140, .laySet), (0x141, .layGet), (0x142, .layStage)] : List (Nat × (Packet → Instr))) ++ ([
  (0x180, .sprPublish), (0x181, .sprStatus), (0x182, .sprAffine), (0x1C0, .tilSet), (0x1C1, .tilGet), (0x1C2, .tilPalette), (0x200, .lpgLoad),
  (0x201, .lpgParam), (0x202, .lpgStatus), (0x240, .keyArm), (0x241, .keyDisarm), (0x242, .keyStatus), (0x280, .trsAdd), (0x281, .trsCancel)] : List (Nat × (Packet → Instr))) ++ ([
  (0x282, .trsCancelMatch), (0x283, .trsQuery), (0x284, .trsCadence), (0x2C0, .camConfig), (0x2C1, .camWarp), (0x2C2, .camStatus),
  (0x300, .outLight), (0x301, .outStatus), (0x302, .outSr), (0x303, .outBacklight), (0x304, .outAux), (0x305, .outDcs), (0x306, .outSig)] : List (Nat × (Packet → Instr))) ++ ([
  (0x307, .outSigRead), (0x340, .audVoice), (0x341, .audSet), (0x342, .audStatus), (0x380, .cfgApply), (0x381, .cfgRemove), (0x382, .cfgStatus),
  (0x383, .cfgWrite), (0x384, .cfgSteward), (0x3C0, .updBegin), (0x3C1, .updData), (0x3C2, .updVerify), (0x3C3, .updActivate)] : List (Nat × (Packet → Instr))) ++ ([
  (0x3C4, .updConfirm), (0x3C5, .updStatus), (0x3C6, .updAbort), (0x400, .fltStatus), (0x401, .fltJournal), (0x402, .fltClear), (0x403, .fltRetire),
  (0x440, .pwrState), (0x441, .pwrHold), (0x442, .pwrStatus), (0x480, .dbgAttach), (0x481, .dbgDetach), (0x482, .dbgRead)] : List (Nat × (Packet → Instr))) ++ ([
  (0x483, .dbgTrace), (0x484, .dbgHalt), (0x485, .dbgResume), (0x486, .dbgStep), (0x487, .dbgPoint), (0x488, .dbgWrite), (0x4C0, .ttlSet),
  (0x4C1, .ttlClear), (0x4C2, .ttlBlink), (0x4C3, .ttlHeartbeat), (0x4C4, .ttlStatus), (0x4C5, .ttlLoad)] : List (Nat × (Packet → Instr))) : List (Nat × (Packet → Instr)))

/-- R320: a packet that fails a check is answered with the check's status and the offending word, and changes nothing else. -/
def CheckFailureIsAnswered (s : State) (op : Nat) (c : Packet → Instr) (p : Packet) (st det : Nat) : Prop :=
  Taken s.dev op p → s.dev.check (reqOf p op) = some (st, det) → epIsRing p.ep = false →
  Completes (c p) s (fun e =>
    Sends p (Packet.w0 p op) st det [] e ∧ e = { s.dev with regs := e.regs, talk := e.talk } ∧ RegsKeep [] s.dev e)

/-- R333, R339: a packet beyond its session's rights is answered OK with results of zero, counts in the session's violations and does nothing. -/
def ViolationIsSilent (s : State) (op : Nat) (c : Packet → Instr) (p : Packet) (o : Op) : Prop :=
  Taken s.dev op p → p.fwd = false → s.dev.check (reqOf p op) = none → catalogue op = some o →
  s.dev.within (s.dev.rights (reqOf p op)) (reqOf p op) o = false → epIsRing p.ep = false →
  Completes (c p) s (fun e =>
    Sends p (Packet.w0 p op) 0 0 (List.replicate (o.zeros s.dev (reqOf p op)) 0) e ∧
    e.fld (rSEC_SES_VIOL_CNT p.slot) fSEC_SES_VIOL_CNT_COUNT =
      satInc (s.dev.fld (rSEC_SES_VIOL_CNT p.slot) fSEC_SES_VIOL_CNT_COUNT) fSEC_SES_VIOL_CNT_COUNT.w ∧
    e = { s.dev with regs := e.regs, talk := e.talk } ∧ RegsKeep [rSEC_SES_VIOL_CNT p.slot] s.dev e)

/-- R319, R321: a packet whose unit cannot act is answered so. -/
def UnitNotReady (s : State) (op : Nat) (c : Packet → Instr) (p : Packet) (o : Op) : Prop :=
  Taken s.dev op p → p.fwd = false → s.dev.check (reqOf p op) = none → catalogue op = some o →
  s.dev.within (s.dev.rights (reqOf p op)) (reqOf p op) o = true → o.ready s.dev (reqOf p op) ≠ 0 → epIsRing p.ep = false →
  Completes (c p) s (fun e =>
    Sends p (Packet.w0 p op) (o.ready s.dev (reqOf p op)) 0 [] e ∧ e = { s.dev with regs := e.regs, talk := e.talk } ∧ RegsKeep [] s.dev e)

/-- R341: an accepted packet of a writing row writes its registers in order, as packets do, and answers OK. (A REG.WRITE may ring a doorbell,
which is then answered, R325.) -/
def PacketWrites (c : Packet → Instr) (op : Nat) (f : Dev → Req → List (Nat × Nat)) (s : State) (p : Packet) : Prop :=
  Acts c op s p (fun e =>
    let r := reqOf p op
    let w := ((s.dev.found r).writeRegs .pkt (f s.dev r)).2
    op = 0x081 ∧ w.talk.bell = true ∨ (Sends p (Packet.w0 p op) 0 0 [] e ∧
    (epIsRing p.ep = false → e = { w with regs := e.regs, talk := e.talk } ∧ RegsKeep [rSEC_SES_VIOL_CNT p.slot] w e)))

/-- R341: an accepted packet of a reading row answers with its registers as packets read them, in order. -/
def PacketReads (c : Packet → Instr) (op : Nat) (f : Req → List Nat) (s : State) (p : Packet) : Prop :=
  Acts c op s p (Sends p (Packet.w0 p op) 0 0 ((s.dev.found (reqOf p op)).readRegs (f (reqOf p op))).1)

/-- R341: the rows that only write registers, each with what it writes. -/
def WritingPacketsWrite (s : State) (p : Packet) : Prop :=
  PacketWrites .regWrite 0x081 (fun _ r => pairsOf r.ws) s p ∧
  PacketWrites .laySet 0x140 (fun _ r => atBase (rOUT_LAYER_CTRL r.u (r.args % 32)) r.ws) s p ∧
  PacketWrites .layStage 0x142 (fun _ r => [(rOUT_STAGED0 r.u, r.w 0 % 2 ^ 24), (rOUT_STAGED1 r.u, r.w 0 / 2 ^ 24)]) s p ∧
  PacketWrites .sprAffine 0x182 (fun _ r => (List.range 4).map (fun i => (rOUT_SPR_AFF r.u (r.args % 64) i, r.w i))) s p ∧
  PacketWrites .tilSet 0x1C0 (fun _ r => atBase (rOUT_TL_CTRL r.u (r.args % 16)) r.ws) s p ∧
  PacketWrites .tilPalette 0x1C2 (fun _ r => (List.range r.ws.length).flatMap (fun i =>
    [(rOUT_PAL_LO r.u (natBits r.args 8 6) (r.args % 256 + i), r.w i % 2 ^ 24),
     (rOUT_PAL_HI r.u (natBits r.args 8 6) (r.args % 256 + i), r.w i / 2 ^ 24)])) s p ∧
  PacketWrites .lpgParam 0x201 (fun _ r => [(rLCC_PARAM r.u, r.args)]) s p ∧
  PacketWrites .trsCadence 0x284 (fun _ r => [(rTRS_CAD (r.args / 2 ^ 16), r.args % 2 ^ 16)]) s p ∧
  PacketWrites .camConfig 0x2C0 (fun _ r => atBase (rCAM_CTRL r.u) r.ws) s p ∧
  PacketWrites .camWarp 0x2C1 (fun _ r => [(rCAM_WARP_BASE r.u, r.args)]) s p ∧
  PacketWrites .outSr 0x302 (fun d r => [(rOUT_SR_CTRL r.u, natSetBits (d.rd (rOUT_SR_CTRL r.u)) 23 1 (r.args % 2))]) s p ∧
  PacketWrites .outBacklight 0x303 (fun _ r => [(rOUT_BL_CTRL r.u, r.w 0), (rOUT_BL_PHASE r.u, r.w 1), (rOUT_BL_DUTY r.u, r.w 2)]) s p ∧
  PacketWrites .outSig 0x306 (fun _ r => if natBit r.args 6 then [(rOUT_SIG_CTRL r.u, r.w 0)] else atBase (rOUT_SIG_CTRLk r.u (r.args % 64)) r.ws) s p

/-- R341: the rows that only read registers, each with those it reads. -/
def ReadingPacketsRead (s : State) (p : Packet) : Prop :=
  PacketReads .regRead 0x080 (fun r => r.ws) s p ∧
  PacketReads .layGet 0x141 (fun r => runFrom (rOUT_LAYER_CTRL r.u (r.args % 32)) 25) s p ∧
  PacketReads .sprStatus 0x181 (fun r => runFrom (rOUT_SPR_STATUS r.u) 11) s p ∧
  PacketReads .tilGet 0x1C1 (fun r => runFrom (rOUT_TL_CTRL r.u (r.args % 16)) 26) s p ∧
  PacketReads .lpgStatus 0x202 (fun r => runFrom (rLCC_STATUS r.u) 14) s p ∧
  PacketReads .camStatus 0x2C2 (fun r => runFrom (rCAM_STATUS r.u) 13) s p ∧
  PacketReads .outStatus 0x301 (fun r => [rOUT_STATUS r.u, rOUT_PIPE r.u, rOUT_PIXEL_RATE r.u, rOUT_RETRAIN_CNT r.u, rOUT_SR_STATUS r.u,
    rOUT_REPLAY_CNT r.u, rOUT_OMIT_CNT r.u, rOUT_COMP_LATE_CNT r.u, rOUT_STALE_LINE r.u, rOUT_STALE_FRAME r.u]) s p ∧
  PacketReads .audStatus 0x342 (fun r => runFrom (rAUD_CTRL + r.args % 2 ^ 16) (r.args / 2 ^ 16 + 1)) s p

/-! #### Sessions (R335 to R337) -/

/-- R335: SES.HELLO challenges the lowest free slot, bound to the endpoint, with a nonce of three words whose bits are free and the serial; with
no slot free it is answered LIMIT and shows so. For 100 ms after a failed proof the endpoint gets no answer. -/
def HelloChallenges (s : State) (p : Packet) (k : Fin 8) : Prop :=
  let bar := (s.dev.talk.barred.find? (·.1 == p.ep)).any (fun x => decide (s.dev.btu.clocks < x.2 + 100000000))
  Taken s.dev 0x040 p → s.dev.check (reqOf p 0x040) = none → s.dev.talk.ses.length = 8 →
  (bar = true → epIsRing p.ep = false → Becomes (.sesHello p) s (s.dev.sesArrive (reqOf p 0x040))) ∧
  (bar = false →
  ((List.range 8).find? (fun i => s.dev.sesState i == 0) = some k.val →
    Completes (.sesHello p) s (fun e =>
      e.sesState k = 1 ∧ (e.ses k).ep = some p.ep ∧ (∀ i : Fin 8, i ≠ k → e.sesState i = s.dev.sesState i ∧ (e.ses i).ep = (s.dev.ses i).ep) ∧
      ((e.ses k).nonce.length = 3) ∧ Sends p (natSetBits (Packet.w0 p 0x040) 33 3 k) 0 0 ((e.ses k).nonce.map (·.toNat) ++ [s.dev.serial]) e)) ∧
  ((List.range 8).find? (fun i => s.dev.sesState i == 0) = none →
    Completes (.sesHello p) s (fun e =>
      Sends p (Packet.w0 p 0x040) 0x302 0 [] e ∧ e.flag rSEC_STATUS fSEC_STATUS_LIMIT = true ∧ ∀ i : Fin 8, e.sesState i = s.dev.sesState i)))

/-- R336: SES.PROVE with the right MAC over nonce, serial and levels opens the slot at the levels asked for; a wrong one frees the slot, counts, and
bars the endpoint; a slot that was not challenged to this endpoint has no session. -/
def ProofOpensTheSlot (s : State) (p : Packet) : Prop :=
  let r := reqOf p 0x041
  let k := r.u
  let lev := r.args % 4
  let dbg := natBits r.args 4 2
  let mac := hmacSha256 (beBytes (s.dev.talk.keys.getD k 0) 32) (nonceBytes (s.dev.ses p.slot).nonce ++ beBytes s.dev.serial 6 ++ [dbg * 16 + lev])
  Taken s.dev 0x041 p → s.dev.check r = none → s.dev.talk.ses.length = 8 →
  ((s.dev.sesState p.slot ≠ 1 ∨ (s.dev.ses p.slot).ep ≠ some p.ep) → Completes (.sesProve p) s (fun e =>
    Sends p (Packet.w0 p 0x041) 0x201 0 [] e ∧ ∀ i : Fin 8, e.sesState i = s.dev.sesState i)) ∧
  (s.dev.sesState p.slot = 1 → (s.dev.ses p.slot).ep = some p.ep → s.dev.flag (rSEC_KEY k) fSEC_KEY_VALID = true →
    lev ≤ s.dev.fld (rSEC_KEY k) fSEC_KEY_MAX_LEVEL → dbg ≤ s.dev.fld (rSEC_KEY k) fSEC_KEY_MAX_DEBUG → lev ≤ s.dev.epLevel p.ep →
    (mac = (r.ws.flatMap (fun w => beBytes w 6)).take 32 → Completes (.sesProve p) s (fun e =>
      e.sesState p.slot = 2 ∧ e.sesLevel p.slot = lev ∧ e.sesDebug p.slot = dbg ∧ (e.ses p.slot).ep = some p.ep ∧ e.rd (rSEC_SES_VIOL_CNT p.slot) = 0 ∧
      Sends p (Packet.w0 p 0x041) 0 0 [s.dev.fld rSEC_CTRL fSEC_CTRL_IDLE_S * 2 ^ 12 + dbg * 16 + lev] e)) ∧
    (mac ≠ (r.ws.flatMap (fun w => beBytes w 6)).take 32 → Completes (.sesProve p) s (fun e =>
      e.sesState p.slot = 0 ∧ (p.ep, s.dev.btu.clocks) ∈ e.talk.barred ∧ e.flag rSEC_STATUS fSEC_STATUS_PROOF_FAIL = true ∧
      e.fld rSEC_PROOF_FAIL_CNT fSEC_PROOF_FAIL_CNT_COUNT =
        satInc (s.dev.fld rSEC_PROOF_FAIL_CNT fSEC_PROOF_FAIL_CNT_COUNT) fSEC_PROOF_FAIL_CNT_COUNT.w ∧ Sends p (Packet.w0 p 0x041) 0x202 0 [] e)))

/-- R337, R339, R341: an open session's own packets: CLOSE frees the slot, INFO reports a slot, with its violations to an INTEGRATOR only, and
PING gives beam time. -/
def SessionPacketsAct (s : State) (p : Packet) : Prop :=
  s.dev.talk.ses.length = 8 →
  Acts .sesClose 0x042 s p (fun e => e.sesState p.slot = 0 ∧ e.attached p.slot = false ∧ Sends p (Packet.w0 p 0x042) 0 0 [] e ∧
    ∀ i : Fin 8, i ≠ p.slot → e.sesState i = s.dev.sesState i) ∧
  Acts .sesInfo 0x043 s p (fun e => Sends p (Packet.w0 p 0x043) 0 0
    [(s.dev.sesArrive (reqOf p 0x043)).sesReg p.args.toNat, if s.dev.sesLevel p.slot = 3 then s.dev.rd (rSEC_SES_VIOL_CNT p.args.toNat) else 0] e) ∧
  Acts .sesPing 0x044 s p (fun e => Sends p (Packet.w0 p 0x044) 0 0 [s.dev.bt] e ∧
    (epIsRing p.ep = false → e = { s.dev with regs := e.regs, talk := e.talk } ∧ RegsKeep [] s.dev e))

/-- R335, R337, R343: an idle open session ends, unless IDLE_S is 0, a completion reply is owed to it, or a packet of it arrives in this very
clock; a challenge expires. -/
def SessionsRunOut (s : State) (k : Fin 8) : Prop :=
  s.dev.talk.ses.length = 8 →
  (s.dev.fld rSEC_CTRL fSEC_CTRL_IDLE_S = 0 ∨ s.dev.sesOwed k = true ∨ (s.dev.sesState k = 2 ∧ (s.dev.ses k).at' = s.dev.btu.clocks) →
    Becomes (.sessionIdleTimeout k) s s.dev) ∧
  (s.dev.fld rSEC_CTRL fSEC_CTRL_IDLE_S ≠ 0 → s.dev.sesState k = 2 → s.dev.sesOwed k = false →
    (s.dev.ses k).at' ≠ s.dev.btu.clocks → Completes (.sessionIdleTimeout k) s (fun e =>
    e.sesState k = 0 ∧ e.attached k = false ∧ (∀ b ∈ e.cfg.bufs, b.owner = k.val → b.orphan = true) ∧
    ∀ i : Fin 8, i ≠ k → e.sesState i = s.dev.sesState i)) ∧
  (s.dev.sesState k = 1 → Completes (.challengeExpiry k) s (fun e => e.sesState k = 0 ∧ RegsKeep [rSEC_SES k] s.dev e)) ∧
  (s.dev.sesState k ≠ 1 → Becomes (.challengeExpiry k) s s.dev)

/-! #### What the packets of the working groups do (R341) -/

/-- R341, R385: MEM.READ gives a run of words, MEM.WRITE and MEM.FILL write one, and no other word of main memory changes. -/
def MemoryPacketsAct (s : State) (p : Packet) : Prop :=
  PlainMain s.dev →
  let ws := p.payload.map (·.toNat)
  let a := ws.getD 0 0
  (a + p.args.toNat % 2048 ≤ 0x1000000 →
    Acts .memRead 0x0C0 s p (Sends p (Packet.w0 p 0x0C0) 0 0 ((List.range (p.args.toNat % 2048)).map (fun i => (s.dev.peek (a + i)).toNat)))) ∧
  (a + (ws.length - 1) ≤ 0x1000000 → epIsRing p.ep = false → Acts .memWrite 0x0C1 s p (fun e =>
    (∀ i < ws.length - 1, (e.peek (a + i)).toNat = ws.getD (i + 1) 0) ∧
    (∀ b < 0x1000000, b < a ∨ a + (ws.length - 1) ≤ b → e.peek b = s.dev.peek b) ∧ Sends p (Packet.w0 p 0x0C1) 0 0 [] e)) ∧
  (a + ws.getD 1 0 ≤ 0x1000000 → epIsRing p.ep = false → Acts .memFill 0x0C2 s p (fun e =>
    (∀ i < ws.getD 1 0, (e.peek (a + i)).toNat = ws.getD 2 0) ∧
    (∀ b < 0x1000000, b < a ∨ a + ws.getD 1 0 ≤ b → e.peek b = s.dev.peek b) ∧ Sends p (Packet.w0 p 0x0C2) 0 0 [] e))

/-- R361 to R364: BUF.ALLOC gives a handle and its base, or NO_MEMORY; BUF.FREE of an own buffer makes its handle stale; BUF.INFO describes one. -/
def BufferPacketsAct (s : State) (p : Packet) (b : Buf) : Prop :=
  Acts .bufAlloc 0x100 s p (fun e => match s.dev.bufAlloc (p.args.toNat % 4096 + 1) p.slot with
    | some (h, d) => e.cfg = d.cfg ∧ Sends p (Packet.w0 p 0x100) 0 0 [h, h / 4096 * 4096] e
    | none => e.cfg = s.dev.cfg ∧ Sends p (Packet.w0 p 0x100) 0x303 0 [] e) ∧
  (s.dev.bufOf p.args.toNat = some b → b.orphan = false → b.owner = p.slot.val → Acts .bufFree 0x101 s p (fun e =>
    e.bufOf p.args.toNat = none ∧ (∀ i < b.count, b.first + i ∈ e.cfg.scrub) ∧ Sends p (Packet.w0 p 0x101) 0 0 [] e)) ∧
  (s.dev.bufOf p.args.toNat = none → s.dev.regionOf p.args.toNat = none →
    Acts .bufFree 0x101 s p (fun e => e.cfg = s.dev.cfg ∧ Sends p (Packet.w0 p 0x101) 0x401 0 [] e)) ∧
  (s.dev.bufOf p.args.toNat = some b → Acts .bufInfo 0x102 s p (fun e =>
    e.cfg = s.dev.cfg ∧ Sends p (Packet.w0 p 0x102) 0 0 [b.first * 4096, b.orphan.toNat * 2 ^ 15 + b.owner % 8 * 2 ^ 12 + (b.count - 1)] e))

/-- R126, R158, R191, R341: SPR.PUBLISH and LPG.LOAD start a build and a load and owe their reply; KEY.ARM arms and KEY.DISARM disarms. -/
def DrawingPacketsAct (s : State) (p : Packet) : Prop :=
  let r := reqOf p 0
  s.dev.outs.length = 8 → s.dev.lcc.length = 8 →
  (Meets s.dev (rOUT_SPR_SAT_COUNT r.u) → Meets s.dev (rOUT_SPR_SAT_BASE r.u) → Acts .sprPublish 0x180 s p (fun e =>
    (e.outp r.u).sprBuild = some (r.w 0, r.args % 4096) ∧ ⟨0, r.u, p.ep, Packet.w0 p 0x180⟩ ∈ e.talk.owed)) ∧
  (Meets s.dev (rLCC_PROG_LEN r.u) → Meets s.dev (rLCC_PROG_BASE r.u) → Acts .lpgLoad 0x200 s p (fun e =>
    (e.clu r.u).load = some (r.w 0, r.args % 1024) ∧ ⟨1, r.u, p.ep, Packet.w0 p 0x200⟩ ∈ e.talk.owed)) ∧
  (s.dev.rd (rOUT_KEY_ARMED_HI r.u) < 256 →
    (p.wait = false → Acts .keyArm 0x240 s p (fun e => e.armed r.u = s.dev.armed r.u ||| r.w 0 ∧
      e.flag (rOUT_KEY_STATUS r.u) fOUT_KEY_STATUS_ARMED = true ∧ Sends p (Packet.w0 p 0x240) 0 0 [] e)) ∧
    (p.wait = true → s.dev.lit r.u = true → s.dev.isOwed 2 r.u = false → Acts .keyArm 0x240 s p (fun e =>
      e.armed r.u = s.dev.armed r.u ||| r.w 0 ∧ ⟨2, r.u, p.ep, Packet.w0 p 0x240⟩ ∈ e.talk.owed)) ∧
    (p.wait = true → s.dev.lit r.u = false → Acts .keyArm 0x240 s p (fun e =>
      e.armed r.u = s.dev.armed r.u ∧ Sends p (Packet.w0 p 0x240) 0x403 0 [] e))) ∧
  (s.dev.talk.owed = [] → Acts .keyDisarm 0x241 s p (fun e => e.armed r.u = 0 ∧ Sends p (Packet.w0 p 0x241) 0 0 [] e)) ∧
  (let v := ((s.dev.found (reqOf p 0x242)).readRegs [rOUT_KEY_STATUS r.u, rOUT_KEY_ARMED_LO r.u, rOUT_KEY_ARMED_HI r.u, rOUT_KEY_NR_LO r.u,
      rOUT_KEY_NR_HI r.u, rOUT_KEY_DEFER_CNT r.u, rOUT_COMMIT_SEQ r.u, rOUT_FRAME_LO r.u, rOUT_FRAME_HI r.u, rOUT_FLIP_BT_LO r.u,
      rOUT_FLIP_BT_HI r.u]).1
   Acts .keyStatus 0x242 s p (Sends p (Packet.w0 p 0x242) 0 0 [v.getD 0 0, join24 (v.getD 1 0) (v.getD 2 0),
    join24 (v.getD 3 0) (v.getD 4 0 % 256) + natBits (v.getD 4 0) 8 3 * 2 ^ 32, v.getD 5 0, v.getD 6 0, join24 (v.getD 7 0) (v.getD 8 0),
    join24 (v.getD 9 0) (v.getD 10 0)]))

/-- R69, R73, R74: TRS.ADD inserts all of its entries or none; TRS.CANCEL and TRS.CANCEL_MATCH remove entries of the session, or any at INTEGRATOR
level; TRS.QUERY gives an entry. -/
def TrestlePacketsAct (s : State) (p : Packet) (x : TrsEntry) : Prop :=
  let r := reqOf p 0
  (s.dev.sesLevel p.slot = 3 →
    (s.dev.trs.entries.length + r.ws.length / 2 ≤ 65536 → Acts .trsAdd 0x280 s p (fun e =>
      e.trs.entries.length = s.dev.trs.entries.length + r.ws.length / 2 ∧
      (∀ y ∈ s.dev.trs.entries, y ∈ e.trs.entries) ∧
      (∀ i < r.ws.length / 2, ∃ y ∈ e.trs.entries, y.bt = r.w (2 * i) ∧ y.act = r.w (2 * i + 1) ∧ y.owner = p.slot.val))) ∧
    (65536 < s.dev.trs.entries.length + r.ws.length / 2 → Acts .trsAdd 0x280 s p (fun e =>
      e.trs = s.dev.trs ∧ e.flag rTRS_STATUS fTRS_STATUS_FULL = true ∧ Sends p (Packet.w0 p 0x280) 0x301 0 [] e))) ∧
  (s.dev.trsEntry r.args = none → Acts .trsCancel 0x281 s p (fun e => e.trs = s.dev.trs ∧ Sends p (Packet.w0 p 0x281) 0x401 0 [] e) ∧
    Acts .trsQuery 0x283 s p (fun e => e.trs = s.dev.trs ∧ Sends p (Packet.w0 p 0x283) 0x401 0 [] e)) ∧
  (s.dev.trsEntry r.args = some x → x.owner = p.slot.val ∨ s.dev.sesLevel p.slot = 3 → Acts .trsCancel 0x281 s p (fun e =>
    e.trsEntry r.args = none ∧ (∀ y ∈ s.dev.trs.entries, y.slot ≠ x.slot → y ∈ e.trs.entries) ∧ Sends p (Packet.w0 p 0x281) 0 0 [] e)) ∧
  (s.dev.trsEntry r.args = some x → Acts .trsQuery 0x283 s p (fun e => e.trs = s.dev.trs ∧ Sends p (Packet.w0 p 0x283) 0 0 [x.bt, x.act] e)) ∧
  (let es := s.dev.trsMatches (r.w 0) (r.w 1) (if natBit r.args 0 then some (r.w 2, r.w 3) else none)
   let mine := es.filter (fun y => y.owner == p.slot.val || s.dev.sesLevel p.slot == 3)
   Acts .trsCancelMatch 0x282 s p (fun e => (∀ y ∈ mine, y ∉ e.trs.entries) ∧
     (∀ y ∈ s.dev.trs.entries, (∀ z ∈ mine, z.slot ≠ y.slot) → y ∈ e.trs.entries) ∧ Sends p (Packet.w0 p 0x282) 0 0 [mine.length] e))

/-- R220, R222, R226, R341: OUT.LIGHT writes OUTn_CTRL, its reply owed where it asks to wait for the lighting; an AUX or DCS transaction needs a
lit output of its kind, and whether the sink takes it, like what it answers, is free (log entry 1); OUT.SIG_READ gives a signature. -/
def OutputPacketsAct (s : State) (p : Packet) : Prop :=
  let r := reqOf p 0
  Acts .outLight 0x300 s p (fun e =>
    (p.wait = true ∧ natBit r.args 23 = true ∧ s.dev.lit r.u = false →
      e.outp r.u = (((s.dev.found (reqOf p 0x300)).owe 3 r.u p.ep (Packet.w0 p 0x300)).writeRegs .pkt [(rOUT_CTRL r.u, r.args % 2 ^ 24)]).2.outp r.u) ∧
    (¬ (p.wait = true ∧ natBit r.args 23 = true ∧ s.dev.lit r.u = false) →
      e.outp r.u = ((s.dev.found (reqOf p 0x300)).writeRegs .pkt [(rOUT_CTRL r.u, r.args % 2 ^ 24)]).2.outp r.u ∧ Sends p (Packet.w0 p 0x300) 0 0 [] e)) ∧
  (s.dev.lit r.u = false → Acts .outAux 0x304 s p (fun e => Sends p (Packet.w0 p 0x304) 0x403 0 [] e ∧ e.outs = s.dev.outs) ∧
    Acts .outDcs 0x305 s p (fun e => Sends p (Packet.w0 p 0x305) 0x403 0 [] e ∧ e.outs = s.dev.outs)) ∧
  (s.dev.lit r.u = true → natBit r.args 32 = false →
    (portKind (s.dev.outPort r.u) = 1 → Acts .outAux 0x304 s p (fun e => e.outs = s.dev.outs ∧
      if Config.freeBool s.dev.free then Sends p (Packet.w0 p 0x304) 0 0 [] e
      else Sends p (Packet.w0 p 0x304) 0x407 (Config.freeNat (s.dev.free + 1) % 2 ^ 24) [] e)) ∧
    (portKind (s.dev.outPort r.u) = 2 → Acts .outDcs 0x305 s p (fun e => e.outs = s.dev.outs ∧
      if Config.freeBool s.dev.free then Sends p (Packet.w0 p 0x305) 0 0 [] e
      else Sends p (Packet.w0 p 0x305) 0x407 (Config.freeNat (s.dev.free + 1) % 2 ^ 24) [] e))) ∧
  (let v := ((s.dev.found (reqOf p 0x307)).readRegs [rOUT_SIG_LAST_LO r.u (r.args % 64), rOUT_SIG_LAST_HI r.u (r.args % 64),
      rOUT_SIG_STATUSk r.u (r.args % 64), rOUT_SIG_MISS_CNT r.u, rOUT_SIG_TRIP_CNT r.u, rOUT_SIG_UNJ_CNT r.u]).1
   Acts .outSigRead 0x307 s p (Sends p (Packet.w0 p 0x307) 0 0 (join24 (v.getD 0 0) (v.getD 1 0) :: v.drop 2)))

/-- R417, R437: AUD.VOICE asks for a start or a stop, which waits while the period has time for no more; AUD.SET writes registers of the unit,
the configuration registers at INTEGRATOR level only. -/
def AudioPacketsAct (s : State) (p : Packet) : Prop :=
  let r := reqOf p 0
  (s.dev.pier 28 = 0 → s.dev.pwr.entering = [] → s.dev.audLeft < 64 → Acts .audVoice 0x340 s p (fun e =>
    e.aud.pend = s.dev.aud.pend ++ [(!natBit r.args 7, r.args % 128)] ∧ Sends p (Packet.w0 p 0x340) 0 0 [] e)) ∧
  (s.dev.sesLevel p.slot = 3 → Acts .audSet 0x341 s p (fun e =>
    e.aud = ((s.dev.found (reqOf p 0x341)).writeRegs .pkt (pairsOf ((pairsOf r.ws).flatMap (fun q => [q.1, q.2])) |>.map (fun q => (rAUD_CTRL + q.1, q.2)))).2.aud ∧
    Sends p (Packet.w0 p 0x341) 0 0 [] e))

/-- R250, R254, R330: a telltale command of a session acts while HOST_TT_EN is 1; no session has a heartbeat's level; TTL.STATUS and TTL.LOAD. -/
def TelltalePacketsAct (s : State) (p : Packet) : Prop :=
  let t := p.args.toNat
  (s.dev.flag rPRP_CTRL fPRP_CTRL_HOST_TT_EN = true →
    (t < 256 → Acts .ttlSet 0x4C0 s p (fun e => e.ttState t = 1 ∧ e.flag rPRP_STATUS fPRP_STATUS_FRESH = false ∧ Sends p (Packet.w0 p 0x4C0) 0 0 [] e)) ∧
    (t < 256 → Acts .ttlClear 0x4C1 s p (fun e => e.ttState t = 0 ∧ e.flag rPRP_STATUS fPRP_STATUS_FRESH = false ∧ Sends p (Packet.w0 p 0x4C1) 0 0 [] e)) ∧
    (t < 256 → Acts .ttlBlink 0x4C2 s p (fun e => e.ttState t = 2 ∧ natBits (e.ttWord t 3) 22 24 = (p.payload.map (·.toNat)).getD 0 0 ∧
      Sends p (Packet.w0 p 0x4C2) 0 0 [] e))) ∧
  (s.dev.flag rPRP_CTRL fPRP_CTRL_HOST_TT_EN = false →
    Acts .ttlSet 0x4C0 s p (fun e => e.prp = s.dev.prp ∧ Sends p (Packet.w0 p 0x4C0) 0 0 [] e ∧
      e.fld (rSEC_SES_VIOL_CNT p.slot) fSEC_SES_VIOL_CNT_COUNT =
        satInc (s.dev.fld (rSEC_SES_VIOL_CNT p.slot) fSEC_SES_VIOL_CNT_COUNT) fSEC_SES_VIOL_CNT_COUNT.w)) ∧
  Acts .ttlStatus 0x4C4 s p (fun e => e.prp = s.dev.prp ∧
    Sends p (Packet.w0 p 0x4C4) 0 0 (s.dev.rd rPRP_STATUS :: (List.range 11).map (fun m => s.dev.ttPack (24 * m) 24)) e) ∧
  (t + p.payload.length ≤ 0x40100 → Acts .ttlLoad 0x4C5 s p (fun e => (∀ i < p.payload.length, e.prpWord (t + i) = p.payload.getD i 0) ∧
    (∀ b, b < t ∨ t + p.payload.length ≤ b → e.prpWord b = s.dev.prpWord b) ∧ Sends p (Packet.w0 p 0x4C5) 0 0 [] e))

/-! #### What the packets of the managing groups do (R341) -/

/-- R355 to R359: overlays are applied in order, removed, reported, written and erased. -/
def ConfigurationPacketsAct (s : State) (p : Packet) (ws : List Word) : Prop :=
  let id := p.args.toNat % 64
  (assocGet s.dev.cfg.store id = none → Acts .cfgApply 0x380 s p (fun e => e.cfg = s.dev.cfg ∧ Sends p (Packet.w0 p 0x380) 0x408 0 [] e)) ∧
  (assocGet s.dev.cfg.store id = some ws → s.dev.cfg.active.any (·.1 == id) = false → 4 ≤ s.dev.cfg.active.length →
    Acts .cfgApply 0x380 s p (fun e => e.cfg = s.dev.cfg ∧ Sends p (Packet.w0 p 0x380) 0x305 0 [] e)) ∧
  (assocGet s.dev.cfg.store id = some ws → s.dev.cfg.active.length < 4 → resultCause (s.dev.confRecs id ++ imageRecsD ws) = 0 → p.wait = false →
    Acts .cfgApply 0x380 s p (fun e => e.cfg.active = s.dev.cfg.active.filter (fun q => q.1 != id) ++ [(id, ws)] ∧
      Sends p (Packet.w0 p 0x380) 0 0 [] e)) ∧
  Acts .cfgRemove 0x381 s p (fun e => e.cfg.active = s.dev.cfg.active.filter (fun q => q.1 != id) ∧ Sends p (Packet.w0 p 0x381) 0 0 [] e) ∧
  Acts .cfgStatus 0x382 s p (fun e => e.cfg = s.dev.cfg ∧ Sends p (Packet.w0 p 0x382) 0 0 [s.dev.cfg.active.length % 8 * 2 ^ 24 +
    (List.range 4).foldl (fun v i => v * 64 + (s.dev.cfg.active.map (·.1)).getD i 0 % 64) 0, (s.dev.cfg.base.getD 1 0).toNat] e) ∧
  ((p.payload.map (·.toNat)).getD 1 0 = 0 → natBit p.args.toNat 6 = false →
    (s.dev.cfg.active.any (·.1 == id) = false → Acts .cfgWrite 0x383 s p (fun e => assocGet e.cfg.store id = none ∧
      (∀ j, j ≠ id → assocGet e.cfg.store j = assocGet s.dev.cfg.store j) ∧ Sends p (Packet.w0 p 0x383) 0 0 [] e)) ∧
    (s.dev.cfg.active.any (·.1 == id) = true → Acts .cfgWrite 0x383 s p (fun e => e.cfg = s.dev.cfg ∧ Sends p (Packet.w0 p 0x383) 0x405 0x2A [] e))) ∧
  Acts .cfgSteward 0x384 s p (fun e =>
    let w := ((s.dev.found (reqOf p 0x384)).writeRegs .t0 (atBase (rSEC_T_CTRL (p.args.toNat % 4)) (p.payload.map (·.toNat)))).2
    Sends p (Packet.w0 p 0x384) 0 0 [] e ∧ e.cores = w.cores ∧ (epIsRing p.ep = false → RegsKeep [rSEC_SES_VIOL_CNT p.slot] w e))

/-- R492 to R498: the states of an update as its packets move it: 0 idle, 1 receiving, 2 complete, 3 verifying, 4 verified, 6 trial. -/
def UpdatePacketsAct (s : State) (p : Packet) : Prop :=
  let st := s.dev.updState
  let ws := p.payload.map (·.toNat)
  s.dev.upd.slots.length = 2 → s.dev.upd.br.length = 2 → s.dev.bootRec.active ≤ 1 →
  (st = 0 ∨ st = 1 ∨ st = 2 ∨ st = 4 → Acts .updBegin 0x3C0 s p (fun e => e.updState = 1 ∧ e.rd rUPD_RECEIVED = 0 ∧
    e.slot s.dev.inactive = ⟨3, [], ws.getD 0 0, ws.getD 1 0⟩ ∧ e.slot s.dev.bootRec.active = s.dev.slot s.dev.bootRec.active ∧
    Sends p (Packet.w0 p 0x3C0) 0 0 [] e)) ∧
  (st = 6 → Acts .updBegin 0x3C0 s p (fun e => e.upd = s.dev.upd ∧ Sends p (Packet.w0 p 0x3C0) 0x604 0 [] e)) ∧
  (st ≠ 1 → Acts .updData 0x3C1 s p (fun e => e.upd = s.dev.upd ∧ Sends p (Packet.w0 p 0x3C1) 0x601 0 [] e)) ∧
  (st = 1 → s.dev.updBad (reqOf p 0x3C1) = none → Acts .updData 0x3C1 s p (fun e =>
    (∀ i < ws.length, assocGet (e.slot s.dev.inactive).words (p.args.toNat % 2 ^ 24 + i) = some (BitVec.ofNat 48 (ws.getD i 0))) ∧
    e.slot s.dev.bootRec.active = s.dev.slot s.dev.bootRec.active ∧
    (e.updState = if (e.slot s.dev.inactive).words.length < (s.dev.slot s.dev.inactive).len then 1 else 2) ∧ Sends p (Packet.w0 p 0x3C1) 0 0 [] e)) ∧
  (st = 1 → Acts .updVerify 0x3C2 s p (fun e => e.upd = s.dev.upd ∧ Sends p (Packet.w0 p 0x3C2) 0x603 0 [] e) ∧
    Acts .updActivate 0x3C3 s p (fun e => e.upd = s.dev.upd ∧ Sends p (Packet.w0 p 0x3C3) 0x603 0 [] e)) ∧
  (st = 2 ∨ st = 4 → Acts .updVerify 0x3C2 s p (fun e => e.updState = 3 ∧ e.upd = s.dev.upd ∧ ⟨6, 0, p.ep, Packet.w0 p 0x3C2⟩ ∈ e.talk.owed)) ∧
  (st = 4 → natBit p.args.toNat 0 = false → s.dev.bootRec.seq < 2 ^ 24 → Acts .updActivate 0x3C3 s p (fun e => e.updState = 6 ∧
    e.bootRec.active = s.dev.inactive ∧ e.bootRec.trial = true ∧ e.bootRec.fallback = true ∧ e.bootRec.tries = 0 ∧ e.upd.slots = s.dev.upd.slots ∧
    Sends p (Packet.w0 p 0x3C3) 0 0 [] e)) ∧
  (st = 6 → Acts .updConfirm 0x3C4 s p (fun e => e.flag rUPD_STATUS fUPD_STATUS_CONFIRM_RCVD = true ∧ e.upd = s.dev.upd ∧
    Sends p (Packet.w0 p 0x3C4) 0 0 [] e)) ∧
  (st ≠ 6 → Acts .updConfirm 0x3C4 s p (fun e => e.upd = s.dev.upd ∧ Sends p (Packet.w0 p 0x3C4) 0x601 0 [] e)) ∧
  Acts .updStatus 0x3C5 s p (fun e => e.upd = s.dev.upd ∧ Sends p (Packet.w0 p 0x3C5) 0 0 [st, join24 (s.dev.rd rUPD_VER_ACT_LO) (s.dev.rd rUPD_VER_ACT_HI),
    join24 (s.dev.rd rUPD_VER_INACT_LO) (s.dev.rd rUPD_VER_INACT_HI)] e) ∧
  (st = 0 → Acts .updAbort 0x3C6 s p (fun e => e.upd = s.dev.upd ∧ Sends p (Packet.w0 p 0x3C6) 0 0 [] e)) ∧
  (st = 1 ∨ st = 2 ∨ st = 4 → Acts .updAbort 0x3C6 s p (fun e => e.updState = 0 ∧ (e.slot s.dev.inactive).status = 3 ∧
    e.flag rUPD_STATUS fUPD_STATUS_INCOMPLETE = true ∧ Sends p (Packet.w0 p 0x3C6) 0 0 [] e))

/-- R341, R457, R465, R481, R488: the fault journal is reported, read and cleared, a unit is proposed for retirement, and the power target and
holds are set and reported. -/
def FaultAndPowerPacketsAct (s : State) (p : Packet) : Prop :=
  let n := s.dev.flt.ring.length
  let old := (s.dev.rd rFLT_JOURNAL_NEXT + 2 ^ 24 - n) % 2 ^ 24
  let k := (p.args.toNat % 2 ^ 24 + 2 ^ 24 - old) % 2 ^ 24
  Acts .fltStatus 0x400 s p (fun e => e.flt = s.dev.flt ∧ Sends p (Packet.w0 p 0x400) 0 0 [s.dev.fld rFLT_STATUS fFLT_STATUS_DEGRADED, n, old] e) ∧
  Acts .fltJournal 0x401 s p (fun e => e.flt = s.dev.flt ∧ if n ≤ k then Sends p (Packet.w0 p 0x401) 0x408 0 [] e
    else Sends p (Packet.w0 p 0x401) 0 0 ((((s.dev.flt.ring.reverse.drop k).take (p.args.toNat / 2 ^ 24 + 1)).flatten).map (·.toNat)) e) ∧
  Acts .fltClear 0x402 s p (fun e => e.flt.ring = [] ∧ e.flt.retired = s.dev.flt.retired ∧ e.flt.flash = s.dev.flt.flash ∧
    Sends p (Packet.w0 p 0x402) 0 0 [] e) ∧
  Acts .fltRetire 0x403 s p (fun e => (∃ x, e.reports = s.dev.reports ++ [x] ∧ x.code = 0x11 ∧ x.cls = p.args.toNat % 256 ∧ x.idx = p.args.toNat / 256) ∧
    Sends p (Packet.w0 p 0x403) 0 0 [] e) ∧
  (s.dev.litOuts = [] → s.dev.pwr.quieted = [] → Acts .pwrState 0x440 s p (fun e => e.fld rPMU_CTRL fPMU_CTRL_TARGET = p.args.toNat ∧
    Sends p (Packet.w0 p 0x440) 0 0 [] e)) ∧
  Acts .pwrHold 0x441 s p (fun e => e.fld (rPMU_PIER_CTRL (p.args.toNat % 64)) fPMU_PIER_CTRL_HOLD = p.args.toNat / 64 ∧
    Sends p (Packet.w0 p 0x441) 0 0 [] e) ∧
  Acts .pwrStatus 0x442 s p (fun e => e.pwr = s.dev.pwr ∧ Sends p (Packet.w0 p 0x442) 0 0 [s.dev.dstate, s.dev.pierWord 0 24, s.dev.pierWord 24 16] e)

/-- R522 to R533, R537: sessions attach and detach, words and logs are read, cores halted, resumed and stepped, points set, and the local memory of
a halted core written. -/
def DebugPacketsAct (s : State) (p : Packet) : Prop :=
  let c := natBits p.args.toNat 29 7
  let ws := p.payload.map (·.toNat)
  Acts .dbgAttach 0x480 s p (fun e => e.attached p.slot = true ∧ Sends p (Packet.w0 p 0x480) 0 0 [] e) ∧
  Acts .dbgDetach 0x481 s p (fun e => e.attached p.slot = false ∧ (∀ x ∈ e.dbg.points, x ∈ s.dev.dbg.points ∧ (s.dev.attached p.slot = true → x.owner ≠ p.slot.val)) ∧
    Sends p (Packet.w0 p 0x481) 0 0 [] e) ∧
  (PlainMain s.dev → ws.getD 0 0 + p.args.toNat % 2048 ≤ 0x1000000 → Acts .dbgRead 0x482 s p
    (Sends p (Packet.w0 p 0x482) 0 0 ((List.range (p.args.toNat % 2048)).map (fun i => (s.dev.peek (ws.getD 0 0 + i)).toNat)))) ∧
  (s.dev.dbg.trsLog.recs = [] → natBit p.args.toNat 24 = false →
    s.dev.dbg.pos.find? (fun x => x.1 == p.slot.val && x.2.1 == 0) = some (p.slot.val, 0, s.dev.dbg.trsLog.total) →
    Acts .dbgTrace 0x483 s p (Sends p (Packet.w0 p 0x483) 0 0 [s.dev.dbg.trsLog.total % 1024])) ∧
  ((s.dev.core c).run = 1 → Acts .dbgHalt 0x484 s p (fun e => (e.core c).haltReq = true ∧ (e.core c).run = 1 ∧ Sends p (Packet.w0 p 0x484) 0 0 [] e)) ∧
  ((s.dev.core c).run = 0 → c < 72 → (s.dev.core c).posted = [] → Acts .dbgHalt 0x484 s p (fun e => (e.core c).run = 2 ∧ Sends p (Packet.w0 p 0x484) 0 0 [] e)) ∧
  ((s.dev.core c).run = 2 → Acts .dbgResume 0x485 s p (fun e => (e.core c).run = (if s.dev.coreIdle c then 0 else 1) ∧
    (e.core c).pass = (s.dev.core c).pass ∧ (e.core c).pc = (s.dev.core c).pc ∧ Sends p (Packet.w0 p 0x485) 0 0 [] e)) ∧
  ((s.dev.core c).run ≠ 2 → Acts .dbgResume 0x485 s p (fun e => e.cores = s.dev.cores ∧ Sends p (Packet.w0 p 0x485) 0 0 [] e)) ∧
  (let n := max (p.args.toNat % 2 ^ 16) 1
   ((s.dev.core c).run = 1 → Acts .dbgStep 0x486 s p (fun e =>
     e.core c = { s.dev.core c with haltReq := true, steps := some (false, n) } ∧ ⟨9, c, p.ep, Packet.w0 p 0x486⟩ ∈ e.talk.owed)) ∧
   ((s.dev.core c).run = 2 → s.dev.coreIdle c = false → Acts .dbgStep 0x486 s p (fun e =>
     e.core c = { s.dev.core c with run := 1, steps := some (true, n) } ∧ ⟨9, c, p.ep, Packet.w0 p 0x486⟩ ∈ e.talk.owed)) ∧
   ((s.dev.core c).run = 3 ∨ ((s.dev.core c).run = 0 ∧ 72 ≤ c) → Acts .dbgStep 0x486 s p (fun e =>
     e.core c = s.dev.core c ∧ Sends p (Packet.w0 p 0x486) 0 0 [(s.dev.core c).slotAddr, (s.dev.core c).st] e))) ∧
  (natBit p.args.toNat 5 = true → Acts .dbgPoint 0x487 s p (fun e =>
    (⟨pointUnit c, p.args.toNat % 16, natBit p.args.toNat 4, ws.getD 0 0, p.slot⟩ : Point) ∈ e.dbg.points ∧ Sends p (Packet.w0 p 0x487) 0 0 [] e)) ∧
  (natBit p.args.toNat 5 = false → Acts .dbgPoint 0x487 s p (fun e =>
    (∀ x ∈ e.dbg.points, ¬ (x.unit = pointUnit c ∧ x.num = p.args.toNat % 16 ∧ x.watch = natBit p.args.toNat 4)) ∧ Sends p (Packet.w0 p 0x487) 0 0 [] e)) ∧
  ((s.dev.core c).run = 2 → 72 ≤ c → s.dev.paired = false → ws.getD 0 0 + p.args.toNat % 2048 ≤ 0x4000 → Acts .dbgWrite 0x488 s p (fun e =>
    (∀ i < p.args.toNat % 2048, (e.lword c (ws.getD 0 0 + i)).toNat = ws.getD (i + 1) 0) ∧ Sends p (Packet.w0 p 0x488) 0 0 [] e)) ∧
  ((s.dev.core c).run ≠ 2 → Acts .dbgWrite 0x488 s p (fun e => e.lmem = s.dev.lmem ∧ e.flag rDBG_STATUS fDBG_STATUS_WR_IGNORED = true ∧
    Sends p (Packet.w0 p 0x488) 0 0 [] e))

/-! #### Transports (R323 to R331, R379 to R382) -/

/-- R325: with no ring set up a poll finds nothing; a descriptor that cannot be served shows in RING_BAD; GO written 0 polls nothing; a doorbell
that rings is a poll, and so is one rung by a write of its register. -/
def RingsArePolled (s : State) (k r : Fin 8) (v : Reg) : Prop :=
  s.dev.talk.held = [] →
  s.dev.talk.bell = false →
  s.dev.pwr.stage ≠ 4 →
  ((∀ ep ∈ ringEnds, s.dev.ringBase ep = 0) → Becomes .ringPoll s s.dev ∧ Becomes (.hostRingBell r v) s s.dev) ∧
  ((∀ ep ∈ ringEnds, ep ≠ .ring k → s.dev.ringBase ep = 0) → s.dev.ringBase (.ring k) ≠ 0 → s.dev.ringAt (s.dev.ringBase (.ring k)) = none → PlainMain s.dev →
    Completes .ringPoll s (fun e => natBit (e.rd rHOST_CMD_STATUS) k = true ∧ e = { s.dev with regs := e.regs, trk := e.trk } ∧
      RegsKeep (rHOST_CMD_STATUS :: raiseRegs rHOST_CMD_STATUS) s.dev e) ∧
    (natBit v.toNat 0 = true → Completes (.hostRingBell r v) s (fun e => natBit (e.rd rHOST_CMD_STATUS) k = true ∧ e = { s.dev with regs := e.regs, trk := e.trk } ∧
      RegsKeep (rHOST_CMD_STATUS :: raiseRegs rHOST_CMD_STATUS) s.dev e))) ∧
  (natBit v.toNat 0 = false → Becomes (.hostRingBell r v) s s.dev) ∧
  (natBit v.toNat 0 = true → ∀ t, exec .ringPoll s = .next t → exec (.hostRingBell r v) s = .next t ∧
    (Meets s.dev (rHOST_RING_BELL r) → exec (.registerWrite (rHOST_RING_BELL r) v) s = .next t))

/-- Ring `k`, whose descriptor `r` can be served, holds the words of one packet and no more; no other ring is set up, and T0, idle, may take it. -/
def RingHolds (d : Dev) (k : Fin 8) (r : Ring) (ws : List Word) : Prop :=
  d.talk.held = [] ∧ d.talk.bell = false ∧ d.pwr.stage ≠ 4 ∧ d.upd.hand = none ∧ PlainMain d ∧ d.owedTo (.ring k) < 16 ∧
  (∀ ep ∈ ringEnds, ep ≠ .ring k → d.ringBase ep = 0) ∧ d.ringBase (.ring k) ≠ 0 ∧ d.ringAt (d.ringBase (.ring k)) = some r ∧
  r.waiting = ws.length ∧ ∀ i < ws.length, d.peek (r.req + (r.reqHead + i) % 2 ^ r.reqLog) = ws.getD i 0

/-- The device with the packet of `n` words at the head of ring `k` read, and the head moved past it. -/
def Dev.headTaken (d : Dev) (k : Fin 8) (r : Ring) (n : Nat) : Dev :=
  ((d.ringLook (d.ringBase (.ring k))).ringRead r r.reqHead n).2.2.mainPut masterT0 (r.at' + 3) (BitVec.ofNat 48 ((r.reqHead + n) % 2 ^ 24))

/-- R322, R325: a poll, and a doorbell that rings, take the packet that waits in a ring and execute it: what comes of it is what comes of the
packet's own row, where the packet itself gives T0 no further one to take. A PING waiting in the ring is answered, and the head moves past it. -/
def WaitingPacketIsTaken (s : State) (k q : Fin 8) (v : Reg) (r : Ring) (op : Nat) (c : Packet → Instr) (p : Packet) : Prop :=
  let ws := (reqOf p op).words
  p.ep = .ring k → p.count.toNat = p.payload.length → RingHolds s.dev k r ws → natBit v.toNat 0 = true →
  (IsPacketRow op c →
    (let x := (s.dev.headTaken k r ws.length).packet op p
     x.talk.bell = false → (∀ ep ∈ ringEnds, x.ringTake ep = none) →
     Becomes (c p) { s with dev := s.dev.headTaken k r ws.length } x ∧ Becomes .ringPoll s x ∧ Becomes (.hostRingBell q v) s x)) ∧
  (Accepted s.dev 0x044 p → op = 0x044 → r.rsp + 2 ^ r.rspLog ≤ r.at' ∨ r.at' + 6 ≤ r.rsp →
    (let P (e : Dev) : Prop := Sends p (Packet.w0 p 0x044) 0 0 [s.dev.bt] e ∧ (e.peek (r.at' + 3)).toNat = (r.reqHead + ws.length) % 2 ^ 24 ∧
       ∀ b < 0x1000000, b < r.at' ∨ r.at' + 6 ≤ b → b < r.rsp ∨ r.rsp + 2 ^ r.rspLog ≤ b → e.peek b = s.dev.peek b
     Completes .ringPoll s P ∧ Completes (.hostRingBell q v) s P))

/-- R326: a datagram not addressed to the port on a MAC that carries packets is none; a fragment, one with a bad checksum and one that holds no whole
words are discarded and counted. -/
def DatagramsAreSifted (s : State) (m : Fin 2) (vlan ip src dst : Nat) (frag bad : Bool) (bytes : List (BitVec 8)) : Prop :=
  s.dev.talk.bell = false →
  (s.dev.flag rHOST_CMD_CTRL fHOST_CMD_CTRL_UDP_EN = false ∨ dst ≠ s.dev.fld rHOST_CMD_CTRL fHOST_CMD_CTRL_UDP_PORT →
    Becomes (.udpDatagram m vlan ip src dst frag bad bytes) s s.dev) ∧
  (s.dev.flag rHOST_CMD_CTRL fHOST_CMD_CTRL_UDP_EN = true → dst = s.dev.fld rHOST_CMD_CTRL fHOST_CMD_CTRL_UDP_PORT →
    natBit (s.dev.fld rHOST_CMD_CTRL fHOST_CMD_CTRL_MACS) m = true → s.dev.pier 34 = 0 → s.dev.pwr.entering = [] →
    frag = true ∨ bad = true ∨ bytes.length % 6 ≠ 0 ∨ bytes.length < 12 ∨ 6144 < bytes.length →
    Completes (.udpDatagram m vlan ip src dst frag bad bytes) s (fun e =>
      e.fld rHOST_UDP_DROP_CNT fHOST_UDP_DROP_CNT_COUNT = satInc (s.dev.fld rHOST_UDP_DROP_CNT fHOST_UDP_DROP_CNT_COUNT) fHOST_UDP_DROP_CNT_COUNT.w ∧
      OnlyRegs [rHOST_UDP_DROP_CNT] s.dev e)) ∧
  (s.dev.flag rHOST_CMD_CTRL fHOST_CMD_CTRL_UDP_EN = true → dst = s.dev.fld rHOST_CMD_CTRL fHOST_CMD_CTRL_UDP_PORT →
    natBit (s.dev.fld rHOST_CMD_CTRL fHOST_CMD_CTRL_MACS) m = true → s.dev.pier 34 = 0 → s.dev.pwr.entering = [] →
    frag = false → bad = false → bytes.length % 6 = 0 → 12 ≤ bytes.length → bytes.length ≤ 6144 →
    Becomes (.udpDatagram m vlan ip src dst frag bad bytes) s (s.dev.arriveWords (.udp m vlan ip src) (packWords bytes)).bells)

/-- R328: the SPI target port: bytes that are no whole words, and those that come while T0 takes no packet, are discarded and counted; a read gives the oldest reply's word count and words, and
takes the reply away once all of it is read; STATUS tells whether a packet is accepted and whether a reply waits. -/
def SpiTransactionsAct (s : State) (bytes : List (BitVec 8)) (n : Nat) (ws : List Word) (rest : List (List Word)) : Prop :=
  (s.dev.spiOn = false → (s.dev.talk.bell = false → Becomes (.spiTargetWrite bytes) s s.dev) ∧ Becomes (.spiTargetRead n) s s.dev ∧ Becomes .spiTargetStatus s s.dev) ∧
  (s.dev.spiOn = true → s.dev.pier 38 = 0 → s.dev.pwr.entering = [] →
    (s.dev.pwr.stage ≠ 3 ∨ bytes.length % 6 ≠ 0 → s.dev.talk.bell = false → Completes (.spiTargetWrite bytes) s (fun e =>
      e.fld rHOST_SPI_DROP_CNT fHOST_SPI_DROP_CNT_COUNT = satInc (s.dev.fld rHOST_SPI_DROP_CNT fHOST_SPI_DROP_CNT_COUNT) fHOST_SPI_DROP_CNT_COUNT.w ∧
      OnlyRegs [rHOST_SPI_DROP_CNT] s.dev e)) ∧
    (s.dev.pwr.stage = 3 → bytes.length % 6 = 0 → 12 ≤ bytes.length → Becomes (.spiTargetWrite bytes) s (s.dev.arriveWords .spi (packWords bytes)).bells) ∧
    (s.dev.talk.spi = ws :: rest → Completes (.spiTargetRead n) s (fun e =>
      e.talk.spiOut = (beBytes ws.length 2 ++ ws.flatMap (fun w => beBytes w.toNat 6)).take n ∧
      e.talk.spi = (if (beBytes ws.length 2 ++ ws.flatMap (fun w => beBytes w.toNat 6)).length ≤ n then rest else ws :: rest) ∧
      e = { s.dev with regs := e.regs, talk := e.talk } ∧ RegsKeep [] s.dev e)) ∧
    Completes .spiTargetStatus s (fun e => e.talk.spiOut = [(if s.dev.pwr.stage = 3 then 2 else 0) + (if s.dev.talk.spi = [] then 0 else 1)] ∧ e.talk.spi = s.dev.talk.spi ∧ RegsKeep [] s.dev e))

/-- R379 to R381: the sentinel port counts its accesses; a unit above the mailbox that is written is read back, and the other units of the memory stay; a
unit past the end of the memory reads 0 and sets RANGE. -/
def SentinelAccessesAct (s : State) (u : BitVec 14) (v : BitVec 16) : Prop :=
  (s.dev.flag rSNP_CTRL fSNP_CTRL_EN = false → Becomes (.sentinelRead u 0) s s.dev ∧
    (s.dev.talk.bell = false → Becomes (.sentinelWrite u v) s s.dev)) ∧
  (s.dev.flag rSNP_CTRL fSNP_CTRL_EN = true → s.dev.mem.exBusy = false → s.dev.mem.exchErr = [] →
    (0x200 ≤ u.toNat → u.toNat < 0x3000 → s.dev.talk.bell = false →
      Completes (.sentinelWrite u v) s (fun e => e.exUnit u.toNat = v.toNat ∧ (∀ b < 0x3000, b ≠ u.toNat → e.exUnit b = s.dev.exUnit b) ∧
        e.fld rSNP_ACC_CNT fSNP_ACC_CNT_COUNT = (s.dev.fld rSNP_ACC_CNT fSNP_ACC_CNT_COUNT + 1) % 2 ^ 24 ∧ OnlyRegs [rSNP_ACC_CNT] { s.dev with mem := e.mem } e)) ∧
    (0x200 ≤ u.toNat → u.toNat < 0x3000 →
      (s.dev.mem.exLatch = none → Completes (.sentinelRead u 0) s (fun e => (∃ r, e.mem.resp = some r ∧ r.addr = u.toNat ∧ r.data.toNat = s.dev.exUnit u.toNat) ∧
        e.mem.exch = s.dev.mem.exch ∧ OnlyRegs [rSNP_ACC_CNT] { s.dev with mem := e.mem } e))) ∧
    (0x3000 ≤ u.toNat → Completes (.sentinelRead u 0) s (fun e => (∃ r, e.mem.resp = some r ∧ r.addr = u.toNat ∧ r.data = 0) ∧
      e.flag rSNP_STATUS fSNP_STATUS_RANGE = true ∧ e.mem.exch = s.dev.mem.exch)))

/-- R329: a reply that is released frees the reply area; a request of no words is none; a submit while one is taken is ignored. -/
def MailboxActs (s : State) (n : BitVec 16) : Prop :=
  s.dev.flag rSNP_CTRL fSNP_CTRL_EN = true → s.dev.mem.exBusy = false → s.dev.mem.exchErr = [] → s.dev.talk.bell = false →
  (s.dev.talk.held = [] → Completes .sentinelReplyRelease s (fun e => e.exUnit 0x1C0 = 0 ∧ (∀ b < 0x3000, b ≠ 0x1C0 → e.exUnit b = s.dev.exUnit b) ∧
    OnlyRegs [rSNP_ACC_CNT] { s.dev with mem := e.mem, talk := e.talk } e)) ∧
  (s.dev.exUnit 0xC1 ≠ 0 → Completes (.sentinelSubmit n) s (fun e => e.mem = s.dev.mem ∧ OnlyRegs [rSNP_ACC_CNT] s.dev e)) ∧
  (s.dev.exUnit 0xC1 = 0 → n = 0 → Completes (.sentinelSubmit n) s (fun e => e.exUnit 0xC0 = 0 ∧ e.exUnit 0xC1 = 0 ∧ e.talk = s.dev.talk))

/-- R329, R330: a submit hands the packet in the request area to the parapet's sequencer, which executes it: a TTL.SET that asks for no reply sets
its telltale, and the area is free again. -/
def SubmittedPacketActs (s : State) (p : Packet) : Prop :=
  s.dev.flag rSNP_CTRL fSNP_CTRL_EN = true → s.dev.mem.exBusy = false → s.dev.mem.exchErr = [] → s.dev.talk.bell = false → s.dev.talk.held = [] →
  s.dev.exUnit 0xC1 = 0 → p.ep = .sentinel → p.rr = false → p.count = 0 → p.payload = [] →
  (∀ i < 2, s.dev.exWord i = (reqOf p 0x4C0).words.getD i 0) → s.dev.check (reqOf p 0x4C0) = none → p.args.toNat < 256 →
  Completes (.sentinelSubmit 2) s (fun e =>
    e.ttState p.args.toNat = 1 ∧ e.fld rPRP_CMD_CNT fPRP_CMD_CNT_COUNT = satInc (s.dev.fld rPRP_CMD_CNT fPRP_CMD_CNT_COUNT) fPRP_CMD_CNT_COUNT.w ∧
    e.flag rPRP_STATUS fPRP_STATUS_FRESH = false ∧ e.exUnit 0xC0 = 2 ∧ e.exUnit 0xC1 = 0 ∧
    e.fld rSNP_ACC_CNT fSNP_ACC_CNT_COUNT = (s.dev.fld rSNP_ACC_CNT fSNP_ACC_CNT_COUNT + 1) % 2 ^ 24)

/-- R257, R330: the sentinel port carries TTL.SET and TTL.HEARTBEAT without a session. -/
def SentinelCarriesTelltales (s : State) (p : Packet) : Prop :=
  p.ep = .sentinel → s.dev.talk.held = [] → p.rr = false →
  (s.dev.check (reqOf p 0x4C3) = none → Completes (.ttlHeartbeat p) s (fun e =>
    e.fld rPRP_HB_CNT fPRP_HB_CNT_COUNT = satInc (s.dev.fld rPRP_HB_CNT fPRP_HB_CNT_COUNT) fPRP_HB_CNT_COUNT.w ∧
    e.flag rPRP_STATUS fPRP_STATUS_HB_ABSENT = false ∧ e.exUnit 0xC1 = 0)) ∧
  (s.dev.check (reqOf p 0x4C0) = none → p.args.toNat < 256 → Completes (.ttlSet p) s (fun e =>
    e.ttState p.args.toNat = 1 ∧ e.fld rPRP_CMD_CNT fPRP_CMD_CNT_COUNT = satInc (s.dev.fld rPRP_CMD_CNT fPRP_CMD_CNT_COUNT) fPRP_CMD_CNT_COUNT.w ∧
    e.flag rPRP_STATUS fPRP_STATUS_FRESH = false))

end Sys2Proof.Machine

/-- R319 to R322, R333, R339, R341: every packet row is checked, held to its session's rights, and answered; the writing and the reading rows. Each
of these answers a next state with its own effect, on conditions of the state and the operands alone: trsCadence, regRead, regWrite, laySet, layGet,
layStage, sprStatus, sprAffine, tilSet, tilGet, tilPalette, lpgParam, lpgStatus, camConfig, camWarp, camStatus, outStatus, outSr, outBacklight,
outSig, audStatus. -/
def Obligations.PacketsAreCheckedAndAnswered : Prop :=
  ∀ (s : State) (p : Packet) (op : Nat) (c : Packet → Instr), (IsPacketRow op c → (∀ st det, CheckFailureIsAnswered s op c p st det) ∧
    ∀ o, ViolationIsSilent s op c p o ∧ UnitNotReady s op c p o) ∧ WritingPacketsWrite s p ∧ ReadingPacketsRead s p

/-- R335 to R337: sessions are challenged, proved, used and ended. Each of these answers a next state with its own effect, on conditions of the
state and the operands alone: sessionIdleTimeout, challengeExpiry, sesHello, sesProve, sesClose, sesInfo, sesPing. -/
def Obligations.SessionsAreOpenedAndEnded : Prop :=
  ∀ (s : State), (∀ p, (∀ k, HelloChallenges s p k) ∧ ProofOpensTheSlot s p ∧ SessionPacketsAct s p) ∧ ∀ k, SessionsRunOut s k

/-- R69, R126, R158, R191, R220, R250, R341, R361, R417: what the packets of the working groups do. Each of these answers a next state with its own
effect, on conditions of the state and the operands alone: trsAdd, trsCancel, trsCancelMatch, trsQuery, memRead, memWrite, memFill, bufAlloc,
bufFree, bufInfo, sprPublish, lpgLoad, keyArm, keyDisarm, keyStatus, outLight, outAux, outDcs, outSigRead, audVoice, audSet, ttlSet, ttlClear,
ttlBlink, ttlStatus, ttlLoad. -/
def Obligations.WorkingPacketsTakeEffect : Prop :=
  ∀ (s : State) (p : Packet), MemoryPacketsAct s p ∧ (∀ b, BufferPacketsAct s p b) ∧ DrawingPacketsAct s p ∧ (∀ x, TrestlePacketsAct s p x) ∧
    OutputPacketsAct s p ∧ AudioPacketsAct s p ∧ TelltalePacketsAct s p

/-- R341, R355 to R359, R481, R488, R492 to R498, R522 to R537: what the packets of the managing groups do. Each of these answers a next state with
its own effect, on conditions of the state and the operands alone: cfgApply, cfgRemove, cfgStatus, cfgWrite, cfgSteward, updBegin, updData,
updVerify, updActivate, updConfirm, updStatus, updAbort, fltStatus, fltJournal, fltClear, fltRetire, pwrState, pwrHold, pwrStatus, dbgAttach,
dbgDetach, dbgRead, dbgTrace, dbgHalt, dbgResume, dbgStep, dbgPoint, dbgWrite. -/
def Obligations.ManagingPacketsTakeEffect : Prop :=
  ∀ (s : State) (p : Packet), (∀ ws, ConfigurationPacketsAct s p ws) ∧ UpdatePacketsAct s p ∧ FaultAndPowerPacketsAct s p ∧ DebugPacketsAct s p

/-- R325, R326, R328 to R330, R379 to R381: how packets come in over rings, UDP, SPI and the sentinel port. Each of these answers a next state with
its own effect, on conditions of the state and the operands alone: registerWrite, sentinelSubmit, sentinelReplyRelease, sentinelRead, sentinelWrite,
hostRingBell, ringPoll, udpDatagram, spiTargetWrite, spiTargetRead, spiTargetStatus, ttlSet, ttlHeartbeat. -/
def Obligations.TransportsCarryPackets : Prop :=
  ∀ s : State, (∀ k r v, RingsArePolled s k r v) ∧ (∀ m vlan ip src dst frag bad bytes, DatagramsAreSifted s m vlan ip src dst frag bad bytes) ∧
    (∀ bytes n ws rest, SpiTransactionsAct s bytes n ws rest) ∧ (∀ u v, SentinelAccessesAct s u v) ∧ (∀ n, MailboxActs s n) ∧
    ∀ p, SentinelCarriesTelltales s p ∧ SubmittedPacketActs s p ∧ ∀ k q v r op c, WaitingPacketIsTaken s k q v r op c p

/-! ### Chapters 14 and 15: configurations, buffers and memory -/

namespace Sys2Proof.Machine

/-- R354: T0 applies the newer base that passes its check, once; with neither good, the device starts without one. -/
def BaseIsApplied (s : State) : Prop :=
  let c1 := s.dev.cfg.copies.getD s.dev.cfg.newer []
  let c2 := s.dev.cfg.copies.getD (1 - s.dev.cfg.newer) []
  (s.dev.pwr.stage ≠ 3 → Becomes .configStartApply s s.dev) ∧
  (s.dev.pwr.stage = 3 → s.dev.cfg.applied = false →
    (s.dev.imageCause true 0 [] c1 = 0 → Completes .configStartApply s (fun e => e.cfg.base = c1 ∧ e.cfg.applied = true ∧ e.cfg.used = some s.dev.cfg.newer)) ∧
    (s.dev.imageCause true 0 [] c1 ≠ 0 → s.dev.imageCause true 0 [] c2 = 0 →
      Completes .configStartApply s (fun e => e.cfg.base = c2 ∧ e.cfg.applied = true ∧ e.cfg.used = some (1 - s.dev.cfg.newer))) ∧
    (s.dev.imageCause true 0 [] c1 ≠ 0 → s.dev.imageCause true 0 [] c2 ≠ 0 →
      Completes .configStartApply s (fun e => e.cfg = { s.dev.cfg with applied := true } ∧ e.outs = s.dev.outs ∧ e.mem.main = s.dev.mem.main)))

/-- R361: a freed slab is zero and free again once it has been scrubbed; every other word of main memory stays. -/
def SlabIsScrubbed (s : State) (k : BitVec 12) : Prop :=
  (s.dev.cfg.scrub.contains k.toNat = false → Becomes (.slabScrubDone k) s s.dev) ∧
  (s.dev.cfg.scrub.contains k.toNat = true → (∀ j < 16, s.dev.fld (rMEM_SPARE j) fMEM_SPARE_STATE = 0) →
    Completes (.slabScrubDone k) s (fun e =>
      k.toNat ∉ e.cfg.scrub ∧ (∀ a < 0x1000000, a / 4096 = k.toNat → e.peek a = 0) ∧
      (∀ a < 0x1000000, a / 4096 ≠ k.toNat → e.peek a = s.dev.peek a) ∧ e.cfg.bufs = s.dev.cfg.bufs ∧ RegsKeep [] s.dev e))

/-- R350, R360: a trigger whose condition is as declared changes nothing; one that has changed is declared so. -/
def TriggerIsDeclared (s : State) (i : Fin 32) : Prop :=
  (s.dev.triggers.length ≤ i.val ∨ s.dev.pwr.stage ≠ 3 ∨ (s.dev.cfg.trig.getD i (false, false)).1 = s.dev.trigNow i →
    Becomes (.triggerDeclared i) s s.dev) ∧
  (i.val < s.dev.triggers.length → s.dev.pwr.stage = 3 → s.dev.cfg.trig.length = s.dev.triggers.length →
    (s.dev.cfg.trig.getD i (false, false)).1 ≠ s.dev.trigNow i →
    Completes (.triggerDeclared i) s (fun e => (e.cfg.trig.getD i (false, false)).1 = s.dev.trigNow i ∧
      (e.cfg.trig.getD i (false, false)).2 = (s.dev.cfg.trig.getD i (false, false)).2 ∧ e.cfg.base = s.dev.cfg.base))

/-- R350: a CAN FD frame sets the condition of each trigger that names its controller and identifier to whether the byte named matches, and no
other's. -/
def CanFrameSetsConditions (s : State) (ctl : Fin 2) (ide : Bool) (id : BitVec 29) (data : List (BitVec 8)) (i w0 w1 : Nat) : Prop :=
  s.dev.triggers[i]? = some (w0, w1) → s.dev.cfg.trig.length = s.dev.triggers.length →
  Completes (.canFdFrame ctl ide id data) s (fun e =>
    (e.cfg.trig.getD i (false, false)).1 = (s.dev.cfg.trig.getD i (false, false)).1 ∧
    (natBits w0 42 2 = ctl.val + 1 ∧ natBit w1 18 = ide ∧ natBits w1 19 29 = id.toNat →
      (e.cfg.trig.getD i (false, false)).2 = (match data[natBits w1 12 6]? with
        | some b => b.toNat &&& natBits w0 8 8 == natBits w0 0 8
        | none => false)) ∧
    (¬ (natBits w0 42 2 = ctl.val + 1 ∧ natBit w1 18 = ide ∧ natBits w1 19 29 = id.toNat) → e.cfg.trig.getD i (false, false) =
      s.dev.cfg.trig.getD i (false, false)) ∧ RegsKeep [] s.dev e)

/-- R370: a read of a sound word gives it; a whole-word store is read back, and every other word of main memory stays; a store of part of a word
merges. -/
def WordsAreStored (s : State) (m : BitVec 8) (a : BitVec 24) (v mask : Word) (held : Nat) : Prop :=
  let b : BitVec 40 := BitVec.ofNat 40 a.toNat
  PlainMain s.dev →
  Completes (.memoryRead m b 0 false held) s (fun e =>
    e.mem.resp = some ⟨m.toNat, a.toNat, s.dev.peek a.toNat, 0⟩ ∧ e.mem.main = s.dev.mem.main ∧ RegsKeep [] s.dev e) ∧
  Completes (.memoryWrite m b v mask false held) s (fun e =>
    e.peek a.toNat = (if mask = BitVec.allOnes 48 then v else (s.dev.peek a.toNat &&& ~~~mask) ||| (v &&& mask)) ∧
    (∀ c < 0x1000000, c ≠ a.toNat → e.peek c = s.dev.peek c) ∧ e.mem.exch = s.dev.mem.exch ∧ e.mem.ddr = s.dev.mem.ddr ∧ RegsKeep [] s.dev e)

/-- R375: a store to the bit-set alias sets the bits that are 1, one to the bit-clear alias clears them, in that word alone.
A register other than those that count a wait for a tracker (R368) stays. -/
def AliasesSetAndClear (s : State) (m : BitVec 8) (a : BitVec 24) (v : Word) : Prop :=
  let trk := [rMEM_TRK_WAIT_CNT (masterClass m.toNat), rMEM_STATUS] ++ raiseRegs rMEM_STATUS
  PlainMain s.dev →
  Completes (.bitSetStore m a v) s (fun e =>
    e.peek a.toNat = s.dev.peek a.toNat ||| v ∧ (∀ c < 0x1000000, c ≠ a.toNat → e.peek c = s.dev.peek c) ∧ RegsKeep trk s.dev e) ∧
  Completes (.bitClearStore m a v) s (fun e =>
    e.peek a.toNat = s.dev.peek a.toNat &&& ~~~v ∧ (∀ c < 0x1000000, c ≠ a.toNat → e.peek c = s.dev.peek c) ∧ RegsKeep trk s.dev e)

/-- R371, R372: a read of a word in which one bit has gone wrong gives the word as it was stored and counts a correction; one with two wrong
bits gives no word, and is counted as uncorrectable. -/
def WrongBitsAreMet (s : State) (m : BitVec 8) (a : BitVec 24) (flips : BitVec 55) : Prop :=
  let b : BitVec 40 := BitVec.ofNat 40 a.toNat
  PlainMain s.dev →
  (popCount 55 flips.toNat = 1 → Completes (.memoryRead m b flips false 1) s (fun e =>
    e.mem.resp = some ⟨m.toNat, a.toNat, s.dev.peek a.toNat, 0⟩ ∧ e.mem.main = s.dev.mem.main ∧ e.mem.mainErr = [] ∧
    e.fld rMEM_CE_CNT fMEM_CE_CNT_COUNT = satInc (s.dev.fld rMEM_CE_CNT fMEM_CE_CNT_COUNT) fMEM_CE_CNT_COUNT.w ∧ e.rd rMEM_CE_ADDR = a.toNat ∧
    e.flag rMEM_STATUS fMEM_STATUS_CE = true ∧ e.reports.length = s.dev.reports.length + 1)) ∧
  (popCount 55 flips.toNat = 2 → Completes (.memoryRead m b flips false 1) s (fun e =>
    e.mem.resp = some ⟨m.toNat, a.toNat, 0, 1⟩ ∧ e.mem.main = s.dev.mem.main ∧
    e.fld rMEM_UE_CNT fMEM_UE_CNT_COUNT = satInc (s.dev.fld rMEM_UE_CNT fMEM_UE_CNT_COUNT) fMEM_UE_CNT_COUNT.w ∧ e.rd rMEM_UE_ADDR = a.toNat ∧
    e.flag rMEM_STATUS fMEM_STATUS_UE = true))

/-- R373, R374: a patrol read of a sound word changes no word and goes on to the next; the end of a period shows a bank that was not finished; the end
of a span's zeroing clears its INIT bit and nothing else, for the words are zero from its begin on. -/
def ScrubAndZeroing (s : State) (bank : Fin 272) (span : Fin 4) : Prop :=
  (s.dev.flag rMEM_CTRL fMEM_CTRL_SCRUB_EN = false → Becomes (.patrolScrubRead bank 0) s s.dev ∧ Becomes .scrubPeriodEnd s s.dev) ∧
  (s.dev.flag rMEM_CTRL fMEM_CTRL_SCRUB_EN = true → s.dev.mem.mainErr = [] → PlainMain s.dev → s.dev.scrubPos bank < 65535 →
    Completes (.patrolScrubRead bank 0) s (fun e =>
      e.scrubPos bank = s.dev.scrubPos bank + 1 ∧ e.mem.main = s.dev.mem.main ∧ e.mem.mainErr = [] ∧ RegsKeep [] s.dev e)) ∧
  (s.dev.flag rMEM_CTRL fMEM_CTRL_SCRUB_EN = true → Completes .scrubPeriodEnd s (fun e =>
    e.rd rMEM_SCRUB_PASS = (s.dev.rd rMEM_SCRUB_PASS + 1) % 2 ^ 24 ∧ (s.dev.scrubPos bank < 65536 → e.flag rMEM_STATUS fMEM_STATUS_SCRUB_LATE = true) ∧
    e.mem.main = s.dev.mem.main ∧ e.mem.mainErr = s.dev.mem.mainErr ∧ RegsKeep ([rMEM_SCRUB_PASS, rMEM_STATUS] ++ raiseRegs rMEM_STATUS) s.dev e)) ∧
  (natBit (s.dev.rd rMEM_STATUS) (20 + span) = false → Becomes (.spanZeroed span) s s.dev) ∧
  (natBit (s.dev.rd rMEM_STATUS) (20 + span) = true → (s.dev.pwr.stage = 3 → ∀ u ∈ s.dev.flt.retired, u.1 ≠ 4) → Completes (.spanZeroed span) s (fun e =>
    natBit (e.rd rMEM_STATUS) (20 + span) = false ∧ (∀ k < 4, k ≠ span.val → natBit (e.rd rMEM_STATUS) (20 + k) = natBit (s.dev.rd rMEM_STATUS) (20 + k)) ∧
    OnlyRegs [rMEM_STATUS] s.dev e))

/-- R32, R376 to R378: GO starts a replacement by an idle spare of the bank's span, which holds the span's recovery slot where no other unit does, and
is refused otherwise; ABORT ends it, and the recovery that it served, with the bank as it was; its
end puts the spare in the bank's place, with every word of main memory as it was. -/
def SparesTakeOver (s : State) (j : Fin 16) (b : Fin 256) : Prop :=
  (j.val / 4 = b.val / 64 → s.dev.fld (rMEM_SPARE j) fMEM_SPARE_STATE = 0 → s.dev.copyRunning (b.val / 64) = false → s.dev.flt.spans.length = 4 →
    ((s.dev.span (b.val / 64)).busy = none → Completes (.spareGo j b) s (fun e =>
      e.fld (rMEM_SPARE j) fMEM_SPARE_STATE = 1 ∧ e.fld (rMEM_SPARE j) fMEM_SPARE_FOR = b.val ∧ natBit (e.rd rMEM_STATUS) (16 + b.val / 64) = true ∧
      e.flag rMEM_SPARE_CTRL fMEM_SPARE_CTRL_GO = true ∧ (e.span (b.val / 64)).busy = some [4, s.dev.physBank b, 4, 256 + j.val] ∧ e.mem = s.dev.mem ∧
      RegsKeep ([rMEM_SPARE_CTRL, rMEM_SPARE j, rMEM_COPY_POS (b.val / 64), rMEM_STATUS, rFLT_JOURNAL_NEXT, rDBG_STL_OVW_CNT] ++ slotRegs) s.dev e)) ∧
    ((s.dev.span (b.val / 64)).busy.isSome = true → Completes (.spareGo j b) s (fun e =>
      e.fld (rMEM_SPARE j) fMEM_SPARE_STATE = 1 ∧ e.fld (rMEM_SPARE j) fMEM_SPARE_FOR = b.val ∧ natBit (e.rd rMEM_STATUS) (16 + b.val / 64) = true ∧
      e.flag rMEM_SPARE_CTRL fMEM_SPARE_CTRL_GO = true ∧ e.flt = s.dev.flt ∧ e.mem = s.dev.mem ∧
      RegsKeep ([rMEM_SPARE_CTRL, rMEM_SPARE j, rMEM_COPY_POS (b.val / 64), rMEM_STATUS] ++ slotRegs) s.dev e))) ∧
  (j.val / 4 ≠ b.val / 64 → Completes (.spareGo j b) s (fun e =>
    e.flag rMEM_STATUS fMEM_STATUS_SPARE_BAD = true ∧ e.mem = s.dev.mem ∧
    RegsKeep ([rMEM_SPARE_CTRL, rMEM_STATUS] ++ raiseRegs rMEM_STATUS ++ slotRegs) s.dev e)) ∧
  (s.dev.fld (rMEM_SPARE j) fMEM_SPARE_STATE ≠ 1 → Becomes (.spareAbort j) s s.dev ∧ Becomes (.spareRemap j) s s.dev) ∧
  (s.dev.fld (rMEM_SPARE j) fMEM_SPARE_STATE = 1 → s.dev.fld (rMEM_SPARE j) fMEM_SPARE_FOR = b.val →
    ((s.dev.span (j.val / 4)).queue = [] → (s.dev.span (j.val / 4)).waiting = [] → s.dev.flt.spans.length = 4 →
      Completes (.spareAbort j) s (fun e => e.rd (rMEM_SPARE j) = 0 ∧ e.mem = s.dev.mem ∧
        ((s.dev.span (j.val / 4)).busy = some [4, s.dev.physBank b, 4, 256 + j.val] → (e.span (j.val / 4)).busy = none) ∧
        RegsKeep ([rMEM_SPARE j, rMEM_STATUS, rMEM_SPARE_CTRL, rFLT_JOURNAL_NEXT, rDBG_STL_OVW_CNT] ++ slotRegs) s.dev e)) ∧
    ((s.dev.span (j.val / 4)).busy.isSome = true ∨ (s.dev.span (j.val / 4)).waiting = [] → (∀ k < 16, k ≠ j.val → s.dev.fld (rMEM_SPARE k) fMEM_SPARE_STATE = 0) → s.dev.mem.mainErr = [] →
      Completes (.spareRemap j) s (fun e =>
        e.fld (rMEM_SPARE j) fMEM_SPARE_STATE = 2 ∧ e.physBank b = 256 + j.val ∧ ∀ a < 0x1000000, e.peek a = s.dev.peek a)))

/-- R382 to R384: LPDDR5X is trained when it is enabled, and answers once training has ended well; the zeroing of the exchange memory ends once. -/
def OtherMemoriesStart (s : State) (v : Reg) : Prop :=
  (natBit (s.dev.rd rMEM_DDR_CFG) 23 = false → natBit v.toNat 23 = true → natBits v.toNat 20 3 < 4 → natBits v.toNat 17 3 < 4 →
    Completes (.ddrEnable v) s (fun e => e.mem.ddrTraining = true ∧ e.rd rMEM_DDR_CFG = natBits v.toNat 17 7 * 2 ^ 17 ∧
      e.flag rMEM_DDR_STATUS fMEM_DDR_STATUS_READY = s.dev.flag rMEM_DDR_STATUS fMEM_DDR_STATUS_READY)) ∧
  (natBit (s.dev.rd rMEM_DDR_CFG) 23 = true → natBit v.toNat 23 = true → Becomes (.ddrEnable v) s s.dev) ∧
  (natBit (s.dev.rd rMEM_DDR_CFG) 23 = true → natBit v.toNat 23 = false → Completes (.ddrEnable v) s (fun e =>
    e.flag rMEM_DDR_STATUS fMEM_DDR_STATUS_READY = false ∧ e.ddrWords = 0 ∧ e.mem.ddrTraining = false)) ∧
  (s.dev.mem.ddrTraining = false → s.dev.flt.held = [] → Becomes (.ddrTrained true) s s.dev) ∧
  (s.dev.mem.ddrTraining = true → Completes (.ddrTrained true) s (fun e =>
    e.flag rMEM_DDR_STATUS fMEM_DDR_STATUS_READY = true ∧ e.ddrWords = ddrSize (natBits (s.dev.rd rMEM_DDR_CFG) 17 3) ∧ e.mem.ddrTraining = false) ∧
    Completes (.ddrTrained false) s (fun e => e.flag rMEM_DDR_STATUS fMEM_DDR_STATUS_TRAIN_FAIL = true ∧ e.mem.ddrTraining = false)) ∧
  (s.dev.mem.exBusy = false → Becomes .exchangeZeroed s s.dev) ∧
  (s.dev.mem.exBusy = true → Completes .exchangeZeroed s (fun e => e.mem = { s.dev.mem with exBusy := false }))

end Sys2Proof.Machine

/-- R350, R354, R360, R361: the base is applied, triggers are declared, freed slabs are scrubbed. Each of these answers a next state with its own
effect, on conditions of the state and the operands alone: configStartApply, slabScrubDone, triggerDeclared, canFdFrame. -/
def Obligations.ConfigurationsStartAndTrigger : Prop :=
  ∀ s : State, BaseIsApplied s ∧ (∀ k, SlabIsScrubbed s k) ∧ (∀ i, TriggerIsDeclared s i) ∧
    ∀ ctl ide id data i w0 w1, CanFrameSetsConditions s ctl ide id data i w0 w1

/-- R370 to R378, R382 to R384: what the memories' commands do to words, wrong bits, spares and spans. Each of these answers a next state with its
own effect, on conditions of the state and the operands alone: memoryRead, memoryWrite, bitSetStore, bitClearStore, patrolScrubRead, scrubPeriodEnd,
spanZeroed, spareGo, spareAbort, spareRemap, ddrEnable, ddrTrained, exchangeZeroed. -/
def Obligations.MemoriesHoldTheirWords : Prop :=
  ∀ s : State, (∀ m a v mask held, WordsAreStored s m a v mask held) ∧ (∀ m a v, AliasesSetAndClear s m a v) ∧
    (∀ m a flips, WrongBitsAreMet s m a flips) ∧ (∀ bank span, ScrubAndZeroing s bank span) ∧ (∀ j b, SparesTakeOver s j b) ∧
    ∀ v, OtherMemoriesStart s v

/-- Every memory keeps its canonical form in every step, whatever command it runs and in an idle clock: addresses rising, nothing listed that an
unlisted place reads as (log entry 6). -/
def Obligations.MemoryCommandsKeepTheForm : Prop :=
  ∀ s t : State, Memory.wf s.dev.mem = true → step s = .next t → Memory.wf t.dev.mem = true

/-! ### Chapter 16: DMA and the blitter -/

namespace Sys2Proof.Machine

/-- The words `ws` stand from `a` on in main memory, where the owner of channel `c` may read, in memory that answers at once. -/
def Dev.HoldsFor (d : Dev) (c a : Nat) (ws : List Nat) : Prop :=
  PlainMain d ∧ a + ws.length ≤ 0x1000000 ∧ ∀ i < ws.length, d.mayMain (d.chOwner c) (a + i) = true ∧ (d.peek (a + i)).toNat = ws.getD i 0

/-- Channel `c` runs, its unit's branch open, is about to fetch, and the words of its program there are `ws`. -/
def AtProgram (d : Dev) (c : Nat) (ws : List Nat) : Prop :=
  d.gated 25 = false ∧ d.chState c = 1 ∧ (d.chan c).burst = 0 ∧ d.flag rDMA_CTRL fDMA_CTRL_EN = true ∧ d.dma.ch.length = 32 ∧ d.HoldsFor c (d.chPc c) ws

/-- The registers that a channel's progress shows in. -/
def chRegs (c : Nat) : List Nat := [rDMA_CH_STATUS c, rDMA_CH_PC_LO c, rDMA_CH_PC_HI c]

/-- The registers that a channel's halt shows in. -/
def haltRegs (c : Nat) : List Nat := chRegs c ++ [rDMA_STATUS0, rDMA_STATUS1] ++ [rIRQC_SRC 296, rIRQC_COAL_CNT]

/-- The channel has halted with this cause (R389, R391). -/
def HaltedBy (c cause : Nat) (d e : Dev) : Prop :=
  e.chState c = 3 ∧ e.fld (rDMA_CH_STATUS c) fDMA_CH_STATUS_CAUSE = cause ∧ natBit (e.rd (if c < 24 then rDMA_STATUS0 else rDMA_STATUS1)) (c % 24) = true ∧
    e.mem.main = d.mem.main ∧ RegsKeep (haltRegs c) d e

/-- Nothing but channel `c` and the fabric's last answer is touched. -/
def ChanOnly (c : Nat) (d e : Dev) : Prop :=
  e.mem.main = d.mem.main ∧ (∀ k, k ≠ c → e.chan k = d.chan k) ∧ RegsKeep (chRegs c) d e

/-- R387: a start makes a channel that neither runs nor waits run from DMAc_PROG, with no loop open; one that does is left alone and counted
busy. -/
def ChannelStarts (s : State) (c : Fin 32) (v : Reg) : Prop :=
  natBit v.toNat 22 = false → s.dev.dma.ch.length = 32 → s.dev.pier 29 = 0 → s.dev.pwr.entering = [] →
  (s.dev.chState c = 0 ∨ s.dev.chState c = 3 → Completes (.dmaStartWrite c v) s (fun e =>
    e.chState c = 1 ∧ e.chPc c = s.dev.rd40 (rDMA_CH_PROG_LO c) (rDMA_CH_PROG_HI c) ∧ e.chan c = Chan.idle ∧
    e.fld (rDMA_CH_STATUS c) fDMA_CH_STATUS_CAUSE = 0 ∧ e.fld (rDMA_CH_STATUS c) fDMA_CH_STATUS_DEPTH = 0 ∧
    e.rd (rDMA_CH_CTRL c) = v.toNat &&& 0x3FF000 ∧ e.mem = s.dev.mem ∧ RegsKeep (rDMA_CH_CTRL c :: chRegs c) s.dev e)) ∧
  (s.dev.chState c = 1 ∨ s.dev.chState c = 2 → Completes (.dmaStartWrite c v) s (fun e =>
    e.chState c = s.dev.chState c ∧ e.chan c = s.dev.chan c ∧ e.chPc c = s.dev.chPc c ∧
    e.flag (rDMA_CH_STATUS c) fDMA_CH_STATUS_START_BUSY = true ∧ e.mem = s.dev.mem))

/-- R388, R411: a stop ends a program at once, at the end of its burst where one is in flight; a start that comes with it then runs the program
from DMAc_PROG. -/
def ChannelStops (s : State) (c : Fin 32) (v : Reg) : Prop :=
  s.dev.dma.ch.length = 32 → s.dev.pier 29 = 0 → s.dev.pwr.entering = [] →
  (natBit v.toNat 23 = false → (s.dev.chState c = 0 ∨ s.dev.chState c = 3) → Completes (.dmaStopWrite c v) s (fun e =>
    e.dma = s.dev.dma ∧ e.mem = s.dev.mem ∧ RegsKeep [rDMA_CH_CTRL c] s.dev e)) ∧
  (natBit v.toNat 23 = false → (s.dev.chState c = 2 ∨ (s.dev.chState c = 1 ∧ (s.dev.chan c).burst ≠ 2)) → Completes (.dmaStopWrite c v) s (fun e =>
    e.chState c = 0 ∧ e.flag (rDMA_CH_STATUS c) fDMA_CH_STATUS_STOPPED = true ∧ e.chan c = Chan.idle ∧ e.mem = s.dev.mem)) ∧
  (natBit v.toNat 23 = false → s.dev.chState c = 1 → (s.dev.chan c).burst = 2 → Completes (.dmaStopWrite c v) s (fun e =>
    e.chState c = 1 ∧ (e.chan c).stopReq = true ∧ e.chan c = { s.dev.chan c with stopReq := true, stopAt := (e.chan c).stopAt } ∧ e.mem = s.dev.mem)) ∧
  (natBit v.toNat 23 = true → s.dev.chState c = 1 → (s.dev.chan c).burst = 2 → (s.dev.chan c).stopReq = false → Completes (.dmaStopWrite c v) s (fun e =>
    e.chState c = 1 ∧ e.chan c = { s.dev.chan c with stopReq := true, stopAt := s.dev.btu.clocks, again := true } ∧ e.mem = s.dev.mem)) ∧
  (natBit v.toNat 23 = true → (s.dev.chState c ≠ 1 ∨ (s.dev.chan c).burst ≠ 2) → Completes (.dmaStopWrite c v) s (fun e =>
    e.chState c = 1 ∧ e.chPc c = s.dev.rd40 (rDMA_CH_PROG_LO c) (rDMA_CH_PROG_HI c) ∧ e.mem = s.dev.mem))

/-- R390: MOVE takes its two addresses, counted on from SA and DA where its modes say so, and its number of words. -/
def DmaMoves (s : State) (c : Fin 32) (w w1 w2 : Nat) : Prop :=
  let x := s.dev.chan c
  AtProgram s.dev c [w, w1, w2] → natBits w 44 4 = 1 → natBits w 24 16 = 0 → natBits w 42 2 ≠ 3 → natBits w 40 2 ≠ 3 →
  (w1 < 2 ^ 40 → w2 < 2 ^ 40 → Completes (.dmaMove c) s (fun e =>
    (e.chan c).move = some ⟨(if natBits w 42 2 = 1 then (x.sa + w1) % 2 ^ 40 else w1), (if natBits w 40 2 = 1 then (x.da + w2) % 2 ^ 40 else w2),
      natBits w 42 2, natBits w 40 2, natBits w 0 24 + 1⟩ ∧ (e.chan c).burst ≠ 0 ∧ e.chPc c = s.dev.chPc c + 3 ∧ e.chState c = 1 ∧
    e.mem.main = s.dev.mem.main ∧ RegsKeep (chRegs c) s.dev e)) ∧
  (2 ^ 40 ≤ w1 ∨ 2 ^ 40 ≤ w2 → Completes (.dmaMove c) s (HaltedBy c 2 s.dev))

/-- R391: LOOP opens a loop of its count, at most four deep; with count 0 its body is passed over. ENDLOOP goes back while passes are left, and
falls through after the last. -/
def DmaLoops (s : State) (c : Fin 32) (w : Nat) : Prop :=
  let x := s.dev.chan c
  (AtProgram s.dev c [w] → natBits w 44 4 = 2 → natBits w 24 20 = 0 → x.loops.length < 4 → natBits w 0 24 ≠ 0 → Completes (.dmaLoop c) s (fun e =>
    e.chan c = { x with loops := ((s.dev.chPc c + 1) % 2 ^ 40, natBits w 0 24 - 1) :: x.loops } ∧ e.chPc c = (s.dev.chPc c + 1) % 2 ^ 40 ∧
    e.fld (rDMA_CH_STATUS c) fDMA_CH_STATUS_DEPTH = x.loops.length + 1 ∧ ChanOnly c s.dev e)) ∧
  (AtProgram s.dev c [w] → natBits w 44 4 = 2 → natBits w 24 20 = 0 → 4 ≤ x.loops.length → Completes (.dmaLoop c) s (HaltedBy c 3 s.dev)) ∧
  (AtProgram s.dev c [w, 0x300000000000] → w = 0x200000000000 → x.loops.length < 4 → Completes (.dmaLoop c) s (fun e =>
    e.chan c = x ∧ e.chPc c = s.dev.chPc c + 2 ∧ ChanOnly c s.dev e)) ∧
  (AtProgram s.dev c [w] → w = 0x300000000000 →
    (x.loops = [] → Completes (.dmaEndloop c) s (HaltedBy c 3 s.dev)) ∧
    ∀ body left rest, x.loops = (body, left) :: rest → body < 2 ^ 40 → rest.length < 4 →
      (left = 0 → Completes (.dmaEndloop c) s (fun e =>
        e.chan c = { x with loops := rest } ∧ e.chPc c = (s.dev.chPc c + 1) % 2 ^ 40 ∧
        e.fld (rDMA_CH_STATUS c) fDMA_CH_STATUS_DEPTH = rest.length ∧ ChanOnly c s.dev e)) ∧
      (left ≠ 0 → Completes (.dmaEndloop c) s (fun e =>
        e.chan c = { x with loops := (body, left - 1) :: rest } ∧ e.chPc c = body ∧ ChanOnly c s.dev e)))

/-- R392: WAIT for an event line, and WAIT for a BT: one that BT has reached goes on at once. What is awaited ends the wait. -/
def DmaWaits (s : State) (c : Fin 32) (w b : Nat) : Prop :=
  let x := s.dev.chan c
  (AtProgram s.dev c [w] → natBits w 44 4 = 4 → natBits w 8 36 = 0 → Completes (.dmaWait c) s (fun e =>
    e.chState c = 2 ∧ e.chan c = { x with wait := 1, arg := natBits w 0 8, woken := false } ∧ e.chPc c = s.dev.chPc c ∧ ChanOnly c s.dev e)) ∧
  (AtProgram s.dev c [w, b] → w = 0x480000000000 →
    (btGe s.dev.bt b = true → Completes (.dmaWait c) s (fun e => e.chState c = 1 ∧ e.chPc c = s.dev.chPc c + 2 ∧ e.mem.main = s.dev.mem.main)) ∧
    (btGe s.dev.bt b = false → Completes (.dmaWait c) s (fun e =>
      e.chState c = 2 ∧ e.chan c = { x with wait := 2, arg := b } ∧ e.chPc c = s.dev.chPc c ∧ ChanOnly c s.dev e))) ∧
  (s.dev.chState c ≠ 2 ∨ (x.wait = 1 ∧ x.woken = false) → Becomes (.dmaWaitSatisfied c) s s.dev) ∧
  (s.dev.gated 25 = false → s.dev.chState c = 2 → s.dev.dma.ch.length = 32 → x.wait = 1 → x.woken = true → Completes (.dmaWaitSatisfied c) s (fun e =>
    e.chState c = 1 ∧ e.chan c = { x with wait := 0, woken := false } ∧ e.chPc c = (s.dev.chPc c + 1) % 2 ^ 40 ∧ ChanOnly c s.dev e)) ∧
  (s.dev.gated 25 = false → s.dev.chState c = 2 → s.dev.dma.ch.length = 32 → x.wait = 2 → btGe s.dev.bt x.arg = true → (x.arg + 2 ^ 48 - s.dev.bt) % 2 ^ 48 ≠ 0 →
    x.arg < 2 ^ 48 → Completes (.dmaWaitSatisfied c) s (fun e =>
    e.chState c = 1 ∧ e.chPc c = (s.dev.chPc c + 2) % 2 ^ 40 ∧ e.btu = s.dev.btu ∧ ChanOnly c s.dev e))

/-- R393: SIGNAL raises its event line and goes on; HALT ends the program, with an event where its bit says so. -/
def DmaSignalsAndHalts (s : State) (c : Fin 32) (w : Nat) : Prop :=
  let l := natBits w 0 8
  (AtProgram s.dev c [w] → natBits w 44 4 = 5 → natBits w 8 36 = 0 → Completes (.dmaSignal c) s (fun e =>
    natBit (e.rd (rTRS_EV_LATCH (l / 24))) (l % 24) = true ∧ e.chPc c = (s.dev.chPc c + 1) % 2 ^ 40 ∧ e.chState c = 1 ∧ e.dma = s.dev.dma ∧
    e.mem.main = s.dev.mem.main)) ∧
  (AtProgram s.dev c [w] → natBits w 44 4 = 15 → natBits w 9 35 = 0 → Completes (.dmaHalt c) s (fun e =>
    e.chState c = 0 ∧ e.chan c = Chan.idle ∧ (natBit w 8 = true → natBit (e.rd (rTRS_EV_LATCH (l / 24))) (l % 24) = true) ∧
    (natBit w 8 = false → ChanOnly c s.dev e)))

/-- R389: a reserved instruction word halts the channel with cause 2, whichever row meets it; a row that is not the instruction at the
channel's address leaves all as it is (log entry 18), and so does any row while the channel does not run or its unit's branch is gated (R473). -/
def DmaRow (i : Instr) (op : Nat) (s : State) (c : Fin 32) (w : Nat) : Prop :=
  (AtProgram s.dev c [w] → chLen w = 0 → Completes i s (HaltedBy c 2 s.dev)) ∧
  (AtProgram s.dev c [w] → chLen w ≠ 0 → natBits w 44 4 ≠ op → Becomes i s s.dev) ∧
  (s.dev.chState c ≠ 1 ∨ s.dev.gated 25 = true → Becomes i s s.dev)

/-- R394, R395, R390, R388, R411: a burst in flight moves its words in ascending order, and the MOVE goes on behind them or is over; a stop that
waited for its end applies then, and the start that came with it after that. With EN at 1 the slots that are free go to channels that wait for one,
this one among them. -/
def BurstMovesWords (s : State) (c : Fin 32) (m : Move) : Prop :=
  let x := s.dev.chan c
  let n := min m.left (s.dev.fld (rDMA_CH_CTRL c) fDMA_CH_CTRL_BURST_M1 + 1)
  (x.burst ≠ 2 → s.dev.flag rDMA_CTRL fDMA_CTRL_EN = false → Becomes (.dmaBurstComplete c) s s.dev) ∧
  (s.dev.gated 25 = false → x.burst = 2 → x.move = some m → s.dev.dma.ch.length = 32 → PlainMain s.dev →
    m.smode ≤ 1 → m.dmode ≤ 1 → m.src + n ≤ 0x1000000 → m.dst + n ≤ 0x1000000 → (m.src + n ≤ m.dst ∨ m.dst + n ≤ m.src) → 0 < n →
    (∀ k < n, s.dev.mayMain (s.dev.chOwner c) (m.src + k) = true ∧ s.dev.mayMain (s.dev.chOwner c) (m.dst + k) = true) →
    Completes (.dmaBurstComplete c) s (fun e =>
      (∀ k < n, e.peek (m.dst + k) = s.dev.peek (m.src + k)) ∧
      (∀ a < 0x1000000, (a < m.dst ∨ m.dst + n ≤ a) → e.peek a = s.dev.peek a) ∧
      (x.stopReq = true → e.chan c = Chan.idle ∧ e.flag (rDMA_CH_STATUS c) fDMA_CH_STATUS_STOPPED = true ∧ (s.dev.chState c = 1 →
        s.dev.pier 29 = 0 → e.chState c = x.again.toNat ∧
          (x.again = true → e.chPc c = s.dev.rd40 (rDMA_CH_PROG_LO c) (rDMA_CH_PROG_HI c)))) ∧
      (x.stopReq = false → n = m.left → e.chan c = { x with sa := m.src + n, da := m.dst + n, move := none, burst := 0, tries := 0 }) ∧
      (x.stopReq = false → n < m.left → ∃ b, (b = 1 ∨ (b = 2 ∧ s.dev.flag rDMA_CTRL fDMA_CTRL_EN = true)) ∧
        e.chan c = { x with move := some { m with src := m.src + n, dst := m.dst + n, left := m.left - n }, burst := b, tries := 0 }) ∧
      (∀ k : Fin 32, k ≠ c → e.chan k = s.dev.chan k ∨
        (s.dev.flag rDMA_CTRL fDMA_CTRL_EN = true ∧ (s.dev.chan k).burst = 1 ∧ e.chan k = { s.dev.chan k with burst := 2, tries := 0 })) ∧
      (x.stopReq = false → RegsKeep [] s.dev e)))

/-! #### The blitter -/

/-- The device with the operation that a write of BLT_CTRL asks for in its registers. -/
def Dev.asked (d : Dev) (v op : Nat) : Dev := d.wr rBLT_CTRL (goValue v op &&& 0x3FC0FF)

/-- The blitter is idle and its unit is ON. -/
def BltIdle (d : Dev) : Prop := d.bltBusy = false ∧ d.pier 29 = 0 ∧ d.pwr.entering = [] ∧ d.blt.unit = none

/-- Pixel (x, y) lies inside the destination rectangle of an operation. -/
def BltOp.covers (o : BltOp) (x y : Nat) : Prop := o.dx ≤ x ∧ x < o.dx + o.dw ∧ o.dy ≤ y ∧ y < o.dy + o.dh

/-- The operation has been carried out in main memory: the pixels inside the rectangle are as `f` says, those outside it in its rows, and
every word outside its rows, are as before (R403, R406). BUSY and GO stay until BLT_DONE. -/
def Carried (o : BltOp) (f : Nat → Nat → Nat) (d e : Dev) : Prop :=
  (∀ u < o.dw, ∀ v < o.dh, e.surfPixel [] o.dst (o.dx + u) (o.dy + v) = f u v) ∧
  (∀ x y, (x + 1) * fmtBits o.dst.fmt ≤ o.dst.pitch * 48 → o.dy ≤ y → y < o.dy + o.dh → ¬ o.covers x y →
    e.surfPixel [] o.dst x y = d.surfPixel [] o.dst x y) ∧
  (∀ a < 0x1000000, (∀ v < o.dh, a < o.dst.base + (o.dy + v) * o.dst.pitch ∨ o.dst.base + (o.dy + v + 1) * o.dst.pitch ≤ a) → e.peek a = d.peek a) ∧
  e.bltBusy = true ∧ e.flag rBLT_CTRL fBLT_CTRL_GO = true ∧ (∃ r, e.blt.op = some r ∧ r.bad = none) ∧ RegsKeep [rBLT_CTRL, rBLT_STATUS] d e

/-- The operation may be carried out without a stop: it passes the checks of R405, in main memory, unclipped, its rectangles apart. -/
def BltReady (d : Dev) (o : BltOp) : Prop :=
  PlainMain d ∧ d.bltCause o = 0 ∧ 0 < o.w ∧ 0 < o.h ∧ d.fld rBLT_CLIP_CTRL fBLT_CLIP_CTRL_EN = 0 ∧ o.dst.base < 0x1000000 ∧
    (o.op ≠ 1 → o.src.base < 0x1000000 ∧ sharesWord o.src o.sx o.sy o.w o.h o.dst o.dx o.dy o.dw o.dh = false)

/-- R405, R401, R402, R404: an operation that fails its checks writes nothing and latches the cause; one without pixels completes at once;
the others fill, copy or blend their rectangle. -/
def BlitterRow (i : Instr) (op : Nat) (s : State) (v : Reg) (f : BltOp → Nat → Nat → Nat) : Prop :=
  let d := s.dev.asked v.toNat op
  let o := d.bltOp
  BltIdle s.dev →
  (d.bltCause o ≠ 0 → Completes i s (fun e =>
    e.flag rBLT_STATUS fBLT_STATUS_BAD = true ∧ e.fld rBLT_STATUS fBLT_STATUS_CAUSE = d.bltCause o ∧ e.bltBusy = false ∧ e.mem = s.dev.mem ∧
    e.rd rBLT_OP_CNT = s.dev.rd rBLT_OP_CNT)) ∧
  (d.bltCause o = 0 → o.w = 0 ∨ o.h = 0 → Completes i s (fun e =>
    e.bltBusy = false ∧ e.mem = s.dev.mem ∧ e.rd rBLT_OP_CNT = (s.dev.rd rBLT_OP_CNT + 1) % 2 ^ 24)) ∧
  (BltReady d o → Completes i s (Carried o (f o) s.dev))

/-- What each operation puts into destination pixel (u, v). -/
def pixFilled (o : BltOp) (_u _v : Nat) : Nat := o.fill % 2 ^ fmtBits o.dst.fmt
def pixCopied (d : Dev) (o : BltOp) (u v : Nat) : Nat :=
  let x := d.surfPixel [] o.src (o.sx + (o.from u v).1) (o.sy + (o.from u v).2)
  if o.transp0 ∧ o.src.fmt ≤ 2 ∧ x = 0 then d.surfPixel [] o.dst (o.dx + u) (o.dy + v) else x
def pixBlended (d : Dev) (o : BltOp) (u v : Nat) : Nat :=
  o.blend (d.surfPixel [] o.src (o.sx + (o.from u v).1) (o.sy + (o.from u v).2)) (d.surfPixel [] o.dst (o.dx + u) (o.dy + v))

/-- R408: while BUSY, a GO is ignored, and so is every parameter. -/
def BusyBlitterIgnores (i : Instr) (s : State) : Prop :=
  s.dev.bltBusy = true → s.dev.pier 29 = 0 → s.dev.pwr.entering = [] → Completes i s (fun e =>
    e.flag rBLT_STATUS fBLT_STATUS_GO_BUSY = true ∧ e.flag rBLT_STATUS fBLT_STATUS_WR_BUSY = true ∧ e.blt = s.dev.blt ∧ e.mem = s.dev.mem ∧
    e.fld rBLT_CTRL fBLT_CTRL_OP = s.dev.fld rBLT_CTRL fBLT_CTRL_OP ∧ e.fld rBLT_CTRL fBLT_CTRL_ROT = s.dev.fld rBLT_CTRL fBLT_CTRL_ROT)

/-- R397, R407: the operation carried out completes, is counted and raises its event; a burst that met a bus error is tried again, and the rest
after it, until RETRY_MAX retries have failed; then the blitter stops and shows the address. -/
def OperationEnds (s : State) (r : BltRun) (a : Nat) : Prop :=
  (s.dev.blt.op = none → Becomes .bltDone s s.dev) ∧
  (s.dev.gated 25 = true → Becomes .bltDone s s.dev) ∧
  (s.dev.gated 25 = false → s.dev.blt = ⟨some r, none⟩ → r.bad = none → Completes .bltDone s (fun e =>
    e.blt = ⟨none, none⟩ ∧ e.bltBusy = false ∧ e.flag rBLT_CTRL fBLT_CTRL_GO = false ∧ e.rd rBLT_OP_CNT = (s.dev.rd rBLT_OP_CNT + 1) % 2 ^ 24 ∧ e.mem = s.dev.mem ∧
    (s.dev.flag rBLT_CTRL fBLT_CTRL_EV_EN = true →
      natBit (e.rd (rTRS_EV_LATCH (s.dev.fld rBLT_CTRL fBLT_CTRL_EV / 24))) (s.dev.fld rBLT_CTRL fBLT_CTRL_EV % 24) = true))) ∧
  (s.dev.gated 25 = false → s.dev.blt.op = some r → r.bad = some a → r.tries < s.dev.fld rDMA_CTRL fDMA_CTRL_RETRY_MAX →
    Becomes .bltDone s ((s.dev.bump rDMA_RETRY_CNT fDMA_RETRY_CNT_COUNT).bltRun s.dev.bltOp { r with tries := r.tries + 1 })) ∧
  (s.dev.gated 25 = false → s.dev.blt.op = some r → r.bad = some a → s.dev.fld rDMA_CTRL fDMA_CTRL_RETRY_MAX ≤ r.tries → a < 2 ^ 40 → Completes .bltDone s (fun e =>
    e.blt = ⟨none, none⟩ ∧ e.bltBusy = false ∧ e.flag rBLT_STATUS fBLT_STATUS_BUS_ERR = true ∧ e.rd40 rBLT_ERR_LO rBLT_ERR_HI = a ∧
    e.rd rBLT_OP_CNT = s.dev.rd rBLT_OP_CNT ∧ e.mem = s.dev.mem))

/-- R409: a list starts at its address while the blitter is idle, and is ignored while it is busy. -/
def ListStarts (s : State) (v : Reg) : Prop :=
  (BltIdle s.dev → Completes (.bltListStart v) s (fun e =>
    e.flag rBLT_STATUS fBLT_STATUS_LIST = true ∧ e.bltBusy = true ∧ e.blt = ⟨s.dev.blt.op, some 0⟩ ∧ e.mem = s.dev.mem ∧
    e.rd40 rBLT_LIST_LO rBLT_LIST_HI = s.dev.staged rBLT_LIST_LO % 2 ^ 24 + v.toNat % 65536 * 2 ^ 24)) ∧
  (s.dev.bltBusy = true → s.dev.pier 29 = 0 → s.dev.pwr.entering = [] → Completes (.bltListStart v) s (fun e =>
    e.flag rBLT_STATUS fBLT_STATUS_GO_BUSY = true ∧ e.blt = s.dev.blt ∧ e.mem = s.dev.mem ∧
    e.rd40 rBLT_LIST_LO rBLT_LIST_HI = s.dev.rd40 rBLT_LIST_LO rBLT_LIST_HI))

/-- Unit `k` of the list: three 32-bit units to two words, in main memory (R409, R87). -/
def Dev.unitOf (d : Dev) (k : Nat) : Nat :=
  streamBits (fun i => (d.peek (d.rd40 rBLT_LIST_LO rBLT_LIST_HI + i)).toNat) (32 * k) 32

/-- The running list is about to execute the command with header (op, n, imm) at unit `k`, with the units `us` behind it. -/
def AtCommand (d : Dev) (k op n imm : Nat) (us : List Nat) : Prop :=
  PlainMain d ∧ d.gated 25 = false ∧ d.blt = ⟨none, some k⟩ ∧ d.rd40 rBLT_LIST_LO rBLT_LIST_HI + (32 * (k + us.length + 1) + 47) / 48 < 0x1000000 ∧
    d.unitOf k = op * 2 ^ 26 + n * 2 ^ 16 + imm ∧ op < 64 ∧ n < 1024 ∧ imm < 65536 ∧ ∀ i < us.length, d.unitOf (k + 1 + i) = us.getD i 0

/-- The native format of a YT5210 format code (R409). -/
def ytFormats : List Nat := [4, 5, 6, 2, 3, 1]

/-- R409, R410: a surface command loads BASE, PITCH and FORMAT; a refused format stops the list. -/
def YtSurface (i : Instr) (s : State) (op lo hi fmt k imm u1 u2 : Nat) : Prop :=
  AtCommand s.dev k op 2 imm [u1, u2] →
  (∀ f, ytFormats[imm % 16]? = some f → Completes i s (fun e =>
    e.rd40 lo hi = (s.dev.rd40 rBLT_ORG_LO rBLT_ORG_HI + u1) % 2 ^ 40 ∧ e.rd fmt = f * 2 ^ 20 + u2 % 65536 ∧ e.blt = ⟨none, some (k + 3)⟩ ∧
    e.mem.main = s.dev.mem.main ∧ RegsKeep [lo, hi, fmt, rBLT_LIST_PC_LO, rBLT_LIST_PC_HI] s.dev e)) ∧
  (ytFormats[imm % 16]? = none → Completes i s (fun e =>
    e.flag rBLT_STATUS fBLT_STATUS_LIST_BAD = true ∧ e.flag rBLT_STATUS fBLT_STATUS_LIST = false ∧ e.bltBusy = false ∧ e.blt = ⟨none, none⟩))

/-- R409: CLIP loads one clip rectangle and its enable. -/
def YtClips (s : State) (k imm u1 u2 : Nat) : Prop :=
  let j := imm % 4
  AtCommand s.dev k 3 2 imm [u1, u2] → Completes .ytClip s (fun e =>
    e.rd (rBLT_CLIP j 0) = u1 / 65536 % 8192 ∧ e.rd (rBLT_CLIP j 1) = u1 % 8192 ∧ e.rd (rBLT_CLIP j 2) = u2 / 65536 % 8192 ∧
    e.rd (rBLT_CLIP j 3) = u2 % 8192 ∧ natBit (e.rd rBLT_CLIP_CTRL) j = natBit imm 2 ∧ e.blt = ⟨none, some (k + 3)⟩ ∧
    RegsKeep [rBLT_CLIP j 0, rBLT_CLIP j 1, rBLT_CLIP j 2, rBLT_CLIP j 3, rBLT_CLIP_CTRL, rBLT_LIST_PC_LO, rBLT_LIST_PC_HI] s.dev e)

/-- R409, R410: COPY, FILL and BLEND load the registers they name and start that operation, which the list then waits for; a refused one stops
the list. -/
def YtOperation (i : Instr) (s : State) (op native k imm u1 u2 u3 : Nat) : Prop :=
  AtCommand s.dev k op 3 imm [u1, u2, u3] →
  Completes i s (fun e =>
    (op = 4 → 6 ≤ imm % 8 → e.flag rBLT_STATUS fBLT_STATUS_LIST_BAD = true ∧ e.blt = ⟨none, none⟩ ∧ e.mem.main = s.dev.mem.main) ∧
    (¬ (op = 4 ∧ 6 ≤ imm % 8) →
      e.fld rBLT_CTRL fBLT_CTRL_OP = native ∧ e.rd rBLT_W = u2 / 65536 % 8192 ∧ e.rd rBLT_H = u2 % 8192 ∧
      e.rd rBLT_DX = (if op = 5 then u1 else u3) / 65536 % 8192 ∧ e.rd rBLT_DY = (if op = 5 then u1 else u3) % 8192 ∧
      (op ≠ 5 → e.rd rBLT_SX = u1 / 65536 % 8192 ∧ e.rd rBLT_SY = u1 % 8192) ∧
      (op = 4 → e.fld rBLT_CTRL fBLT_CTRL_ROT = (if imm % 8 ≤ 3 then imm % 8 else 0) ∧ e.flag rBLT_CTRL fBLT_CTRL_HFLIP = (imm % 8 == 4) ∧
        e.flag rBLT_CTRL fBLT_CTRL_VFLIP = (imm % 8 == 5) ∧ e.flag rBLT_CTRL fBLT_CTRL_TRANSP0 = natBit imm 3) ∧
      (op = 5 → e.rd rBLT_FILL_LO = u3 % 2 ^ 24 ∧ e.rd rBLT_FILL_HI = u3 / 2 ^ 24) ∧
      (op = 6 → e.rd rBLT_ALPHA = imm % 256) ∧
      (e.blt.unit = some ((k : Int) + 4) ∨ (e.blt = ⟨none, none⟩ ∧ e.flag rBLT_STATUS fBLT_STATUS_LIST_BAD = true))))

/-- R409, R410: SIGNAL raises its event line, JUMP goes on at its header plus a signed offset, END ends the list. -/
def YtControls (s : State) (k imm u1 : Nat) : Prop :=
  (AtCommand s.dev k 7 0 imm [] → Completes .ytSignal s (fun e =>
    natBit (e.rd (rTRS_EV_LATCH (imm % 256 / 24))) (imm % 256 % 24) = true ∧ e.blt = ⟨none, some (k + 1)⟩ ∧ e.mem.main = s.dev.mem.main)) ∧
  (AtCommand s.dev k 8 1 imm [u1] → u1 < 2 ^ 32 → Completes .ytJump s (fun e =>
    e.blt = ⟨none, some (k + (if u1 < 2 ^ 31 then (u1 : Int) else u1 - 2 ^ 32))⟩ ∧ e.mem.main = s.dev.mem.main ∧
    RegsKeep [rBLT_LIST_PC_LO, rBLT_LIST_PC_HI] s.dev e)) ∧
  (AtCommand s.dev k 0x3F 0 imm [] → Completes .ytEnd s (fun e =>
    e.blt = ⟨none, none⟩ ∧ e.flag rBLT_STATUS fBLT_STATUS_LIST = false ∧ e.bltBusy = false ∧ e.mem.main = s.dev.mem.main ∧
    RegsKeep [rBLT_STATUS, rBLT_LIST_PC_LO, rBLT_LIST_PC_HI] s.dev e))

/-- R410: an unlisted OP or a wrong N stops the list, whichever row meets it; a row that is not the command at the list's unit changes nothing
(log entry 18); none does while no list runs, its operation goes on or the unit's branch is gated (R473). -/
def YtRow (i : Instr) (own : Nat) (s : State) (k op n imm : Nat) : Prop :=
  (AtCommand s.dev k op n imm [] → (op, n) ∉ [(1, 2), (2, 2), (3, 2), (4, 3), (5, 3), (6, 3), (7, 0), (8, 1), (0x3F, 0)] →
    Completes i s (fun e => e.flag rBLT_STATUS fBLT_STATUS_LIST_BAD = true ∧ e.flag rBLT_STATUS fBLT_STATUS_LIST = false ∧ e.bltBusy = false ∧
      e.blt = ⟨none, none⟩ ∧ e.mem.main = s.dev.mem.main)) ∧
  (AtCommand s.dev k op n imm [] → (op, n) ∈ [(1, 2), (2, 2), (3, 2), (4, 3), (5, 3), (6, 3), (7, 0), (8, 1), (0x3F, 0)] → op ≠ own →
    Becomes i s s.dev) ∧
  (s.dev.blt.unit = none ∨ s.dev.blt.op ≠ none ∨ s.dev.gated 25 = true → Becomes i s s.dev)

end Sys2Proof.Machine

/-- R386 to R397, R411: starts, stops, every instruction of a channel's program, and its bursts. Each of these answers a next state with its own
effect, on conditions of the state and the operands alone: dmaStartWrite, dmaStopWrite, dmaMove, dmaLoop, dmaEndloop, dmaWait, dmaWaitSatisfied,
dmaSignal, dmaHalt, dmaBurstComplete. -/
def Obligations.ChannelsRunTheirPrograms : Prop :=
  ∀ s : State, (∀ c v, ChannelStarts s c v ∧ ChannelStops s c v) ∧ (∀ c w w1 w2, DmaMoves s c w w1 w2) ∧
    (∀ c w, DmaLoops s c w ∧ DmaSignalsAndHalts s c w ∧ ∀ b, DmaWaits s c w b) ∧ (∀ c m, BurstMovesWords s c m) ∧
    (∀ c w, DmaRow (.dmaMove c) 1 s c w ∧ DmaRow (.dmaLoop c) 2 s c w ∧ DmaRow (.dmaEndloop c) 3 s c w ∧ DmaRow (.dmaWait c) 4 s c w ∧
      DmaRow (.dmaSignal c) 5 s c w ∧ DmaRow (.dmaHalt c) 15 s c w)

/-- R401 to R410: the blitter's operations, their ends, and every command of its lists. Each of these answers a next state with its own effect, on
conditions of the state and the operands alone: bltCopy, bltFill, bltBlend, bltDone, bltListStart, ytSrc, ytDst, ytClip, ytCopy, ytFill, ytBlend,
ytSignal, ytJump, ytEnd. -/
def Obligations.BlitterDrawsRectangles : Prop :=
  ∀ s : State, (∀ v : Reg,
      BlitterRow (.bltCopy v) 0 s v (pixCopied (s.dev.asked v.toNat 0)) ∧ BlitterRow (.bltFill v) 1 s v pixFilled ∧
      BlitterRow (.bltBlend v) 2 s v (pixBlended (s.dev.asked v.toNat 2)) ∧
      BusyBlitterIgnores (.bltCopy v) s ∧ BusyBlitterIgnores (.bltFill v) s ∧ BusyBlitterIgnores (.bltBlend v) s ∧ ListStarts s v) ∧
    (∀ r a, OperationEnds s r a) ∧
    (∀ k imm u1 u2, YtSurface .ytSrc s 1 rBLT_SRC_LO rBLT_SRC_HI rBLT_SRC_FMT k imm u1 u2 ∧
      YtSurface .ytDst s 2 rBLT_DST_LO rBLT_DST_HI rBLT_DST_FMT k imm u1 u2 ∧ YtClips s k imm u1 u2) ∧
    (∀ k imm u1 u2 u3, YtOperation .ytCopy s 4 0 k imm u1 u2 u3 ∧ YtOperation .ytFill s 5 1 k imm u1 u2 u3 ∧
      YtOperation .ytBlend s 6 2 k imm u1 u2 u3) ∧
    (∀ k imm u1, YtControls s k imm u1) ∧
    (∀ k op n imm, YtRow .ytSrc 1 s k op n imm ∧ YtRow .ytDst 2 s k op n imm ∧ YtRow .ytClip 3 s k op n imm ∧ YtRow .ytCopy 4 s k op n imm ∧
      YtRow .ytFill 5 s k op n imm ∧ YtRow .ytBlend 6 s k op n imm ∧ YtRow .ytSignal 7 s k op n imm ∧ YtRow .ytJump 8 s k op n imm ∧
      YtRow .ytEnd 0x3F s k op n imm)

/-! ### Chapter 17: audio -/

namespace Sys2Proof.Machine

/-- R417, R420: a start that reaches the unit in time starts its voice at position 0 in attack, counts it, shows it active and arms the monitors
that name it; a wave that does not fit refuses it. -/
def VoiceStarts (s : State) (k : Fin 6) (v : Reg) (n : Nat) : Prop :=
  v.toNat = 2 ^ (n % 24) → n / 24 = k.val → n < 128 → s.dev.pier 28 = 0 → s.dev.pwr.entering = [] → s.dev.aud.voices.length = 128 →
  s.dev.rd (rAUD_VSTART k) = 0 →
  (64 ≤ s.dev.audLeft → s.dev.audOn = true → s.dev.badVoice n = false → Completes (.audVstartWrite k v) s (fun e =>
    (e.voice n).st = 1 ∧ (e.voice n).pos = 0 ∧ (e.voice n).t = 0 ∧ (e.voice n).loops = 0 ∧ (e.voice n).amp0 = s.dev.envAmp n (s.dev.envSettle n (s.dev.voice n)) ∧
    (∀ m < 128, m ≠ n → e.voice m = s.dev.voice m) ∧ natBit (e.rd (rAUD_VACTIVE k)) (n % 24) = true ∧ e.rd (rAUD_VSTART k) = 0 ∧
    e.rd rAUD_START_CNT = (s.dev.rd rAUD_START_CNT + 1) % 2 ^ 24 ∧
    ((s.dev.voice n).st = 0 → s.dev.aud.gains.length = 147 → (e.ramp n).value = s.dev.fld (rAUD_VOICE_GAIN n) fAUD_VOICE_GAIN_ATTEN * 65536) ∧
    (∀ m < 8, s.dev.flag (rAUD_MON_CTRL m) fAUD_MON_CTRL_EN = true → s.dev.fld (rAUD_MON_CTRL m) fAUD_MON_CTRL_VOICE = n →
      e.flag (rAUD_MON_RESULT m) fAUD_MON_RESULT_ARMED = true) ∧ e.mem = s.dev.mem)) ∧
  (64 ≤ s.dev.audLeft → s.dev.audOn = true → s.dev.badVoice n = true → Completes (.audVstartWrite k v) s (fun e =>
    e.aud = s.dev.aud ∧ e.flag rAUD_STATUS fAUD_STATUS_BAD_VOICE = true ∧ e.rd rAUD_START_CNT = s.dev.rd rAUD_START_CNT)) ∧
  (s.dev.audLeft < 64 → Completes (.audVstartWrite k v) s (fun e =>
    e.aud = { s.dev.aud with pend := s.dev.aud.pend ++ [(true, n)] } ∧ e.rd (rAUD_VSTART k) = v.toNat ∧ RegsKeep [rAUD_VSTART k] s.dev e))

/-- R420: what refuses the start of a voice: for a wave, no length or words past the end of main memory; for any, a loop that begins behind
its end. -/
def BadVoices (d : Dev) (v : Nat) : Prop :=
  let ty := d.fld (rAUD_VOICE_CTRL v) fAUD_VOICE_CTRL_TYPE
  let len := d.rd (rAUD_VOICE_LEN v)
  let words := if ty = 0 then (len + 2) / 3 else 1 + (len + 11) / 12
  d.badVoice v = true ↔ (ty < 2 ∧ len = 0) ∨ (d.fld (rAUD_VOICE_CTRL v) fAUD_VOICE_CTRL_LOOPS ≠ 0 ∧ len ≤ d.rd (rAUD_VOICE_LOOP v)) ∨
    (ty < 2 ∧ 0x1000000 < d.rd (rAUD_VOICE_BASE v) + words)

/-- R419, R416: a stop of a running voice releases it, or ends it at once when R is 0; it does nothing to a voice that does not run. -/
def VoiceStops (s : State) (k : Fin 6) (v : Reg) (n : Nat) : Prop :=
  v.toNat = 2 ^ (n % 24) → n / 24 = k.val → n < 128 → s.dev.pier 28 = 0 → s.dev.pwr.entering = [] → s.dev.aud.voices.length = 128 →
  s.dev.rd (rAUD_VSTOP k) = 0 →
  (s.dev.audLeft < 64 → Completes (.audVstopWrite k v) s (fun e =>
    e.aud = { s.dev.aud with pend := s.dev.aud.pend ++ [(false, n)] } ∧ e.rd (rAUD_VSTOP k) = v.toNat ∧ RegsKeep [rAUD_VSTOP k] s.dev e)) ∧
  (64 ≤ s.dev.audLeft → (s.dev.voice n).st = 0 → Completes (.audVstopWrite k v) s (fun e => e.aud = s.dev.aud ∧ RegsKeep [] s.dev e)) ∧
  (64 ≤ s.dev.audLeft → (s.dev.voice n).st ≠ 0 → (s.dev.voice n).st ≠ 4 → s.dev.fld (rAUD_VOICE_ENV n) fAUD_VOICE_ENV_R = 0 →
    Completes (.audVstopWrite k v) s (fun e =>
      (e.voice n).st = 0 ∧ natBit (e.rd (rAUD_VACTIVE k)) (n % 24) = false ∧ (∀ m < 128, m ≠ n → e.voice m = s.dev.voice m) ∧
      RegsKeep [rAUD_VACTIVE k] s.dev e)) ∧
  (64 ≤ s.dev.audLeft → (s.dev.voice n).st ≠ 0 → (s.dev.voice n).st ≠ 4 → s.dev.fld (rAUD_VOICE_ENV n) fAUD_VOICE_ENV_R ≠ 0 →
    (s.dev.envSettle n (s.dev.voice n)).st ≠ 0 → Completes (.audVstopWrite k v) s (fun e =>
      (e.voice n).st = 4 ∧ (e.voice n).t = 0 ∧ (e.voice n).pos = (s.dev.voice n).pos ∧ (∀ m < 128, m ≠ n → e.voice m = s.dev.voice m) ∧
      RegsKeep [] s.dev e))

/-- R421: a gain register takes its value; a changed ATTEN starts a ramp from the value reached, of RAMP_M1 + 1 ms at 48 samples each. -/
def GainsRamp (s : State) (g : Fin 147) (v : Reg) : Prop :=
  s.dev.aud.gains.length = 147 →
  Completes (.audGainWrite g v) s (fun e =>
    e.rd (gainReg g) = v.toNat % 2 ^ 20 ∧ RegsKeep [gainReg g] s.dev e ∧ (∀ k < 147, k ≠ g.val → e.ramp k = s.dev.ramp k) ∧
    (v.toNat % 1024 = s.dev.rd (gainReg g) % 1024 → e.ramp g = s.dev.ramp g) ∧
    (v.toNat % 1024 ≠ s.dev.rd (gainReg g) % 1024 →
      e.ramp g = ⟨(s.dev.ramp g).value, v.toNat % 1024 * 65536, 48 * (natBits v.toNat 10 10 + 1), 0⟩))

/-- R424: a2 makes the band's five coefficients, as they then stand, due at the next sample, and no other band's. -/
def BandsAreStaged (s : State) (b : Fin 16) (k : Fin 10) (v : Reg) : Prop :=
  s.dev.aud.bus.length = 16 →
  Completes (.audEqA2Write b k v) s (fun e =>
    e.rd (rAUD_EQ b k 4) = v.toNat ∧ assocGet (e.bus b).due k.val = some ((s.dev.eqStaged b k).set 4 (sgn24 v.toNat)) ∧
    (∀ j, j ≠ k.val → assocGet (e.bus b).due j = assocGet (s.dev.bus b).due j) ∧
    (e.bus b).coef = (s.dev.bus b).coef ∧ (e.bus b).left = (s.dev.bus b).left ∧ (e.bus b).right = (s.dev.bus b).right ∧
    (∀ j < 16, j ≠ b.val → e.bus j = s.dev.bus j) ∧ RegsKeep [rAUD_EQ b k 4] s.dev e)

/-- R428: the slots that a TDM port sends. -/
def portSlots (d : Dev) (p : Nat) : Nat :=
  let c := d.rd (rAUD_TDM_CTRL p)
  if natBit c 23 = false ∨ natBits c 21 2 = 3 ∨ (natBits c 21 2 = 0 ∧ natBits c 19 2 ≠ 0) then 0 else 2 ^ (natBits c 19 2 + 1)

/-- R417, R421, R415, R428: a sample period is rendered once. Ramps go on by one sample, each port sends its slots, a voice that is idle stays
so and a tone in sustain goes on by its STEP; starts and stops placed in the period are carried out. A unit that is off renders nothing, and one
whose branch is gated does nothing at all (R473). -/
def SamplePeriodIsRendered (s : State) (late : List (Fin 144)) (got : List (Fin 128 × BitVec 32)) : Prop :=
  let n := s.dev.audIndex s.dev.btu.e
  (s.dev.gated 24 = true → Becomes (.audioSamplePeriod late got) s s.dev) ∧
  (s.dev.gated 24 = false → n ≠ s.dev.aud.n → s.dev.aud.voices.length = 128 →
  (s.dev.audOn = false → s.dev.aud.pend = [] → Completes (.audioSamplePeriod late got) s (fun e =>
    e.aud = { s.dev.aud with n := n } ∧ e.btu = s.dev.btu ∧ e.mem = s.dev.mem ∧ RegsKeep [] s.dev e)) ∧
  (s.dev.audOn = true → s.dev.aud.pend = [] → Completes (.audioSamplePeriod late got) s (fun e =>
    e.aud.n = n ∧ e.aud.pend = [] ∧ e.btu = s.dev.btu ∧
    e.aud.gains = s.dev.aud.gains.map (fun r => if r.len ≤ r.t then r else { r with t := r.t + 1 }) ∧
    (∀ k < 64, (assocGet e.aud.tdm k).isSome = decide (k % 16 < portSlots s.dev (k / 16))) ∧
    (∀ v < 128, (s.dev.voice v).st = 0 → e.voice v = s.dev.voice v) ∧
    (∀ v < 128, (s.dev.voice v).st = 3 → s.dev.fld (rAUD_VOICE_CTRL v) fAUD_VOICE_CTRL_TYPE = 2 →
      (e.voice v).st = 3 ∧ (e.voice v).pos = ((s.dev.voice v).pos + s.dev.rd (rAUD_VOICE_STEP v)) % 2 ^ 24))) ∧
  (∀ v, s.dev.audOn = true → s.dev.aud.pend = [(true, v)] → v < 128 → s.dev.fld (rAUD_VOICE_CTRL v) fAUD_VOICE_CTRL_TYPE = 2 →
    Completes (.audioSamplePeriod late got) s (fun e => (e.voice v).st = 1 ∧ (e.voice v).pos = 0 ∧ e.aud.pend = [])))

/-- R434: a window that ends without a passing block is a miss: shown, counted and reported, and the monitor disarms; a monitor that is not armed
has no window. -/
def MonitorsMiss (s : State) (m : Fin 8) : Prop :=
  let a := rAUD_MON_RESULT m
  (s.dev.flag a fAUD_MON_RESULT_ARMED = false → Becomes (.monitorWindowExpiry m) s s.dev) ∧
  (s.dev.flag a fAUD_MON_RESULT_ARMED = true → Completes (.monitorWindowExpiry m) s (fun e =>
    e.flag a fAUD_MON_RESULT_ARMED = false ∧ e.flag a fAUD_MON_RESULT_MISS = true ∧
    e.fld a fAUD_MON_RESULT_BEST = s.dev.fld a fAUD_MON_RESULT_BEST ∧ e.flag rAUD_STATUS fAUD_STATUS_MISS = true ∧
    e.fld rAUD_MISS_CNT fAUD_MISS_CNT_COUNT = satInc (s.dev.fld rAUD_MISS_CNT fAUD_MISS_CNT_COUNT) fAUD_MISS_CNT_COUNT.w ∧
    e.reports.length = s.dev.reports.length + 1 ∧ e.aud = s.dev.aud))

/-- R432: the accessory that the impedances (in ohms) identify. -/
def accessoryOf (r2s left sleeve ring2 : Nat) : Nat :=
  if r2s < 50 then (if 5000 < left then 4 else 1)
  else if 600 ≤ sleeve ∧ sleeve ≤ 30000 then 2
  else if 600 ≤ ring2 ∧ ring2 ≤ 30000 then 3 else 7

/-- R431 to R433: a plug is identified, a removal clears it, a button is decoded, a short mutes. -/
def JacksFollowTheirPlugs (s : State) (j : Fin 2) (a b c d i : Nat) : Prop :=
  let st := rAUD_HPH_STATUS j
  (s.dev.flag st fAUD_HPH_STATUS_PLUGGED = true → Becomes (.jackPlugDebounced j) s s.dev) ∧
  (s.dev.flag st fAUD_HPH_STATUS_PLUGGED = false → s.dev.pier 28 = 0 → s.dev.pwr.entering = [] → Completes (.jackPlugDebounced j) s (fun e =>
    j.val ∈ e.aud.ident ∧ e.flag st fAUD_HPH_STATUS_PLUGGED = false ∧ RegsKeep [] s.dev e)) ∧
  (s.dev.aud.ident.contains j.val = false → Becomes (.jackIdDone j a b c d) s s.dev) ∧
  (s.dev.aud.ident.contains j.val = true → Completes (.jackIdDone j a b c d) s (fun e =>
    j.val ∉ e.aud.ident ∧ e.flag st fAUD_HPH_STATUS_PLUGGED = true ∧ e.fld st fAUD_HPH_STATUS_ACC = accessoryOf a b c d ∧
    e.flag st fAUD_HPH_STATUS_SWAPPED = (accessoryOf a b c d == 3) ∧ e.flag st fAUD_HPH_STATUS_PLUG_IN = true ∧
    (accessoryOf a b c d = 7 → e.flag st fAUD_HPH_STATUS_ID_FAIL = true))) ∧
  (s.dev.flag st fAUD_HPH_STATUS_PLUGGED = false → s.dev.aud.ident.contains j.val = false → Becomes (.jackRemoval j) s s.dev) ∧
  ((s.dev.flag st fAUD_HPH_STATUS_PLUGGED = true ∨ s.dev.aud.ident.contains j.val = true) → Completes (.jackRemoval j) s (fun e =>
    j.val ∉ e.aud.ident ∧ e.flag st fAUD_HPH_STATUS_PLUGGED = false ∧ e.fld st fAUD_HPH_STATUS_ACC = 0 ∧
    e.flag st fAUD_HPH_STATUS_SWAPPED = false ∧ e.flag st fAUD_HPH_STATUS_PLUG_OUT = true ∧ e.ampOn j = false ∧
    e.flag st fAUD_HPH_STATUS_PLUG_IN = s.dev.flag st fAUD_HPH_STATUS_PLUG_IN)) ∧
  ((s.dev.fld st fAUD_HPH_STATUS_ACC ≠ 2 ∧ s.dev.fld st fAUD_HPH_STATUS_ACC ≠ 3) ∨ s.dev.flag (rAUD_HPH_DET j) fAUD_HPH_DET_BTN_EN = false →
    Becomes (.jackButtonChange j i) s s.dev) ∧
  ((s.dev.fld st fAUD_HPH_STATUS_ACC = 2 ∨ s.dev.fld st fAUD_HPH_STATUS_ACC = 3) → s.dev.flag (rAUD_HPH_DET j) fAUD_HPH_DET_BTN_EN = true →
    Completes (.jackButtonChange j i) s (fun e =>
      e.rd (rAUD_HPH_MIC_I j) = min 1023 i ∧ e.fld st fAUD_HPH_STATUS_BTN = s.dev.jackButton j i ∧
      (s.dev.jackButton j i ≠ 0 → s.dev.fld st fAUD_HPH_STATUS_BTN ≠ s.dev.jackButton j i → e.flag st fAUD_HPH_STATUS_BTN_PRESS = true) ∧
      (s.dev.fld st fAUD_HPH_STATUS_BTN ≠ 0 → s.dev.fld st fAUD_HPH_STATUS_BTN ≠ s.dev.jackButton j i → e.flag st fAUD_HPH_STATUS_BTN_REL = true))) ∧
  Completes (.jackShort j) s (fun e =>
    e.flag st fAUD_HPH_STATUS_SHORT = true ∧ (e.aud.drive[j.val]?).getD none = none ∧ e.aud.voices = s.dev.aud.voices ∧
    RegsKeep (st :: raiseRegs st) s.dev e)

/-- R433: button `k` is pressed while THRk ≤ I < THR(k + 1), the last without bound; the registers show it as bit `k`. -/
def ButtonsAreDecoded (d : Dev) (j k i : Nat) : Prop :=
  let thr (n : Nat) : Nat := d.rd (rAUD_HPH_BTN_THR j n)
  thr 0 ≤ thr 1 → thr 1 ≤ thr 2 → thr 2 ≤ thr 3 → k < 4 →
  (thr k ≤ i ∧ (k = 3 ∨ i < thr (k + 1)) → d.jackButton j i = 2 ^ k) ∧ (i < thr 0 → d.jackButton j i = 0)

end Sys2Proof.Machine

/-- R415 to R424, R428, R431 to R434: voices, gains, bands, sample periods, monitors and jacks. Each of these answers a next state with its own
effect, on conditions of the state and the operands alone: audVstartWrite, audVstopWrite, audioSamplePeriod, audGainWrite, audEqA2Write,
monitorWindowExpiry, jackPlugDebounced, jackIdDone, jackRemoval, jackButtonChange, jackShort. -/
def Obligations.VoicesJacksAndMonitors : Prop :=
  ∀ s : State, (∀ k v n, VoiceStarts s k v n ∧ VoiceStops s k v n) ∧ (∀ v, BadVoices s.dev v) ∧ (∀ g v, GainsRamp s g v) ∧
    (∀ b k v, BandsAreStaged s b k v) ∧ (∀ late got, SamplePeriodIsRendered s late got) ∧ (∀ m, MonitorsMiss s m) ∧
    (∀ j a b c d i, JacksFollowTheirPlugs s j a b c d i) ∧ ∀ j k i, ButtonsAreDecoded s.dev j k i

/-! ### Chapter 18: Wearan links -/

namespace Sys2Proof.Machine

/-- Port `p` alone changes, besides the registers of `as`. -/
def PortOnly (p : Nat) (as : List Nat) (d e : Dev) : Prop :=
  e = { d with regs := e.regs, wrn := e.wrn } ∧ (∀ k < 3, k ≠ p → e.port k = d.port k) ∧ RegsKeep as d e

/-- The registers in which the timing master and the classes show. -/
def wrnStatuses : List Nat := [rWRN_STATUS 0, rWRN_STATUS 1, rWRN_STATUS 2]

/-- Port `p` has sent the LINK cell of a port in training: this device's number, its port, its lanes and its list (R444). -/
def LinkCellSent (p : Nat) (d e : Dev) : Prop :=
  ((e.port p).replay.head?.map (fun c => (c.cls, c.f, c.words))) = some (5, 2, [d.devNum, p, d.fld (rWRN_LANES_TX p) fWRN_LANES_TX_LOCKED,
    d.fld (rWRN_LANES_RX p) fWRN_LANES_RX_LOCKED, d.rd (rWRN_SUCC p)].map (BitVec.ofNat 48)) ∧ (∀ k < 3, k ≠ p → e.port k = d.port k)

/-- No unit waits for the recovery slot of span 3 while it is free. -/
def SlotSettled (d : Dev) : Prop := (d.span 3).busy.isSome = true ∨ (d.span 3).queue = []

/-- R444: EN makes a port train, and send its LINK cell; a port that is trained as R439 wires it comes up, a wrongly wired one says so, and one that
has not trained tries again. -/
def PortsTrain (s : State) (p : Fin 3) (v : Reg) (peer : Fin 4) (port : Fin 3) (tx rx : BitVec 9) : Prop :=
  let a := rWRN_STATUS p
  SlotSettled s.dev →
  (natBit v.toNat 23 = true → s.dev.flag (rWRN_CTRL p) fWRN_CTRL_EN = false → s.dev.pier (30 + p) = 0 → s.dev.pwr.entering = [] → s.dev.wrn.length = 3 →
    Completes (.wrnEnWrite p v) s (fun e =>
      e.rd (rWRN_CTRL p) = v.toNat &&& 0xFFFF00 ∧ e.fld a fWRN_STATUS_STATE = 1 ∧ LinkCellSent p s.dev e ∧ RegsKeep [rWRN_CTRL p, a] s.dev e)) ∧
  (natBit v.toNat 23 = true → s.dev.flag (rWRN_CTRL p) fWRN_CTRL_EN = true → Completes (.wrnEnWrite p v) s (fun e =>
    e.rd (rWRN_CTRL p) = v.toNat &&& 0xFFFF00 ∧ e.wrn = s.dev.wrn ∧ RegsKeep [rWRN_CTRL p] s.dev e)) ∧
  (natBit v.toNat 23 = false → Completes (.wrnEnWrite p v) s (fun e => e.rd (rWRN_CTRL p) = v.toNat &&& 0xFFFF00 ∧ e.fld a fWRN_STATUS_STATE = 0)) ∧
  (s.dev.fld a fWRN_STATUS_STATE ≠ 2 → s.dev.fld a fWRN_STATUS_STATE ≠ 1 ∨ s.dev.awake (30 + p) = false → Becomes (.wrnTrained p peer port tx rx) s s.dev) ∧
  (s.dev.fld a fWRN_STATUS_STATE = 1 → s.dev.awake (30 + p) = true → peer.val ≠ (s.dev.devNum + p + 1) % 4 ∨ port.val ≠ 2 - p.val →
    Completes (.wrnTrained p peer port tx rx) s (fun e =>
      e.fld a fWRN_STATUS_STATE = 3 ∧ e.flag a fWRN_STATUS_WIRING = true ∧ e.fld a fWRN_STATUS_PEER = peer.val ∧ e.wrn = s.dev.wrn)) ∧
  (s.dev.fld a fWRN_STATUS_STATE = 1 → s.dev.awake (30 + p) = true → peer.val = (s.dev.devNum + p + 1) % 4 → port.val = 2 - p.val → tx = 0x1FF → rx = 0x1FF →
    s.dev.flt.retired = [] → s.dev.fld (rWRN_LANES_TX p) fWRN_LANES_TX_SPARE_FOR = 0xF → s.dev.fld (rWRN_LANES_RX p) fWRN_LANES_RX_SPARE_FOR = 0xF →
    Completes (.wrnTrained p peer port tx rx) s (fun e =>
      e.fld a fWRN_STATUS_STATE = 2 ∧ e.fld a fWRN_STATUS_PEER = peer.val ∧ e.fld (rWRN_LANES_TX p) fWRN_LANES_TX_LOCKED = 0x1FF ∧
      e.fld (rWRN_LANES_TX p) fWRN_LANES_TX_SPARE_FOR = 0xF ∧ e.fld (rWRN_LANES_RX p) fWRN_LANES_RX_LOCKED = 0x1FF)) ∧
  (s.dev.flag (rWRN_CTRL p) fWRN_CTRL_EN = true → s.dev.fld a fWRN_STATUS_STATE ≠ 2 → Completes (.wrnRetrainTimer p) s (fun e =>
    e.fld a fWRN_STATUS_STATE = 1 ∧ (s.dev.awake (30 + p) = false → e.wrn = s.dev.wrn) ∧
    (s.dev.awake (30 + p) = true → s.dev.wrn.length = 3 → LinkCellSent p s.dev e) ∧ RegsKeep [a] s.dev e)) ∧
  (s.dev.flag (rWRN_CTRL p) fWRN_CTRL_EN = false ∨ s.dev.fld a fWRN_STATUS_STATE = 2 → Becomes (.wrnRetrainTimer p) s s.dev)

/-- A link going down from up: shown, counted and reported, with retraining under way while EN is 1; nothing of the port is kept but the frames in
which layers hide: each from PEER_HOLD + 1 frames of its output on, but for one that hides already (R445, R455). -/
def WentDown (p : Nat) (d e : Dev) : Prop :=
  let a := rWRN_STATUS p
  e.fld a fWRN_STATUS_STATE = d.fld (rWRN_CTRL p) fWRN_CTRL_EN ∧ e.flag a fWRN_STATUS_LINK_DOWN = true ∧ e.flag a fWRN_STATUS_TIME_UP = false ∧
    e.fld (rWRN_DOWN_CNT p) fWRN_DOWN_CNT_COUNT = satInc (d.fld (rWRN_DOWN_CNT p) fWRN_DOWN_CNT_COUNT) fWRN_DOWN_CNT_COUNT.w ∧
    (e.port p).replay = [] ∧ (e.port p).swap = none ∧ (∀ r ∈ (e.port p).reads, r.got.isSome = true) ∧
    (∀ q < 256, ∃ g, (e.port p).down.find? (fun x => x.1 == q) = some (q, g, none) ∧
      (∀ g', (d.port p).down.find? (fun x => x.1 == q) = some (q, g', none) → g = g') ∧
      ((d.port p).down.find? (fun x => x.1 == q) = none → d.lit (q / 32) = true →
        g = ((d.outp (q / 32)).frame + d.fld (rWRN_CTRL p) fWRN_CTRL_PEER_HOLD + 1) % 2 ^ 24)) ∧
    (∀ k < 3, k ≠ p → e.port k = d.port k) ∧ e.mem = { d.mem with resp := e.mem.resp } ∧
    ((∀ r ∈ (d.port p).reads, r.who < peerFabric) → e.mem.resp = d.mem.resp)

/-- R445: a link that is up goes down; one that is not stays as it is. -/
def LinksGoDown (s : State) (p : Fin 3) : Prop :=
  (s.dev.linkUp p = false → Becomes (.wrnLinkDown p) s s.dev) ∧
  (s.dev.linkUp p = true → s.dev.wrn.length = 3 → s.dev.talk.fwd = [] → Completes (.wrnLinkDown p) s (WentDown p s.dev))

/-- R443, R456: a lane error of a running port is counted, flagged and reported under the lane carried. -/
def LaneErrorsCount (s : State) (p : Fin 3) (dir : Fin 2) (lane : Fin 9) : Prop :=
  (s.dev.flag (rWRN_CTRL p) fWRN_CTRL_EN = false → Becomes (.laneError p dir lane) s s.dev) ∧
  (s.dev.flag (rWRN_CTRL p) fWRN_CTRL_EN = true → Completes (.laneError p dir lane) s (fun e =>
    e.fld (rWRN_LANE_ERR_CNT p) fWRN_LANE_ERR_CNT_COUNT = satInc (s.dev.fld (rWRN_LANE_ERR_CNT p) fWRN_LANE_ERR_CNT_COUNT) fWRN_LANE_ERR_CNT_COUNT.w ∧
    e.flag (rWRN_STATUS p) fWRN_STATUS_LANE_ERR = true ∧ (∃ r, e.reports = s.dev.reports ++ [r] ∧ r.cls = 0x11) ∧ e.wrn = s.dev.wrn ∧
    RegsKeep ([rWRN_LANE_ERR_CNT p, rWRN_STATUS p] ++ raiseRegs (rWRN_STATUS p)) s.dev e))

/-- R32, R446, R456: a lane GO starts a swap where the link is up, the lane is one of 0 to 7 and lane 8 is free: a SWAP cell goes out and the swap
holds span 3's recovery slot, or waits for it, or for the end of a SWAP of the peer. Otherwise GO sets LANE_ERR. The swap's
end records the lane as retired and lane 8 as serving it. -/
def LanesAreRetired (s : State) (p : Fin 3) (v : Reg) : Prop :=
  let dir := natBits v.toNat 22 1
  let lane := v.toNat % 16
  let l := laneReg p dir
  let bad := s.dev.linkUp p = false ∨ 8 ≤ lane ∨ s.dev.fld l fWRN_LANES_TX_SPARE_FOR ≠ 0xF
  (bad → Completes (.wrnLaneGo p v) s (fun e =>
    e.flag (rWRN_STATUS p) fWRN_STATUS_LANE_ERR = true ∧ e.wrn = s.dev.wrn ∧ e.flt = s.dev.flt ∧
    RegsKeep ([rWRN_LANE_CTRL p, rWRN_STATUS p] ++ raiseRegs (rWRN_STATUS p) ++ slotRegs) s.dev e)) ∧
  (¬ bad → s.dev.wrn.length = 3 → s.dev.flt.spans.length = 4 →
    ((s.dev.span 3).busy = none → (s.dev.port p).swap = none → Completes (.wrnLaneGo p v) s (fun e =>
      (e.port p).swap = some (dir == 1, lane) ∧
      (e.port p).replay.head? = some ⟨5, (s.dev.port p).txSeq, (s.dev.port p).rxSeq, (s.dev.port p).bad, 3, [BitVec.ofNat 48 dir, BitVec.ofNat 48 lane], 0⟩ ∧
      (e.span 3).busy = some [0x11, 18 * p.val + 9 * dir + lane, 0x11, 18 * p.val + 9 * dir + 8] ∧
      RegsKeep ([rWRN_LANE_CTRL p, rFLT_JOURNAL_NEXT, rDBG_STL_OVW_CNT] ++ slotRegs) s.dev e)) ∧
    ((s.dev.span 3).busy.isSome = true ∨ (s.dev.port p).swap.isSome = true → Completes (.wrnLaneGo p v) s (fun e =>
      e.wrn = s.dev.wrn ∧ ((0x11, 18 * p.val + 9 * dir + lane) ∈ (e.span 3).queue ∨ (0x11, 18 * p.val + 9 * dir + lane) ∈ (e.span 3).waiting)))) ∧
  ((s.dev.port p).swap = none → SlotSettled s.dev → Becomes (.laneSwapDone p) s s.dev) ∧
  (∀ rx lane, (s.dev.port p).swap = some (rx, lane) → SlotSettled s.dev → lane < 8 → s.dev.wrn.length = 3 → Completes (.laneSwapDone p) s (fun e =>
    let r := laneReg p rx.toNat
    (e.port p).swap = none ∧ e.fld r fWRN_LANES_TX_SPARE_FOR = lane ∧ natBit (e.fld r fWRN_LANES_TX_RETIRED) lane = true ∧
    e.fld r fWRN_LANES_TX_LOCKED = s.dev.fld r fWRN_LANES_TX_LOCKED ∧ PortOnly p [r] s.dev e))

/-- The port after it has asked for a replay (R442): the NAK goes out in an IDLE cell with the last good number. -/
def Wrn.asked (x : Wrn) : Wrn := ({ x with bad := true, naks := x.naks + 1 } : Wrn).sendFree 0 []

/-- R441, R442, R445: a sequenced cell that is not good, of a reserved class, or not the next, is discarded whatever it carries. It is answered with
NAK and counted, but for the later cells that pass while a replay is awaited; the eighth NAK in a row for one cell takes the link down. -/
def BadCellIsDiscarded (i : CellHead → Instr) (s : State) (p : Fin 3) (h : CellHead) : Prop :=
  let next := ((s.dev.port p).rxSeq + 1) % 4096
  (s.dev.linkUp p = false → s.dev.fld (rWRN_STATUS p) fWRN_STATUS_STATE ≠ 1 → Becomes (i h) s s.dev) ∧
  (s.dev.linkUp p = true → (h.crcOk = false ∨ h.reserved = true ∨ h.seq.toNat ≠ next) → s.dev.wrn.length = 3 →
    ((s.dev.port p).bad = true → h.seq.toNat ≠ next → Becomes (i h) s s.dev) ∧
    ((s.dev.port p).bad = false ∨ h.seq.toNat = next → 7 ≤ (s.dev.port p).naks → s.dev.talk.fwd = [] → Completes (i h) s (WentDown p s.dev)) ∧
    ((s.dev.port p).bad = false ∨ h.seq.toNat = next → (s.dev.port p).naks < 7 → Completes (i h) s (fun e =>
      e.port p = (s.dev.port p).asked ∧
      e.fld (rWRN_REPLAY_CNT p) fWRN_REPLAY_CNT_COUNT = satInc (s.dev.fld (rWRN_REPLAY_CNT p) fWRN_REPLAY_CNT_COUNT) fWRN_REPLAY_CNT_COUNT.w ∧
      PortOnly p [rWRN_REPLAY_CNT p] s.dev e)))

/-- The cell is the next one, good, and asks for no replay. -/
def GoodCell (d : Dev) (p : Nat) (h : CellHead) : Prop :=
  d.linkUp p = true ∧ h.crcOk = true ∧ h.reserved = false ∧ h.nak = false ∧ h.seq.toNat = ((d.port p).rxSeq + 1) % 4096 ∧ d.wrn.length = 3

/-- The port after a good cell. -/
def Wrn.took (x : Wrn) (h : CellHead) : Wrn := { x with rxSeq := h.seq.toNat, bad := false, naks := 0, acked := h.ack.toNat }

/-- R442, R445: a NAK makes the port send its kept cells again from ACK + 1; the eighth in a row for one cell takes the link down. -/
def NaksReplay (s : State) (p : Fin 3) (ack : BitVec 12) : Prop :=
  let x := s.dev.port p
  let run := if x.nakRun.2 ≠ 0 ∧ x.nakRun.1 = ack.toNat then x.nakRun.2 + 1 else 1
  (s.dev.linkUp p = false → Becomes (.nakReceived p ack) s s.dev) ∧
  (s.dev.linkUp p = true → s.dev.wrn.length = 3 → run < 8 → Completes (.nakReceived p ack) s (fun e =>
    e.port p = { x.sendAgain ack.toNat with resend := some ((ack.toNat + 1) % 4096), nakRun := (ack.toNat, run), acked := ack.toNat } ∧ PortOnly p [] s.dev e)) ∧
  (s.dev.linkUp p = true → s.dev.wrn.length = 3 → 8 ≤ run → s.dev.talk.fwd = [] → Completes (.nakReceived p ack) s (WentDown p s.dev))

/-- R444 to R446: what a LINK cell does: training state is noted, and answered with this side's own while the port trains, and takes a link down that
has fewer than 8 lanes locked; a SWAP of a free lane is taken and answered, one of a lane already served is
rejected, a rejected SWAP sets LANE_ERR, and a peer that is down takes the link down. -/
def LinkCellsAct (s : State) (p : Fin 3) (h : CellHead) (rx : Bool) (lane : Fin 8) (dev : Fin 4) (port : Fin 3) (tx' rx' : BitVec 9) (succ : BitVec 10) : Prop :=
  let x := (s.dev.port p).took h
  let l := laneReg p rx.toNat
  (s.dev.linkUp p = false → s.dev.fld (rWRN_STATUS p) fWRN_STATUS_STATE = 1 → s.dev.awake (30 + p) = true → h.crcOk = true → h.reserved = false →
    s.dev.wrn.length = 3 → Completes (.linkCell p h (.train dev port tx' rx' succ)) s (fun e =>
      e.fld (rWRN_LANES_RX p) fWRN_LANES_RX_LOCKED = tx'.toNat ∧ e.fld (rWRN_LANES_TX p) fWRN_LANES_TX_LOCKED = rx'.toNat ∧
      ((e.port p).replay.head?.map (fun c => (c.cls, c.f, c.words))) = some (5, 2,
        [s.dev.devNum, p.val, rx'.toNat, tx'.toNat, s.dev.rd (rWRN_SUCC p)].map (BitVec.ofNat 48)) ∧
      PortOnly p [rWRN_LANES_TX p, rWRN_LANES_RX p] s.dev e)) ∧
  (GoodCell s.dev p h →
  (8 ≤ popCount 9 tx'.toNat → 8 ≤ popCount 9 rx'.toNat → Completes (.linkCell p h (.train dev port tx' rx' succ)) s (fun e =>
    e.port p = x ∧ e.fld (rWRN_LANES_RX p) fWRN_LANES_RX_LOCKED = tx'.toNat ∧ e.fld (rWRN_LANES_TX p) fWRN_LANES_TX_LOCKED = rx'.toNat ∧
    PortOnly p [rWRN_LANES_TX p, rWRN_LANES_RX p] s.dev e)) ∧
  (popCount 9 tx'.toNat < 8 ∨ popCount 9 rx'.toNat < 8 → s.dev.talk.fwd = [] →
    Completes (.linkCell p h (.train dev port tx' rx' succ)) s (WentDown p s.dev)) ∧
  Completes (.linkCell p h (.answer true)) s (fun e => e.port p = x ∧ PortOnly p [] s.dev e) ∧
  ((s.dev.span 3).queue = [] → Completes (.linkCell p h (.answer false)) s (fun e =>
    e.port p = { x with swap := none } ∧ e.flag (rWRN_STATUS p) fWRN_STATUS_LANE_ERR = true)) ∧
  (s.dev.fld l fWRN_LANES_TX_SPARE_FOR = 0xF → (s.dev.port p).swap = none → Completes (.linkCell p h (.swap rx lane)) s (fun e =>
    (e.port p).swap = some (rx, lane.val) ∧ (e.port p).replay = ⟨5, x.txSeq, x.rxSeq, false, 1, [], 0⟩ :: x.replay.take 511 ∧
    PortOnly p [] s.dev e)) ∧
  (s.dev.fld l fWRN_LANES_TX_SPARE_FOR ≠ 0xF → Completes (.linkCell p h (.swap rx lane)) s (fun e =>
    (e.port p).swap = (s.dev.port p).swap ∧ (e.port p).replay = ⟨5, x.txSeq, x.rxSeq, false, 0, [], 0⟩ :: x.replay.take 511 ∧
    PortOnly p [] s.dev e)) ∧
  (s.dev.talk.fwd = [] → Completes (.linkCell p h .down) s (WentDown p s.dev)))

/-- R448, R449: a TIME cell carries BT, the peer's last BT with the clocks since, the succession list, the elected master and the links; a bad one is
dropped and counted; a good one shows its delay, and a list that differs is flagged; without one for 64 µs the class is down. -/
def TimeCellsFlow (s : State) (p : Fin 3) (h : CellHead) (ws : List Word) (freq : Int) : Prop :=
  (s.dev.linkUp p = false → Becomes (.timeCellSend p) s s.dev ∧ Becomes (.timeCell p h ws freq) s s.dev) ∧
  (s.dev.linkUp p = true → s.dev.wrn.length = 3 → Completes (.timeCellSend p) s (fun e =>
    (e.port p).time.length = 4 ∧ ((e.port p).time.getD 0 0).toNat = s.dev.bt ∧
    ((e.port p).time.getD 1 0).toNat = ((s.dev.port p).echo.getD (0, 0)).1 % 2 ^ 48 ∧
    natBits ((e.port p).time.getD 3 0).toNat 40 8 = s.dev.fld (rWRN_SUCC p) fWRN_SUCC_LIST ∧
    natBits ((e.port p).time.getD 3 0).toNat 38 2 = s.dev.master % 4 ∧
    (e.port p).wire.head? = some (Cell.bits ⟨1, 0, (s.dev.port p).rxSeq, (s.dev.port p).bad, 0, (e.port p).time, 0⟩) ∧ PortOnly p [] s.dev e)) ∧
  (s.dev.linkUp p = true → h.reserved = false → h.crcOk = false → Completes (.timeCell p h ws freq) s (fun e =>
    e.fld (rWRN_TIME_DROP_CNT p) fWRN_TIME_DROP_CNT_COUNT = satInc (s.dev.fld (rWRN_TIME_DROP_CNT p) fWRN_TIME_DROP_CNT_COUNT) fWRN_TIME_DROP_CNT_COUNT.w ∧
    e.wrn = s.dev.wrn ∧ RegsKeep [rWRN_TIME_DROP_CNT p] s.dev e)) ∧
  (s.dev.linkUp p = true → h.reserved = false → h.crcOk = true → h.nak = false → s.dev.wrn.length = 3 →
    natBits (ws.getD 3 0).toNat 40 8 ≠ s.dev.fld (rWRN_SUCC p) fWRN_SUCC_LIST → Completes (.timeCell p h ws freq) s (fun e =>
      (e.port p).alive = true ∧ (e.port p).same = false ∧ (e.port p).echo = some ((ws.getD 0 0).toNat, s.dev.btu.clocks) ∧ (e.port p).acked = h.ack.toNat ∧
      e.flag (rWRN_STATUS p) fWRN_STATUS_SUCC_MISMATCH = true ∧ e.flag (rWRN_STATUS p) fWRN_STATUS_TIME_UP = false)) ∧
  (s.dev.linkUp p = true → h.reserved = false → h.crcOk = true → h.nak = false → s.dev.wrn.length = 3 → s.dev.master = s.dev.devNum → (∀ k < 3, k ≠ p.val → s.dev.linkUp k = false) →
    s.dev.succList.head? = some s.dev.devNum →
    natBits (ws.getD 3 0).toNat 40 8 = s.dev.fld (rWRN_SUCC p) fWRN_SUCC_LIST → Completes (.timeCell p h ws freq) s (fun e =>
      (e.port p).alive = true ∧ (e.port p).same = true ∧ (e.port p).links = natBits (ws.getD 3 0).toNat 33 4 ∧
      e.fld (rWRN_STATUS p) fWRN_STATUS_MASTER = s.dev.devNum ∧ e.flag (rWRN_STATUS p) fWRN_STATUS_IS_MASTER = true ∧
      e.flag (rWRN_STATUS p) fWRN_STATUS_TIME_UP = false ∧ e.btu = s.dev.btu)) ∧
  (s.dev.wrn.length = 3 → Completes (.timeClassTimeout p) s (fun e =>
    (e.port p).alive = false ∧ e.flag (rWRN_STATUS p) fWRN_STATUS_TIME_UP = false ∧ e.mem = s.dev.mem ∧ e.outs = s.dev.outs))

/-- R449: the master is the first device of the succession list that can be reached, this one if none can. -/
def MasterIsTheFirstReached (d : Dev) (before after : List Nat) (m : Nat) : Prop :=
  d.succList = before ++ m :: after → d.reaches m = true → (∀ k ∈ before, d.reaches k = false) → d.master = m

/-- R451, R452: a PIX cell of a stream received lands its dots in its ring line; the row's last cell lands the row with its tag. -/
def PixCellsLand (s : State) (p : Fin 3) (h : CellHead) (cls : BitVec 20) (ws : List Word) (w hh : Nat) : Prop :=
  let str := natBits cls.toNat 15 5
  let w1 := (ws.getD 0 0).toNat
  let row := natBits w1 0 13
  let base := s.dev.fld (rWRN_RX p str) fWRN_RX_SLAB * 0x1000 + row % 8 * 4096
  GoodCell s.dev p h → PlainMain s.dev →
  (s.dev.flag (rWRN_RX p str) fWRN_RX_EN = false → Completes (.pixCell p h cls ws w hh) s (fun e =>
    e.port p = (s.dev.port p).took h ∧ PortOnly p [] s.dev e)) ∧
  (s.dev.flag (rWRN_RX p str) fWRN_RX_EN = true → natBit cls.toNat 14 = true → natBits cls.toNat 0 14 = 0 → ws.length = 9 → w ≤ 8 → base + 4096 ≤ 0x1000000 →
    Completes (.pixCell p h cls ws w hh) s (fun e =>
      (∀ k < w, e.peek (base + k) = ws.getD (1 + k) 0) ∧ (∀ a < 0x1000000, (a < base ∨ base + w ≤ a) → e.peek a = s.dev.peek a) ∧
      (∃ o, ⟨p.val, str, natBits w1 16 8, row, natBits w1 24 24, w, hh, o, s.dev.now⟩ ∈ e.rx ∧
        (row = 0 → ⟨p.val, str, natBits w1 16 8, row, natBits w1 24 24, w, hh, o, s.dev.now⟩ ∈ e.rx0)) ∧ RegsKeep [] s.dev e))

/-- R453: a CMD cell that is not its packet's last is kept until the rest has landed. -/
def CmdCellsGather (s : State) (p : Fin 3) (h : CellHead) (cls : BitVec 20) (ws : List Word) (mark : BitVec 5) : Prop :=
  GoodCell s.dev p h → natBit cls.toNat 18 = false → Completes (.cmdCell p h cls ws mark) s (fun e =>
    e.port p = { (s.dev.port p).took h with cmd := (if natBit cls.toNat 19 then [] else (s.dev.port p).cmd) ++ ws.take (min 9 (cls.toNat % 16)) } ∧
    PortOnly p [] s.dev e)

/-- R331, R453: the last cell of a packet has it executed: what comes of it is what comes of the packet's own row at this device, where that rings no
doorbell. The entries of a TRS.ADD that comes so are added, in the name of the sender's device and slot. -/
def LastCellIsExecuted (s : State) (p : Fin 3) (h : CellHead) (cls : BitVec 20) (ws : List Word) (mark : BitVec 5) (op : Nat) (c : Packet → Instr)
    (q : Packet) : Prop :=
  let d := s.dev.modPort p (fun x => { x.took h with cmd := [] })
  let all := (if natBit cls.toNat 19 then [] else (s.dev.port p).cmd) ++ ws.take (min 9 (cls.toNat % 16))
  GoodCell s.dev p h → natBit cls.toNat 18 = true → all = (reqOf q op).words → natBit (Packet.w0 q op) 32 = false →
  q.ep = .peer p (mark.toNat % 4) (natBits mark.toNat 2 2) → d.takes q.ep = true →
  (IsPacketRow op c → (d.packet op q).talk.bell = false →
    Becomes (c q) { s with dev := d } (d.packet op q) ∧ Becomes (.cmdCell p h cls ws mark) s (d.packet op q)) ∧
  (op = 0x280 → IsOn d 2 → d.upd.hand = none → d.pwr.stage ≠ 4 → d.talk.bell = false → q.rr = false → mark.toNat % 4 = 3 → d.check (reqOf q op) = none →
    s.dev.trs.entries.length + q.payload.length / 2 ≤ 65536 → Completes (.cmdCell p h cls ws mark) s (fun e =>
      (e.port p).cmd = [] ∧ (∀ y ∈ s.dev.trs.entries, y ∈ e.trs.entries) ∧ e.trs.entries.length = s.dev.trs.entries.length + q.payload.length / 2 ∧
      ∀ i < q.payload.length / 2, ∃ y ∈ e.trs.entries, y.bt = (reqOf q op).w (2 * i) ∧ y.act = (reqOf q op).w (2 * i + 1) ∧
        y.owner = 256 + 8 * s.dev.peerDev p + q.slot))

/-- R454: a read of this device's exchange memory is answered with its word, a write stores it; an answer ends the read that has its tag, and 20 µs
without one fails it. The fabric's own read of a peer window (row MEMORY_READ) then has its answer. -/
def MemCellsServe (s : State) (p : Fin 3) (h : CellHead) (cls : BitVec 20) (v : Word) (tag : Fin 64) : Prop :=
  let x := (s.dev.port p).took h
  let op := natBits cls.toNat 18 2
  let w := natBits cls.toNat 0 12
  let t := natBits cls.toNat 12 6
  (GoodCell s.dev p h → s.dev.mem.exBusy = false → s.dev.mem.exchErr = [] → s.dev.pier 34 = 0 → s.dev.pier 39 = 0 → s.dev.pwr.entering = [] →
    (op = 0 → Completes (.memCell p h cls v) s (fun e =>
      (e.port p).replay = ⟨4, x.txSeq, x.rxSeq, false, 2 * 2 ^ 18 + t * 2 ^ 12 + w, [s.dev.exWord w], 0⟩ :: x.replay.take 511 ∧
      e.mem.exch = s.dev.mem.exch ∧ RegsKeep [] s.dev e)) ∧
    (op = 1 → 171 ≤ w → Completes (.memCell p h cls v) s (fun e =>
      e.exWord w = v ∧ (∀ k < 4096, k ≠ w → e.exWord k = s.dev.exWord k) ∧ e.port p = x ∧ e.mem.main = s.dev.mem.main ∧ RegsKeep [] s.dev e)) ∧
    (2 ≤ op → (∀ r ∈ x.reads, r.who < peerFabric) → Completes (.memCell p h cls v) s (fun e =>
      (e.port p).reads = x.reads.map (fun r => if r.tag = t ∧ r.got = none then { r with got := some (if op = 2 then some v else none) } else r) ∧
      e.mem = s.dev.mem ∧ PortOnly p [] s.dev e)) ∧
    (∀ m, op = 2 → x.reads = [⟨t, w, peerFabric + m, none⟩] → Completes (.memCell p h cls v) s (fun e =>
      (e.port p).reads = [] ∧ e.mem = { s.dev.mem with resp := some ⟨m, 0x300000000 + s.dev.peerDev p * 0x10000 + w, v, 0⟩ } ∧ RegsKeep [] s.dev e))) ∧
  (s.dev.wrn.length = 3 → (∀ r ∈ (s.dev.port p).reads, r.who < peerFabric) → Completes (.wrnMemReadTimeout p tag) s (fun e =>
    (e.port p).reads = (s.dev.port p).reads.map (fun r => if r.tag = tag.val ∧ r.got = none then { r with got := some none } else r) ∧
    PortOnly p [] s.dev e))

/-- R450: the cells of a row of `w` dots. -/
def cellsOfRow (w : Nat) : Nat := 1 + (w - 8 + 8) / 9

/-- R450: a stream whose rectangle does not fit is refused; one that fits alone is enabled. -/
def StreamsAreEnabled (s : State) (p : Fin 3) (str : Fin 32) (v : Reg) : Prop :=
  let a := rWRN_TX_CTRL p str
  let n := natBits v.toNat 20 3
  let w := s.dev.rd (rWRN_TX_W p str)
  let h := s.dev.rd (rWRN_TX_H p str)
  let fits := 0 < w ∧ w ≤ 4096 ∧ 0 < h ∧ v.toNat % 8192 + w ≤ (s.dev.mode n).ha ∧ s.dev.rd (rWRN_TX_Y0 p str) + h ≤ (s.dev.mode n).va
  (¬ fits → Completes (.wrnStreamEnable p str v) s (fun e =>
    e.flag a fWRN_TX_CTRL_EN = false ∧ e.flag (rWRN_STATUS p) fWRN_STATUS_STR_REFUSED = true ∧ e.wrn = s.dev.wrn ∧
    RegsKeep ([a, rWRN_STATUS p] ++ raiseRegs (rWRN_STATUS p)) s.dev e)) ∧
  (fits → (∀ t < 32, t ≠ str.val → s.dev.flag (rWRN_TX_CTRL p t) fWRN_TX_CTRL_EN = false) →
    cellsOfRow w * 4125 * 10 * (s.dev.outHz n * (s.dev.mode n).v) ≤ 8 * 1000000000000 → Completes (.wrnStreamEnable p str v) s (fun e =>
      e.rd a = (v.toNat ||| 0x800000) &&& 0xF01FFF ∧ e.wrn = s.dev.wrn ∧ RegsKeep [a] s.dev e))

/-- R455: once the frame has come from which on a layer that the lost link feeds is hidden, PEER_LOST says so, until no such layer is; nothing
follows where no loss is under way. -/
def LayersHideAfterTheHold (s : State) (p : Fin 3) (out : Fin 8) : Prop :=
  let hides (n k : Nat) : Prop := ∃ g, (s.dev.port p).down.find? (fun x => x.1 == 32 * n + k) = some (32 * n + k, g, none) ∧
    frameBefore (s.dev.outp n).frame g = false
  ((s.dev.port p).down = [] → Becomes (.peerHoldExpiry p out) s s.dev) ∧
  ((s.dev.port p).down ≠ [] → s.dev.flag (rWRN_CTRL p) fWRN_CTRL_PEER_LOST_EN = false → Completes (.peerHoldExpiry p out) s (fun e =>
    ((∃ n < 8, s.dev.lit n = true ∧ ∃ k < 32, s.dev.remFeeds p n k = true ∧ hides n k) → e.flag (rWRN_STATUS p) fWRN_STATUS_PEER_LOST = true) ∧
    ((∀ n < 8, ∀ k < 32, s.dev.remFeeds p n k = false) → e.flag (rWRN_STATUS p) fWRN_STATUS_PEER_LOST = false) ∧
    OnlyRegs [rWRN_STATUS p] s.dev e))

end Sys2Proof.Machine

/-- R442 to R456: links train and fail, lanes are retired, and each class of cell has its effect. Each of these answers a next state with its own
effect, on conditions of the state and the operands alone: wrnEnWrite, wrnTrained, wrnRetrainTimer, wrnLinkDown, laneError, nakReceived, wrnLaneGo,
laneSwapDone, linkCell, timeCellSend, timeCell, pixCell, cmdCell, memCell, wrnMemReadTimeout, wrnStreamEnable, peerHoldExpiry, timeClassTimeout. -/
def Obligations.LinksCarryCells : Prop :=
  ∀ s : State, (∀ p v peer port tx rx, PortsTrain s p v peer port tx rx) ∧ (∀ p, LinksGoDown s p) ∧ (∀ p dir lane, LaneErrorsCount s p dir lane) ∧
    (∀ p v, LanesAreRetired s p v) ∧ (∀ p ack, NaksReplay s p ack) ∧
    (∀ p h m cls ws w hh v mark, BadCellIsDiscarded (fun h => .linkCell p h m) s p h ∧ BadCellIsDiscarded (fun h => .pixCell p h cls ws w hh) s p h ∧
      BadCellIsDiscarded (fun h => .memCell p h cls v) s p h ∧ BadCellIsDiscarded (fun h => .cmdCell p h cls ws mark) s p h) ∧
    (∀ p h rx lane dev port tx' rx' succ, LinkCellsAct s p h rx lane dev port tx' rx' succ) ∧
    (∀ p h ws freq, TimeCellsFlow s p h ws freq) ∧ (∀ before after m, MasterIsTheFirstReached s.dev before after m) ∧
    (∀ p h cls ws w hh, PixCellsLand s p h cls ws w hh) ∧ (∀ p h cls ws mark, CmdCellsGather s p h cls ws mark) ∧
    (∀ p h cls ws mark op c q, LastCellIsExecuted s p h cls ws mark op c q) ∧
    (∀ p h cls v tag, MemCellsServe s p h cls v tag) ∧ (∀ p str v, StreamsAreEnabled s p str v) ∧ ∀ p out, LayersHideAfterTheHold s p out

/-! ### Chapter 19: power, clocks and resets -/

namespace Sys2Proof.Machine

/-- Registers that a device-wide reset does not return to their tables' values: the cause, OTP's, the straps and what follows them. -/
def resetSpecial : List Nat :=
  [rPMU_RESET_CAUSE, rPMU_STRAPS, rWRN_STATUS 0, rWRN_STATUS 1, rWRN_STATUS 2, rSEC_SERIAL_LO, rSEC_SERIAL_HI] ++ (List.range 8).map rSEC_KEY

/-- What every device-wide reset leaves: outputs dark, cores idle, memory cleared, calendar, sessions and buffers gone; flash is kept: the image
slots, the journal and the configurations; OTP too (R474). -/
def ResetLeaves (d e : Dev) : Prop :=
  e.outs = Dev.reset.outs ∧ e.cores = [] ∧ e.lmem = Dev.reset.lmem ∧ e.mem.main = [] ∧ e.mem.ddr = [] ∧ e.trs = Dev.reset.trs ∧ e.dma = Dev.reset.dma ∧
    e.aud = Dev.reset.aud ∧ e.lcc = Dev.reset.lcc ∧ e.wrn = Dev.reset.wrn ∧ e.dbg = Dev.reset.dbg ∧ e.btu.e = 0 ∧ e.cfg.bufs = [] ∧ e.cfg.base = [] ∧
    e.cfg.copies = d.cfg.copies ∧ e.upd.slots = d.upd.slots ∧ e.upd.key = d.upd.key ∧ e.flt.flash = d.flt.flash ∧
    e.talk.keys = d.talk.keys ∧ (∀ k < 8, e.rd (rSEC_KEY k) = d.rd (rSEC_KEY k))

/-- The boot record and the retirement list as they stand in flash. -/
def FlashStands (d e : Dev) : Prop := e.upd.br = d.upd.br ∧ e.flt.retired = d.flt.retired

/-- R474: POR and XRESET return every register to its reset value, and start-up begins again at power-good. What is in flash stands, but for a write
of the boot record or of the retirement list that is under way (R486, R499). -/
def WholeReset (i : Instr) (s : State) (cause : Nat) : Prop :=
  Completes i s (fun e =>
    ResetLeaves s.dev e ∧ (s.dev.upd.writing = none → s.dev.flt.listing = none → FlashStands s.dev e) ∧
    e.rd rPMU_RESET_CAUSE = cause * 2 ^ 22 ∧ e.pwr.stage = 0 ∧ e.mem.exch = [] ∧ e.prp = Dev.reset.prp ∧
    (∀ a, a ∉ resetSpecial → a ∉ followers → e.rd a = (resetOf a).toNat) ∧ e.rd rPMU_STRAPS = (resetOf rPMU_STRAPS).toNat)

/-- The registers that show what runs after the oscillator wait (R477). -/
def startRegs : List Nat := [rCKG_STATUS, rCKG_PLL_STATUS 0, rCKG_PLL_STATUS 1, rCKG_PLL_STATUS 2, rCKG_PLL_STATUS 3, rMEM_STATUS]

/-- The oscillator wait is over: crystal and PLLs run, the spans and the exchange memory are being zeroed, the boot record is next (R477, R374). -/
def Started (d e : Dev) : Prop :=
  e.pwr.stage = 2 ∧ e.mem.exBusy = true ∧ (∀ w, e.exWord w = 0) ∧ e.flag rCKG_STATUS fCKG_STATUS_XTAL_OK = true ∧
    (∀ q < 4, e.flag (rCKG_PLL_STATUS q) fCKG_PLL_STATUS_LOCK = true) ∧ (∀ k < 4, natBit (e.rd rMEM_STATUS) (20 + k) = true) ∧
    (∀ a, a ∉ startRegs → a ∉ followers → a ∉ resetSpecial → e.rd a = d.rd a)

/-- R474: PMU_RESET.DEVICE resets as POR does, but keeps the straps and skips the oscillator wait. -/
def DeviceReset (i : Instr) (s : State) : Prop :=
  Completes i s (fun e =>
    ResetLeaves s.dev e ∧ FlashStands s.dev e ∧ e.rd rPMU_RESET_CAUSE = 2 * 2 ^ 22 ∧ e.rd rPMU_STRAPS = s.dev.rd rPMU_STRAPS ∧ e.pwr.stage = 2 ∧ e.mem.exch = [] ∧
    e.mem.exBusy = true ∧ e.prp = Dev.reset.prp ∧ (∀ p < 3, e.fld (rWRN_STATUS p) fWRN_STATUS_SELF = s.dev.devNum) ∧
    (∀ a, a ∉ resetSpecial → a ∉ followers → a ∉ startRegs → e.rd a = (resetOf a).toNat))

/-- R476: a CORE reset keeps the registers of PIER00 and PIER01, the parapet and the exchange memory, and start-up goes on from the boot record. -/
def CoreResetKeeps (i : Instr) (s : State) : Prop :=
  Completes i s (fun e =>
    ResetLeaves s.dev e ∧ FlashStands s.dev e ∧ e.rd rPMU_RESET_CAUSE = 3 * 2 ^ 22 ∧ e.pwr.stage = 2 ∧ e.mem.exch = s.dev.mem.exch ∧ e.prp = s.dev.prp ∧
    (∀ p < 40, e.pier p = 0) ∧ (∀ k < 4, natBit (e.rd rMEM_STATUS) (20 + k) = true) ∧
    (∀ a, 2 ≤ s.dev.pierOfReg a → a ≠ rMEM_STATUS → a ∉ resetSpecial → a ∉ followers → e.rd a = (resetOf a).toNat) ∧
    (∀ a, s.dev.pierOfReg a ≤ 1 → a ∉ rPMU_RESET :: (List.range 40).map rPMU_PIER_STATUS → a ≠ rPMU_RESET_CAUSE → a ∉ followers → e.rd a = s.dev.rd a))

/-- R461, R475: a pier reset brings the pier ON, all four spans where it is one, and its registers to their reset values, and is counted; 40 to 63 do
nothing. A reset of PIER02 starts T0 again. Another pier's registers stay, as far as the units of the pier act on no other. -/
def PierResets (s : State) (v : Reg) : Prop :=
  let p := v.toNat % 64
  (40 ≤ p → Completes (.pmuPierReset v) s (OnlyRegs [rPMU_RESET] s.dev)) ∧
  (p = 0 → DeviceReset (.pmuPierReset v) s) ∧
  (p = 39 → CoreResetKeeps (.pmuPierReset v) s) ∧
  (p = 2 → Completes (.pmuPierReset v) s (fun e =>
    e.pier 2 = 0 ∧ e.talk.later = [] ∧ e.talk.owed = [] ∧ (s.dev.pwr.stage = 3 → e.pwr.stage = 5) ∧
    e.fld rPMU_PIER_RST_CNT fPMU_PIER_RST_CNT_COUNT = satInc (s.dev.fld rPMU_PIER_RST_CNT fPMU_PIER_RST_CNT_COUNT) fPMU_PIER_RST_CNT_COUNT.w)) ∧
  (p ∈ [1, 3, 4] ++ (List.range 17).map (5 + ·) ++ (List.range 13).map (26 + ·) → Completes (.pmuPierReset v) s (fun e =>
    e.pier p = 0 ∧ (∀ q, q ≠ p → q < 40 → (q = 13 → p ∉ (List.range 9).map (5 + ·) ++ [36, 37]) → e.pier q = s.dev.pier q) ∧
    (∀ a, s.dev.pierOfReg a = p → a ∉ resetSpecial → a ∉ followers → e.rd a = (resetOf a).toNat))) ∧
  (p = 29 → Completes (.pmuPierReset v) s (fun e =>
    e.dma = Dev.reset.dma ∧ e.blt = Dev.reset.blt ∧ e.mem = s.dev.mem ∧ e.outs = s.dev.outs ∧
    e.fld rPMU_PIER_RST_CNT fPMU_PIER_RST_CNT_COUNT = satInc (s.dev.fld rPMU_PIER_RST_CNT fPMU_PIER_RST_CNT_COUNT) fPMU_PIER_RST_CNT_COUNT.w ∧
    (∀ a, s.dev.pierOfReg a ≠ 29 → a ∉ [rPMU_RESET, rPMU_PIER_RST_CNT, rPMU_PIER_STATUS 29, rPMU_PARK_CNT] → a ∉ followers → e.rd a = s.dev.rd a))) ∧
  (22 ≤ p → p ≤ 25 → Completes (.pmuPierReset v) s (fun e =>
    (∀ q, 22 ≤ q → q ≤ 25 → e.pier q = 0) ∧
    (∀ bk < 272, ∀ off < 65536, bankSpan bk = p - 22 → e.cell (physKey bk off) = 0) ∧
    (∀ bk < 272, ∀ off < 65536, bankSpan bk ≠ p - 22 → s.dev.pier (22 + bankSpan bk) ≠ 3 → e.cell (physKey bk off) = s.dev.cell (physKey bk off)) ∧
    natBit (e.rd rMEM_STATUS) (20 + (p - 22)) = true))

/-- R438, R471, R477: power-good samples the straps and the oscillator wait begins, once; the wait's end starts the clocks, once. -/
def StartUpBegins (s : State) (osc : Fin 8) (dev : Fin 4) : Prop :=
  (s.dev.pwr.stage ≠ 0 → Becomes (.powerGood osc dev) s s.dev) ∧
  (s.dev.pwr.stage = 0 → Completes (.powerGood osc dev) s (fun e =>
    e.fld rPMU_STRAPS fPMU_STRAPS_OSC_WAIT = osc.val ∧ e.devNum = dev.val ∧ (∀ p < 3, e.fld (rWRN_STATUS p) fWRN_STATUS_SELF = dev.val) ∧
    e.pwr.stage = 1 ∧ e.mem = s.dev.mem ∧ ((∀ p < 3, s.dev.flag (rWRN_STATUS p) fWRN_STATUS_TIME_UP = false) →
      RegsKeep [rPMU_STRAPS, rWRN_STATUS 0, rWRN_STATUS 1, rWRN_STATUS 2] s.dev e))) ∧
  (s.dev.pwr.stage ≠ 1 → Becomes .oscWaitExpiry s s.dev) ∧
  (s.dev.pwr.stage = 1 → Completes .oscWaitExpiry s (fun e => Started s.dev e ∧ e.outs = s.dev.outs ∧ e.mem.main = s.dev.mem.main))

/-- R470, R472: a PLL that loses lock after locking says so and is reported, a pixel PLL at its pipe too; it may lock again. A crystal that fails
clears XTAL_OK and sets XTAL_FAIL, and is reported; it may run again. -/
def ClocksFailAndReturn (s : State) (q : Fin 13) : Prop :=
  let a := rCKG_PLL_STATUS q
  Completes .xtalFail s (fun e =>
    e.flag rCKG_STATUS fCKG_STATUS_XTAL_OK = false ∧ e.flag rCKG_STATUS fCKG_STATUS_XTAL_FAIL = true ∧
    e.reports.length = s.dev.reports.length + 1 ∧ e = { s.dev with regs := e.regs, reports := e.reports } ∧
    RegsKeep (rCKG_STATUS :: raiseRegs rCKG_STATUS) s.dev e) ∧
  Completes .xtalRecovery s (fun e => e.flag rCKG_STATUS fCKG_STATUS_XTAL_OK = true ∧
    e.flag rCKG_STATUS fCKG_STATUS_XTAL_FAIL = s.dev.flag rCKG_STATUS fCKG_STATUS_XTAL_FAIL ∧ OnlyRegs [rCKG_STATUS] s.dev e) ∧
  (q.val < 4 → s.dev.flag a fCKG_PLL_STATUS_LOCK = false → Becomes (.pllLockLoss q) s s.dev) ∧
  (q.val < 4 → s.dev.flag a fCKG_PLL_STATUS_LOCK = true → Completes (.pllLockLoss q) s (fun e =>
    e.flag a fCKG_PLL_STATUS_LOCK = false ∧ e.flag a fCKG_PLL_STATUS_LOSS = true ∧ e.reports.length = s.dev.reports.length + 1 ∧
    RegsKeep (a :: raiseRegs a) s.dev e)) ∧
  (4 ≤ q.val → s.dev.flag a fCKG_PLL_STATUS_LOCK = false → s.dev.flag (rPIPE_STATUS (q - 4)) fPIPE_STATUS_PLL_LOCK = false →
    Becomes (.pllLockLoss q) s s.dev) ∧
  (4 ≤ q.val → s.dev.flag a fCKG_PLL_STATUS_LOCK = true ∨ s.dev.flag (rPIPE_STATUS (q - 4)) fPIPE_STATUS_PLL_LOCK = true →
    Completes (.pllLockLoss q) s (fun e =>
    e.flag a fCKG_PLL_STATUS_LOCK = false ∧ e.flag (rPIPE_STATUS (q - 4)) fPIPE_STATUS_PLL_LOCK = false ∧ e.flag a fCKG_PLL_STATUS_LOSS = true ∧
    (∃ r, e.reports = s.dev.reports ++ [r] ∧ r.cls = 5 ∧ r.idx = q.val - 4) ∧ RegsKeep (rPIPE_STATUS (q - 4) :: a :: raiseRegs a) s.dev e)) ∧
  (q.val < 4 → Completes (.pllRelock q) s (fun e => e.flag a fCKG_PLL_STATUS_LOCK = true ∧ OnlyRegs [a] s.dev e)) ∧
  (4 ≤ q.val → q.val ≠ 12 → Completes (.pllRelock q) s (fun e => e.flag a fCKG_PLL_STATUS_LOCK = true ∧ OnlyRegs [a, rPIPE_STATUS (q - 4)] s.dev e))

/-- R463: the state that the sequencer may choose is the deepest that MAX_STATE, the pier's limit and the time to the next event allow. -/
def ChoiceIsDeepest (d : Dev) (p : Nat) : Prop :=
  let top := min (d.fld (rPMU_PIER_CTRL p) fPMU_PIER_CTRL_MAX_STATE) (d.deepest p)
  let guard := d.fld (rPMU_PIER_CTRL p) fPMU_PIER_CTRL_GUARD
  let off := 3 ≤ top ∧ 1600 + d.restoreUs p + guard ≤ d.tne p
  let nap := 2 ≤ top ∧ 60 + guard ≤ d.tne p
  (off → d.choose p = 3) ∧ (¬ off → nap → d.choose p = 2) ∧ (¬ off → ¬ nap → 1 ≤ top → p ≠ 39 → d.choose p = 1) ∧
  (¬ off → ¬ nap → (top = 0 ∨ p = 39) → d.choose p = 0)

/-- R460: when the sequencer keeps some piers ON. PIER33's condition, the state of the PCIe link, stands in its ON_COND bit (log entry 41), as do the
jacks in debounce of PIER28 and the transfers of PIER38 (log entry 53). -/
def OnConditions (d : Dev) : Prop :=
  (∀ p < 2, d.onCond p = true) ∧ d.onCond 33 = d.flag (rPMU_PIER_STATUS 33) fPMU_PIER_STATUS_ON_COND ∧
  (∀ p ∈ [28, 38], d.flag (rPMU_PIER_STATUS p) fPMU_PIER_STATUS_ON_COND = true → d.onCond p = true) ∧ (∀ p, 22 ≤ p → p ≤ 25 → d.onCond p = (d.pier 39 == 0)) ∧
  (∀ p < 3, d.onCond (30 + p) = d.flag (rWRN_CTRL p) fWRN_CTRL_EN) ∧
  d.onCond 35 = (d.flag rMEM_DDR_CFG fMEM_DDR_CFG_EN && d.pier 39 == 0) ∧
  (∀ c < 8, d.flag (rCAM_CTRL c) fCAM_CTRL_EN = true → d.onCond (26 + c / 4) = true) ∧
  (d.onCond 39 = false ↔ ∀ q < 39, 2 ≤ q → ¬ (22 ≤ q ∧ q ≤ 25) → 2 ≤ d.pier q)

/-- The sequencer's own progress: nothing but it and PEND changes. -/
def OnlyPwr (as : List Nat) (d e : Dev) : Prop := e = { d with regs := e.regs, pwr := e.pwr } ∧ RegsKeep as d e

/-- R462 to R464: the sequencer's choice for a pier; an entry that it no longer chooses is given up. The choice for PIER28, PIER33 and PIER38 looks anew
at what is the world's own: jacks, the PCIe link and transfers (log entries 41 and 53). -/
def PiersAreChosen (s : State) (p : Fin 40) : Prop :=
  let on := s.dev.onCond p
  let h := s.dev.holdOf p
  let a := rPMU_PIER_STATUS p
  (p.val ∈ [28, 33, 38] → Completes (.pierStateChoice p) s (fun e =>
    e = { s.dev with regs := e.regs, pwr := e.pwr, free := e.free } ∧ RegsKeep [a] s.dev e ∧ e.pier p = s.dev.pier p ∧
    (h = 1 → (∀ x ∈ e.pwr.entering, x.1 ≠ p.val) ∧ (s.dev.pier p ≠ 0 → p.val ∈ e.pwr.waking)))) ∧
  (p.val ∉ [28, 33, 38] → Completes (.pierStateChoice p) s (fun e =>
    OnlyPwr [a] s.dev e ∧ e.pier p = s.dev.pier p ∧
    e.flag a fPMU_PIER_STATUS_PEND = (h == 2 && on && s.dev.pier p != 3) ∧
    ((h = 1 ∨ (h = 0 ∧ on = true)) → (∀ x ∈ e.pwr.entering, x.1 ≠ p.val) ∧ (s.dev.pier p ≠ 0 → p.val ∈ e.pwr.waking)) ∧
    (h = 2 → on = true → e.pwr = s.dev.pwr) ∧
    (h = 2 → on = false → s.dev.pier p ≠ 3 → (p.val, 3) ∈ e.pwr.entering) ∧
    (h = 0 → on = false → s.dev.pwr.linger = [] → s.dev.pwr.planned = [] → ¬ (22 ≤ p.val ∧ p.val ≤ 25) →
      (s.dev.choose p ≠ 0 → s.dev.choose p ≠ s.dev.pier p → (p.val, s.dev.choose p) ∈ e.pwr.entering) ∧
      (s.dev.choose p = s.dev.pier p → ∀ x ∈ e.pwr.entering, x.1 ≠ p.val) ∧
      (s.dev.choose p = 0 → s.dev.pier p ≠ 0 → p.val ∈ e.pwr.waking))))

/-- R457, R458, R461 to R463, R465: an entry that ends brings the pier into its state, with its registers as they were; the memory spans follow PIER39,
no deeper than their MAX_STATE and ON under hold ON; in OFF a pipe's PLL stops and the blitter and the loops of the channels are lost; the
device's entry into PARK is counted. -/
def EntriesEnd (s : State) (p : Fin 40) (st : Nat) : Prop :=
  (assocGet s.dev.pwr.entering p = none → Becomes (.pierEntryDone p) s s.dev) ∧
  (assocGet s.dev.pwr.entering p = some st → st < 4 → s.dev.anyAttached = false → Completes (.pierEntryDone p) s (fun e =>
    e.pier p = st ∧ e.flag (rPMU_PIER_STATUS p) fPMU_PIER_STATUS_PEND = false ∧ (∀ x ∈ e.pwr.entering, x.1 ≠ p.val) ∧
    (p.val = 39 → ∀ q, 22 ≤ q → q ≤ 25 → s.dev.pier q = 0 → e.pier q = min st s.dev.spansFollow) ∧
    (5 ≤ p.val → p.val ≤ 13 → st = 3 → s.dev.emu p = false → e.flag (rPIPE_STATUS (p - 5)) fPIPE_STATUS_PLL_LOCK = false) ∧
    (p.val = 29 → st = 3 → s.dev.emu p = false → e.blt = Dev.reset.blt ∧ ∀ c < 32, (e.chan c).loops = []) ∧
    (p.val ∈ [2, 28, 29, 33, 34, 35, 36, 37] → RegsKeep [rPMU_PIER_STATUS p, rPMU_PARK_CNT] s.dev e ∧ e.mem = s.dev.mem) ∧
    (s.dev.parked = false → e.parked = true → e.fld rPMU_PARK_CNT fPMU_PARK_CNT_COUNT =
      satInc (s.dev.fld rPMU_PARK_CNT fPMU_PARK_CNT_COUNT) fPMU_PARK_CNT_COUNT.w)))

/-- R459, R464: an arrival wakes a pier that sleeps, shown and counted from NAP and OFF, unless it is held OFF; a planned wake begins when the time to
the next event has fallen far enough. -/
def WakesBegin (s : State) (p : Fin 40) : Prop :=
  let need := (if s.dev.pier p = 3 then 1500 + s.dev.restoreUs p else 40) + s.dev.guard p
  (s.dev.pier p = 0 → s.dev.pwr.entering = [] → Becomes (.demandWake p) s s.dev) ∧
  (s.dev.pierHeldOff p = true → s.dev.emu p = false → Becomes (.demandWake p) s s.dev) ∧
  (s.dev.pier p ≠ 0 → s.dev.emu p = false → s.dev.pierHeldOff p = false → Completes (.demandWake p) s (fun e =>
    p.val ∈ e.pwr.waking ∧ (∀ x ∈ e.pwr.entering, x.1 ≠ p.val) ∧ e.pier p = s.dev.pier p ∧
    (2 ≤ s.dev.pier p → e.flag rPMU_STATUS fPMU_STATUS_DEMAND = true ∧
      e.fld rPMU_DEMAND_CNT fPMU_DEMAND_CNT_COUNT = satInc (s.dev.fld rPMU_DEMAND_CNT fPMU_DEMAND_CNT_COUNT) fPMU_DEMAND_CNT_COUNT.w) ∧
    (s.dev.pier p = 1 → RegsKeep [] s.dev e))) ∧
  (s.dev.pier p < 2 ∨ s.dev.pierHeldOff p = true ∨ need < s.dev.tne p → Becomes (.plannedWake p) s s.dev) ∧
  (2 ≤ s.dev.pier p → s.dev.pierHeldOff p = false → s.dev.tne p ≤ need → Completes (.plannedWake p) s (fun e =>
    p.val ∈ e.pwr.waking ∧ (∃ b, (p.val, b) ∈ e.pwr.planned) ∧ OnlyPwr [] s.dev e))

/-- R461, R374: a wake that ends makes the pier ON; the four spans wake together, and one that was OFF holds zeros and is shown as being zeroed.
LINGER's end lets a pier leave ON. -/
def WakesEnd (s : State) (p : Fin 40) : Prop :=
  (s.dev.pwr.waking.contains p.val = false → Becomes (.pierWakeDone p) s s.dev) ∧
  (s.dev.pwr.waking.contains p.val = true → Completes (.pierWakeDone p) s (fun e =>
    e.pier p = 0 ∧ p.val ∉ e.pwr.waking ∧ (22 ≤ p.val → p.val ≤ 25 → ∀ q, 22 ≤ q → q ≤ 25 → e.pier q = 0) ∧
    (22 ≤ p.val → p.val ≤ 25 → s.dev.pier p = 3 → s.dev.emu p = false →
      natBit (e.rd rMEM_STATUS) (20 + (p - 22)) = true ∧ ∀ bk < 272, ∀ off < 65536, bankSpan bk = p.val - 22 → e.cell (physKey bk off) = 0) ∧
    (¬ (22 ≤ p.val ∧ p.val ≤ 25) → p.val ≠ 38 → RegsKeep [rPMU_PIER_STATUS p, rPMU_PARK_CNT] s.dev e ∧ e.mem = s.dev.mem))) ∧
  Completes (.lingerExpiry p) s (fun e =>
    e = { s.dev with regs := e.regs, pwr := e.pwr, free := e.free } ∧ RegsKeep [rPMU_PIER_STATUS p] s.dev e ∧ e.pier p = s.dev.pier p ∧
    (s.dev.pier p = 0 → p.val ∉ e.pwr.linger))

/-- R468: in PARK, an enabled wake event brings PIER39, the spans and PIER02 ON, sets its bit and leaves TARGET. -/
def ParkEnds (s : State) (i : Fin 5) : Prop :=
  ((s.dev.dstate ≠ 2 ∧ s.dev.pwr.entering = []) ∨ (i.val ≠ 0 ∧ natBit (s.dev.rd rPMU_WAKE_EN) i = false) → Becomes (.parkWakeEvent i) s s.dev) ∧
  (s.dev.dstate = 2 → (∀ p ∈ [39, 22, 23, 24, 25, 2], s.dev.pierHeldOff p = false) → (i.val = 0 ∨ natBit (s.dev.rd rPMU_WAKE_EN) i = true) → Completes (.parkWakeEvent i) s (fun e =>
    (∀ p ∈ [39, 22, 23, 24, 25, 2], e.pier p = 0) ∧ natBit (e.rd rPMU_STATUS) i = true ∧
    RegsKeep ([39, 22, 23, 24, 25, 2].map rPMU_PIER_STATUS ++ [rPMU_STATUS, rMEM_STATUS] ++ raiseRegs rPMU_STATUS) s.dev e))

/-- R465: the device is in PARK when every pier but PIER00 and PIER01 sleeps, in QUIET when not and no output composes, else in RUN. -/
def DeviceStateFollows (d : Dev) : Prop :=
  (d.dstate = 2 ↔ ∀ p < 40, 2 ≤ p → 2 ≤ d.pier p) ∧ (d.dstate = 1 ↔ (∃ p < 40, 2 ≤ p ∧ d.pier p < 2) ∧ ∀ n < 8, d.composes n = false) ∧
  d.dstate < 3

end Sys2Proof.Machine

/-- R438, R470 to R478, R561: resets, start-up and clocks; XRESET before power-good is one reset with the one that runs. Each of these answers a next state with its own effect, on conditions of the state and the
operands alone: powerGood, por, xresetAssert, pmuDeviceReset, pmuPierReset, coreReset, oscWaitExpiry, xtalFail, pllLockLoss, pllRelock,
xtalRecovery. -/
def Obligations.ResetsAndClocksAct : Prop :=
  ∀ s : State, WholeReset .por s 0 ∧
    WholeReset .xresetAssert s (if s.dev.pwr.stage = 0 then s.dev.fld rPMU_RESET_CAUSE fPMU_RESET_CAUSE_CAUSE else 1) ∧ DeviceReset .pmuDeviceReset s ∧ CoreResetKeeps .coreReset s ∧
    (∀ v, PierResets s v) ∧ (∀ osc dev, StartUpBegins s osc dev) ∧ ∀ q, ClocksFailAndReturn s q

/-- R457 to R468: the power sequencer. Each of these answers a next state with its own effect, on conditions of the state and the operands alone:
pierStateChoice, pierEntryDone, demandWake, plannedWake, pierWakeDone, lingerExpiry, parkWakeEvent. -/
def Obligations.PiersSleepAndWake : Prop :=
  ∀ s : State, (∀ p, ChoiceIsDeepest s.dev p) ∧ OnConditions s.dev ∧ DeviceStateFollows s.dev ∧ (∀ p, PiersAreChosen s p) ∧
    (∀ p st, EntriesEnd s p st) ∧ (∀ p, WakesBegin s p) ∧ (∀ p, WakesEnd s p) ∧ ∀ i, ParkEnds s i

/-! ### Chapters 20 and 22: faults, start-up images, updates and halts -/

namespace Sys2Proof.Machine

/-- The TG0 frames of a unit's errors with a new one now, newest first (R482). -/
def errorsWith (d : Dev) (cls idx : Nat) : List Nat :=
  (d.tg0Frame :: ((d.flt.hist.find? (·.1 == (cls, idx))).map (·.2)).getD []).take 15

/-- R482: the last PERM_COUNT errors of a unit, one arriving now included, lie within the window, both ends counted. -/
def Permanent (d : Dev) (cls idx : Nat) : Prop :=
  ∃ f, (errorsWith d cls idx)[max 1 (d.fld rFLT_CTRL fFLT_CTRL_PERM_COUNT) - 1]? = some f ∧
    d.tg0Frame < f + max 1 (d.fld rFLT_WINDOW fFLT_WINDOW_FRAMES)

/-- R186, R309, R480, R481: an error that only its unit detects, in a line core (units 0 to 71) or a pipe, raises the unit's source and is reported at its
beam time; a pipe's composed line is replayed. While T0 runs it is judged at once. -/
def UnitErrorsAreFound (s : State) (u : Fin 81) : Prop :=
  let src := if u.val < 72 then 274 + u.val / 9 else 257 + (u.val - 72)
  let cls := if u.val < 72 then 7 else 5
  let idx := if u.val < 72 then u.val else u.val - 72
  ((s.dev.clu (u.val / 9)).progs = [] ∨ 72 ≤ u.val) →
  (s.dev.pwr.stage ≠ 3 → Completes (.errorReport (some u)) s (fun e =>
    (∃ r, e.reports = s.dev.reports ++ [r] ∧ r.code = cls ∧ r.cls = cls ∧ r.idx = idx ∧ r.bt = s.dev.bt) ∧ e.flag (rIRQC_SRC src) fIRQC_SRC_PEND = true ∧
    (∀ n x, 72 ≤ u.val → s.dev.pipeServes idx = some n → n < 8 → s.dev.outs.length = 8 → (s.dev.outp n).fifo = [x] → x.kind = 0 →
      ((e.outp n).fifo.map (fun y => (y.line, y.frame, y.kind))) = [(x.line, x.frame, 1)]))) ∧
  (s.dev.pwr.stage = 3 → s.dev.reports = [] → s.dev.flag rFLT_CTRL fFLT_CTRL_AUTO = false → s.dev.replaces cls idx = none →
    Completes (.errorReport (some u)) s (fun e => e.reports = [] ∧ e.flag (rIRQC_SRC src) fIRQC_SRC_PEND = true ∧
      e.fld rFLT_ERR_CNT fFLT_ERR_CNT_COUNT = satInc (s.dev.fld rFLT_ERR_CNT fFLT_ERR_CNT_COUNT) fFLT_ERR_CNT_COUNT.w))

/-- The report judged next is one of the oldest moment, and no other of that moment is of a lower class, or of a lower index in its class (R18, R500). -/
def NextReportIsFirst (rs : List Report) (r : Report) : Prop :=
  nextReport rs = some r → r ∈ rs ∧ (∀ x, rs.head? = some x → r.bt = x.bt) ∧ ∀ x ∈ rs, x.bt = r.bt → unitBefore (x.cls, x.idx) (r.cls, r.idx) = false

/-- R480, R482: the next report is judged and counted, while T0 runs. Its unit is made permanent, and listed, when its errors are enough within the
window; a trip counts for nothing while SIG_RETIRE is 0, a unit that is listed already is journalled only, and FLT.RETIRE of one in recovery has no
effect (R500). With no report, nothing happens. -/
def ReportsAreJudged (s : State) (r : Report) : Prop :=
  let u := (r.cls, r.idx)
  let perm (e : Dev) := e.fld rFLT_PERM_CNT fFLT_PERM_CNT_COUNT
  let same (e : Dev) := perm e = perm s.dev ∧ e.flt.retired = s.dev.flt.retired ∧ e.flt.spans = s.dev.flt.spans
  NextReportIsFirst s.dev.reports r ∧
  (s.dev.reports = [] ∨ s.dev.pwr.stage ≠ 3 → Becomes (.errorReport none) s s.dev) ∧
  (s.dev.pwr.stage = 3 → nextReport s.dev.reports = some r → r.code = 0x11 → s.dev.inRecovery r.cls r.idx = true →
    Becomes (.errorReport none) s { s.dev with reports := s.dev.reports.erase r }) ∧
  (s.dev.pwr.stage = 3 → nextReport s.dev.reports = some r → s.dev.replaces r.cls r.idx = none → (r.code = 0x11 → s.dev.inRecovery r.cls r.idx = false) →
    Completes (.errorReport none) s (fun e =>
      (r.code ≠ 0x11 → s.dev.flag rFLT_CTRL fFLT_CTRL_AUTO = false → e.reports = s.dev.reports.erase r) ∧ e.flag rFLT_STATUS fFLT_STATUS_ERROR = true ∧
      e.fld rFLT_ERR_CNT fFLT_ERR_CNT_COUNT = satInc (s.dev.fld rFLT_ERR_CNT fFLT_ERR_CNT_COUNT) fFLT_ERR_CNT_COUNT.w ∧
      (s.dev.flt.retired.contains u = true → r.code ≠ 0x11 → same e) ∧
      (r.code = 0x06 → s.dev.flag rFLT_CTRL fFLT_CTRL_SIG_RETIRE = false → same e ∧ e.flt.hist = s.dev.flt.hist) ∧
      (s.dev.flt.retired.contains u = false → r.code ≠ 0x06 → r.code ≠ 0x11 →
        (¬ Permanent s.dev r.cls r.idx → same e ∧ (u, errorsWith s.dev r.cls r.idx) ∈ e.flt.hist) ∧
        (Permanent s.dev r.cls r.idx → s.dev.flag rFLT_CTRL fFLT_CTRL_AUTO = false →
          perm e = satInc (perm s.dev) fFLT_PERM_CNT_COUNT.w ∧ e.flag rFLT_STATUS fFLT_STATUS_PERMANENT = true ∧ u ∈ e.flt.retired ∧
          e.flt.spans = s.dev.flt.spans)))) ∧
  ∀ u : Fin 81, UnitErrorsAreFound s u

/-- R483, R484: a recovery whose end has come retires its unit and frees the slot; one that has taken two frames is abandoned, its replacement
permanent. Frames are counted modulo 2^24. -/
def RecoveriesEnd (s : State) (k : Fin 4) (u : List Nat) : Prop :=
  ((s.dev.span k).busy = none → Becomes (.recoveryEnd k) s s.dev ∧ Becomes (.recoveryTimeout k) s s.dev) ∧
  ((s.dev.span k).busy = some u →
    let gone := (s.dev.recFrame u + 2 ^ 24 - (s.dev.span k).since) % 2 ^ 24
    (s.dev.recoveryOver u = false → Becomes (.recoveryEnd k) s s.dev) ∧
    (s.dev.recoveryOver u = true → s.dev.flt.spans.length = 4 → (s.dev.span k).queue = [] → Completes (.recoveryEnd k) s (fun e =>
      (e.span k).busy = none ∧ natBit (e.rd rFLT_STATUS) (8 + k) = false ∧ (u.getD 0 0, u.getD 1 0) ∈ e.flt.retired ∧
      (∀ j < 4, j ≠ k.val → e.span j = s.dev.span j) ∧ RegsKeep (rFLT_JOURNAL_NEXT :: rDBG_STL_OVW_CNT :: slotRegs) s.dev e)) ∧
    (s.dev.recoveryOver u = true ∨ gone < 2 → Becomes (.recoveryTimeout k) s s.dev) ∧
    (s.dev.recoveryOver u = false → 2 ≤ gone → s.dev.flt.spans.length = 4 → (s.dev.span k).queue = [] →
      u.getD 0 0 = 7 → u.getD 3 0 < 72 → Completes (.recoveryTimeout k) s (fun e =>
        (e.span k).busy = none ∧ e.fld rFLT_PERM_CNT fFLT_PERM_CNT_COUNT = satInc (s.dev.fld rFLT_PERM_CNT fFLT_PERM_CNT_COUNT) fFLT_PERM_CNT_COUNT.w ∧
        (7, u.getD 3 0) ∈ e.flt.retired ∧ natBit (e.rd (rLCC_CORES (u.getD 3 0 / 9))) (u.getD 3 0 % 9) = true)))

/-- R32, R484: GO of FLT_LC_RETIRE retires a line core, whose logical number LC8 takes where it is free, holding the slot of the span till LC8
starts; while another unit holds that slot the core waits for it. -/
def LineCoresAreRetired (s : State) (v : Reg) : Prop :=
  let c := v.toNat % 128
  let n := c / 9
  let k := c % 9
  let a := rLCC_CORES n
  (72 ≤ c ∨ natBit (s.dev.rd a) k = true → Completes (.fltLcRetireGo v) s (fun e =>
    e.rd rFLT_LC_RETIRE = c ∧ e.outs = s.dev.outs ∧ e.lcc = s.dev.lcc ∧ RegsKeep (rFLT_LC_RETIRE :: slotRegs) s.dev e)) ∧
  (c < 72 → natBit (s.dev.rd a) k = false → (s.dev.span (n / 2)).busy = none → (s.dev.clu n).progs = [] → s.dev.flt.spans.length = 4 →
    Completes (.fltLcRetireGo v) s (fun e =>
      natBit (e.rd a) k = true ∧ e.mem = s.dev.mem ∧
      (k < 8 → s.dev.fld a fLCC_CORES_SPARE_FOR = 0xF → natBit (s.dev.rd a) 8 = false →
        e.fld a fLCC_CORES_SPARE_FOR = k ∧ (e.span (n / 2)).busy = some [7, c, 7, 9 * n + 8]) ∧
      (k = 8 → e.fld a fLCC_CORES_SPARE_FOR = 0xF ∧ (e.span (n / 2)).busy = none))) ∧
  (∀ u, c < 72 → natBit (s.dev.rd a) k = false → (s.dev.span (n / 2)).busy = some u → (s.dev.span (n / 2)).queue.length < 8 →
    s.dev.flt.spans.length = 4 → (7, c) ∉ (s.dev.span (n / 2)).queue → (7, c) ∉ (s.dev.span (n / 2)).waiting →
    Completes (.fltLcRetireGo v) s (fun e =>
      e.rd a = s.dev.rd a ∧ (e.span (n / 2)).queue = (s.dev.span (n / 2)).queue ++ [(7, c)] ∧ e.outs = s.dev.outs ∧ e.lcc = s.dev.lcc ∧
      RegsKeep (rFLT_LC_RETIRE :: slotRegs) s.dev e))

/-- A boot record whose fields fit their places. -/
def BootRec.fits (r : BootRec) : Prop := r.seq < 2 ^ 24 ∧ r.active < 2 ∧ r.tries < 4 ∧ r.ver < 2 ^ 48

/-- R494: a record written into both copies is the record in force, with its sequence number two higher. -/
def RecordsAreWrittenTwice (d : Dev) (r : BootRec) : Prop :=
  d.upd.br.length = 2 → r.fits → d.bootRec.seq < 2 ^ 24 → (d.bootWrite r).bootRec = { r with seq := (d.bootRec.seq + 2) % 2 ^ 24 }

/-- R491, R496, R499: the image and the state that a start, or a restart of T0, chooses: an image runs if it verifies. A revert that power cut off ends
here, and without an image that verifies T0 does not start. -/
def ImagesAreChosen (s : State) (okA okB : Bool) : Prop :=
  let r := s.dev.bootRec
  let ok (i : Nat) : Bool := (if i = 0 then okA else okB) && s.dev.imageGood i
  (s.dev.pwr.stage ≠ 2 → s.dev.pwr.stage ≠ 5 → Becomes (.bootRecordRead okA okB) s s.dev) ∧
  (s.dev.pwr.stage = 2 ∨ s.dev.pwr.stage = 5 → s.dev.bootPick.isSome = true → s.dev.upd.br.length = 2 → r.fits → s.dev.flt.retired = [] →
    (r.trial = true → r.tries = 3 → ok (1 - r.active) = true → (s.dev.slot (1 - r.active)).ver < 2 ^ 48 → Completes (.bootRecordRead okA okB) s (fun e =>
      e.pwr.stage = 3 ∧ e.bootRec.active = 1 - r.active ∧ e.bootRec.trial = false ∧ e.bootRec.fallback = false ∧ e.bootRec.tries = 0 ∧
      e.flag rUPD_STATUS fUPD_STATUS_REVERTED = true ∧ e.updState = 0)) ∧
    (r.trial = true → r.tries < 3 → ok r.active = true → Completes (.bootRecordRead okA okB) s (fun e =>
      e.pwr.stage = 3 ∧ e.bootRec = { r with seq := (r.seq + 2) % 2 ^ 24, tries := r.tries + 1 } ∧ e.updState = 6 ∧
      e.fld rUPD_STATUS fUPD_STATUS_ACTIVE = r.active ∧ e.rd rUPD_HEALTHY = 0)) ∧
    (r.trial = false → ok r.active = true → Completes (.bootRecordRead okA okB) s (fun e =>
      e.pwr.stage = 3 ∧ e.upd.br = s.dev.upd.br ∧ e.fld rUPD_STATUS fUPD_STATUS_ACTIVE = r.active ∧
      e.flag rUPD_STATUS fUPD_STATUS_FALLBACK = r.fallback ∧ e.flag rUPD_STATUS fUPD_STATUS_REVERTED = s.dev.revertOpen ∧
      e.updState = (if s.dev.revertOpen then 0 else if (s.dev.slot (1 - r.active)).status = 1 then 2
        else if (s.dev.slot (1 - r.active)).status = 0 ∧ r.fallback = false then 4 else 0))) ∧
    (r.trial = false → ok r.active = false → r.fallback = true → ok (1 - r.active) = true → (s.dev.slot (1 - r.active)).ver < 2 ^ 48 →
      Completes (.bootRecordRead okA okB) s (fun e =>
        e.pwr.stage = 3 ∧ e.bootRec.active = 1 - r.active ∧ e.bootRec.trial = false ∧ e.bootRec.fallback = false ∧ e.bootRec.tries = 0)) ∧
    (r.trial = false → ok r.active = false → (r.fallback = false ∨ ok (1 - r.active) = false) → Completes (.bootRecordRead okA okB) s (fun e =>
      e.pwr.stage = 4 ∧ e.outs = s.dev.outs ∧ e.upd = s.dev.upd ∧ RegsKeep [] s.dev e)) ∧
    (r.trial = true → r.tries = 3 → ok (1 - r.active) = false → (s.dev.slot (1 - r.active)).ver < 2 ^ 48 → Completes (.bootRecordRead okA okB) s (fun e =>
      e.pwr.stage = 4 ∧ e.outs = s.dev.outs ∧ e.bootRec.active = 1 - r.active ∧ e.bootRec.trial = false))) ∧
  (s.dev.pwr.stage = 2 ∨ s.dev.pwr.stage = 5 → s.dev.bootPick = none → Completes (.bootRecordRead okA okB) s (fun e =>
    e.pwr.stage = 4 ∧ e.outs = s.dev.outs ∧ e.upd = s.dev.upd ∧ e.flt = s.dev.flt ∧ RegsKeep [] s.dev e))

/-- R258, R478: while no parapet is loaded, a parapet section that fails its check sets LOAD_BAD and loads nothing, and one that passes loads the
parapet and its registers; one that is loaded already, as after a CORE reset, stays as it is. -/
def ParapetIsLoaded (s : State) (ctrl mask : Reg) (store : List (BitVec 19 × Word)) (early : List (Fin 8 × Reg)) : Prop :=
  let here := s.dev.flag rPRP_STATUS fPRP_STATUS_LOADED
  (here = true → Completes (.parapetLoad true ctrl mask store []) s (fun e => e.prp = s.dev.prp ∧ e.outs = s.dev.outs ∧
    e.rd rPRP_CTRL = s.dev.rd rPRP_CTRL ∧ e.rd rPRP_STATUS = s.dev.rd rPRP_STATUS)) ∧
  (here = false → Completes (.parapetLoad false ctrl mask store early) s (fun e =>
    e.flag rPRP_STATUS fPRP_STATUS_LOAD_BAD = true ∧ e.prp = s.dev.prp ∧ e.outs = s.dev.outs ∧ e.rd rPRP_CTRL = s.dev.rd rPRP_CTRL)) ∧
  (here = false → Completes (.parapetLoad true ctrl mask [] []) s (fun e =>
    e.rd rPRP_CTRL = ctrl.toNat &&& 0xFFFF80 ∧ e.rd rPRP_ATTN_MASK = mask.toNat % 64 ∧ e.flag rPRP_STATUS fPRP_STATUS_LOADED = true ∧
    e.flag rPRP_STATUS fPRP_STATUS_FRESH = true ∧ e.prp = Dev.reset.prp ∧ e.outs = s.dev.outs ∧ e.mem = s.dev.mem))

/-- R491, R493, R497, R498: verification, confirmation, the trial limit and the live handover, which waits for a frame boundary of TG0 with no
recovery and no staging under way. -/
def UpdatesGoOn (s : State) (ok : Bool) : Prop :=
  let r := s.dev.bootRec
  (s.dev.updState ≠ 3 → Becomes (.updVerifyDone ok) s s.dev) ∧
  (s.dev.updState = 3 → (ok && s.dev.imageGood (1 - r.active)) = true → Completes (.updVerifyDone ok) s (fun e =>
      e.updState = 4 ∧ (s.dev.upd.slots.length = 2 → (e.slot (1 - r.active)).status = 0) ∧ e.upd.br = s.dev.upd.br)) ∧
  (s.dev.updState = 3 → (ok && s.dev.imageGood (1 - r.active)) = false → Completes (.updVerifyDone ok) s (fun e =>
      e.updState = 0 ∧ e.flag rUPD_STATUS fUPD_STATUS_INVALID = true ∧ e.upd = s.dev.upd)) ∧
  (¬ (s.dev.updState = 6 ∧ s.dev.upd.trial = true ∧ s.dev.upd.hand = none ∧ s.dev.flag rUPD_STATUS fUPD_STATUS_CONFIRM_RCVD = true ∧ s.dev.fld rUPD_CTRL fUPD_CTRL_TRIAL_FRAMES ≤ s.dev.rd rUPD_HEALTHY) →
    Becomes .trialConfirmed s s.dev) ∧
  (s.dev.updState = 6 → s.dev.upd.trial = true → s.dev.upd.hand = none → s.dev.flag rUPD_STATUS fUPD_STATUS_CONFIRM_RCVD = true → s.dev.fld rUPD_CTRL fUPD_CTRL_TRIAL_FRAMES ≤ s.dev.rd rUPD_HEALTHY →
    s.dev.upd.br.length = 2 → r.fits → Completes .trialConfirmed s (fun e =>
      e.updState = 0 ∧ e.bootRec = { r with seq := (r.seq + 2) % 2 ^ 24, trial := false, fallback := true, tries := 0 } ∧
      e.flag rUPD_STATUS fUPD_STATUS_FALLBACK = true)) ∧
  (s.dev.updState ≠ 6 ∨ s.dev.upd.trial = false ∨ s.dev.fld rUPD_CTRL fUPD_CTRL_TRIAL_LIMIT_S = 0 ∨ s.dev.upd.hand ≠ none → Becomes (.trialLimitExpiry ok) s s.dev) ∧
  (s.dev.updState = 6 → s.dev.upd.trial = true → s.dev.fld rUPD_CTRL fUPD_CTRL_TRIAL_LIMIT_S ≠ 0 → s.dev.upd.hand = none →
    ((ok && s.dev.imageGood (1 - r.active)) = true → s.dev.upd.br.length = 2 → r.fits → (s.dev.slot (1 - r.active)).ver < 2 ^ 48 →
      Completes (.trialLimitExpiry ok) s (fun e =>
        e.upd.hand = some 1 ∧ e.bootRec.active = 1 - r.active ∧ e.bootRec.trial = false ∧ e.bootRec.fallback = false)) ∧
    ((ok && s.dev.imageGood (1 - r.active)) = false → Completes (.trialLimitExpiry ok) s (fun e => e.updState = 6 ∧ e.upd = s.dev.upd))) ∧
  (s.dev.talk.bell = false →
    s.dev.upd.hand = none ∨ (∃ x ∈ s.dev.flt.spans, x.busy ≠ none) ∨ s.dev.cfg.staging ≠ [] ∨ 4 ≤ s.dev.btu.e % 2 ^ 24 → Becomes .liveHandover s s.dev) ∧
  (∀ k, s.dev.upd.hand = some k → (∀ x ∈ s.dev.flt.spans, x.busy = none) → s.dev.cfg.staging = [] → s.dev.btu.e % 2 ^ 24 < 4 → s.dev.talk.bell = false →
    s.dev.talk.later = [] → s.dev.talk.owed = [] →
    Completes .liveHandover s (fun e =>
      e.upd.hand = none ∧ (e.upd.trial = true ↔ k = 0) ∧ e.updState = (if k = 0 then 6 else 0) ∧ e.rd rUPD_HEALTHY = 0 ∧
      e.flag rUPD_STATUS fUPD_STATUS_CONFIRM_RCVD = false ∧ (k ≠ 0 → e.flag rUPD_STATUS fUPD_STATUS_REVERTED = true) ∧ e.outs = s.dev.outs ∧
      e.trs = s.dev.trs))

/-- R527, R531, R534, R539: a halt that was asked for is taken at the first boundary without a shadow or a delay slot; one that a step began with lets
the core execute the step's slots, and a step whose slots have run halts it again, unless no FULL session is attached any more. A breakpoint that
matches there is taken as well. At any other boundary nothing happens. -/
def HaltsAreTaken (s : State) (core : CoreId) : Prop :=
  let c := coreCode core
  let x := s.dev.core c
  let may := x.run = 1 ∧ x.shadow = [] ∧ x.delay = none ∧ x.wait ≤ 1
  let met := if s.dev.breakHit c x.slotAddr then x.pass ||| 1 else x.pass
  let Is (y : Machine.Core) : Prop :=
    Completes (.debugHaltTaken core) s (fun e => e.core c = y ∧ (∀ k, k ≠ c → e.core k = s.dev.core k) ∧ e.mem = s.dev.mem)
  (¬ may ∨ (x.haltReq = false ∧ x.steps ≠ some (true, 0)) → Becomes (.debugHaltTaken core) s s.dev) ∧
  (may → x.posted = [] → s.dev.talk.owed = [] →
    (x.haltReq = true → x.steps = none → Is { x with run := 2, haltReq := false, pass := met }) ∧
    (∀ n, x.haltReq = true → x.steps = some (false, n) → Is { x with haltReq := false, steps := some (true, n), pass := met }) ∧
    (x.haltReq = false → x.steps = some (true, 0) → s.dev.anyFull = true → Is { x with run := 2, steps := none }) ∧
    (x.haltReq = false → x.steps = some (true, 0) → s.dev.anyFull = false → Is { x with steps := none }))

end Sys2Proof.Machine

/-- R480 to R486: errors are judged, recoveries end, line cores are retired. Each of these answers a next state with its own effect, on conditions
of the state and the operands alone: errorReport, recoveryEnd, recoveryTimeout, fltLcRetireGo. -/
def Obligations.FaultsAreJudgedAndRecovered : Prop :=
  ∀ s : State, (∀ r, ReportsAreJudged s r) ∧ (∀ k u, RecoveriesEnd s k u) ∧ ∀ v, LineCoresAreRetired s v

/-- R258, R478, R491 to R499, R527, R531: start-up images, the parapet section, updates, and halts of cores. Each of these answers a next state with its
own effect, on conditions of the state and the operands alone: bootRecordRead, parapetLoad, updVerifyDone, trialConfirmed, trialLimitExpiry,
liveHandover, debugHaltTaken. -/
def Obligations.ImagesUpdatesAndHalts : Prop :=
  ∀ s : State, (∀ r, RecordsAreWrittenTwice s.dev r) ∧ (∀ okA okB, ImagesAreChosen s okA okB) ∧
    (∀ ctrl mask store early, ParapetIsLoaded s ctrl mask store early) ∧ (∀ ok, UpdatesGoOn s ok) ∧ ∀ core, HaltsAreTaken s core
/-! ### Chapter 21: pins, timers and PWM -/

namespace Sys2Proof.Machine

/-- R513: a rising edge on a pad whose condition is the rising edge sets the pad's bit of GPIO_IRQ_STAT and the bank's source, and GPIO_IN shows it. -/
def RisingEdgeInterrupts (s : State) (p : Fin 96) : Prop :=
  s.dev.awake 38 = true → s.dev.padLevel p = false → s.dev.flag (rGPIO_BANK_STATUS (p.val / 16)) fGPIO_BANK_STATUS_PWR_OK = true →
  s.dev.fld (rGPIO_PAD p) fGPIO_PAD_IRQ = 1 →
  Completes (.gpioInputChange p true) s (fun e =>
    e.padLevel p = true ∧ natBit (e.rd (rGPIO_IRQ_STAT (p.val / 16))) (p.val % 16) = true ∧ natBit (e.rd (rGPIO_IN (p.val / 16))) (p.val % 16) = true ∧
    e.flag (rIRQC_SRC (340 + p.val / 16)) fIRQC_SRC_PEND = true ∧ e.mem = s.dev.mem)

/-- R512: while PIER38 is not ON only the pad itself changes. -/
def PadChangesAsleep (s : State) (p : Fin 96) (lvl : Bool) : Prop :=
  s.dev.awake 38 = false →
  Becomes (.gpioInputChange p lvl) s { s.dev with pins := { s.dev.pins with level := natSetBits s.dev.pins.level p 1 lvl.toNat } }

/-- R502, R555: a supply that leaves its class for less than 1.6 V turns the bank's outputs off, makes its inputs read 0 and sets VSEL_BAD with the
bank's source; while PIER38 is not ON nothing else changes. -/
def SupplyLeavesClass (s : State) (k : Fin 6) (mv : Nat) : Prop :=
  s.dev.pins.supply.length = 6 → s.dev.bankOff k = false → inClass (s.dev.fld (rGPIO_BANK_STATUS k) fGPIO_BANK_STATUS_CLASS) mv = false →
  mv ≤ 1600 →
  Completes (.bankSupplyChange k mv) s (fun e =>
    e.bankOff k = true ∧ e.flag (rGPIO_BANK_STATUS k) fGPIO_BANK_STATUS_VSEL_BAD = true ∧ e.flag (rGPIO_BANK_STATUS k) fGPIO_BANK_STATUS_PWR_OK = false ∧
    e.flag (rIRQC_SRC (340 + k.val)) fIRQC_SRC_PEND = true ∧ (∀ b : Fin 16, e.padLevel (16 * k.val + b.val) = false) ∧
    e.pins = { s.dev.pins with supply := s.dev.pins.supply.set k mv } ∧ e.mem = s.dev.mem ∧ e.outs = s.dev.outs ∧ e.trs = s.dev.trs ∧
    (s.dev.awake 38 = false →
      e = { s.dev with regs := e.regs, pins := e.pins } ∧ RegsKeep [rGPIO_BANK_STATUS k, rIRQC_SRC (340 + k.val), rIRQC_COAL_CNT] s.dev e))

/-- R509: when a pulse's width expires its pin is released. -/
def PulseReleases (s : State) (p : Fin 96) : Prop :=
  s.dev.fld (rXBAR_PIN p) fXBAR_PIN_TRS_STATE = 3 → s.dev.flag (rXBAR_PIN p) fXBAR_PIN_TRS = true →
  Completes (.gpioPulseEnd p) s (fun e =>
    e.fld (rXBAR_PIN p) fXBAR_PIN_TRS_STATE = 0 ∧ e.xbarTrs p = (false, false) ∧ assocGet e.pins.pulse p = none ∧
    e = { s.dev with regs := e.regs, pins := { s.dev.pins with pulse := e.pins.pulse } } ∧ RegsKeep [rXBAR_PIN p] s.dev e)

/-- R509: a write of TRS to 0 releases the pin. -/
def TrsReleased (s : State) (p : Fin 96) (v : Reg) : Prop :=
  Completes (.xbarTrsRelease p v) s (fun e =>
    e.flag (rXBAR_PIN p) fXBAR_PIN_TRS = false ∧ e.fld (rXBAR_PIN p) fXBAR_PIN_TRS_STATE = 0 ∧
    e.fld (rXBAR_PIN p) fXBAR_PIN_SRC_A = v.toNat % 256 ∧ RegsKeep [rXBAR_PIN p] s.dev e ∧
    e = { s.dev with regs := e.regs, pins := { s.dev.pins with pulse := e.pins.pulse } })

/-- R511: a selected edge of an EVI input raises its event line; another changes nothing. -/
def EviEdgeRaises (s : State) (j : Fin 16) : Prop :=
  s.dev.flag (rXBAR_IN (0x70 + j.val)) fXBAR_IN_EN = true →
  (s.dev.fld (rXBAR_EVI j) fXBAR_EVI_EDGE = 1 →
    Completes (.eviEdge j true) s (RaisesLine (s.dev.fld (rXBAR_EVI j) fXBAR_EVI_EV) s.dev)) ∧
  (s.dev.fld (rXBAR_EVI j) fXBAR_EVI_EDGE = 2 → Becomes (.eviEdge j true) s s.dev)

/-- R511, R512: an EVO output goes low when its width expires, which wakes the pads' pier where a pin names the output. -/
def EvoGoesLow (s : State) (j : Fin 8) : Prop :=
  Completes (.evoWidthExpiry j) s (fun e =>
    natBit e.pins.evo j = false ∧ (∀ i, i ≠ j.val → natBit e.pins.evo i = natBit s.dev.pins.evo i) ∧ e.mem = s.dev.mem ∧ e.outs = s.dev.outs ∧
    (natBit s.dev.pins.evo j = true → s.dev.xbarUses (0x34 + j.val) 1 = true → s.dev.pierHeldOff 38 = false → e.pier 38 = 0) ∧
    (natBit s.dev.pins.evo j = false ∨ s.dev.xbarUses (0x34 + j.val) 1 = false →
      e = { s.dev with regs := e.regs, pins := { s.dev.pins with evo := e.pins.evo } } ∧ RegsKeep [] s.dev e))

/-- R515: EN going from 0 to 1 loads OUT_INIT into the output; CAPTURE is left 0 here. -/
def TimerEnabled (s : State) (n : Fin 16) (v : Reg) : Prop :=
  s.dev.flag (rTMR_CTRL n) fTMR_CTRL_EN = false → natBit v.toNat 11 = false →
  Completes (.tmrEnable n v) s (fun e =>
    e.flag (rTMR_CTRL n) fTMR_CTRL_EN = true ∧ e.fld (rTMR_CTRL n) fTMR_CTRL_CLK = natBits v.toNat 21 2 ∧
    e.fld (rTMR_STATUS n) fTMR_STATUS_OUT = natBits v.toNat 15 1 ∧ OnlyRegs [rTMR_CTRL n, rTMR_STATUS n] s.dev e)

/-- R515: a step short of the compare value advances the count and fires nothing. -/
def TimerCounts (s : State) (n : Fin 16) : Prop :=
  s.dev.gated 30 = false → s.dev.flag (rTMR_CTRL n) fTMR_CTRL_EN = true → s.dev.tmrFrozen n = false → s.dev.fld (rTMR_CTRL n) fTMR_CTRL_CLK = 0 →
  s.dev.tmrCount n + 1 < s.dev.tmrCmp n →
  Completes (.tmrStep n 0) s (fun e =>
    e.tmrCount n = s.dev.tmrCount n + 1 ∧ OnlyRegs [rTMR_CNT_LO n, rTMR_CNT_HI n] s.dev e)

/-- R516: the step that reaches the compare value fires MATCH: the flag, the output action, and no source where IRQ_EN does not name it. -/
def TimerMatches (s : State) (n : Fin 16) : Prop :=
  s.dev.gated 30 = false → s.dev.flag (rTMR_CTRL n) fTMR_CTRL_EN = true → s.dev.tmrFrozen n = false → s.dev.fld (rTMR_CTRL n) fTMR_CTRL_CLK = 0 →
  s.dev.tmrCount n + 1 = s.dev.tmrCmp n → s.dev.fld (rTMR_CTRL n) fTMR_CTRL_IRQ_EN = 0 → s.dev.flag (rTMR_EVT n) fTMR_EVT_EV_EN = false →
  s.dev.fld (rTMR_CTRL ((n.val + 1) % 16)) fTMR_CTRL_CLK ≠ 3 → s.dev.fld (rTMR_CTRL n) fTMR_CTRL_OUT_ACT = 3 →
  Completes (.tmrStep n 0) s (fun e =>
    e.tmrCount n = s.dev.tmrCmp n ∧ e.flag (rTMR_STATUS n) fTMR_STATUS_MATCH = true ∧
    e.fld (rTMR_STATUS n) fTMR_STATUS_OUT = 1 - s.dev.fld (rTMR_STATUS n) fTMR_STATUS_OUT ∧
    OnlyRegs [rTMR_CNT_LO n, rTMR_CNT_HI n, rTMR_STATUS n] s.dev e)

/-- R473, R510, R515: a frozen, disabled or gated timer does not step, nor one on TMRn_EXT while the input is off, nor one on the BTU by a step that
the BTU cannot take. -/
def TimerHeld (s : State) (n : Fin 16) (k : Fin 4) : Prop :=
  let c := s.dev.fld (rTMR_CTRL n) fTMR_CTRL_CLK
  (s.dev.flag (rTMR_CTRL n) fTMR_CTRL_EN = false ∨ s.dev.tmrFrozen n = true ∨ s.dev.gated 30 = true ∨ c = 3 ∨
    (c = 1 ∧ (k.val < s.dev.btuSteps.1 ∨ s.dev.btuSteps.2 < k.val)) ∨ (c = 2 ∧ s.dev.flag (rXBAR_IN (0x10 + n.val)) fXBAR_IN_EN = false)) →
  Becomes (.tmrStep n k) s s.dev

/-- R510, R517: an edge the timer is set to pushes the count of three clocks before, `back` units ago but no more than the timer can have counted; a queue
of four refuses it with CAP_OVF. Another edge, or one while TMRn_CAP is off, does nothing. -/
def EdgeCaptures (s : State) (n : Fin 16) (back : Fin 10) : Prop :=
  let b := min back.val (s.dev.tmrBack n)
  s.dev.flag (rTMR_CTRL n) fTMR_CTRL_CAP_EV = false → s.dev.fld (rTMR_CTRL n) fTMR_CTRL_CAP_EDGE = 1 →
  (s.dev.gated 30 = false → s.dev.flag (rXBAR_IN n) fXBAR_IN_EN = true → s.dev.flag (rTMR_CTRL n) fTMR_CTRL_RELOAD = false →
    b ≤ s.dev.tmrCount n → s.dev.pins.capq.length = 16 →
    ((s.dev.capq n).length < 4 →
      Completes (.tmrCaptureEdge n true back) s (fun e =>
        e.capq n = s.dev.capq n ++ [s.dev.tmrCount n - b] ∧ e.fld (rTMR_STATUS n) fTMR_STATUS_DEPTH = (s.dev.capq n).length + 1 ∧
        e.flag (rTMR_STATUS n) fTMR_STATUS_CAP = true)) ∧
    ((s.dev.capq n).length = 4 →
      Completes (.tmrCaptureEdge n true back) s (fun e => e.capq n = s.dev.capq n ∧ e.flag (rTMR_STATUS n) fTMR_STATUS_CAP_OVF = true))) ∧
  (s.dev.flag (rXBAR_IN n) fXBAR_IN_EN = false → Becomes (.tmrCaptureEdge n true back) s s.dev) ∧
  Becomes (.tmrCaptureEdge n false back) s s.dev

/-- R517: a write of CAPTURE pushes the present count. -/
def WriteCaptures (s : State) (n : Fin 16) (v : Reg) : Prop :=
  (s.dev.capq n).length < 4 → s.dev.pins.capq.length = 16 →
  Completes (.tmrCaptureWrite n v) s (fun e =>
    e.capq n = s.dev.capq n ++ [s.dev.tmrCount n] ∧ e.flag (rTMR_STATUS n) fTMR_STATUS_CAP = true ∧ e.tmrCount n = s.dev.tmrCount n)

/-- R518: a read of CAPQ pops the oldest capture, gives its low half and latches its high half. -/
def CaptureRead (s : State) (n : Fin 16) (v : Nat) (q : List Nat) : Prop :=
  Meets s.dev (rTMR_CAPQ_LO n) → s.dev.capq n = v :: q → v < 2 ^ 48 → s.dev.pins.capq.length = 16 →
  Completes (.tmrCapqRead n) s (fun e =>
    e.capq n = q ∧ (∃ r, e.mem.resp = some r ∧ r.data.toNat = v % 2 ^ 24 ∧ r.status = 0) ∧
    assocGet e.latch (rTMR_CAPQ_HI n) = some (BitVec.ofNat 24 (v / 2 ^ 24)))

/-- R520: once the ticks of a period have passed, the next begins in the clock in which it ended, and the period and the duty written apply; before that, or
while the channel does not run, nothing happens. -/
def PwmPeriodBegins (s : State) (c : Fin 16) : Prop :=
  let x := s.dev.pwm c
  let ticks := s.dev.pwmTicks c
  (s.dev.flag (rTMR_PWM_CTRL c) fTMR_PWM_CTRL_EN = false ∨ s.dev.pwmLock c ≠ none ∨ s.dev.gated 30 = true ∨ (x.period ≠ 0 ∧ ticks < x.period) →
    Becomes (.pwmPeriodStart c) s s.dev) ∧
  (s.dev.flag (rTMR_PWM_CTRL c) fTMR_PWM_CTRL_EN = true → s.dev.pwmLock c = none → s.dev.gated 30 = false → x.period = 0 ∨ x.period ≤ ticks →
    s.dev.pins.pwm.length = 16 → Completes (.pwmPeriodStart c) s (fun e =>
      (e.pwm c).period = s.dev.rd (rTMR_PWM_PERIOD c) ∧ (e.pwm c).duty = s.dev.rd (rTMR_PWM_DUTY c) ∧
      (e.pwm c).start = (if x.period = 0 then s.dev.btu.clocks
        else x.start + ticks / x.period * x.period * (s.dev.fld (rTMR_PWM_CTRL c) fTMR_PWM_CTRL_DIV + 1)) ∧
      e = { s.dev with regs := e.regs, pins := { s.dev.pins with pwm := e.pins.pwm } } ∧ RegsKeep [] s.dev e))

/-- R233: an output that has locked no channel starts no backlight period, and one that has starts it with the duty adopted. -/
def BacklightPeriodBegins (s : State) (n : Fin 8) (c : Nat) : Prop :=
  ((s.dev.outp n).lockCh = none → ∀ j, Becomes (.backlightPeriodStart n j) s s.dev) ∧
  ((s.dev.outp n).lockCh = some c → s.dev.pwmLock c = some n.val → c < 16 → s.dev.pins.pwm.length = 16 →
    natBits (s.dev.outp n).blCtrl 9 10 = 1 → (s.dev.outp n).blPhase = s.dev.outPhase n → (s.dev.outp n).blDuty < 4096 →
    Completes (.backlightPeriodStart n 0) s (fun e =>
      (e.pwm c).lockAt = s.dev.outPhase n ∧ (e.pwm c).lockLen = (s.dev.outp n).blDuty * 4096 ∧ e.bt = s.dev.bt))

/-- R514: a wake pin that holds its level sets its bit of WAKE_STAT. -/
def WakePinFires (s : State) (k : Fin 16) : Prop :=
  s.dev.flag (rGPIO_WAKE k) fGPIO_WAKE_EN = true → s.dev.fld (rGPIO_WAKE k) fGPIO_WAKE_PIN < 96 →
  s.dev.bankOff (s.dev.fld (rGPIO_WAKE k) fGPIO_WAKE_PIN / 16) = false →
  s.dev.padLevel (s.dev.fld (rGPIO_WAKE k) fGPIO_WAKE_PIN) = s.dev.flag (rGPIO_WAKE k) fGPIO_WAKE_POL →
  Completes (.wakeDetect k) s (fun e => natBit (e.rd rGPIO_WAKE_STAT) k = true)

end Sys2Proof.Machine

/-- R502, R509, R511, R512, R513, R514: what happens at the pads and in the crossbar. Each of these answers a next state with its own effect, on
conditions of the state and the operands alone: gpioPulseEnd, gpioInputChange, wakeDetect, bankSupplyChange, xbarTrsRelease, eviEdge,
evoWidthExpiry. -/
def Obligations.PadsAndCrossbarEvents : Prop :=
  (∀ (s : State) (p : Fin 96), RisingEdgeInterrupts s p ∧ (∀ lvl, PadChangesAsleep s p lvl) ∧ PulseReleases s p ∧ ∀ v, TrsReleased s p v) ∧
  (∀ (s : State) (k : Fin 6) (mv : Nat), SupplyLeavesClass s k mv) ∧
  (∀ (s : State) (j : Fin 16), EviEdgeRaises s j ∧ WakePinFires s j) ∧ (∀ (s : State) (j : Fin 8), EvoGoesLow s j)

/-- R233, R515 to R518, R520: how timers start, count, match and capture, and when PWM and backlight periods take up their values. Each of these
answers a next state with its own effect, on conditions of the state and the operands alone: backlightPeriodStart, tmrEnable, tmrStep,
tmrCaptureEdge, tmrCaptureWrite, tmrCapqRead, pwmPeriodStart. -/
def Obligations.TimersCapturesAndPwm : Prop :=
  ∀ s : State,
    (∀ n : Fin 16, (∀ v, TimerEnabled s n v) ∧ TimerCounts s n ∧ TimerMatches s n ∧ (∀ k, TimerHeld s n k) ∧
      (∀ back, EdgeCaptures s n back) ∧ (∀ v, WriteCaptures s n v) ∧ ∀ v q, CaptureRead s n v q) ∧
    (∀ c, PwmPeriodBegins s c) ∧ ∀ n c, BacklightPeriodBegins s n c
end

