-- ==== Sys2Proof/Laws/Sparse.lean ====
section
/-! SUPPORT. What reading and writing a sparse map do: a read after a write of the same place gives the
value written, every other place is left alone, and every operation keeps the canonical form. -/

namespace Sys2Proof.Machine

variable {V : Type} {d : Nat → V}

theorem spAbove_mono {a b : Nat} {l : List (Nat × V)} (h : spAbove b l = true) (hab : a ≤ b) :
    spAbove a l = true := by
  cases l with
  | nil => rfl
  | cons p t => simp only [spAbove, Bool.and_eq_true, decide_eq_true_eq] at h ⊢; exact ⟨by omega, h.2⟩

theorem spGet_of_above {a : Nat} {l : List (Nat × V)} (h : spAbove a l = true) :
    spGet d l a = d a := by
  induction l generalizing a with
  | nil => rfl
  | cons p t ih =>
    obtain ⟨b, v⟩ := p
    simp only [spAbove, Bool.and_eq_true, decide_eq_true_eq] at h
    rw [spGet, if_neg (by omega)]
    exact ih (spAbove_mono h.2 (by omega))

theorem spGet_erase_ne {a b : Nat} (l : List (Nat × V)) (h : a ≠ b) :
    spGet d (spErase l b) a = spGet d l a := by
  induction l with
  | nil => rfl
  | cons p t ih =>
    obtain ⟨c, v⟩ := p
    simp only [spErase]
    split
    · next hb => subst hb; simp [spGet, h, ih]
    · simp [spGet, ih]

theorem spGet_erase_same {a : Nat} (l : List (Nat × V)) : spGet d (spErase l a) a = d a := by
  induction l with
  | nil => rfl
  | cons p t ih =>
    obtain ⟨c, v⟩ := p
    simp only [spErase]
    split
    · exact ih
    · next hb => rw [spGet, if_neg hb]; exact ih

theorem spGet_insert_same {a : Nat} {v : V} (l : List (Nat × V)) :
    spGet d (spInsert l a v) a = v := by
  induction l with
  | nil => simp [spInsert, spGet]
  | cons p t ih =>
    obtain ⟨c, w⟩ := p
    simp only [spInsert]
    split
    · simp [spGet]
    · split
      · simp [spGet]
      · next h1 h2 => simp [spGet, h2, ih]

theorem spGet_insert_ne {a b : Nat} {v : V} (l : List (Nat × V)) (h : a ≠ b) :
    spGet d (spInsert l b v) a = spGet d l a := by
  induction l with
  | nil => simp [spInsert, spGet, h]
  | cons p t ih =>
    obtain ⟨c, w⟩ := p
    simp only [spInsert]
    split
    · simp [spGet, h]
    · split
      · next h2 => subst h2; simp [spGet, h]
      · simp [spGet, ih]

/-- A read of the address just written gives the value written. -/
@[simp] theorem spGet_set_same [DecidableEq V] {a : Nat} {v : V} (l : List (Nat × V)) :
    spGet d (spSet d l a v) a = v := by
  unfold spSet
  split
  · next hv => rw [spGet_erase_same, hv]
  · exact spGet_insert_same l

/-- A read of any other address gives what it gave before. -/
theorem spGet_set_ne [DecidableEq V] {a b : Nat} {v : V} (l : List (Nat × V)) (h : a ≠ b) :
    spGet d (spSet d l b v) a = spGet d l a := by
  unfold spSet
  split
  · exact spGet_erase_ne l h
  · exact spGet_insert_ne l h

theorem spAbove_erase {a b : Nat} {l : List (Nat × V)} (h : spAbove a l = true) :
    spAbove a (spErase l b) = true := by
  induction l generalizing a with
  | nil => rfl
  | cons p t ih =>
    obtain ⟨c, v⟩ := p
    simp only [spAbove, Bool.and_eq_true, decide_eq_true_eq] at h
    simp only [spErase]
    split
    · exact ih (spAbove_mono h.2 (by omega))
    · simp only [spAbove, Bool.and_eq_true, decide_eq_true_eq]; exact ⟨h.1, ih h.2⟩

theorem spRising_of_above {a : Nat} {l : List (Nat × V)} (h : spAbove a l = true) : spRising l = true := by
  cases l with
  | nil => rfl
  | cons p t => simp only [spAbove, Bool.and_eq_true] at h; exact h.2

theorem spAbove_insert {a b : Nat} {v : V} {l : List (Nat × V)} (h : spAbove a l = true)
    (hab : a < b) : spAbove a (spInsert l b v) = true := by
  induction l generalizing a with
  | nil => simp [spInsert, spAbove, hab]
  | cons p t ih =>
    obtain ⟨c, w⟩ := p
    simp only [spAbove, Bool.and_eq_true, decide_eq_true_eq] at h
    simp only [spInsert]
    split
    · next hbc => simp [spAbove, hab, hbc, h.2]
    · split
      · next hbc => subst hbc; simp [spAbove, hab, h.2]
      · next h1 h2 =>
        simp only [spAbove, Bool.and_eq_true, decide_eq_true_eq]
        exact ⟨h.1, ih h.2 (by omega)⟩

theorem spRising_erase {b : Nat} {l : List (Nat × V)} (h : spRising l = true) :
    spRising (spErase l b) = true := by
  cases l with
  | nil => rfl
  | cons p t =>
    obtain ⟨c, v⟩ := p
    simp only [spRising] at h
    simp only [spErase]
    split
    · exact spRising_of_above (spAbove_erase h)
    · exact spAbove_erase h

theorem spRising_insert {b : Nat} {v : V} {l : List (Nat × V)} (h : spRising l = true) :
    spRising (spInsert l b v) = true := by
  cases l with
  | nil => rfl
  | cons p t =>
    obtain ⟨c, w⟩ := p
    simp only [spRising] at h
    simp only [spInsert]
    split
    · next hbc => simp [spRising, spAbove, hbc, h]
    · split
      · next hbc => subst hbc; simpa [spRising] using h
      · next h1 h2 => exact spAbove_insert h (by omega)

theorem mem_spErase {p : Nat × V} {a : Nat} {l : List (Nat × V)} (h : p ∈ spErase l a) : p ∈ l := by
  induction l with
  | nil => exact h
  | cons q t ih =>
    obtain ⟨c, w⟩ := q
    simp only [spErase] at h
    split at h
    · exact List.mem_cons_of_mem _ (ih h)
    · rcases List.mem_cons.1 h with h | h
      · exact h ▸ List.mem_cons_self ..
      · exact List.mem_cons_of_mem _ (ih h)

theorem mem_spInsert {p : Nat × V} {a : Nat} {v : V} {l : List (Nat × V)}
    (h : p ∈ spInsert l a v) : p = (a, v) ∨ p ∈ l := by
  induction l with
  | nil => simpa [spInsert] using h
  | cons q t ih =>
    obtain ⟨c, w⟩ := q
    simp only [spInsert] at h
    split at h
    · simpa using h
    · split at h
      · rcases List.mem_cons.1 h with h | h
        · exact .inl h
        · exact .inr (List.mem_cons_of_mem _ h)
      · rcases List.mem_cons.1 h with h | h
        · exact .inr (h ▸ List.mem_cons_self ..)
        · rcases ih h with h | h
          · exact .inl h
          · exact .inr (List.mem_cons_of_mem _ h)

/-- Writing keeps the canonical form. -/
theorem spWf_set [DecidableEq V] {a : Nat} {v : V} {l : List (Nat × V)} (h : spWf d l = true) :
    spWf d (spSet d l a v) = true := by
  simp only [spWf, Bool.and_eq_true, List.all_eq_true, decide_eq_true_eq] at h ⊢
  unfold spSet
  split
  · exact ⟨spRising_erase h.1, fun p hp => h.2 p (mem_spErase hp)⟩
  · next hv =>
    refine ⟨spRising_insert h.1, fun p hp => ?_⟩
    rcases mem_spInsert hp with rfl | hp
    · exact hv
    · exact h.2 p hp

theorem spAbove_keep {a : Nat} {keep : Nat → Bool} {l : List (Nat × V)} (h : spAbove a l = true) :
    spAbove a (spKeep keep l) = true := by
  induction l generalizing a with
  | nil => rfl
  | cons p t ih =>
    obtain ⟨c, w⟩ := p
    simp only [spAbove, Bool.and_eq_true, decide_eq_true_eq] at h
    by_cases hk : keep c = true
    · rw [spKeep, List.filter_cons_of_pos (by simpa using hk)]
      simp only [spAbove, Bool.and_eq_true, decide_eq_true_eq]
      exact ⟨h.1, ih h.2⟩
    · rw [spKeep, List.filter_cons_of_neg (by simpa using hk)]
      exact ih (spAbove_mono h.2 (by omega))

/-- Dropping pairs keeps the canonical form. -/
theorem spWf_keep [DecidableEq V] {keep : Nat → Bool} {l : List (Nat × V)} (h : spWf d l = true) :
    spWf d (spKeep keep l) = true := by
  simp only [spWf, Bool.and_eq_true, List.all_eq_true, decide_eq_true_eq] at h ⊢
  refine ⟨?_, fun p hp => h.2 p (List.mem_of_mem_filter hp)⟩
  cases l with
  | nil => rfl
  | cons p t =>
    obtain ⟨c, w⟩ := p
    have h1 := h.1
    simp only [spRising] at h1
    by_cases hk : keep c = true
    · rw [spKeep, List.filter_cons_of_pos (by simpa using hk)]
      exact spAbove_keep h1
    · rw [spKeep, List.filter_cons_of_neg (by simpa using hk)]
      have := spAbove_keep (keep := keep) h1
      revert this
      unfold spKeep
      cases List.filter (fun p => keep p.1) t with
      | nil => intro _; rfl
      | cons q u => intro hq; simp only [spAbove, Bool.and_eq_true] at hq; exact hq.2

end Sys2Proof.Machine
end

