-- ==== Sys2Proof/Laws/State.lean ====
section
/-! SUPPORT. What the updates of the device leave alone, one lemma per field and update, and what the register operations do. -/

namespace Sys2Proof.Machine

variable (d : Dev) (a v : Nat) (f : Fld)

/-! ### Reading what was written -/

/-- A register read after a write of it: the 24 bits written. -/
@[simp] theorem rd_wr_same : (d.wr a v).rd a = v % 2 ^ 24 := by
  simp [Dev.rd, Dev.wr]

/-- A write of a register leaves every other one alone. -/
theorem rd_wr_ne {b : Nat} (h : b ≠ a) : (d.wr a v).rd b = d.rd b := by
  simp [Dev.rd, Dev.wr, spGet_set_ne _ h]

theorem rd_setFld_ne {b : Nat} (h : b ≠ a) : (d.setFld a f v).rd b = d.rd b := rd_wr_ne d a _ h

theorem rd_bumpBy_ne {b n : Nat} (h : b ≠ a) : (d.bumpBy a f n).rd b = d.rd b := rd_wr_ne d a _ h

theorem fld_wr_ne {b : Nat} (g : Fld) (h : b ≠ a) : (d.wr a v).fld b g = d.fld b g := by
  simp [Dev.fld, rd_wr_ne d a v h]

/-- A register holds 24 bits. -/
theorem rd_lt : d.rd a < 2 ^ 24 := BitVec.isLt _

@[simp] theorem lrd_lwr_same : (d.lwr a v).lrd a = v % 2 ^ 24 := by
  simp [Dev.lrd, Dev.lwr]

theorem lrd_lwr_ne {b : Nat} (h : b ≠ a) : (d.lwr a v).lrd b = d.lrd b := by
  simp [Dev.lrd, Dev.lwr, spGet_set_ne _ h]

@[simp] theorem rd_lwr (b : Nat) : (d.lwr a v).rd b = d.rd b := rfl

@[simp] theorem when_true (g : Dev → Dev) : d.when true g = g d := rfl
@[simp] theorem when_false (g : Dev → Dev) : d.when false g = d := rfl

/-! ### What a register write leaves alone -/

@[simp] theorem wr_live : (d.wr a v).live = d.live := rfl
@[simp] theorem wr_stage : (d.wr a v).stage = d.stage := rfl
@[simp] theorem wr_latch : (d.wr a v).latch = d.latch := rfl
@[simp] theorem wr_free : (d.wr a v).free = d.free := rfl
@[simp] theorem wr_btu : (d.wr a v).btu = d.btu := rfl
@[simp] theorem wr_trs : (d.wr a v).trs = d.trs := rfl
@[simp] theorem wr_irqc : (d.wr a v).irqc = d.irqc := rfl
@[simp] theorem wr_mem : (d.wr a v).mem = d.mem := rfl
@[simp] theorem wr_reports : (d.wr a v).reports = d.reports := rfl
@[simp] theorem wr_flt : (d.wr a v).flt = d.flt := rfl
@[simp] theorem wr_cores : (d.wr a v).cores = d.cores := rfl
@[simp] theorem wr_lmem : (d.wr a v).lmem = d.lmem := rfl
@[simp] theorem wr_lcc : (d.wr a v).lcc = d.lcc := rfl
@[simp] theorem wr_dbg : (d.wr a v).dbg = d.dbg := rfl
@[simp] theorem wr_outs : (d.wr a v).outs = d.outs := rfl
@[simp] theorem wr_cams : (d.wr a v).cams = d.cams := rfl
@[simp] theorem wr_rx : (d.wr a v).rx = d.rx := rfl
@[simp] theorem wr_rx0 : (d.wr a v).rx0 = d.rx0 := rfl
@[simp] theorem wr_tx : (d.wr a v).tx = d.tx := rfl
@[simp] theorem wr_prp : (d.wr a v).prp = d.prp := rfl
@[simp] theorem wr_pins : (d.wr a v).pins = d.pins := rfl
@[simp] theorem wr_wrn : (d.wr a v).wrn = d.wrn := rfl
@[simp] theorem wr_aud : (d.wr a v).aud = d.aud := rfl
@[simp] theorem wr_pwr : (d.wr a v).pwr = d.pwr := rfl
@[simp] theorem wr_upd : (d.wr a v).upd = d.upd := rfl
@[simp] theorem wr_dma : (d.wr a v).dma = d.dma := rfl
@[simp] theorem wr_blt : (d.wr a v).blt = d.blt := rfl
@[simp] theorem wr_cfg : (d.wr a v).cfg = d.cfg := rfl
@[simp] theorem wr_talk : (d.wr a v).talk = d.talk := rfl
@[simp] theorem wr_trk : (d.wr a v).trk = d.trk := rfl
@[simp] theorem wr_loads : (d.wr a v).loads = d.loads := rfl

@[simp] theorem setFld_live : (d.setFld a f v).live = d.live := rfl
@[simp] theorem setFld_stage : (d.setFld a f v).stage = d.stage := rfl
@[simp] theorem setFld_latch : (d.setFld a f v).latch = d.latch := rfl
@[simp] theorem setFld_free : (d.setFld a f v).free = d.free := rfl
@[simp] theorem setFld_btu : (d.setFld a f v).btu = d.btu := rfl
@[simp] theorem setFld_trs : (d.setFld a f v).trs = d.trs := rfl
@[simp] theorem setFld_irqc : (d.setFld a f v).irqc = d.irqc := rfl
@[simp] theorem setFld_mem : (d.setFld a f v).mem = d.mem := rfl
@[simp] theorem setFld_reports : (d.setFld a f v).reports = d.reports := rfl
@[simp] theorem setFld_flt : (d.setFld a f v).flt = d.flt := rfl
@[simp] theorem setFld_cores : (d.setFld a f v).cores = d.cores := rfl
@[simp] theorem setFld_lmem : (d.setFld a f v).lmem = d.lmem := rfl
@[simp] theorem setFld_lcc : (d.setFld a f v).lcc = d.lcc := rfl
@[simp] theorem setFld_dbg : (d.setFld a f v).dbg = d.dbg := rfl
@[simp] theorem setFld_outs : (d.setFld a f v).outs = d.outs := rfl
@[simp] theorem setFld_cams : (d.setFld a f v).cams = d.cams := rfl
@[simp] theorem setFld_rx : (d.setFld a f v).rx = d.rx := rfl
@[simp] theorem setFld_rx0 : (d.setFld a f v).rx0 = d.rx0 := rfl
@[simp] theorem setFld_tx : (d.setFld a f v).tx = d.tx := rfl
@[simp] theorem setFld_prp : (d.setFld a f v).prp = d.prp := rfl
@[simp] theorem setFld_pins : (d.setFld a f v).pins = d.pins := rfl
@[simp] theorem setFld_wrn : (d.setFld a f v).wrn = d.wrn := rfl
@[simp] theorem setFld_aud : (d.setFld a f v).aud = d.aud := rfl
@[simp] theorem setFld_pwr : (d.setFld a f v).pwr = d.pwr := rfl
@[simp] theorem setFld_upd : (d.setFld a f v).upd = d.upd := rfl
@[simp] theorem setFld_dma : (d.setFld a f v).dma = d.dma := rfl
@[simp] theorem setFld_blt : (d.setFld a f v).blt = d.blt := rfl
@[simp] theorem setFld_cfg : (d.setFld a f v).cfg = d.cfg := rfl
@[simp] theorem setFld_talk : (d.setFld a f v).talk = d.talk := rfl
@[simp] theorem setFld_trk : (d.setFld a f v).trk = d.trk := rfl
@[simp] theorem setFld_loads : (d.setFld a f v).loads = d.loads := rfl

@[simp] theorem lwr_regs : (d.lwr a v).regs = d.regs := rfl
@[simp] theorem lwr_stage : (d.lwr a v).stage = d.stage := rfl
@[simp] theorem lwr_latch : (d.lwr a v).latch = d.latch := rfl
@[simp] theorem lwr_free : (d.lwr a v).free = d.free := rfl
@[simp] theorem lwr_btu : (d.lwr a v).btu = d.btu := rfl
@[simp] theorem lwr_trs : (d.lwr a v).trs = d.trs := rfl
@[simp] theorem lwr_irqc : (d.lwr a v).irqc = d.irqc := rfl
@[simp] theorem lwr_mem : (d.lwr a v).mem = d.mem := rfl
@[simp] theorem lwr_reports : (d.lwr a v).reports = d.reports := rfl
@[simp] theorem lwr_flt : (d.lwr a v).flt = d.flt := rfl
@[simp] theorem lwr_cores : (d.lwr a v).cores = d.cores := rfl
@[simp] theorem lwr_lmem : (d.lwr a v).lmem = d.lmem := rfl
@[simp] theorem lwr_lcc : (d.lwr a v).lcc = d.lcc := rfl
@[simp] theorem lwr_dbg : (d.lwr a v).dbg = d.dbg := rfl
@[simp] theorem lwr_outs : (d.lwr a v).outs = d.outs := rfl
@[simp] theorem lwr_cams : (d.lwr a v).cams = d.cams := rfl
@[simp] theorem lwr_rx : (d.lwr a v).rx = d.rx := rfl
@[simp] theorem lwr_rx0 : (d.lwr a v).rx0 = d.rx0 := rfl
@[simp] theorem lwr_tx : (d.lwr a v).tx = d.tx := rfl
@[simp] theorem lwr_prp : (d.lwr a v).prp = d.prp := rfl
@[simp] theorem lwr_pins : (d.lwr a v).pins = d.pins := rfl
@[simp] theorem lwr_wrn : (d.lwr a v).wrn = d.wrn := rfl
@[simp] theorem lwr_aud : (d.lwr a v).aud = d.aud := rfl
@[simp] theorem lwr_pwr : (d.lwr a v).pwr = d.pwr := rfl
@[simp] theorem lwr_upd : (d.lwr a v).upd = d.upd := rfl
@[simp] theorem lwr_dma : (d.lwr a v).dma = d.dma := rfl
@[simp] theorem lwr_blt : (d.lwr a v).blt = d.blt := rfl
@[simp] theorem lwr_cfg : (d.lwr a v).cfg = d.cfg := rfl
@[simp] theorem lwr_talk : (d.lwr a v).talk = d.talk := rfl
@[simp] theorem lwr_trk : (d.lwr a v).trk = d.trk := rfl
@[simp] theorem lwr_loads : (d.lwr a v).loads = d.loads := rfl

/-! ### Operations that change registers only -/

/-- `e` differs from `d` in its registers alone. -/
def RegsOnly (d e : Dev) : Prop := ∃ r, e = { d with regs := r }

theorem RegsOnly.refl : RegsOnly d d := ⟨d.regs, rfl⟩

theorem RegsOnly.trans {d e g : Dev} (h : RegsOnly d e) (h' : RegsOnly e g) : RegsOnly d g := by
  obtain ⟨r, rfl⟩ := h
  obtain ⟨r', rfl⟩ := h'
  exact ⟨r', rfl⟩

theorem regsOnly_wr : RegsOnly d (d.wr a v) := ⟨_, rfl⟩

theorem regsOnly_setFld : RegsOnly d (d.setFld a f v) := ⟨_, rfl⟩

theorem regsOnly_when (b : Bool) {g : Dev → Dev} (h : RegsOnly d (g d)) : RegsOnly d (d.when b g) := by
  cases b
  · exact .refl d
  · exact h

theorem regsOnly_irqSettle1 (t : Nat) : RegsOnly d (d.irqSettle1 t) := by
  unfold Dev.irqSettle1
  simp only []
  refine .trans (.trans (regsOnly_setFld d _ _ _) (regsOnly_when _ _ ?_)) (regsOnly_when _ _ ?_)
  · exact regsOnly_setFld _ _ _ _
  · exact regsOnly_setFld _ _ _ _

theorem regsOnly_irqSettle : RegsOnly d d.irqSettle :=
  ((regsOnly_irqSettle1 d 0).trans (regsOnly_irqSettle1 _ 1)).trans (regsOnly_irqSettle1 _ 2)

theorem regsOnly_bump : RegsOnly d (d.bump a f) := regsOnly_setFld _ _ _ _

theorem regsOnly_peak : RegsOnly d (d.peak a f v) := by
  unfold Dev.peak
  split
  · exact regsOnly_setFld _ _ _ _
  · exact .refl d

/-- Raising an interrupt source changes registers only. -/
theorem regsOnly_irqRaise (n : Nat) : RegsOnly d (d.irqRaise n) := by
  unfold Dev.irqRaise
  split
  · exact .refl d
  · split
    · exact regsOnly_bump _ _ _
    · exact .trans (regsOnly_setFld _ _ _ _) (regsOnly_irqSettle _)

/-- Setting a flag with its interrupt source changes registers only. -/
theorem regsOnly_raise : RegsOnly d (d.raise a f) := .trans (regsOnly_setFld _ _ _ _) (regsOnly_irqRaise _ _)

/-- Settling changes registers only. -/
theorem regsOnly_settle : RegsOnly d d.settle :=
  ((regsOnly_irqSettle d).trans (regsOnly_setFld _ _ _ _)).trans (regsOnly_wr _ _ _)

/-! ### What settling leaves alone: everything but five registers -/

@[simp] theorem settle_live : d.settle.live = d.live := by obtain ⟨r, h⟩ := regsOnly_settle d; rw [h]
@[simp] theorem settle_stage : d.settle.stage = d.stage := by obtain ⟨r, h⟩ := regsOnly_settle d; rw [h]
@[simp] theorem settle_latch : d.settle.latch = d.latch := by obtain ⟨r, h⟩ := regsOnly_settle d; rw [h]
@[simp] theorem settle_free : d.settle.free = d.free := by obtain ⟨r, h⟩ := regsOnly_settle d; rw [h]
@[simp] theorem settle_btu : d.settle.btu = d.btu := by obtain ⟨r, h⟩ := regsOnly_settle d; rw [h]
@[simp] theorem settle_trs : d.settle.trs = d.trs := by obtain ⟨r, h⟩ := regsOnly_settle d; rw [h]
@[simp] theorem settle_irqc : d.settle.irqc = d.irqc := by obtain ⟨r, h⟩ := regsOnly_settle d; rw [h]
@[simp] theorem settle_mem : d.settle.mem = d.mem := by obtain ⟨r, h⟩ := regsOnly_settle d; rw [h]
@[simp] theorem settle_reports : d.settle.reports = d.reports := by obtain ⟨r, h⟩ := regsOnly_settle d; rw [h]
@[simp] theorem settle_flt : d.settle.flt = d.flt := by obtain ⟨r, h⟩ := regsOnly_settle d; rw [h]
@[simp] theorem settle_cores : d.settle.cores = d.cores := by obtain ⟨r, h⟩ := regsOnly_settle d; rw [h]
@[simp] theorem settle_lmem : d.settle.lmem = d.lmem := by obtain ⟨r, h⟩ := regsOnly_settle d; rw [h]
@[simp] theorem settle_lcc : d.settle.lcc = d.lcc := by obtain ⟨r, h⟩ := regsOnly_settle d; rw [h]
@[simp] theorem settle_dbg : d.settle.dbg = d.dbg := by obtain ⟨r, h⟩ := regsOnly_settle d; rw [h]
@[simp] theorem settle_outs : d.settle.outs = d.outs := by obtain ⟨r, h⟩ := regsOnly_settle d; rw [h]
@[simp] theorem settle_cams : d.settle.cams = d.cams := by obtain ⟨r, h⟩ := regsOnly_settle d; rw [h]
@[simp] theorem settle_rx : d.settle.rx = d.rx := by obtain ⟨r, h⟩ := regsOnly_settle d; rw [h]
@[simp] theorem settle_rx0 : d.settle.rx0 = d.rx0 := by obtain ⟨r, h⟩ := regsOnly_settle d; rw [h]
@[simp] theorem settle_tx : d.settle.tx = d.tx := by obtain ⟨r, h⟩ := regsOnly_settle d; rw [h]
@[simp] theorem settle_prp : d.settle.prp = d.prp := by obtain ⟨r, h⟩ := regsOnly_settle d; rw [h]
@[simp] theorem settle_pins : d.settle.pins = d.pins := by obtain ⟨r, h⟩ := regsOnly_settle d; rw [h]
@[simp] theorem settle_wrn : d.settle.wrn = d.wrn := by obtain ⟨r, h⟩ := regsOnly_settle d; rw [h]
@[simp] theorem settle_aud : d.settle.aud = d.aud := by obtain ⟨r, h⟩ := regsOnly_settle d; rw [h]
@[simp] theorem settle_pwr : d.settle.pwr = d.pwr := by obtain ⟨r, h⟩ := regsOnly_settle d; rw [h]
@[simp] theorem settle_upd : d.settle.upd = d.upd := by obtain ⟨r, h⟩ := regsOnly_settle d; rw [h]
@[simp] theorem settle_dma : d.settle.dma = d.dma := by obtain ⟨r, h⟩ := regsOnly_settle d; rw [h]
@[simp] theorem settle_blt : d.settle.blt = d.blt := by obtain ⟨r, h⟩ := regsOnly_settle d; rw [h]
@[simp] theorem settle_cfg : d.settle.cfg = d.cfg := by obtain ⟨r, h⟩ := regsOnly_settle d; rw [h]
@[simp] theorem settle_talk : d.settle.talk = d.talk := by obtain ⟨r, h⟩ := regsOnly_settle d; rw [h]
@[simp] theorem settle_trk : d.settle.trk = d.trk := by obtain ⟨r, h⟩ := regsOnly_settle d; rw [h]
@[simp] theorem settle_loads : d.settle.loads = d.loads := by obtain ⟨r, h⟩ := regsOnly_settle d; rw [h]

theorem rd_when_ne {b : Nat} (c : Bool) {g : Dev → Dev} (h : (g d).rd b = d.rd b) : (d.when c g).rd b = d.rd b := by
  cases c
  · rfl
  · exact h

theorem rd_irqSettle1_ne {b : Nat} (t : Nat) (h : b ≠ rIRQC_T_STATUS t) : (d.irqSettle1 t).rd b = d.rd b := by
  unfold Dev.irqSettle1
  simp only []
  rw [rd_when_ne _ _ (rd_setFld_ne _ _ _ _ h), rd_when_ne _ _ (rd_setFld_ne _ _ _ _ h), rd_setFld_ne _ _ _ _ h]

/-- The registers that settling may change. -/
def settles (a : Nat) : Bool :=
  a == rIRQC_T_STATUS 0 || a == rIRQC_T_STATUS 1 || a == rIRQC_T_STATUS 2 || a == rPRP_STATUS || a == rSEC_STATUS

/-- Settling leaves every other register alone. -/
theorem rd_settle {b : Nat} (h : settles b = false) : d.settle.rd b = d.rd b := by
  simp only [settles, Bool.or_eq_false_iff, beq_eq_false_iff_ne] at h
  obtain ⟨⟨⟨⟨h0, h1⟩, h2⟩, h3⟩, h4⟩ := h
  unfold Dev.settle Dev.slotsShow Dev.prpAttn Dev.irqSettle
  rw [rd_wr_ne _ _ _ h4, rd_setFld_ne _ _ _ _ h3, rd_irqSettle1_ne _ _ h2, rd_irqSettle1_ne _ _ h1, rd_irqSettle1_ne _ _ h0]

/-! ### Outcomes -/

/-- A command whose effect is `g` answers a next state with the device settled and the same queue. -/
theorem upd_eq (s : State) (g : Dev → Dev) : s.upd g = .next ⟨(g s.dev).settle, s.pending⟩ := rfl

end Sys2Proof.Machine
end

