-- ==== Sys2Proof/Laws/Memory.lean ====
section
/-! SUPPORT. Every memory operation keeps the canonical form of the memories, and what an operation that works on registers leaves alone. -/

namespace Sys2Proof.Machine

/-- The canonical form as its six parts. -/
theorem Memory.wf_iff (m : Mem) : Memory.wf m = true ↔
    spWf zeroWord m.main = true ∧ spWf zeroErr m.mainErr = true ∧ spWf zeroWord m.exch = true ∧ spWf zeroErr m.exchErr = true ∧
      spWf zeroWord m.ddr = true ∧ spWf zeroErr m.ddrErr = true := by
  simp [Memory.wf, and_assoc]

theorem Memory.wf_reset : Memory.wf State.reset.dev.mem = true := rfl

variable {d : Dev}

/-! ### Operations that leave the memories alone -/

/-- `e` has the memories of `d`. A structure, so that nothing compares the two devices by unfolding them. -/
structure SameMem (d e : Dev) : Prop where
  eq : e.mem = d.mem

theorem SameMem.refl (d : Dev) : SameMem d d := ⟨rfl⟩

theorem SameMem.trans {d e g : Dev} (h : SameMem d e) (h' : SameMem e g) : SameMem d g := ⟨h'.eq.trans h.eq⟩

theorem RegsOnly.sameMem {d e : Dev} (h : RegsOnly d e) : SameMem d e := by
  obtain ⟨r, rfl⟩ := h
  exact ⟨rfl⟩

/-- What keeps the memories keeps their canonical form. -/
theorem SameMem.wf {d e : Dev} (h : SameMem d e) (hw : Memory.wf d.mem = true) : Memory.wf e.mem = true := by rw [h.eq]; exact hw

theorem sameMem_bump (a : Nat) (f : Fld) : SameMem d (d.bump a f) := (regsOnly_bump d a f).sameMem

theorem sameMem_wr (a v : Nat) : SameMem d (d.wr a v) := ⟨rfl⟩

theorem sameMem_raise (a : Nat) (f : Fld) : SameMem d (d.raise a f) := (regsOnly_raise d a f).sameMem

theorem sameMem_report (a b c e f : Nat) : SameMem d (d.report a b c e f) := ⟨rfl⟩

theorem sameMem_takeNat : SameMem d d.takeNat.2 := ⟨rfl⟩

theorem sameMem_noteCe (m a b o k : Nat) : SameMem d (d.noteCe m a b o k) := by
  unfold Dev.noteCe
  exact .trans (.trans (.trans (.trans (sameMem_bump _ _) (sameMem_wr _ _)) (sameMem_wr _ _)) (sameMem_raise _ _)) (sameMem_report _ _ _ _ _)

theorem sameMem_noteUe (m a b o : Nat) : SameMem d (d.noteUe m a b o) := by
  unfold Dev.noteUe
  exact .trans (.trans (.trans (.trans (.trans sameMem_takeNat (sameMem_bump _ _)) (sameMem_wr _ _)) (sameMem_wr _ _))
    (sameMem_raise _ _)) (sameMem_report _ _ _ _ _)

theorem sameMem_noteDdrUe (o : Nat) : SameMem d (d.noteDdrUe o) := by
  unfold Dev.noteDdrUe
  exact .trans (.trans (sameMem_bump _ _) (sameMem_raise _ _)) (sameMem_report _ _ _ _ _)

theorem sameMem_memDrop : SameMem d d.memDrop := by
  unfold Dev.memDrop
  exact .trans (sameMem_bump _ _) (sameMem_raise _ _)

theorem sameMem_when (c : Bool) {g : Dev → Dev} (h : SameMem d (g d)) : SameMem d (d.when c g) := by
  cases c
  · exact .refl d
  · exact h

theorem sameMem_track (m n : Nat) (w : Bool) : SameMem d (d.track m w n) := by
  unfold Dev.track
  dsimp only
  split
  · exact .refl d
  · have h (l : List Nat) : SameMem d { d with trk := l } := ⟨rfl⟩
    exact .trans (h _) (sameMem_when _ (.trans (sameMem_bump _ _) (sameMem_raise _ _)))

theorem sameMem_trackAlias (m : Nat) : SameMem d (d.trackAlias m) := ⟨(sameMem_track m _ _ (d := d.takeBool.2.takeNat.2)).1⟩

theorem sameMem_trackOne (m : Nat) : SameMem d (d.trackOne m) := sameMem_track _ _ _

/-! ### Main memory -/

theorem wf_setCell (k : Nat) (w : Word) (h : Memory.wf d.mem = true) : Memory.wf (d.setCell k w).mem = true := by
  rw [Memory.wf_iff] at h ⊢
  simp only [Dev.setCell]
  exact ⟨spWf_set h.1, spWf_set h.2.1, h.2.2⟩

theorem wf_setCellErr (k : Nat) (e : BitVec 55) (h : Memory.wf d.mem = true) : Memory.wf (d.setCellErr k e).mem = true := by
  rw [Memory.wf_iff] at h ⊢
  simp only [Dev.setCellErr]
  exact ⟨h.1, spWf_set h.2.1, h.2.2⟩

theorem wf_mainWrite (a : Nat) (w : Word) (h : Memory.wf d.mem = true) : Memory.wf (d.mainWrite a w).mem = true := by
  unfold Dev.mainWrite
  simp only []
  split
  · exact wf_setCell _ _ (wf_setCell _ _ h)
  · exact wf_setCell _ _ h

theorem wf_writeBack (a b o : Nat) (w : Word) (h : Memory.wf d.mem = true) : Memory.wf (d.writeBack a b o w).mem = true := by
  unfold Dev.writeBack
  split
  · exact wf_mainWrite _ _ h
  · exact wf_setCell _ _ h

theorem wf_physRead (m a b o : Nat) (h : Memory.wf d.mem = true) : Memory.wf (d.physRead m a b o).2.mem = true := by
  unfold Dev.physRead
  dsimp only
  split
  · exact h
  · exact (sameMem_noteCe _ _ _ _ _).wf (wf_writeBack _ _ _ _ h)
  · exact (sameMem_noteUe _ _ _ _).wf h

theorem wf_mainRead (m a : Nat) (h : Memory.wf d.mem = true) : Memory.wf (d.mainRead m a).2.mem = true :=
  wf_physRead _ _ _ _ ((sameMem_trackOne m).wf h)

theorem wf_mainReadRun (m a n : Nat) (h : Memory.wf d.mem = true) : Memory.wf (d.mainReadRun m a n).2.2.mem = true := by
  induction n generalizing d a with
  | zero => exact h
  | succ n ih => exact ih _ (wf_mainRead m a h)

theorem wf_mainWriteRun (a : Nat) (ws : List Word) (h : Memory.wf d.mem = true) : Memory.wf (d.mainWriteRun a ws).mem = true := by
  induction ws generalizing d a with
  | nil => exact h
  | cons w ws ih => exact ih _ (wf_mainWrite a w h)

theorem wf_mainMerge (m a : Nat) (v mask : Word) (h : Memory.wf d.mem = true) : Memory.wf (d.mainMerge m a v mask).mem = true := by
  unfold Dev.mainMerge
  simp only []
  split
  · exact sameMem_memDrop.wf (wf_mainRead m a h)
  · exact wf_mainWrite _ _ (wf_mainRead m a h)

theorem wf_touch (m : Nat) (as : List Nat) (h : Memory.wf d.mem = true) : Memory.wf (d.touch m as).mem = true := by
  unfold Dev.touch
  have h0 : Memory.wf (if as.isEmpty then d else d.trackOne m).mem = true := by
    split
    · exact h
    · exact (sameMem_trackOne m).wf h
  generalize (if as.isEmpty then d else d.trackOne m) = d0 at h0
  induction as generalizing d0 with
  | nil => exact h0
  | cons a as ih =>
    rw [List.foldl_cons]
    refine ih _ ?_
    split
    · split
      · exact (sameMem_noteDdrUe _).wf h0
      · exact h0
    · split
      · exact h0
      · exact wf_mainRead m a h0

theorem wf_clearBank (b p q : Nat) (h : Memory.wf d.mem = true) : Memory.wf (d.clearBank b p q).mem = true := by
  rw [Memory.wf_iff] at h ⊢
  simp only [Dev.clearBank]
  exact ⟨spWf_keep h.1, spWf_keep h.2.1, h.2.2⟩

theorem wf_zeroSpan (s : Nat) (h : Memory.wf d.mem = true) : Memory.wf (d.zeroSpan s).mem = true := by
  rw [Memory.wf_iff] at h ⊢
  simp only [Dev.zeroSpan]
  exact ⟨spWf_keep h.1, spWf_keep h.2.1, h.2.2⟩

theorem wf_copyWord (src dst off : Nat) (h : Memory.wf d.mem = true) : Memory.wf (Dev.copyWord src dst d off).mem = true := by
  unfold Dev.copyWord
  simp only []
  split
  · exact wf_setCellErr _ _ (wf_setCell _ _ (wf_physRead _ _ _ _ h))
  · exact wf_setCell _ _ (wf_physRead _ _ _ _ h)

theorem wf_copyWords (src dst : Nat) (os : List Nat) (h : Memory.wf d.mem = true) :
    Memory.wf (os.foldl (Dev.copyWord src dst) d).mem = true := by
  induction os generalizing d with
  | nil => exact h
  | cons o os ih => exact ih (wf_copyWord src dst o h)

theorem wf_copyTo (j q : Nat) (h : Memory.wf d.mem = true) : Memory.wf (d.copyTo j q).mem = true := by
  unfold Dev.copyTo
  dsimp only
  rw [wr_mem]
  exact wf_copyWords _ _ _ (wf_clearBank _ _ _ h)

theorem wf_copyAdvance (s : Nat) (h : Memory.wf d.mem = true) : Memory.wf (d.copyAdvance s).mem = true := by
  unfold Dev.copyAdvance
  split
  · exact wf_copyTo (d := d.takeNat.2) _ _ h
  · exact h

theorem regsOnly_setCopy (s v : Nat) : RegsOnly d (d.setCopy s v) := by
  unfold Dev.setCopy
  exact .trans (regsOnly_wr _ _ _) (regsOnly_setFld _ _ _ _)

theorem wf_spareRemap (j : Nat) (h : Memory.wf d.mem = true) : Memory.wf (d.spareRemap j).mem = true := by
  unfold Dev.spareRemap
  split
  · have h' := wf_copyTo j 65536 h
    generalize d.copyTo j 65536 = d1 at h'
    exact SameMem.wf (RegsOnly.sameMem (.trans (.trans (.trans (regsOnly_when _ _ (regsOnly_setFld _ _ _ _)) (regsOnly_setFld _ _ _ _))
      (regsOnly_setCopy _ _)) (regsOnly_irqRaise _ _))) h'
  · exact h

theorem wf_flipMain (a : Nat) (e : BitVec 55) (h : Memory.wf d.mem = true) : Memory.wf (d.flipMain a e).mem = true := by
  unfold Dev.flipMain
  simp only []
  split
  · exact h
  · exact wf_setCellErr _ _ (wf_copyAdvance _ h)

/-! ### The exchange memory -/

theorem wf_setExWord (w : Nat) (v : Word) (h : Memory.wf d.mem = true) : Memory.wf (d.setExWord w v).mem = true := by
  rw [Memory.wf_iff] at h ⊢
  simp only [Dev.setExWord]
  exact ⟨h.1, h.2.1, spWf_set h.2.2.1, spWf_set h.2.2.2.1, h.2.2.2.2⟩

theorem sameMem_busyFor (n : Nat) : SameMem d (d.busyFor n) := by
  unfold Dev.busyFor
  exact .trans sameMem_takeNat (regsOnly_peak _ _ _ _).sameMem

theorem sameMem_exMaster (m : Option Nat) : SameMem d (d.exMaster m).2 := by cases m <;> exact ⟨rfl⟩

theorem sameMem_exCe (m : Option Nat) (w bit : Nat) : SameMem d (d.exCe m w bit) := by
  unfold Dev.exCe
  exact .trans (.trans (.trans (.trans (.trans (.trans (.trans (sameMem_exMaster m) (sameMem_bump _ _)) (sameMem_wr _ _)) (sameMem_wr _ _))
    (sameMem_raise _ _)) (sameMem_report _ _ _ _ _)) (sameMem_raise _ _)) (sameMem_busyFor _)

theorem sameMem_exUe (m : Option Nat) (w : Nat) : SameMem d (d.exUe m w) := by
  unfold Dev.exUe
  exact .trans (.trans (.trans (.trans (.trans (sameMem_exMaster m) (sameMem_bump _ _)) (sameMem_wr _ _)) (sameMem_wr _ _))
    (sameMem_raise _ _)) (sameMem_report _ _ _ _ _)

theorem wf_exRead (m : Option Nat) (w : Nat) (h : Memory.wf d.mem = true) : Memory.wf (d.exRead m w).2.mem = true := by
  unfold Dev.exRead
  split
  · exact h
  · exact (sameMem_exCe _ _ _).wf (wf_setExWord _ _ h)
  · exact h

theorem wf_setExUnitBy (m : Option Nat) (u v : Nat) (h : Memory.wf d.mem = true) : Memory.wf (d.setExUnitBy m u v).mem = true := by
  unfold Dev.setExUnitBy
  dsimp only
  split
  · exact sameMem_memDrop.wf ((sameMem_exUe _ _).wf (wf_exRead _ _ h))
  · exact wf_setExWord _ _ (wf_exRead _ _ h)

theorem wf_setExUnit (u v : Nat) (h : Memory.wf d.mem = true) : Memory.wf (d.setExUnit u v).mem = true := wf_setExUnitBy none u v h

theorem wf_exFabricWrite (m w : Nat) (v : Word) (h : Memory.wf d.mem = true) : Memory.wf (d.exFabricWrite m w v).2.mem = true := by
  unfold Dev.exFabricWrite
  split
  · exact wf_setExWord _ _ h
  · split
    · exact wf_setExUnitBy _ _ _ h
    · exact h

/-! ### LPDDR5X -/

theorem wf_setDdrWord (o : Nat) (w : Word) (h : Memory.wf d.mem = true) : Memory.wf (d.setDdrWord o w).mem = true := by
  rw [Memory.wf_iff] at h ⊢
  simp only [Dev.setDdrWord]
  exact ⟨h.1, h.2.1, h.2.2.1, h.2.2.2.1, spWf_set h.2.2.2.2.1, spWf_set h.2.2.2.2.2⟩

theorem sameMem_ddrRead (o : Nat) : SameMem d (d.ddrRead o).2 := by
  unfold Dev.ddrRead
  split
  · exact sameMem_noteDdrUe _
  · exact .refl d

theorem wf_ddrWriteIn (all : List Nat) (o : Nat) (v mask : Word) (h : Memory.wf d.mem = true) :
    Memory.wf (d.ddrWriteIn all o v mask).mem = true := by
  unfold Dev.ddrWriteIn
  extract_lets whole bad merged e
  have he : Memory.wf e.mem = true := (sameMem_when _ (sameMem_noteDdrUe _)).wf h
  clear_value e bad whole
  split
  · exact sameMem_memDrop.wf he
  · exact wf_setDdrWord _ _ he

theorem wf_ddrWrite (o : Nat) (v mask : Word) (h : Memory.wf d.mem = true) : Memory.wf (d.ddrWrite o v mask).mem = true :=
  wf_ddrWriteIn [] o v mask h

theorem wf_flipAt (a : Nat) (e : BitVec 55) (h : Memory.wf d.mem = true) : Memory.wf (d.flipAt a e).mem = true := by
  unfold Dev.flipAt
  split
  · exact h
  · split
    · split
      · exact h
      · exact wf_flipMain _ _ h
    · rw [Memory.wf_iff] at h
      split
      · rw [Memory.wf_iff]; exact ⟨h.1, h.2.1, h.2.2.1, spWf_set h.2.2.2.1, h.2.2.2.2⟩
      · split
        · rw [Memory.wf_iff]; exact ⟨h.1, h.2.1, h.2.2.1, h.2.2.2.1, h.2.2.2.2.1, spWf_set h.2.2.2.2.2⟩
        · rw [Memory.wf_iff]; exact h

theorem wf_respond (m a : Nat) (v : Word) (st : Nat) (h : Memory.wf d.mem = true) : Memory.wf (d.respond m a v st).mem = true := h

/-! ### A read of main memory after a write -/

/-- A physical word reads as it was written. -/
@[simp] theorem cell_setCell_same (k : Nat) (w : Word) : (d.setCell k w).cell k = w := by simp [Dev.cell, Dev.setCell]

/-- A write of a physical word leaves every other one alone. -/
theorem cell_setCell_ne {k j : Nat} (w : Word) (h : j ≠ k) : (d.setCell k w).cell j = d.cell j := by
  simp [Dev.cell, Dev.setCell, spGet_set_ne _ h]

end Sys2Proof.Machine
end

