-- ==== Sys2Proof/WellFormed.lean ====
section
/-! DEFINITION. Which commands are well formed: what an operand's type leaves open and the rule of its row fixes. A command that is not well
formed has a meaning all the same; a malformed packet, for one, is answered under R320. -/

namespace Sys2Proof

/-- An address in the range of the register blocks (R562). -/
def regAddrOk (a : Nat) : Bool := decide (0x100000000 ≤ a ∧ a ≤ 0x100FFFFFF)

/-- A cell carries at most nine words (R441). -/
def cellOk (ws : List Word) : Bool := decide (ws.length ≤ 9)

/-- An endpoint's numbers in their ranges (R323, R333). -/
def epOk : Endpoint → Bool
  | .udp _ vlan _ port => decide (vlan < 4096 ∧ port < 65536)
  | .peer _ level debug => decide (level ≤ 3 ∧ debug ≤ 2)
  | _ => true

/-- A packet laid out as R318 says: COUNT gives its payload, its reserved bits and REPLY are 0. -/
def packetOk (p : Packet) : Bool := epOk p.ep && decide (p.payload.length = p.count.toNat ∧ p.payload.length ≤ 1022 ∧ p.rsv = 0)

/-- Is a command well formed? -/
def wellFormed (i : Instr) : Bool :=
  match i with
  | .registerWrite addr _ => regAddrOk addr
  | .pairLoRead addr => regAddrOk addr
  | .pairHiWrite addr _ => regAddrOk addr
  | .powerGood _ _ => true
  | .por => true
  | .xresetAssert => true
  | .pmuDeviceReset => true
  | .pmuPierReset _ => true
  | .coreReset => true
  | .oscWaitExpiry => true
  | .bootRecordRead _ _ => true
  | .parapetLoad _ _ _ _ _ => true
  | .configStartApply => true
  | .xtalFail => true
  | .pllLockLoss _ => true
  | .btFrameBoundary => true
  | .asSyncReceived _ domain _ _ => decide (domain < 256)
  | .sourceLossTimeout _ => true
  | .holdoverExpiry => true
  | .revertSwitch => true
  | .forceNext => true
  | .btuSrcListWrite _ => true
  | .btuEpochWrite _ => true
  | .btuCamPhaseWrite _ => true
  | .btuRateWrite _ => true
  | .btuOutMapWrite _ => true
  | .trsAdd p => packetOk p
  | .trsCancel p => packetOk p
  | .trsCancelMatch p => packetOk p
  | .trsQuery p => packetOk p
  | .trsCadence p => packetOk p
  | .trestleFire _ => true
  | .reglListApply => true
  | .gpioPulseEnd _ => true
  | .trestleHeldDelivery _ => true
  | .eventRaise _ => true
  | .trsEvLatchWrite _ _ => true
  | .eventMergePass => true
  | .outputLineBoundary _ _ _ _ => true
  | .lineStartDelayed _ => true
  | .signatureJudge _ _ => true
  | .positionError _ => true
  | .backlightPeriodStart _ _ => true
  | .sprSatBaseWrite _ _ => true
  | .spriteBuildDone _ => true
  | .lccProgBaseWrite _ _ => true
  | .codeLoadDone _ => true
  | .codeRefill _ => true
  | .recw0Store _ _ _ => true
  | .recw1Store _ _ _ => true
  | .spanQueueRoom _ _ => true
  | .doneStore _ _ => true
  | .evwaitStore _ _ _ => true
  | .evwaitSatisfied _ _ => true
  | .lutBaseWrite _ _ => true
  | .lutCopyDone _ => true
  | .keyCtrlArm _ _ => true
  | .keyCtrlDisarm _ _ => true
  | .stagedWrite _ _ _ => true
  | .scanStoreWrite _ _ => true
  | .csiFrameStart _ _ => true
  | .csiFrameEnd _ _ => true
  | .csiLongPacket _ _ _ _ _ bytes => decide (bytes.length < 65536)
  | .cameraLineLanded _ => true
  | .cameraRingMove _ => true
  | .cameraStreamLost _ => true
  | .dphySyncLoss _ _ => true
  | .vcClr _ _ => true
  | .lightOnWrite _ _ => true
  | .portReady _ _ gran => decide (1 ≤ gran)
  | .outputLights _ => true
  | .lightTimeout _ => true
  | .lightOffWrite _ _ => true
  | .outputGoesDark _ => true
  | .hpdLoss _ => true
  | .hpdReturn _ => true
  | .irqHpd _ _ => true
  | .srReqWrite _ _ => true
  | .parapetChangeExit _ _ => true
  | .pipeRetire _ => true
  | .sparePipeRetire => true
  | .sparePipeLocked => true
  | .prpDataHiWrite _ => true
  | .prpDataLoRead => true
  | .heartbeatTimeout => true
  | .sentinelSubmit _ => true
  | .sentinelReplyRelease => true
  | .sentinelRead _ _ => true
  | .sentinelWrite _ _ => true
  | .nop _ => true
  | .brk _ => true
  | .retx _ => true
  | .wfi _ => true
  | .wfiWake _ => true
  | .ei _ => true
  | .di _ => true
  | .fence _ => true
  | .dup _ => true
  | .drop _ => true
  | .swap _ => true
  | .over _ => true
  | .rot _ => true
  | .nip _ => true
  | .tuck _ => true
  | .tor _ => true
  | .fromr _ => true
  | .rfetch _ => true
  | .rdrop _ => true
  | .add _ => true
  | .sub _ => true
  | .and _ => true
  | .or _ => true
  | .xor _ => true
  | .not _ => true
  | .neg _ => true
  | .inc _ => true
  | .dec _ => true
  | .shl _ => true
  | .shr _ => true
  | .sar _ => true
  | .min _ => true
  | .max _ => true
  | .abs _ => true
  | .mul _ => true
  | .mulh _ => true
  | .mulhu _ => true
  | .mulq _ => true
  | .div _ => true
  | .divu _ => true
  | .rem _ => true
  | .remu _ => true
  | .divq _ => true
  | .eq _ => true
  | .ne _ => true
  | .lt _ => true
  | .ge _ => true
  | .ltu _ => true
  | .geu _ => true
  | .ld _ => true
  | .st _ => true
  | .ldf _ => true
  | .stf _ => true
  | .ldfi _ => true
  | .stfi _ => true
  | .lit12 _ => true
  | .lit24 _ => true
  | .litw _ => true
  | .cbEq _ => true
  | .cbNe _ => true
  | .cbLt _ => true
  | .cbGe _ => true
  | .cbLtu _ => true
  | .cbGeu _ => true
  | .jmp _ => true
  | .call _ => true
  | .jmpi _ => true
  | .calli _ => true
  | .ret _ => true
  | .loop _ => true
  | .lpush _ => true
  | .lpop _ => true
  | .gets _ => true
  | .sets _ => true
  | .interruptEntry _ => true
  | .pioSetWrite _ _ => true
  | .pioClrWrite _ _ => true
  | .pioTglWrite _ _ => true
  | .lockstepMismatch _ => true
  | .t0Restart => true
  | .secLoad _ => true
  | .stewardLoadDone _ => true
  | .secRunStart _ => true
  | .secRunStop _ => true
  | .secPairWrite _ => true
  | .customerAutoRestart _ => true
  | .irqSourceRaise _ => true
  | .irqcSetpWrite _ _ => true
  | .irqcClrpWrite _ _ => true
  | .irqcClaimRead _ => true
  | .irqcEoiPop _ => true
  | .hostRingBell _ _ => true
  | .ringPoll => true
  | .udpDatagram _ vlan _ src dst _ _ bytes => decide (vlan < 4096 ∧ src < 65536 ∧ dst < 65536 ∧ bytes.length < 65536)
  | .spiTargetWrite _ => true
  | .spiTargetRead _ => true
  | .spiTargetStatus => true
  | .sessionIdleTimeout _ => true
  | .challengeExpiry _ => true
  | .sesHello p => packetOk p
  | .sesProve p => packetOk p
  | .sesClose p => packetOk p
  | .sesInfo p => packetOk p
  | .sesPing p => packetOk p
  | .regRead p => packetOk p
  | .regWrite p => packetOk p
  | .memRead p => packetOk p
  | .memWrite p => packetOk p
  | .memFill p => packetOk p
  | .bufAlloc p => packetOk p
  | .bufFree p => packetOk p
  | .bufInfo p => packetOk p
  | .slabScrubDone _ => true
  | .laySet p => packetOk p
  | .layGet p => packetOk p
  | .layStage p => packetOk p
  | .sprPublish p => packetOk p
  | .sprStatus p => packetOk p
  | .sprAffine p => packetOk p
  | .tilSet p => packetOk p
  | .tilGet p => packetOk p
  | .tilPalette p => packetOk p
  | .lpgLoad p => packetOk p
  | .lpgParam p => packetOk p
  | .lpgStatus p => packetOk p
  | .keyArm p => packetOk p
  | .keyDisarm p => packetOk p
  | .keyStatus p => packetOk p
  | .camConfig p => packetOk p
  | .camWarp p => packetOk p
  | .camStatus p => packetOk p
  | .outLight p => packetOk p
  | .outStatus p => packetOk p
  | .outSr p => packetOk p
  | .outBacklight p => packetOk p
  | .outAux p => packetOk p
  | .outDcs p => packetOk p
  | .outSig p => packetOk p
  | .outSigRead p => packetOk p
  | .audVoice p => packetOk p
  | .audSet p => packetOk p
  | .audStatus p => packetOk p
  | .cfgApply p => packetOk p
  | .cfgRemove p => packetOk p
  | .cfgStatus p => packetOk p
  | .cfgWrite p => packetOk p
  | .cfgSteward p => packetOk p
  | .triggerDeclared _ => true
  | .canFdFrame _ ide id data => decide (data.length ≤ 64) && (ide || decide (id.toNat < 2048))
  | .updBegin p => packetOk p
  | .updData p => packetOk p
  | .updVerify p => packetOk p
  | .updVerifyDone _ => true
  | .updActivate p => packetOk p
  | .updConfirm p => packetOk p
  | .updStatus p => packetOk p
  | .updAbort p => packetOk p
  | .trialConfirmed => true
  | .trialLimitExpiry _ => true
  | .liveHandover => true
  | .fltStatus p => packetOk p
  | .fltJournal p => packetOk p
  | .fltClear p => packetOk p
  | .fltRetire p => packetOk p
  | .errorReport _ => true
  | .recoveryEnd _ => true
  | .recoveryTimeout _ => true
  | .fltLcRetireGo _ => true
  | .pwrState p => packetOk p
  | .pwrHold p => packetOk p
  | .pwrStatus p => packetOk p
  | .pierStateChoice _ => true
  | .pierEntryDone _ => true
  | .demandWake _ => true
  | .plannedWake _ => true
  | .pierWakeDone _ => true
  | .lingerExpiry _ => true
  | .parkWakeEvent _ => true
  | .memoryRead _ _ _ _ _ => true
  | .memoryWrite _ _ _ _ _ _ => true
  | .bitSetStore _ _ _ => true
  | .bitClearStore _ _ _ => true
  | .patrolScrubRead _ _ => true
  | .scrubPeriodEnd => true
  | .spanZeroed _ => true
  | .spareGo _ _ => true
  | .spareAbort _ => true
  | .spareRemap _ => true
  | .ddrEnable _ => true
  | .ddrTrained _ => true
  | .dmaStartWrite _ _ => true
  | .dmaStopWrite _ _ => true
  | .dmaMove _ => true
  | .dmaLoop _ => true
  | .dmaEndloop _ => true
  | .dmaWait _ => true
  | .dmaWaitSatisfied _ => true
  | .dmaSignal _ => true
  | .dmaHalt _ => true
  | .dmaBurstComplete _ => true
  | .bltCopy _ => true
  | .bltFill _ => true
  | .bltBlend _ => true
  | .bltDone => true
  | .bltListStart _ => true
  | .ytSrc => true
  | .ytDst => true
  | .ytClip => true
  | .ytCopy => true
  | .ytFill => true
  | .ytBlend => true
  | .ytSignal => true
  | .ytJump => true
  | .ytEnd => true
  | .audVstartWrite _ _ => true
  | .audVstopWrite _ _ => true
  | .audioSamplePeriod _ _ => true
  | .audGainWrite _ _ => true
  | .audEqA2Write _ _ _ => true
  | .monitorWindowExpiry _ => true
  | .jackPlugDebounced _ => true
  | .jackIdDone _ _ _ _ _ => true
  | .jackRemoval _ => true
  | .jackButtonChange _ _ => true
  | .jackShort _ => true
  | .wrnEnWrite _ _ => true
  | .wrnTrained _ _ _ _ _ => true
  | .wrnRetrainTimer _ => true
  | .wrnLinkDown _ => true
  | .laneError _ _ _ => true
  | .nakReceived _ _ => true
  | .wrnLaneGo _ _ => true
  | .laneSwapDone _ => true
  | .linkCell _ _ _ => true
  | .timeCellSend _ => true
  | .timeCell _ _ words _ => decide (words.length = 4)
  | .pixCell _ _ _ words _ _ => cellOk words
  | .cmdCell _ _ _ words _ => cellOk words
  | .memCell _ _ _ _ => true
  | .wrnMemReadTimeout _ _ => true
  | .wrnStreamEnable _ _ _ => true
  | .peerHoldExpiry _ _ => true
  | .gpioInputChange _ _ => true
  | .wakeDetect _ => true
  | .bankSupplyChange _ mv => decide (mv < 4096)
  | .xbarTrsRelease _ _ => true
  | .eviEdge _ _ => true
  | .evoWidthExpiry _ => true
  | .tmrEnable _ _ => true
  | .tmrStep _ _ => true
  | .tmrCaptureEdge _ _ _ => true
  | .tmrCaptureWrite _ _ => true
  | .tmrCapqRead _ => true
  | .pwmPeriodStart _ => true
  | .dbgAttach p => packetOk p
  | .dbgDetach p => packetOk p
  | .dbgRead p => packetOk p
  | .dbgTrace p => packetOk p
  | .dbgHalt p => packetOk p
  | .debugHaltTaken _ => true
  | .dbgResume p => packetOk p
  | .dbgStep p => packetOk p
  | .dbgPoint p => packetOk p
  | .dbgWrite p => packetOk p
  | .ttlSet p => packetOk p
  | .ttlClear p => packetOk p
  | .ttlBlink p => packetOk p
  | .ttlHeartbeat p => packetOk p
  | .ttlStatus p => packetOk p
  | .ttlLoad p => packetOk p
  | .asCapableChange _ _ => true
  | .timeClassTimeout _ => true
  | .groupFrameStart _ => true
  | .edpRetrainDone _ => true
  | .pllRelock _ => true
  | .xtalRecovery => true
  | .exchangeZeroed => true

end Sys2Proof
end

