-- ==== Sys2Proof/Tests/Slice0.lean ====
section
/-! SUPPORT. Tests, each a named theorem: the ill-formed commands that WellFormed refuses, the state after reset, worked examples of the spec,
and for every statement with premises a state and operands that meet them. -/

set_option maxRecDepth 100000
set_option Elab.async false

namespace Sys2Proof.Tests

open Sys2Proof Sys2Proof.Machine

/-- A state after reset, with the registers listed. -/
def mk (regs : List (Nat × Nat)) : State := { dev := regs.foldl (fun d p => d.wr p.1 p.2) Dev.reset, pending := [] }

/-- The state with a field written. -/
def setf (a : Nat) (f : Fld) (v : Nat) (s : State) : State := { s with dev := s.dev.setFld a f v }

/-- The state with its device changed. -/
def md (f : Dev → Dev) (s : State) : State := { s with dev := f s.dev }

/-- The state past the oscillator wait and the boot. -/
def up (s : State) : State := md (fun d => { d with pwr := { d.pwr with stage := 3 } }) s

/-- The state a meaning answers. -/
def go (f : State → Host.Outcome State Fault Refusal) (s : State) : State := match f s with | .next t => t | _ => s

/-! ### Commands that are not well formed -/

/-- A packet with one payload word, well formed. -/
def okPacket : Packet := ⟨.spi, 0, true, false, false, 0, 0, 0x123, 1, 0, [7]⟩

theorem test_packet_well_formed : wellFormed (.sesPing okPacket) = true := by decide
theorem test_packet_count_ill_formed : wellFormed (.sesPing { okPacket with count := 2 }) = false := by decide
theorem test_packet_reserved_ill_formed : wellFormed (.memRead { okPacket with rsv := 1 }) = false := by decide
theorem test_packet_long_ill_formed : wellFormed (.memWrite { okPacket with count := 1023, payload := List.replicate 1023 0 }) = false := by
  decide +kernel
theorem test_udp_endpoint_ill_formed : wellFormed (.sesHello { okPacket with ep := .udp 0 4096 1 2 }) = false := by decide
theorem test_peer_endpoint_ill_formed : wellFormed (.sesHello { okPacket with ep := .peer 0 3 3 }) = false := by decide
theorem test_register_address_ill_formed :
    wellFormed (.registerWrite 0x101000000 0) = false ∧ wellFormed (.pairLoRead 0xFFFFFFFF) = false ∧ wellFormed (.pairHiWrite 0 0) = false := by
  decide
theorem test_register_address_well_formed : wellFormed (.registerWrite 0x100FFFFFF 0) = true := by decide
theorem test_gptp_domain_ill_formed : wellFormed (.asSyncReceived 0 256 0 0) = false := by decide
theorem test_granularity_ill_formed : wellFormed (.portReady 0 0 0) = false ∧ wellFormed (.portReady 0 0 1) = true := by decide
theorem test_long_packet_ill_formed : wellFormed (.csiLongPacket 0 0 0 0 true (List.replicate 65536 0)) = false := by
  show decide ((List.replicate 65536 (0 : BitVec 8)).length < 65536) = false
  rw [List.length_replicate]; rfl
theorem test_datagram_ill_formed : wellFormed (.udpDatagram 0 4096 0 1 2 false false []) = false := by decide
theorem test_datagram_port_ill_formed :
    wellFormed (.udpDatagram 0 0 0 65536 2 false false []) = false ∧ wellFormed (.udpDatagram 0 0 0 1 65536 false false []) = false := by decide
theorem test_can_ill_formed :
    wellFormed (.canFdFrame 0 false 2048 []) = false ∧ wellFormed (.canFdFrame 0 true 0 (List.replicate 65 0)) = false ∧
      wellFormed (.canFdFrame 0 true 2048 []) = true := by decide
theorem test_time_cell_ill_formed : wellFormed (.timeCell 0 ⟨0, 0, false, true, false⟩ [1, 2, 3] 0) = false := by decide
theorem test_cell_ill_formed : wellFormed (.cmdCell 0 ⟨0, 0, false, true, false⟩ 0 (List.replicate 10 0) 0) = false := by decide
theorem test_pix_cell_ill_formed : wellFormed (.pixCell 0 ⟨0, 0, false, true, false⟩ 0 (List.replicate 10 0) 1 1) = false := by decide
theorem test_supply_ill_formed : wellFormed (.bankSupplyChange 0 4096) = false := by decide

/-! ### Words, reset, steps -/

theorem test_no_word_spells_a_command : decodeTableWord 24 0x123456 = none := rfl
theorem test_fetch_word_changes_nothing : State.reset.withFetchWord 24 0x123456 = State.reset := rfl
theorem test_reset_settled : State.reset.Settled := by
  unfold State.Settled Dev.requestsFollow Dev.attnFollows Dev.slotsFollow; decide +kernel
theorem test_reset_shaped : State.reset.dev.Shaped := by unfold Dev.Shaped; decide +kernel
theorem test_reset_memory : Memory.wf State.reset.dev.mem = true := by decide +kernel
theorem test_step_takes_the_front :
    step { State.reset with pending := [.forceNext, .por] } = exec .forceNext { State.reset with pending := [.por] } := rfl

/-! ### Worked examples of the spec -/

/-- R13's example: of a W1C flag and the bits beside it, a write of 1 clears the flag alone; here LOSS of BTU_STATUS. -/
theorem test_w1c_clears_its_flag :
    ((mk [(rBTU_STATUS, 0x3FFFF)]).dev.typedWrite rBTU_STATUS 0x1000).flag rBTU_STATUS fBTU_STATUS_LOSS = false ∧
      ((mk [(rBTU_STATUS, 0x3FFFF)]).dev.typedWrite rBTU_STATUS 0x1000).flag rBTU_STATUS fBTU_STATUS_SWITCH = true := by decide +kernel

/-- Chapter 1's example: BANK196 lies in span 3. -/
theorem test_bank_196_in_span_3 : bankSpan 196 = 3 := by decide

/-- R42's example: TG0 at 60 Hz and TG1 at 50 Hz, BT 2051:0x5A_3C21. -/
theorem test_group_beam_time :
    (md (fun d => { d with btu := { d.btu with e := 34415983649 } }) (mk [(rBTU_RATE, 0x5545)])).dev.gbt 1 = 1709 * 2 ^ 24 + 0x75DCC6 := by
  decide +kernel

/-- A mode with 1,125 lines of 2,200 dots. -/
def hdMode : Mode := ⟨1920, 88, 44, 148, 2200, 1080, 4, 5, 36, 1125, true, true⟩

/-- R44's examples, ×1 and ×2. -/
theorem test_scan_position : posOf hdMode 5913633 = (396, 1187) ∧ posOf hdMode (2 * 5913633 % 2 ^ 24) = (793, 175) ∧ posOf hdMode 0xC00000 = (843, 1650) := by
  decide +kernel

/-- R44's example: the output frame of the ×2 output OUT5. -/
theorem test_scan_frame :
    (md (fun d => { d with btu := { d.btu with e := 2051 * 2 ^ 24 + 0x5A3C21 } }) (mk [(rBTU_OUT_MAP, 0x200000)])).dev.outFrame44 5 = 4102 := by
  decide +kernel

/-- R174's example: the keystone point 8 lines before the end of the frame. -/
theorem test_keystone_phase : keyPhase 1125 8 = 0xFE2DF8 := by decide

/-- R183's example: a block red, red, blue, blue at 8 bits is coded in mode 1 and decodes exactly. -/
theorem test_frame_store_block :
    let dots := [packCodes 255 0 0, packCodes 255 0 0, packCodes 0 0 255, packCodes 0 0 255]
    fsEncode 8 dots = 0xFF0000000FE6 ∧ fsDecode 8 0xFF0000000FE6 = dots := by decide +kernel

/-- R242's example: the signature of a 4 × 2 region. -/
theorem test_signature :
    let dots := [packCodes 255 255 255, packCodes 255 0 0, 0, 0, 0, 0, 0, packCodes 0 0 255]
    crcFinish (dots.foldl (crcDot 8) 0xFFFFFFFF) = 0xD2FD1072 := by decide +kernel

/-- R318's example: the words of SES.PROVE, slot 3, tag 0x12, and of the reply to SES.HELLO. -/
theorem test_packet_words :
    Packet.w0 { okPacket with slot := 3, tag := 0x12 } 0x041 = 0x041680000012 ∧
      replyWords 0x040680000011 0 0 [1, 2, 3, 4] = [0x040780000011, 0x000004000000, 1, 2, 3, 4] := by decide +kernel

/-- OUT4 on EDP2 with four lanes of HBR3 and 10 bits a channel. -/
def out4 : State := setf (rOUT_COMP_CTRL 4) fOUT_COMP_CTRL_DEPTH 2 (setf (rOUT_EDP 4) fOUT_EDP_LANES 2 (setf (rOUT_EDP 4) fOUT_EDP_RATE 3
  (setf (rOUT_CTRL 4) fOUT_CTRL_PORT 2 (mk []))))

/-- R219's example: at 950.4 Mpixel/s OUT4 exceeds its link without DSC, and fits with DSC at 12 bits a pixel. -/
theorem test_link_exceeded :
    out4.dev.linkExceeded 4 950400000 = true ∧
      (setf (rOUT_DSC 4) fOUT_DSC_EN 1 (setf (rOUT_DSC 4) fOUT_DSC_BPP 192 out4)).dev.linkExceeded 4 950400000 = false := by decide +kernel

/-- R566's example: entry 42 of PAL05 of OUT2. -/
theorem test_palette_address : rOUT_PAL_LO 2 5 42 = 0x100528A54 ∧ rOUT_PAL_HI 2 5 42 = 0x100528A55 := by decide

/-! ### Helpers of the premises -/

/-- `Accepted`, as a test. -/
def acceptedB (d : Dev) (op : Nat) (p : Packet) : Bool :=
  !epIsPeer p.ep && p.ep != .sentinel && d.talk.held.isEmpty && decide (d.owedTo p.ep < 16) && (d.udpRepeat (reqOf p op)).isNone && d.upd.hand.isNone &&
    d.pwr.stage != 4 && d.pier 2 == 0 && !d.pwr.entering.any (·.1 == 2) && !p.fwd && (d.check (reqOf p op)).isNone &&
    match catalogue op with
    | some o => d.within (d.rights (reqOf p op)) (reqOf p op) o && o.ready d (reqOf p op) == 0
    | none => false

theorem accepted_iff {d : Dev} {op : Nat} {p : Packet} : Accepted d op p ↔ acceptedB d op p = true := by
  unfold Accepted Taken IsOn acceptedB
  cases catalogue op <;> simp [and_assoc]

theorem view_of_settled {d : Dev} {n : Nat} (h : (d.outp n).prev = none) (f : Nat) : d.view n f = d := by
  simp only [Dev.view, h]

/-! ### States that meet the premises of the clauses of chapter 1 and of steps and registers -/

namespace T01

def s0 : State := up (mk [])
/-- Pad 3 holds the level that its IRQ field watches for. -/
def lvl : State := md (fun d => { d with pins := { d.pins with level := 8 } }) (setf (rGPIO_BANK_STATUS 0) fGPIO_BANK_STATUS_PWR_OK 1 (setf (rGPIO_PAD 3) fGPIO_PAD_IRQ 4
  (setf (rPMU_PIER_STATUS 38) fPMU_PIER_STATUS_STATE 0 (mk []))))

theorem test_premises_RegisterAccessesOfTheBeamTimeUnit :
    (∃ (s : State), Meets s.dev rBTU_SLEW) ∧
    (∃ (s : State), Meets s.dev rBTU_STATUS) ∧
    (∃ (s : State), Meets s.dev rBTU_BT_LO) ∧
    (∃ (s : State), Meets s.dev rBTU_EPOCH_LO) ∧
    (∃ (s : State), Meets s.dev rBTU_EPOCH_HI) :=
  ⟨⟨s0, by unfold Meets IsOn; decide +kernel⟩,
    ⟨s0, by unfold Meets IsOn; decide +kernel⟩,
    ⟨s0, by unfold Meets IsOn; decide +kernel⟩,
    ⟨s0, by unfold Meets IsOn; decide +kernel⟩,
    ⟨s0, by unfold Meets IsOn; decide +kernel⟩⟩

theorem test_premises_StepRunsTheFrontCommand :
    (∃ (s : State) (c : Instr) (rest : List Instr), s.pending = c :: rest) :=
  ⟨{ State.reset with pending := [.forceNext, .por] }, .forceNext, [.por], rfl⟩

theorem test_premises_IdleStepIsOneClock :
    (∃ s : State, s.pending = [] ∧ s.dev.cfg.staging = [] ∧ s.dev.cfg.waits = [] ∧ (∀ c ∈ s.dev.cores, c.2.posted = []) ∧ s.dev.pins.held = none ∧
      s.dev.talk.bell = false ∧ s.dev.talk.owed = [] ∧ (s.dev.awake 38 = true → ∀ p < 96, s.dev.fld (rGPIO_PAD p) fGPIO_PAD_IRQ < 4)) ∧
    (∃ (s : State) (p : Nat), s.pending = [] ∧ s.dev.cfg.staging = [] ∧ s.dev.cfg.waits = [] ∧ (∀ c ∈ s.dev.cores, c.2.posted = []) ∧
      s.dev.pins.held = none ∧ s.dev.talk.bell = false ∧ s.dev.talk.owed = [] ∧ p < 96 ∧ s.dev.awake 38 = true ∧
      s.dev.fld (rGPIO_PAD p) fGPIO_PAD_IRQ = 4 ∧ s.dev.padLevel p = true) :=
  ⟨⟨State.reset, by decide +kernel⟩,
    ⟨lvl, 3, by decide +kernel⟩⟩

theorem test_premises_StepKeepsLinesSettled :
    (∃ s t : State, s.Settled ∧ step s = .next t) :=
  ⟨State.reset, _, by unfold State.Settled Dev.requestsFollow Dev.attnFollows Dev.slotsFollow; decide +kernel, rfl⟩

theorem test_premises_StepKeepsTheTables :
    (∃ s t : State, s.dev.Shaped ∧ step s = .next t) :=
  ⟨State.reset, _, by unfold Dev.Shaped; decide +kernel, rfl⟩

theorem test_premises_RegisterBitsFollowTheirTypes :
    (∃ (a v k : Nat) (r : RegRow) (i : Nat), rowOf a = some (r, i) ∧ v < 2 ^ 24 ∧ k < 24) :=
  ⟨rBTU_CTRL, 0xFFFFFF, 23, _, _, rfl, by decide, by decide⟩

end T01

/-! ### States that meet the premises of the clauses of chapter 2 -/

namespace T02

def s1 : State := md (fun d => { d with pwr := { d.pwr with stage := 3 }, btu := { d.btu with e := 5 * 2^24 + 77 } }) (mk [(rBTU_SRC_LIST, 0x1F), (rBTU_EPOCH_LO,5),(rBTU_CAM_PHASE,99)])
def sact (c st : Nat) (s : State) : State := setf rBTU_STATUS fBTU_STATUS_STATE st (setf rBTU_STATUS fBTU_STATUS_ACTIVE_SRC c s)
def s2 := sact 1 1 s1
def s3 := md (fun d => { d with btu := { d.btu with held := 1, holdDone := true, q := [⟨2,true,20,true,0,0,0,400,false⟩] } }) (setf rBTU_SRC_LIST ⟨0,24⟩ (2 + 32*1) (sact 1 2 s1))
def s4 := md (fun d => { d with btu := { d.btu with list := 2 + 32 , q := [⟨2,true,20,true,0,0,0,400,false⟩] } }) (sact 1 1 s1)
def s6 := md (fun d => { d with btu := { d.btu with revert := some 2 } }) (setf rBTU_SRC_LIST ⟨0,24⟩ (2+32) (setf rBTU_REF_CTRL fBTU_REF_CTRL_REVERT_DELAY 300 (setf rBTU_CTRL fBTU_CTRL_REVERT 1 s4)))
def s7 := md (fun d => { d with btu := { d.btu with e := 5 * 2^24 } }) s6
def lit1 := setf (rOUT_STATUS 2) fOUT_STATUS_LIT 1 s1
def s60 := md (fun d => { d with btu := { d.btu with asCap := [true,true], q := [⟨1,true,15,false,-83886157,0,0,0,false⟩] } }) s1
def s61 := sact 2 2 s1
/-- A state on the crystal in which the entry of source `c`, `ofs` units ahead of BT, is the best. -/
def tk (c : Nat) (ofs : Int) : State := md (fun d => { d with btu := { d.btu with epoch := 5, camPhase := 99, list := c, q := [⟨c, true, 20, true, ofs, 0, 0, 0, false⟩], ofs := [(c, ofs)] } }) (setf rBTU_STATUS fBTU_STATUS_ACTIVE_SRC 0x1F (setf rBTU_SRC_LIST ⟨0, 24⟩ c s1))
def lit (s : State) : State := setf (rOUT_STATUS 2) fOUT_STATUS_LIT 1 (md (fun d => d.modOutp 2 fun o => { o with st := 3, line := 9, frame := 5 }) s)
def sl : State := setf rBTU_PHASE_ERR ⟨0, 24⟩ 700 (setf rBTU_SLEW fBTU_SLEW_SLEW_NOW 233 s1)
/-- Camera 2 is tracked on channel 0, and its last Frame Start came `back` units ago. -/
def cm (back : Int) : State := md (fun d => { d.modCam 2 (fun x => { x with track := [⟨0, 3, true, 9⟩] }) with btu := { d.btu with q := [⟨10, true, 15, false, 0, (d.btu.e : Int) - back, 0, 0, false⟩] } })
  (setf (rPMU_PIER_STATUS 26) fPMU_PIER_STATUS_STATE 0 (setf (rCAM_CTRL 2) fCAM_CTRL_EN 1 s1))
/-- Port 1 is up to device 3, and its source has fifteen good cells in a row. -/
def pe : State := md (fun d => { d.modPort 1 (fun x => { x with alive := true, same := true, links := 7 }) with btu := { d.btu with q := [⟨0x11, true, 15, false, 0, 0, 0, 0, false⟩] } })
  (go (execWrnTrained 1 3 1 0x1FF 0x1FF) (go (execWrnEnWrite 1 0x81FF00) ([30, 31, 32, 39].foldl (fun s p => setf (rPMU_PIER_STATUS p) fPMU_PIER_STATUS_STATE 0 s)
    ([0, 1, 2].foldl (fun s p => setf (rWRN_SUCC p) fWRN_SUCC_LIST 0xE4 s) (setf rPMU_STRAPS ⟨19, 2⟩ 1 s1)))))
def w4 (l : Nat) : List Word := [0x1234, 0x99, 50, BitVec.ofNat 48 (l * 2^40 + 7 * 2^33)]

theorem test_premises_FrameBoundaryWrapsAndAdopts :
    (∃ (s : State), s.dev.btRuns = true ∧ s.dev.awake 39 = true ∧ s.dev.rd rBTU_SRC_LIST = 0x1F ∧ s.dev.btuActive = 0x1F ∧ s.dev.btuState ≠ 2 ∧
      s.dev.rd rBTU_PHASE_ERR = 0) ∧
    (∃ (s : State), s.dev.btRuns = true ∧ s.dev.awake 39 = true) ∧
    (∃ (s : State), s.dev.btRuns = true ∧ s.dev.awake 39 = true ∧ s.dev.btuState = 2 ∧ s.dev.btu.holdDone = true) ∧
    (∃ (s : State) (c : Nat), TakesFromCrystal s.dev c ∧ s.dev.litOuts = [] ∧ srcHasFrames c = false) ∧
    (∃ (s : State) (c : Nat), let full := s.dev.btu.ofsOf c; TakesFromCrystal s.dev c ∧ s.dev.litOuts = [] ∧ srcHasFrames c = true ∧ 0 < full ∧
      full < 2 ^ 47) ∧
    (∃ (s : State) (c : Nat), TakesFromCrystal s.dev c ∧ s.dev.litOuts ≠ [] ∧
      (s.dev.flag rBTU_CTRL fBTU_CTRL_STEP_FIRST = false ∨ s.dev.btu.taken = true)) ∧
    (∃ (s : State) (c : Nat), TakesFromCrystal s.dev c ∧ s.dev.litOuts ≠ [] ∧ s.dev.flag rBTU_CTRL fBTU_CTRL_STEP_FIRST = true ∧
      s.dev.btu.taken = false) ∧
    (∃ (s : State), s.dev.btRuns = true ∧ s.dev.awake 39 = true ∧ s.dev.rd rBTU_SRC_LIST = 0x1F ∧ s.dev.btuActive = 0x1F ∧ s.dev.btuState ≠ 2 ∧
      sgn24 (s.dev.rd rBTU_PHASE_ERR) ≠ 0 ∧ s.dev.litOuts ≠ []) ∧
    (∃ (s : State), s.dev.btRuns = true ∧ s.dev.awake 39 = true ∧ s.dev.rd rBTU_SRC_LIST = 0x1F ∧ s.dev.btuActive = 0x1F ∧ s.dev.btuState ≠ 2 ∧
      sgn24 (s.dev.rd rBTU_PHASE_ERR) ≠ 0 ∧ s.dev.litOuts = []) ∧
    (∃ (d : Dev), Meets d rBTU_FRAME_OFS ∧ srcHasFrames d.btuActive = true) ∧
    (∃ (d : Dev), Meets d rBTU_FRAME_OFS ∧ srcHasFrames d.btuActive = false) :=
  ⟨⟨s1, by decide +kernel⟩,
    ⟨s1, by decide +kernel⟩,
    ⟨s3, by decide +kernel⟩,
    ⟨tk 10 500, 10, by unfold TakesFromCrystal; decide +kernel⟩,
    ⟨tk 2 (3 * 2 ^ 24 + 100), 2, by unfold TakesFromCrystal; decide +kernel⟩,
    ⟨lit (tk 10 500), 10, by unfold TakesFromCrystal; decide +kernel⟩,
    ⟨lit (setf rBTU_CTRL fBTU_CTRL_STEP_FIRST 1 (tk 10 500)), 10, by unfold TakesFromCrystal; decide +kernel⟩,
    ⟨lit sl, by decide +kernel⟩,
    ⟨sl, by decide +kernel⟩,
    ⟨(sact 2 1 (tk 2 (3 * 2 ^ 24 + 100))).dev, by unfold Meets IsOn; decide +kernel⟩,
    ⟨s1.dev, by unfold Meets IsOn; decide +kernel⟩⟩

theorem test_premises_LostSourceIsHeldOver :
    (∃ (s : State) (code : BitVec 5), srcNorm code.toNat = code.toNat ∧ code ≠ 0 ∧ code ≠ 0x1F ∧ s.dev.btuActive = code.toNat ∧ s.dev.btuState = 1) ∧
    (∃ (s : State) (mac : Fin 2), s.dev.btuActive = mac.val + 1 ∧ s.dev.btuState = 1) ∧
    (∃ (s : State), s.dev.btuState ≠ 2 ∧ s.dev.btuActive ≠ 0x1F ∧ s.dev.btuActive ≠ 0) ∧
    (∃ (s : State), s.dev.btuState ≠ 2 ∧ s.dev.btuActive = 0x1F) ∧
    (∃ (s : State), s.dev.btuState = 2) ∧
    (∃ (s : State), s.dev.btuState = 2 ∧ s.dev.btu.holdDone = false) ∧
    (∃ (s : State), (s.dev.btuState ≠ 2 ∨ s.dev.btu.holdDone = true)) :=
  ⟨⟨s2, 1, by decide +kernel⟩,
    ⟨s2, 0, by decide +kernel⟩,
    ⟨s2, by decide +kernel⟩,
    ⟨s1, by decide +kernel⟩,
    ⟨s3, by decide +kernel⟩,
    ⟨s61, by decide +kernel⟩,
    ⟨s1, by decide +kernel⟩⟩

theorem test_premises_SourcesQualifyAndRevert :
    (∃ (s : State), s.dev.flag rBTU_CTRL fBTU_CTRL_REVERT = false) ∧
    (∃ (s : State) (code : Nat), RevertIsDue s.dev code ∧ s.dev.btu.e % 2 ^ 24 = 0) ∧
    (∃ (s : State) (code : Nat), RevertIsDue s.dev code ∧ s.dev.btu.e % 2 ^ 24 ≠ 0) ∧
    (∃ (s : State) (code : Nat), RevertIsDue s.dev code ∧ s.dev.btRuns = true ∧ s.dev.awake 39 = true ∧ s.dev.btu.revert.isSome = true ∧
      (s.dev.btu.src code).part = false ∧ s.dev.rd rBTU_SRC_LIST = s.dev.btu.list) ∧
    (∃ (s : State) (dom : Nat), dom ≠ s.dev.fld rBTU_REF_CTRL fBTU_REF_CTRL_AS_DOMAIN) ∧
    (∃ (s : State) (mac : Fin 2) (dom : Nat) (ns : Nat) (freq : Int), let err : Int := (((ns : Int) - (s.dev.btu.epoch : Int) * 1000000000) * ((s.dev.groupHz 0 * 2 ^ 24 : Nat) : Int)) / 1000000000 - (s.dev.btu.e : Int); let x := s.dev.btu.src (mac.val + 1); dom = s.dev.fld rBTU_REF_CTRL fBTU_REF_CTRL_AS_DOMAIN ∧
      s.dev.btu.asCap.getD mac false = true ∧ -8000000 ≤ freq ∧ freq ≤ 8000000 ∧ x.code = mac.val + 1 ∧ x.seen = true ∧ x.qual = false ∧
      (err - x.lastErr).natAbs * 1000000 ≤ s.dev.groupHz 0 * 2 ^ 24 ∧ s.dev.btuActive = 0x1F ∧ s.dev.btuState ≠ 2) ∧
    (∃ (s : State) (cam : Fin 8) (vc : BitVec 4), let x := s.dev.btu.src (8 + cam.val); let dev := s.dev.btuUnslewed - x.lastE - 2 ^ 24; s.dev.camOn cam = true ∧
      (s.dev.cam cam).track.any (fun t => t.vc == vc.toNat) = true ∧ vc.toNat = natBits s.dev.btu.list 20 4 ∧ x.code = 8 + cam.val ∧ x.seen = true ∧
      x.qual = false ∧ s.dev.btuActive = 0x1F ∧ s.dev.btuState ≠ 2 ∧ dev.natAbs * 4000 ≤ 2 ^ 24) ∧
    (∃ (s : State) (cam : Fin 8) (vc : BitVec 4), let x := s.dev.btu.src (8 + cam.val); let dev := s.dev.btuUnslewed - x.lastE - 2 ^ 24; s.dev.camOn cam = true ∧
      (s.dev.cam cam).track.any (fun t => t.vc == vc.toNat) = true ∧ vc.toNat = natBits s.dev.btu.list 20 4 ∧ x.code = 8 + cam.val ∧ x.seen = true ∧
      x.qual = false ∧ s.dev.btuActive = 0x1F ∧ s.dev.btuState ≠ 2 ∧ 2 ^ 24 < dev.natAbs * 4000 ∧ dev.natAbs < 2 ^ 62) ∧
    (∃ (s : State) (port : Fin 3) (head : CellHead) (words : List Word), let x := s.dev.btu.src (0x10 + port.val); let w3 := (words.getD 3 0).toNat; s.dev.timeUp port = true ∧
      head.reserved = false ∧ head.crcOk = true ∧ head.nak = false ∧ natBits w3 40 8 = s.dev.fld (rWRN_SUCC port) fWRN_SUCC_LIST ∧
      natBits w3 33 4 = (s.dev.port port).links ∧ x.code = 0x10 + port.val ∧ x.qual = false ∧ s.dev.btuActive = 0x1F ∧ s.dev.btuState ≠ 2) :=
  ⟨⟨(setf rBTU_CTRL fBTU_CTRL_REVERT 0 s1), by decide +kernel⟩,
    ⟨s7, 2, by unfold RevertIsDue; decide +kernel⟩,
    ⟨s4, 2, by unfold RevertIsDue; decide +kernel⟩,
    ⟨s6, 2, by unfold RevertIsDue; decide +kernel⟩,
    ⟨s1, 3, by decide +kernel⟩,
    ⟨s60, 0, 0, 0, 5, by decide +kernel⟩,
    ⟨cm (2 ^ 24), 2, 0, by decide +kernel⟩,
    ⟨cm (2 ^ 24 + 90000), 2, 0, by decide +kernel⟩,
    ⟨pe, 1, ⟨78, 3, false, true, false⟩, w4 0xE4, by decide +kernel⟩⟩

theorem test_premises_TimeWritesLandOrWait :
    (∃ (s : State) (v : Reg), ((∀ g, g < 4 → natBits v.toNat (4 * g) 4 ≤ 0xA ∧ ∀ n, n < 8 → s.dev.outTg n = g → s.dev.lit n = false ∧
      s.dev.outX2 n = false))) ∧
    (∃ (s : State) (v : Reg) (g : Fin 4), 0xB ≤ natBits v.toNat (4 * g.val) 4 ∧ natBits v.toNat (4 * g.val) 4 ≠ s.dev.rateCode g) ∧
    (∃ (s : State) (v : Reg) (n : Fin 8), s.dev.lit n = true ∧ natBits v.toNat (4 * s.dev.outTg n) 4 ≠ s.dev.rateCode (s.dev.outTg n)) ∧
    (∃ (s : State) (v : Reg), s.dev.litOuts = [] ∧ ((∀ n, n < 8 → natBit v.toNat (16 + n) = true → s.dev.rateCode (natBits v.toNat (2 * n) 2) ≤ 5))) ∧
    (∃ (s : State) (v : Reg) (n : Fin 8), s.dev.lit n = true ∧
      ((natBits v.toNat (2 * n.val) 2 ≠ s.dev.outTg n ∨ natBit v.toNat (16 + n.val) ≠ s.dev.outX2 n))) :=
  ⟨⟨s1, 0x1234, by decide +kernel⟩,
    ⟨s1, 0x555B, 0, by decide +kernel⟩,
    ⟨lit1, 0x5551, 2, by decide +kernel⟩,
    ⟨s1, 0x1234, by decide +kernel⟩,
    ⟨lit1, 0xFF0010, 2, by decide +kernel⟩⟩

theorem test_premises_ScanPositionFollowsPhase :
    (∃ (m : Mode) (p : Nat), p < 2 ^ 24 ∧ 0 < m.v ∧ 0 < m.h) ∧
    (∃ (d : Dev) (n : Nat), d.outX2 n = false) ∧
    (∃ (d : Dev) (n : Nat), d.outX2 n = true) ∧
    (∃ (m : Mode) (p q : Nat), 0 < m.v ∧ p ≤ q) :=
  ⟨⟨s1.dev.mode 0, 5913633, by decide +kernel⟩,
    ⟨s1.dev, 2, by decide +kernel⟩,
    ⟨s1.dev.wr rBTU_OUT_MAP 0x010000, 0, by decide +kernel⟩,
    ⟨s1.dev.mode 0, 5, 2 ^ 24 - 1, by decide +kernel⟩⟩

theorem test_premises_PixelRunsAreBitStreams :
    (∃ (word : Nat → Nat) (b k j : Nat), (∀ i, word i < 2 ^ 48) ∧ 0 < b ∧ b ≤ 48 ∧ j < b ∧ 48 < k * b % 48 + b) :=
  ⟨fun _ => 0xAAAAAAAAAAAA, 32, 1, 31, by intro i; show (0xAAAAAAAAAAAA : Nat) < 2 ^ 48; decide, by decide⟩

theorem test_premises_BeamTimesAreOrderedModulo :
    (∃ a b : Nat, a < 2 ^ 48 ∧ b < 2 ^ 48 ∧ (a + 2 ^ 48 - b) % 2 ^ 48 = 2 ^ 47 - 1) ∧
    (∃ b k : Nat, b < 2 ^ 48 ∧ k < 2 ^ 48) :=
  ⟨⟨5, 2 ^ 47 + 6, by decide +kernel⟩,
    ⟨5, 2 ^ 47, by decide +kernel⟩⟩

end T02

/-! ### States that meet the premises of the clauses of chapter 3 -/

namespace T03

def s0 : State := up (mk [(rTRS_CTRL, 1)])
def s2 : State := md (fun d => d.setCore 3 { d.core 3 with wait := 2, waitArg := 5 }) (up (mk [(rTRS_EV_LATCH 0, 0x20)]))
def s3 : State := md (fun d => { d with trs := { d.trs with entries := [⟨77, 255, 5, 2^32+9, 0, 0, false⟩] }, btu := {d.btu with e := 9} }) s0
def s4 : State := md (fun d => { d with trs := { d.trs with entries := [⟨77, 255, 9, 2^43+2^32+9, 0, 0, false⟩] }, btu := {d.btu with e := 9} }) (setf (rTRS_CAD 1) fTRS_CAD_PERIOD 65535 s0)
def s6 : State := md (fun d => { d with trs := { d.trs with lists := [⟨0,[(rBTU_CAM_PHASE, 44)]⟩] } }) s0
def s7 : State := md (fun d => { d with trs := { d.trs with lists := [⟨39,[(rBTU_CAM_PHASE, 44)]⟩] } }) s0
def s8 : State := md (fun d => { d with trs := { d.trs with held := [2^32+7] } }) s0
def s9 : State := setf (rPMU_PIER_STATUS 39) fPMU_PIER_STATUS_STATE 2 s8
def s10 : State := up (mk [(rTRS_CTRL, 0)])

theorem test_premises_RaisedLinesLatchOrCoalesce :
    (∃ (s : State) (k : Fin 11) (b : Fin 24), 24 * k.val + b.val < 256 ∧ Meets s.dev (rTRS_EV_LATCH k)) :=
  ⟨s0, 0, 5, by unfold Meets IsOn; decide +kernel⟩

theorem test_premises_MergePassDelivers :
    (∃ (s : State) (l : Nat), s.dev.latched = [l]) ∧
    (∃ (s : State), s.dev.latched = []) :=
  ⟨⟨s2, 5, by decide +kernel⟩,
    ⟨s0, by decide +kernel⟩⟩

theorem test_premises_CalendarEntriesFire :
    (∃ (s : State) (bt : BitVec 48), bt.toNat = s.dev.bt ∧ ((∀ x ∈ s.dev.trs.entries, btGe bt.toNat x.bt = false))) ∧
    (∃ (s : State), s.dev.flag rTRS_CTRL fTRS_CTRL_FIRE_EN = false) ∧
    (∃ (s : State) (x : TrsEntry) (line : BitVec 8), s.dev.trs.entries = [x] ∧ btGe s.dev.bt x.bt = true ∧ x.act = 2 ^ 32 + line.toNat ∧
      x.late = false ∧ s.dev.flag rTRS_CTRL fTRS_CTRL_FIRE_EN = true ∧ s.dev.pier 39 = 0 ∧ s.dev.pwr.entering = []) ∧
    (∃ (s : State) (x : TrsEntry) (line : BitVec 8), s.dev.trs.entries = [x] ∧ x.bt = s.dev.bt ∧ x.act = 2 ^ 43 + 2 ^ 32 + line.toNat ∧
      x.late = false ∧ 0 < s.dev.fld (rTRS_CAD 1) fTRS_CAD_PERIOD ∧ s.dev.flag rTRS_CTRL fTRS_CTRL_FIRE_EN = true ∧ s.dev.pier 39 = 0 ∧
      s.dev.pwr.entering = []) :=
  ⟨⟨s0, (BitVec.ofNat 48 s0.dev.bt), by decide +kernel⟩,
    ⟨s10, by decide +kernel⟩,
    ⟨s3, ⟨77, 255, 5, 2^32+9, 0, 0, false⟩, 9, by decide +kernel⟩,
    ⟨s4, ⟨77, 255, 9, 2^43+2^32+9, 0, 0, false⟩, 9, by decide +kernel⟩⟩

theorem test_premises_ReglListsAndHeldActions :
    (∃ (s : State) (v : Nat) (rest : List ReglList), s.dev.trs.lists = ⟨0, [(rBTU_CAM_PHASE, v)]⟩ :: rest) ∧
    (∃ (s : State) (v : Nat) (rest : List ReglList), s.dev.trs.lists = ⟨39, [(rBTU_CAM_PHASE, v)]⟩ :: rest ∧ v < 2 ^ 24 ∧
      Meets s.dev rBTU_CAM_PHASE) ∧
    (∃ (s : State) (line : BitVec 8), s.dev.trs.held = [2 ^ 32 + line.toNat] ∧ s.dev.awake 39 = true) ∧
    (∃ (s : State) (p : Fin 40), s.dev.awake p = false ∧ s.dev.holdOf p ≠ 2) :=
  ⟨⟨s6, 44, [], by decide +kernel⟩,
    ⟨s7, 44, [], by unfold Meets IsOn; decide +kernel⟩,
    ⟨s8, 7, by decide +kernel⟩,
    ⟨s9, 39, by decide +kernel⟩⟩

end T03

/-! ### States that meet the premises of the clauses of chapter 4 -/

namespace T04

def s0 : State := up (mk [(rPMU_BOOT_MS, 0xFFFFFF)])
def lit1 := md (fun d => d.setOutp 2 { d.outp 2 with st := 3, line := 1100, frame := 7 }) (up (mk [(rPMU_BOOT_MS, 0xFFFFFF),(rOUT_CTRL 2, 0xA00000), (rBTU_RATE, 0x4444)]))
def modeS := md (fun d => d.setOutp 2 { d.outp 2 with line := (d.mode 2).va + 1, frame := 0 }) lit1
def sb := md (fun d => d.setOutp 2 { d.outp 2 with sprBuild := some (50, 3), lutCopy := some (3, 77) }) (up (mk [(rOUT_SPR_SAT_COUNT 2, 55), (rOUT_LUT_CTRL 2, 0xA00000)]))
def sb2 := md (fun d => d.setOutp 2 { d.outp 2 with sprBuild := some (0xFFFFFF, 3), lutCopy := some (3, 0xFFFFF0) }) (up (mk [(rOUT_SPR_SAT_COUNT 2, 55), (rOUT_LUT_CTRL 2, 0x200000)]))
def wk (s : State) : State := setf (rPMU_PIER_STATUS 22) fPMU_PIER_STATUS_STATE 0 (setf (rPMU_PIER_STATUS 39) fPMU_PIER_STATUS_STATE 0 s)
def cl (f : Cluster → Cluster) (s : State) := md (fun d => d.modClu 2 f) s
def l1 := wk (cl (fun c => { c with load := some (100, 9), bank := 1, lost := true }) s0)
def l2 := wk (cl (fun c => { c with load := some (0xFFFFFF, 9) }) s0)
def pr := cl (fun c => { c with progs := [⟨5,6,0,0,0⟩, ⟨4,6,0,3,1⟩], queue := [⟨1,1,2,3⟩] }) s0
def rq := md (fun d => d.modCore 21 fun c => { c with recw0 := 0x600000000000, line := 9, wait := 3, stall := 9, run := 1 }) pr
def rf := cl (fun c => { c with queue := List.replicate 2048 ⟨1,1,2,3⟩ }) rq
def ev := md (fun d => d.modCore 21 fun c => { c with wait := 2, woken := true }) pr
def sb3 := setf (rOUT_LUT_CTRL 2) fOUT_LUT_CTRL_TABLE 15 sb
def rz := md (fun d => d.modCore 21 fun c => { c with recw0 := 0x700000000000 }) rq
/-- Output 2, lit, scans line `l` of frame 0. -/
def sc (l : Nat) : State := md (fun d => { d.modOutp 2 (fun o => { o with st := 3, line := l, frame := 0, compFrame := some 0 }) with btu := { d.btu with e := l * 2 ^ 24 / 525 } })
  (setf (rPIPE_STATUS 2) fPIPE_STATUS_PLL_LOCK 1 (up (mk [(rPMU_BOOT_MS, 0xFFFFFF), (rOUT_CTRL 2, 0xA00000), (rBTU_RATE, 0x4444)])))
def lv (l : List (Nat × Nat)) (s : State) : State := md (fun d => l.foldl (fun d p => d.lwr p.1 p.2) d) s
/-- Layer 5 is SOLID over dots 4 to 103 of lines 10 to 29; layer 1 is a REMOTE layer over line 15, of which nothing has come, with STALE as given. -/
def lay (om : Nat) : State := lv [(rOUT_LAYER_CTRL 2 5, 2 ^ fOUT_LAYER_CTRL_EN.lo), (rOUT_LAYER_WIN_X0 2 5, 4), (rOUT_LAYER_WIN_Y0 2 5, 10), (rOUT_LAYER_WIN_W 2 5, 100),
  (rOUT_LAYER_WIN_H 2 5, 20), (rOUT_LAYER_SRC0 2 5, 0xABCDEF), (rOUT_LAYER_CTRL 2 1, 2 ^ fOUT_LAYER_CTRL_EN.lo + 6 * 2 ^ fOUT_LAYER_CTRL_KIND.lo + om * 2 ^ fOUT_LAYER_CTRL_STALE.lo), (rOUT_LAYER_WIN_W 2 1, 8),
  (rOUT_LAYER_WIN_H 2 1, 1), (rOUT_LAYER_WIN_Y0 2 1, 15)] (sc 12)
def kst := sc 520
def armed (s : State) : State := md (fun d => (d.wr (rOUT_KEY_ARMED_LO 2) 0x20).setFld (rOUT_KEY_STATUS 2) fOUT_KEY_STATUS_ARMED 1) s
def copying (s : State) : State := md (fun d => d.modOutp 2 fun o => { o with lutCopy := some (3, 77) }) s
def hq := md (fun d => d.modCore 21 fun c => { c with haltReq := true }) rq

theorem test_premises_LinesArePassedAndComposed :
    (∃ (s : State) (n : Fin 8), NoLineDuty s.dev n ∧ s.dev.outs.length = 8 ∧ (s.dev.outp n).st ≠ 3) ∧
    (∃ (s : State) (n : Fin 8), NoLineDuty s.dev n ∧ s.dev.outs.length = 8 ∧ (s.dev.outp n).st = 3 ∧ (s.dev.outp n).stepped = false ∧
      (s.dev.outp n).offPending = false ∧ (s.dev.outp n).spareLock = false ∧ (s.dev.outp n).line ≠ 0 ∧ (s.dev.outp n).fifo = [] ∧
      (s.dev.clu n).progs = [] ∧ s.dev.btRuns = true ∧ ((∀ f k, k < 32 → (s.dev.view n f).layEn n k = false)) ∧ ((∀ k < 32, s.dev.layEn n k = false)) ∧
      (s.dev.mode n).va < (s.dev.outp n).line + 1 ∧ (s.dev.outp n).line + 1 + s.dev.lccLead n < (s.dev.mode n).v ∧
      (s.dev.outp n).line + 1 + 4 < (s.dev.mode n).v ∧ (s.dev.outp n).line + 1 + s.dev.keyK n ≠ (s.dev.mode n).v) ∧
    (∃ (d : Dev) (n : Fin 8) (f : Nat), d.outs.length = 8 ∧ ((∀ k < 32, (d.view n f).layEn n k = false)) ∧ (d.clu n).queue = [] ∧
      16 + cdiv (d.mode n).ha 16 ≤ d.lineClocks n - 32) ∧
    (∃ (d : Dev) (n : Fin 8) (f : Nat), d.outs.length = 8 ∧ ((∀ k < 32, (d.view n f).layEn n k = false)) ∧ (d.clu n).queue = []) ∧
    (∃ (d : Dev) (n : Fin 8) (l f : Nat), let v := (d.lccTake n l f).2.2.view n f; let j := jobOf d n l f; let shown := (List.range 32).filter (fun k => v.layShows n k l); let stale := shown.filter (fun k => v.layStale n k j); let hold := stale.filter (fun k => !v.layOmit n k); d.outs.length = 8 ∧
      v.composeCost n ((List.range 32).filter (fun k => v.layOn n k l)) ≤ d.lineClocks n - 32 ∧ hold = [] ∧ stale = [] ∧ shown ≠ []) ∧
    (∃ (d : Dev) (n : Fin 8) (l f : Nat), let v := (d.lccTake n l f).2.2.view n f; let j := jobOf d n l f; let shown := (List.range 32).filter (fun k => v.layShows n k l); let stale := shown.filter (fun k => v.layStale n k j); let hold := stale.filter (fun k => !v.layOmit n k); d.outs.length = 8 ∧
      v.composeCost n ((List.range 32).filter (fun k => v.layOn n k l)) ≤ d.lineClocks n - 32 ∧ hold = [] ∧ stale ≠ []) ∧
    (∃ (d : Dev) (n : Fin 8) (l f : Nat), let v := (d.lccTake n l f).2.2.view n f; let j := jobOf d n l f; let shown := (List.range 32).filter (fun k => v.layShows n k l); let stale := shown.filter (fun k => v.layStale n k j); let hold := stale.filter (fun k => !v.layOmit n k); d.outs.length = 8 ∧
      v.composeCost n ((List.range 32).filter (fun k => v.layOn n k l)) ≤ d.lineClocks n - 32 ∧ hold ≠ []) ∧
    (∃ (v : Dev) (n : Fin 8) (k x : Nat), x < (v.mode n).ha ∧ v.layKind n k = 0 ∧ (v.layWin n k).x ≤ x ∧ x < (v.layWin n k).x + (v.layWin n k).w) ∧
    (∃ (v : Dev) (n : Fin 8) (k x : Nat), x < (v.mode n).ha ∧ v.layKind n k = 0 ∧ (v.layWin n k).x + (v.layWin n k).w ≤ x) ∧
    (∃ (s : State) (n : Fin 8) (late : BitVec 32), let o := s.dev.outp n; let l := o.line + 3; let d := (atNextLine s.dev n).holdBack n l o.frame late.toNat; ScansOn s.dev n ∧
      l < (s.dev.mode n).va ∧ o.line + 1 + s.dev.keyK n ≠ (s.dev.mode n).v ∧ (s.dev.clu n).progs = [] ∧ o.compFrame = some o.frame ∧
      d.lineKind n l o.frame = 0) :=
  ⟨⟨s0, 2, by unfold NoLineDuty; decide +kernel⟩,
    ⟨modeS, 2, by have h : ∀ f, modeS.dev.view (2 : Fin 8) f = modeS.dev := fun f => view_of_settled (by decide +kernel) f; simp only [h, forall_const]; unfold NoLineDuty; decide +kernel⟩,
    ⟨s0.dev, 2, 3, by decide +kernel⟩,
    ⟨s0.dev, 2, 3, by decide +kernel⟩,
    ⟨(lay 0).dev, 2, 12, 0, by decide +kernel⟩,
    ⟨(lay 1).dev, 2, 15, 0, by decide +kernel⟩,
    ⟨(lay 0).dev, 2, 15, 0, by decide +kernel⟩,
    ⟨(lay 0).dev, 2, 5, 103, by decide +kernel⟩,
    ⟨(lay 0).dev, 2, 5, 104, by decide +kernel⟩,
    ⟨lay 1, 2, 2, by unfold ScansOn NoLineDuty; decide +kernel⟩⟩

theorem test_premises_IndexesAndTablesAreBuilt :
    (∃ (s : State), s.dev.outs.length = 8) ∧
    (∃ (s : State) (n : Fin 8), (s.dev.outp n).sprBuild = none) ∧
    (∃ (s : State) (n : Fin 8) (base : Nat) (m1 : Nat), (s.dev.outp n).sprBuild = some (base, m1) ∧ s.dev.outs.length = 8 ∧ s.dev.talk.owed = []) ∧
    (∃ (s : State) (n : Fin 8), s.dev.outs.length = 8 ∧ 9 < s.dev.fld (rOUT_LUT_CTRL n) fOUT_LUT_CTRL_TABLE) ∧
    (∃ (s : State) (n : Fin 8), s.dev.outs.length = 8 ∧ s.dev.fld (rOUT_LUT_CTRL n) fOUT_LUT_CTRL_TABLE ≤ 9) ∧
    (∃ (s : State) (n : Fin 8), (s.dev.outp n).lutCopy = none) ∧
    (∃ (s : State) (n : Fin 8) (t : Nat) (base : Nat), (s.dev.outp n).lutCopy = some (t, base) ∧ s.dev.outs.length = 8 ∧
      0x1000000 < base + lutSize t) ∧
    (∃ (s : State) (n : Fin 8) (t : Nat) (base : Nat), (s.dev.outp n).lutCopy = some (t, base) ∧ s.dev.outs.length = 8 ∧
      base + lutSize t ≤ 0x1000000 ∧ s.dev.mem.mainErr = [] ∧ s.dev.awake 39 = true ∧ s.dev.pier 22 = 0) :=
  ⟨⟨s0, by decide +kernel⟩,
    ⟨s0, 2, by decide +kernel⟩,
    ⟨sb, 2, 50, 3, by decide +kernel⟩,
    ⟨sb3, 2, by decide +kernel⟩,
    ⟨s0, 2, by decide +kernel⟩,
    ⟨s0, 2, by decide +kernel⟩,
    ⟨sb2, 2, 3, 0xFFFFF0, by decide +kernel⟩,
    ⟨(wk sb), 2, 3, 77, by decide +kernel⟩⟩

theorem test_premises_LineProgramsRunAndDeliver :
    (∃ (s : State), s.dev.lcc.length = 8) ∧
    (∃ (s : State) (n : Fin 8), (s.dev.clu n).load = none) ∧
    (∃ (s : State) (n : Fin 8) (base : Nat) (len : Nat), (s.dev.clu n).load = some (base, len) ∧ s.dev.lcc.length = 8 ∧ s.dev.talk.owed = [] ∧
      (s.dev.clu n).bank ≤ 1 ∧ len < 1024 ∧ 0x1000000 < base + len + 1) ∧
    (∃ (s : State) (n : Fin 8) (base : Nat) (len : Nat), (s.dev.clu n).load = some (base, len) ∧ s.dev.lcc.length = 8 ∧ s.dev.talk.owed = [] ∧
      (s.dev.clu n).bank ≤ 1 ∧ len < 1024 ∧ base + len + 1 ≤ 0x1000000 ∧ s.dev.mem.mainErr = [] ∧ s.dev.awake 39 = true ∧ s.dev.pier 22 = 0) ∧
    (∃ (s : State) (n : Fin 8), (s.dev.clu n).lost = false) ∧
    (∃ (s : State) (n : Fin 8), (s.dev.clu n).lost = true ∧ s.dev.lcc.length = 8 ∧ (s.dev.clu n).fresh = none ∧ (s.dev.clu n).bank ≤ 1 ∧
      s.dev.lrd (rLCC_PROG_BASE n) + s.dev.lv (rLCC_PROG_LEN n) fLCC_PROG_LEN_LEN_M1 + 1 ≤ 0x1000000 ∧ s.dev.mem.mainErr = [] ∧ s.dev.awake 39 = true ∧
      s.dev.pier 22 = 0) ∧
    (∃ (s : State) (n : Fin 8), ((s.dev.clu n).progs.find? (·.st == 0) = none ∨ s.dev.lccIdle n = none)) ∧
    (∃ (s : State) (n : Fin 8) (w : Prog) (k : Nat) (p : Nat), (s.dev.clu n).progs.find? (·.st == 0) = some w ∧ s.dev.lccIdle n = some (k, p) ∧
      s.dev.lcc.length = 8 ∧ w.line < 65536 ∧ w.frame < 2 ^ 24) ∧
    (∃ (s : State) (n : Fin 8) (p : Fin 9), s.dev.lccHolds n p = true) ∧
    (∃ (s : State) (n : Fin 8) (p : Fin 9), s.dev.lccHolds n p = false) ∧
    (∃ (s : State) (n : Fin 8) (p : Fin 9) (w : Word), s.dev.lcc.length = 8 ∧ s.dev.lccHolds n p = true ∧ s.dev.lccOver n p = false ∧
      let c := s.dev.core (9 * n + p); let t := recType c.recw0.toNat; (s.dev.clu n).queue.length < 2048 ∧ recOk c.recw0.toNat w.toNat = true ∧
      (s.dev.clu n).closed.contains (c.frame, c.line, recSl c.recw0.toNat) = false ∧ (t ≠ 2 ∧
      t ≠ 3 ∨ (s.dev.clu n).tileTaken ≠ some (c.line, c.frame))) ∧
    (∃ (s : State) (n : Fin 8) (p : Fin 9) (w : Word), s.dev.lcc.length = 8 ∧ s.dev.lccHolds n p = true ∧ s.dev.lccOver n p = false ∧
      let c := s.dev.core (9 * n + p); (s.dev.clu n).queue.length < 2048 ∧ recOk c.recw0.toNat w.toNat = false) ∧
    (∃ (s : State) (n : Fin 8) (p : Fin 9), s.dev.lcc.length = 8 ∧ s.dev.lccHolds n p = true ∧ s.dev.lccOver n p = false ∧
      (s.dev.clu n).queue.length = 2048) ∧
    (∃ (s : State) (n : Fin 8) (p : Fin 9), s.dev.lcc.length = 8 ∧
      let c := s.dev.core (9 * n + p); ((s.dev.lccHolds n p = false ∨ c.wait ≠ 3 ∨ 2048 ≤ (s.dev.clu n).queue.length))) ∧
    (∃ (s : State) (n : Fin 8) (p : Fin 9), s.dev.lcc.length = 8 ∧ let c := s.dev.core (9 * n + p); s.dev.lccHolds n p = true ∧ c.wait = 3 ∧
      (s.dev.clu n).queue.length < 2048 ∧ recOk c.recw0.toNat c.stall.toNat = true ∧
      (s.dev.clu n).closed.contains (c.frame, c.line, recSl c.recw0.toNat) = false ∧ (recType c.recw0.toNat ≠ 2 ∧
      recType c.recw0.toNat ≠ 3 ∨ (s.dev.clu n).tileTaken ≠ some (c.line, c.frame))) ∧
    (∃ (s : State) (n : Fin 8) (p : Fin 9), s.dev.lcc.length = 8 ∧ s.dev.lccHolds n p = true ∧ s.dev.lccOver n p = false ∧
      (s.dev.core (9 * n + p)).haltReq = false ∧ (s.dev.core (9 * n + p)).steps = none) ∧
    (∃ (s : State) (n : Fin 8) (p : Fin 9), s.dev.lccHolds n p = true) ∧
    (∃ (s : State) (n : Fin 8) (p : Fin 9), (s.dev.core (9 * n + p)).wait = 2 ∧ (s.dev.core (9 * n + p)).woken = true) ∧
    (∃ (s : State) (n : Fin 8) (p : Fin 9), (s.dev.core (9 * n + p)).woken = false) ∧
    (∃ (s : State) (n : Fin 8) (p : Fin 9), s.dev.lcc.length = 8 ∧ s.dev.lccHolds n p = true ∧ s.dev.lccOver n p = false ∧
      (s.dev.core (9 * n + p)).haltReq = true ∧ (s.dev.core (9 * n + p)).steps = none ∧ s.dev.talk.owed = []) :=
  ⟨⟨s0, by decide +kernel⟩,
    ⟨s0, 2, by decide +kernel⟩,
    ⟨l2, 2, 0xFFFFFF, 9, by decide +kernel⟩,
    ⟨l1, 2, 100, 9, by decide +kernel⟩,
    ⟨s0, 2, by decide +kernel⟩,
    ⟨l1, 2, by decide +kernel⟩,
    ⟨s0, 2, by decide +kernel⟩,
    ⟨pr, 2, ⟨5,6,0,0,0⟩, 0, 0, by decide +kernel⟩,
    ⟨pr, 2, 3, by decide +kernel⟩,
    ⟨s0, 2, 3, by decide +kernel⟩,
    ⟨rq, 2, 3, 0x123456789ABC, by decide +kernel⟩,
    ⟨rz, 2, 3, 0x123456789ABC, by decide +kernel⟩,
    ⟨rf, 2, 3, by decide +kernel⟩,
    ⟨s0, 2, 3, by decide +kernel⟩,
    ⟨rq, 2, 3, by decide +kernel⟩,
    ⟨rq, 2, 3, by decide +kernel⟩,
    ⟨rq, 2, 3, by decide +kernel⟩,
    ⟨ev, 2, 3, by decide +kernel⟩,
    ⟨s0, 2, 3, by decide +kernel⟩,
    ⟨hq, 2, 3, by decide +kernel⟩⟩

theorem test_premises_CommitsAreArmedAndStaged :
    (∃ (s : State) (n : Fin 8), s.dev.outs.length = 8 ∧ s.dev.talk.owed = [] ∧ s.dev.rd (rOUT_KEY_MASK_HI n) < 256 ∧
      s.dev.rd (rOUT_KEY_ARMED_HI n) < 256) ∧
    (∃ (s : State) (n : Fin 8), s.dev.outs.length = 8 ∧ (s.dev.outp n).st = 0) ∧
    (∃ (s : State) (n : Fin 8) (v : Reg), s.dev.outs.length = 8 ∧ (s.dev.outp n).st = 3 ∧ (s.dev.outp n).store = none ∧ (s.dev.outp n).fifo = [] ∧
      natBit v.toNat 23 = true) ∧
    (∃ (s : State) (n : Fin 8), let d := s.dev; let o := d.outp n; let v := d.buildView n; ScansOn d n ∧ 0 < d.keyK n ∧
      o.line + 1 + d.keyK n = (d.mode n).v ∧ (d.mode n).va < o.line + 1 ∧ o.keyed ≠ some o.frame ∧ o.sr = none ∧ o.hand = none ∧ o.degPipe = false ∧
      d.flag (rOUT_COMP_CTRL n) fOUT_COMP_CTRL_SCAN_STORE = false ∧ d.isArmed n = false) ∧
    (∃ (s : State) (n : Fin 8), let d := s.dev; let o := d.outp n; let v := d.buildView n; ScansOn d n ∧ 0 < d.keyK n ∧
      o.line + 1 + d.keyK n = (d.mode n).v ∧ (d.mode n).va < o.line + 1 ∧ o.keyed ≠ some o.frame ∧ o.sr = none ∧ o.hand = none ∧ o.degPipe = false ∧
      d.flag (rOUT_COMP_CTRL n) fOUT_COMP_CTRL_SCAN_STORE = false ∧ d.isArmed n = true ∧
      (∀ k < 32, (natBit (d.armed n) k && d.layNotReady v n k) = false) ∧
      (o.lutCopy.isSome || d.flag (rOUT_LUT_STATUS n) fOUT_LUT_STATUS_COPY_BAD) = false ∧ d.lccNotReady n = false ∧ o.ovl = false) ∧
    (∃ (s : State) (n : Fin 8), let d := s.dev; let o := d.outp n; let v := d.buildView n; ScansOn d n ∧ 0 < d.keyK n ∧
      o.line + 1 + d.keyK n = (d.mode n).v ∧ (d.mode n).va < o.line + 1 ∧ o.keyed ≠ some o.frame ∧ o.sr = none ∧ o.hand = none ∧ o.degPipe = false ∧
      d.flag (rOUT_COMP_CTRL n) fOUT_COMP_CTRL_SCAN_STORE = false ∧ d.isArmed n = true ∧
      ¬ ((∀ k < 32, (natBit (d.armed n) k && d.layNotReady v n k) = false) ∧
      (o.lutCopy.isSome || d.flag (rOUT_LUT_STATUS n) fOUT_LUT_STATUS_COPY_BAD) = false ∧ d.lccNotReady n = false ∧ o.ovl = false)) :=
  ⟨⟨s0, 2, by decide +kernel⟩,
    ⟨s0, 2, by decide +kernel⟩,
    ⟨lit1, 2, 0xABCDE3, by decide +kernel⟩,
    ⟨kst, 2, by unfold ScansOn NoLineDuty; decide +kernel⟩,
    ⟨armed kst, 2, by unfold ScansOn NoLineDuty; decide +kernel⟩,
    ⟨copying (armed kst), 2, by unfold ScansOn NoLineDuty; decide +kernel⟩⟩

end T04

/-! ### States that meet the premises of the clauses of chapter 8 -/

namespace T08

def s0 : State := up (mk [(rPMU_BOOT_MS, 0xFFFFFF)])
def cam (f : Cam → Cam) (s : State) := md (fun d => d.modCam 2 f) s
def c1 : State := setf (rPMU_PIER_STATUS 26) fPMU_PIER_STATUS_STATE 0 (setf (rCAM_CTRL 2) fCAM_CTRL_LOSS_FRAMES 3 (setf (rCAM_CTRL 2) fCAM_CTRL_EN 1 (up (mk [(rCAM_SIZE 2, 0), (rCAM_STATUS 2, 0)]))))
def c2 := cam (fun x => { x with track := [⟨0,3,true,9⟩, ⟨5,1,true,2⟩, ⟨7,1,true,2⟩,⟨8,1,true,2⟩], idle := 4, count := 44, frame := 7, landing := [(⟨7,43,true,[1],0⟩, 1), (⟨7,44,false,[1],0⟩, 0)] }) c1
def c3 := cam (fun x => { x with track := [⟨0,3,true,9⟩], idle := 1, count := 44, frame := 7, landing := [(⟨7,43,false,[1],0⟩, 0)], ring := [⟨6,43,false,[1],0⟩, ⟨6,44,false,[1],0⟩] }) c1
def c4 := cam (fun x => { x with landing := [(⟨7,43,false,[1],0⟩, 4)] }) c3
def op (f : Outp → Outp) (s : State) := md (fun d => d.modOutp 2 f) s
def o0 := setf (rOUT_CTRL 2) fOUT_CTRL_PORT 1 s0
def o1 := op (fun o => { o with st := 1 }) o0
def o2 := op (fun o => { o with st := 2 }) o0
def o3 := op (fun o => { o with st := 3, line := 9, frame := 5, link := 1 }) o0
def o4 := op (fun o => { o with link := 2, sr := some (9, none), offPending := true }) (setf (rOUT_SR_CTRL 2) fOUT_SR_CTRL_PRP_EXIT 1 (setf (rOUT_SR_STATUS 2) fOUT_SR_STATUS_SR_STATE 2 o3))
def o5 := op (fun o => { o with link := 0, psr := 3 }) (setf (rPIPE_STATUS 8) fPIPE_STATUS_STATE 2 (setf (rPIPE_STATUS 8) fPIPE_STATUS_OUT 2 (setf (rOUT_PIPE 3) fOUT_PIPE_PIPE 7 o3)))
def o6 := setf (rPMU_PIER_STATUS 13) fPMU_PIER_STATUS_STATE 0 (setf (rPIPE_STATUS 3) fPIPE_STATUS_STATE 3 o3)
def o7 := setf (rPIPE_STATUS 8) fPIPE_STATUS_STATE 3 (setf (rPIPE_STATUS 2) fPIPE_STATUS_STATE 1 o0)
def sg0 := op (fun o => { o with sigs := o.sigs.set 5 ⟨0, 7, 7, false, true, some (5, 0x12345678), none, 0,false,false,false⟩ }) o3
def sgl (f : List (Nat × Nat)) (s : State) := md (fun d => f.foldl (fun d p => (d.lwr p.1 p.2)) d) s
def sg1 := sgl [(rOUT_SIG_CTRLk 2 5, 2^fOUT_SIG_CTRLk_EN.lo + 2^fOUT_SIG_CTRLk_EXP_VALID.lo), (rOUT_SIG_H 2 5, 7), (rOUT_SIG_W 2 5, 7), (rOUT_SIG_EXP_LO 2 5 0, 0x345678), (rOUT_SIG_EXP_HI 2 5 0, 0x12)] sg0
def sg2 := sgl [(rOUT_SIG_EXP_HI 2 5 0, 0x13)] sg1
def pp := md (fun d => (d.prpSet 0x1234 0xABCDEF123456).prpSet (0x40400 + 4*7) (3*2^38 + 2^47)) (up (mk [(rPRP_ADDR, 0x1234), (rPRP_CTRL, 0xFFFFFF)]))
def o8 := md (fun d => { d with prp := { d.prp with shots := [(2, ⟨⟨[⟨0, 0, 4, 1⟩], [], []⟩, []⟩, ⟨⟨[], [], []⟩, []⟩)] } }) o4
def o9 := md (fun d => { d with flt := { d.flt with spans := d.flt.spans.set 1 ⟨some [5,1,5,8],0,[],[]⟩ } }) o6
def oe := setf (rOUT_EDP 2) fOUT_EDP_RATE 3 (setf (rOUT_EDP 2) fOUT_EDP_LANES 2 o0)
def oi := op (fun o => { o with st := 3, line := 9, frame := 5, link := 0 }) (setf (rOUT_CTRL 2) fOUT_CTRL_PORT 5 s0)
def oj := op (fun o => { o with psr := 1 }) (setf (rOUT_SR_CTRL 2) fOUT_SR_CTRL_MODE 1 o3)
def c5 := sgl [(rOUT_LAYER_CTRL 1 0, 0xD00000), (rOUT_LAYER_SRC0 1 0, 2)] (cam (fun x => { x with ring := [⟨7,43,false,[1],0⟩], fsNew := true }) c4)
def o11 := op (fun o => { o with link := 3 }) o5
def os := md (fun d => { d with pwr := { d.pwr with stage := 4 } }) o0
def ou := op (fun o => { o with sr := some (3, some 9) }) oj
def hb := md (fun d => { d with prp := { d.prp with hbAt := some d.now } }) pp

theorem test_premises_CamerasTakePacketsAndLines :
    (∃ (s : State) (c : Fin 8), s.dev.cams.length = 8 ∧ s.dev.camOn c = false) ∧
    (∃ (s : State) (c : Fin 8) (vc : BitVec 4), s.dev.cams.length = 8 ∧ s.dev.camOn c = true ∧ s.dev.camTakes c vc.toNat = true ∧
      vc.toNat = s.dev.camVc c) ∧
    (∃ (s : State) (c : Fin 8) (vc : BitVec 4), s.dev.cams.length = 8 ∧ s.dev.camOn c = true ∧ (s.dev.cam c).track.any (·.vc == vc.toNat) = true) ∧
    (∃ (s : State) (c : Fin 8) (vc : BitVec 4), s.dev.camOn c = true ∧ s.dev.camTakes c vc.toNat = false) ∧
    (∃ (s : State) (c : Fin 8) (vc : BitVec 4) (dt : BitVec 6), s.dev.cams.length = 8 ∧ s.dev.camOn c = true ∧ s.dev.camTakes c vc.toNat = true ∧
      vc.toNat = s.dev.camVc c ∧ camIgnored dt.toNat = false ∧ dt.toNat ≠ camType (s.dev.camFmt c)) ∧
    (∃ (s : State) (c : Fin 8) (vc : BitVec 4) (dt : BitVec 6), s.dev.cams.length = 8 ∧ s.dev.camOn c = true ∧ s.dev.camTakes c vc.toNat = true ∧
      vc.toNat = s.dev.camVc c ∧ camIgnored dt.toNat = false ∧ dt.toNat = camType (s.dev.camFmt c)) ∧
    (∃ (s : State) (c : Fin 8) (l : CamLine) (code : Nat) (rest : List (CamLine × Nat)), s.dev.cams.length = 8 ∧
      (s.dev.cam c).landing = (l, code) :: rest ∧ natBit code 2 = false ∧ ((∀ x ∈ rest, x ≠ (l, code))) ∧ natBit code 0 = false ∧
      natBit code 1 = false) ∧
    (∃ (s : State) (c : Fin 8) (l : CamLine) (code : Nat) (rest : List (CamLine × Nat)), s.dev.cams.length = 8 ∧
      (s.dev.cam c).landing = (l, code) :: rest ∧ natBit code 2 = false ∧ ((∀ x ∈ rest, x ≠ (l, code))) ∧ natBit code 0 = true) ∧
    (∃ (s : State) (c : Fin 8) (l : CamLine) (code : Nat) (rest : List (CamLine × Nat)), s.dev.cams.length = 8 ∧
      (s.dev.cam c).landing = (l, code) :: rest ∧ natBit code 2 = true ∧
      ((∀ y ∈ (s.dev.cam c).ring, y.y % 128 = l.y % 128 → s.dev.camNeeded c y = false))) ∧
    (∃ (s : State) (c : Fin 8), s.dev.cams.length = 8 ∧ s.dev.camOn c = true ∧ s.dev.flag (rCAM_STATUS c) fCAM_STATUS_LOST = false ∧
      s.dev.flag (rCAM_CTRL c) fCAM_CTRL_EV_EN = false ∧ max 1 (s.dev.fld (rCAM_CTRL c) fCAM_CTRL_LOSS_FRAMES) < (s.dev.cam c).idle) ∧
    (∃ (s : State) (c : Fin 8), s.dev.cams.length = 8 ∧ s.dev.camOn c = true ∧
      (s.dev.cam c).idle ≤ max 1 (s.dev.fld (rCAM_CTRL c) fCAM_CTRL_LOSS_FRAMES)) ∧
    (∃ (s : State) (c : Fin 8), s.dev.cams.length = 8 ∧ s.dev.camOn c = true) ∧
    (∃ (s : State), s.dev.cams.length = 8) ∧
    (∃ (s : State) (c : Fin 8) (l y : CamLine) (code : Nat) (rest : List (CamLine × Nat)), s.dev.cams.length = 8 ∧
      (s.dev.cam c).landing = (l, code) :: rest ∧ natBit code 2 = true ∧ y ∈ (s.dev.cam c).ring ∧ y.y % 128 = l.y % 128 ∧ s.dev.camNeeded c y = true) :=
  ⟨⟨s0, 2, by decide +kernel⟩,
    ⟨c1, 2, 0, by decide +kernel⟩,
    ⟨c2, 2, 0, by decide +kernel⟩,
    ⟨c2, 2, 3, by decide +kernel⟩,
    ⟨c1, 2, 0, 0x1F, by decide +kernel⟩,
    ⟨c1, 2, 0, 0x1E, by decide +kernel⟩,
    ⟨c3, 2, ⟨7,43,false,[1],0⟩, 0, [], by decide +kernel⟩,
    ⟨c2, 2, ⟨7,43,true,[1],0⟩, 1, [(⟨7,44,false,[1],0⟩, 0)], by decide +kernel⟩,
    ⟨c4, 2, ⟨7,43,false,[1],0⟩, 4, [], by decide +kernel⟩,
    ⟨c2, 2, by decide +kernel⟩,
    ⟨c1, 2, by decide +kernel⟩,
    ⟨c1, 2, by decide +kernel⟩,
    ⟨s0, by decide +kernel⟩,
    ⟨c5, 2, ⟨7, 43, false, [1], 0⟩, ⟨7, 43, false, [1], 0⟩, 4, [], by decide +kernel⟩⟩

theorem test_premises_OutputsLightAndGoDark :
    (∃ (s : State) (n : Fin 8) (v : Reg), s.dev.outs.length = 8 ∧ s.dev.talk.owed = [] ∧
      let w := s.dev.wr (rOUT_CTRL n) ((v.toNat ||| 0x800000) &&& 0x9F3F00); s.dev.pwr.stage ≠ 4 ∧ (s.dev.outp n).st = 0 ∧ w.refuseCause n = 0) ∧
    (∃ (s : State) (n : Fin 8) (v : Reg), s.dev.outs.length = 8 ∧ s.dev.talk.owed = [] ∧
      let w := s.dev.wr (rOUT_CTRL n) ((v.toNat ||| 0x800000) &&& 0x9F3F00); s.dev.pwr.stage ≠ 4 ∧ (s.dev.outp n).st = 0 ∧ w.refuseCause n ≠ 0) ∧
    (∃ (s : State) (n : Fin 8) (v : Reg), s.dev.outs.length = 8 ∧ s.dev.talk.owed = [] ∧
      let w := s.dev.wr (rOUT_CTRL n) ((v.toNat ||| 0x800000) &&& 0x9F3F00); s.dev.pwr.stage ≠ 4 ∧ (s.dev.outp n).st = 3) ∧
    (∃ (s : State) (n : Fin 8), s.dev.outs.length = 8 ∧ (s.dev.outp n).st = 3) ∧
    (∃ (s : State) (n : Fin 8), s.dev.outs.length = 8 ∧ ((s.dev.outp n).st = 1 ∨ (s.dev.outp n).st = 2)) ∧
    (∃ (s : State) (n : Fin 8), s.dev.outs.length = 8 ∧ (s.dev.outp n).st = 0) ∧
    (∃ (s : State) (n : Fin 8), s.dev.outs.length = 8 ∧ s.dev.talk.owed = [] ∧ (s.dev.outp n).st = 1) ∧
    (∃ (s : State) (n : Fin 8), s.dev.outs.length = 8 ∧ s.dev.talk.owed = [] ∧ (s.dev.outp n).st ≠ 1) ∧
    (∃ (s : State) (n : Fin 8), s.dev.outs.length = 8 ∧ s.dev.fld rPMU_BOOT_MS fPMU_BOOT_MS_LIT ≠ 0 ∧ (s.dev.outp n).st ≠ 2) ∧
    (∃ (s : State) (n : Fin 8), s.dev.outs.length = 8 ∧ s.dev.fld rPMU_BOOT_MS fPMU_BOOT_MS_LIT ≠ 0 ∧ (s.dev.outp n).st = 2 ∧ s.dev.outPhase n = 0 ∧
      s.dev.talk.owed = [] ∧ s.dev.prp.shown = [] ∧ s.dev.prp.next = [] ∧ (s.dev.clu n).progs = [] ∧
      ((∀ f k, k < 32 → (s.dev.view n f).layEn n k = false)) ∧ ((∀ f k, k < 64 → (s.dev.view n f).sigOn n k = false)) ∧
      ((∀ t, t < 256 → (s.dev.ttEn t && s.dev.ttOut t == n) = false))) ∧
    (∃ (s : State) (n : Fin 8), s.dev.outs.length = 8 ∧ s.dev.lcc.length = 8 ∧ ((s.dev.outp n).st ≠ 3 ∨ (s.dev.outp n).offPending = false)) ∧
    (∃ (s : State) (n : Fin 8), s.dev.outs.length = 8 ∧ s.dev.lcc.length = 8 ∧ (s.dev.outp n).st = 3 ∧ (s.dev.outp n).offPending = true ∧
      s.dev.outPhase n = 0) ∧
    (∃ (s : State) (n : Fin 8), s.dev.outs.length = 8 ∧ s.dev.talk.owed = [] ∧ s.dev.pwr.stage = 4 ∧ (s.dev.outp n).early = false ∧
      (s.dev.outp n).st = 0) :=
  ⟨⟨oe, 2, 0x010000, by decide +kernel⟩,
    ⟨o0, 2, 0x000000, by decide +kernel⟩,
    ⟨o3, 2, 0, by decide +kernel⟩,
    ⟨o3, 2, by decide +kernel⟩,
    ⟨o1, 2, by decide +kernel⟩,
    ⟨o0, 2, by decide +kernel⟩,
    ⟨o1, 2, by decide +kernel⟩,
    ⟨o0, 2, by decide +kernel⟩,
    ⟨o0, 2, by decide +kernel⟩,
    ⟨o2, 2, by have h : ∀ f, o2.dev.view (2 : Fin 8) f = o2.dev := fun f => view_of_settled (by decide +kernel) f; simp only [h, forall_const]; decide +kernel⟩,
    ⟨o0, 2, by decide +kernel⟩,
    ⟨o4, 2, by decide +kernel⟩,
    ⟨os, 2, by decide +kernel⟩⟩

theorem test_premises_LinksPanelsAndPipes :
    (∃ (s : State) (n : Fin 8), s.dev.outs.length = 8 ∧ (s.dev.outp n).st = 3 ∧ s.dev.isEdp n = true) ∧
    (∃ (s : State) (n : Fin 8), s.dev.outs.length = 8 ∧ (s.dev.outp n).st = 3 ∧ (s.dev.outp n).link = 1) ∧
    (∃ (s : State) (n : Fin 8), s.dev.outs.length = 8 ∧ (s.dev.outp n).st = 3 ∧ s.dev.isEdp n = true ∧ (s.dev.outp n).link = 0) ∧
    (∃ (s : State) (n : Fin 8), s.dev.outs.length = 8 ∧ (s.dev.outp n).st = 3 ∧ s.dev.isEdp n = true ∧ (s.dev.outp n).link = 3) ∧
    (∃ (s : State) (n : Fin 8), s.dev.outs.length = 8 ∧ (s.dev.outp n).st = 3) ∧
    (∃ (s : State) (n : Fin 8), s.dev.outs.length = 8 ∧ (s.dev.outp n).st = 3 ∧ (s.dev.outp n).link = 2) ∧
    (∃ (s : State) (n : Fin 8), s.dev.outs.length = 8 ∧ (s.dev.outp n).st = 3 ∧ s.dev.isEdp n = false) ∧
    (∃ (s : State) (n : Fin 8), s.dev.outs.length = 8 ∧ (s.dev.outp n).st = 3 ∧ s.dev.isEdp n = false ∧ (s.dev.outp n).link = 0) ∧
    (∃ (s : State) (n : Fin 8), s.dev.outs.length = 8 ∧ (s.dev.outp n).st = 3 ∧ (s.dev.outp n).link = 0) ∧
    (∃ (s : State) (n : Fin 8) (v : Reg), s.dev.outs.length = 8 ∧ (s.dev.outp n).st = 3 ∧ (s.dev.outp n).sr = none ∧
      let w := s.dev.wr (rOUT_SR_CTRL n) (v.toNat &&& 0xF00000); natBit v.toNat 23 = true ∧ (s.dev.outp n).srBlocked = false ∧ w.srSuits n = true) ∧
    (∃ (s : State) (n : Fin 8) (v : Reg), s.dev.outs.length = 8 ∧ (s.dev.outp n).st = 3 ∧ (s.dev.outp n).sr = none ∧
      let w := s.dev.wr (rOUT_SR_CTRL n) (v.toNat &&& 0xF00000); natBit v.toNat 23 = true ∧ (s.dev.outp n).srBlocked = false ∧ w.srSuits n = false) ∧
    (∃ (s : State) (n : Fin 8) (v : Reg), s.dev.outs.length = 8 ∧ (s.dev.outp n).st = 3 ∧ (s.dev.outp n).sr = none ∧ natBit v.toNat 23 = false) ∧
    (∃ (s : State) (n : Fin 8), s.dev.outs.length = 8 ∧ (s.dev.outp n).st = 3 ∧ s.dev.suBand n = false ∧
      ((s.dev.outp n).sr = none ∨ s.dev.flag (rOUT_SR_CTRL n) fOUT_SR_CTRL_PRP_EXIT = false ∨ s.dev.prpChanged n = [])) ∧
    (∃ (s : State) (n : Fin 8) (a : Nat), s.dev.outs.length = 8 ∧ (s.dev.outp n).st = 3 ∧ s.dev.suBand n = false ∧ (s.dev.outp n).sr = some (a, none) ∧
      s.dev.fld (rOUT_SR_STATUS n) fOUT_SR_STATUS_SR_STATE = 2 ∧ s.dev.flag (rOUT_SR_CTRL n) fOUT_SR_CTRL_PRP_EXIT = true ∧ s.dev.prpChanged n ≠ []) ∧
    (∃ (s : State) (p : Fin 8), s.dev.outs.length = 8 ∧ s.dev.flt.spans.length = 4 ∧ s.dev.pipeState p = 3) ∧
    (∃ (s : State) (p : Fin 8), s.dev.outs.length = 8 ∧ s.dev.flt.spans.length = 4 ∧ s.dev.pipeState p ≠ 3 ∧ s.dev.pipeServes p = none) ∧
    (∃ (s : State) (p : Fin 8) (n : Fin 8), s.dev.outs.length = 8 ∧ s.dev.flt.spans.length = 4 ∧ (s.dev.pipeState p = 0 ∨ s.dev.pipeState p = 1) ∧
      s.dev.pipeServes p = some n.val ∧ s.dev.pipeState 8 = 0 ∧ s.dev.pier 13 = 0 ∧ s.dev.pwr.entering = [] ∧ (s.dev.outp n).st = 3 ∧
      (s.dev.outp n).hand = none ∧ (s.dev.span (classSpan 5 p)).busy.isSome = true) ∧
    (∃ (s : State) (p : Fin 8) (n : Fin 8), s.dev.outs.length = 8 ∧ s.dev.flt.spans.length = 4 ∧ (s.dev.pipeState p = 0 ∨ s.dev.pipeState p = 1) ∧
      s.dev.pipeServes p = some n.val ∧ s.dev.pipeState 8 = 0 ∧ s.dev.pier 13 = 0 ∧ s.dev.pwr.entering = [] ∧ (s.dev.outp n).st = 3 ∧
      (s.dev.outp n).hand = none ∧ (s.dev.span (classSpan 5 p)).busy = none) ∧
    (∃ (s : State) (p : Fin 8) (n : Fin 8), s.dev.outs.length = 8 ∧ s.dev.flt.spans.length = 4 ∧ s.dev.pipeState p = 1 ∧
      s.dev.pipeServes p = some n.val ∧ s.dev.pipeState 8 = 3 ∧ (s.dev.outp n).st = 0) ∧
    (∃ (s : State), s.dev.outs.length = 8 ∧ s.dev.pipeState 8 = 0) ∧
    (∃ (s : State), s.dev.outs.length = 8 ∧ s.dev.pipeState 8 ≠ 2) ∧
    (∃ (s : State) (n : Fin 8), s.dev.outs.length = 8 ∧ s.dev.pipeState 8 = 2 ∧ s.dev.fld (rPIPE_STATUS 8) fPIPE_STATUS_OUT = n.val ∧
      (s.dev.outp n).st = 3) ∧
    (∃ (s : State) (n : Fin 8), (s.dev.outp n).st = 3) ∧
    (∃ (s : State) (n : Fin 8), (s.dev.outp n).st ≠ 3) ∧
    (∃ (s : State) (n : Fin 8) (v : Reg) (a b : Nat), let w := s.dev.wr (rOUT_SR_CTRL n) (v.toNat &&& 0xF00000); s.dev.outs.length = 8 ∧
      (s.dev.outp n).st = 3 ∧ (s.dev.outp n).sr = some (a, some b) ∧ (s.dev.outp n).srBlocked = false ∧
      s.dev.flag (rOUT_SR_CTRL n) fOUT_SR_CTRL_REQ = false ∧ natBit v.toNat 23 = true ∧ w.srSuits n = true) :=
  ⟨⟨o3, 2, by decide +kernel⟩,
    ⟨o3, 2, by decide +kernel⟩,
    ⟨o5, 2, by decide +kernel⟩,
    ⟨o11, 2, by decide +kernel⟩,
    ⟨o3, 2, by decide +kernel⟩,
    ⟨o4, 2, by decide +kernel⟩,
    ⟨oi, 2, by decide +kernel⟩,
    ⟨oi, 2, by decide +kernel⟩,
    ⟨o5, 2, by decide +kernel⟩,
    ⟨oj, 2, 0x900000, by decide +kernel⟩,
    ⟨o3, 2, 0x800000, by decide +kernel⟩,
    ⟨o3, 2, 0, by decide +kernel⟩,
    ⟨o3, 2, by decide +kernel⟩,
    ⟨o8, 2, 9, by decide +kernel⟩,
    ⟨o6, 3, by decide +kernel⟩,
    ⟨o5, 3, by decide +kernel⟩,
    ⟨o9, 2, 2, by decide +kernel⟩,
    ⟨o3, 2, 2, by decide +kernel⟩,
    ⟨o7, 2, 2, by decide +kernel⟩,
    ⟨o0, by decide +kernel⟩,
    ⟨o0, by decide +kernel⟩,
    ⟨o5, 2, by decide +kernel⟩,
    ⟨o3, 2, by decide +kernel⟩,
    ⟨o0, 2, by decide +kernel⟩,
    ⟨ou, 2, 0x900000, 3, 9, by decide +kernel⟩⟩

theorem test_premises_SignaturesAndParapet :
    (∃ (s : State) (n : Fin 8) (k : Fin 64), s.dev.outs.length = 8 ∧ (s.dev.outp n).sigs.length = 64 ∧ (s.dev.outp n).prev = none ∧
      (s.dev.sig n k).due = false) ∧
    (∃ (s : State) (n : Fin 8) (k : Fin 64) (sg : Nat), s.dev.outs.length = 8 ∧ (s.dev.outp n).sigs.length = 64 ∧ (s.dev.outp n).prev = none ∧
      (s.dev.sig n k).due = true ∧ s.dev.sigOn n k = true ∧ s.dev.sigBad s.dev n k = false ∧ (s.dev.sig n k).fed = (s.dev.sigRect n k).h ∧
      (s.dev.outp n).darkFrame = none ∧ (s.dev.outp n).early = false ∧ (s.dev.outp n).store = none ∧ (s.dev.sig n k).lossy = false ∧
      s.dev.lv (rOUT_SIG_CTRLk n k) fOUT_SIG_CTRLk_KIND = 0 ∧ (s.dev.sig n k).last = some ((s.dev.outp n).frame, sg) ∧
      ((∀ j ∈ s.dev.sigSlots s.dev n k, s.dev.sigExp n k j ≠ sg))) ∧
    (∃ (s : State), s.dev.fld rPRP_CTRL fPRP_CTRL_HB_MS = 0) ∧
    (∃ (s : State), s.dev.fld rPRP_CTRL fPRP_CTRL_HB_MS ≠ 0 ∧ s.dev.prp.hbAt ≠ some s.dev.now) ∧
    (∃ (s : State) (n : Fin 8) (k : Fin 64) (sg j : Nat), s.dev.outs.length = 8 ∧ (s.dev.outp n).sigs.length = 64 ∧ (s.dev.outp n).prev = none ∧
      (s.dev.sig n k).due = true ∧ s.dev.sigOn n k = true ∧ s.dev.sigBad s.dev n k = false ∧ (s.dev.sig n k).fed = (s.dev.sigRect n k).h ∧
      (s.dev.outp n).darkFrame = none ∧ (s.dev.outp n).early = false ∧ (s.dev.outp n).store = none ∧ (s.dev.sig n k).lossy = false ∧
      s.dev.lv (rOUT_SIG_CTRLk n k) fOUT_SIG_CTRLk_KIND = 0 ∧ (s.dev.sig n k).last = some ((s.dev.outp n).frame, sg) ∧ j ∈ s.dev.sigSlots s.dev n k ∧
      s.dev.sigExp n k j = sg) ∧
    (∃ (s : State), s.dev.fld rPRP_CTRL fPRP_CTRL_HB_MS ≠ 0 ∧ s.dev.prp.hbAt = some s.dev.now) :=
  ⟨⟨s0, 2, 5, by decide +kernel⟩,
    ⟨sg2, 2, 5, 0x12345678, by decide +kernel⟩,
    ⟨s0, by decide +kernel⟩,
    ⟨pp, by decide +kernel⟩,
    ⟨sg1, 2, 5, 0x12345678, 0, by decide +kernel⟩,
    ⟨hb, by decide +kernel⟩⟩

end T08

/-! ### States that meet the premises of the clauses of chapter 11 -/

namespace T11b

def wordOf (a b c d : Nat) : Word := BitVec.ofNat 48 (((a*4096+b)*4096+c)*4096+d)
def base (core : CoreId) (sl : Nat) (w : Word) (ds rs : List Word) (f : Core → Core := id) : State :=
  md (fun d => (d.setCore (coreCode core) (f { Core.stewardStart (d.core 9) with mode := if coreCode core < 72 then 2 else 1, slot := sl, cur := some (0xFFFF000000, w), ds := ds, rs := rs, lbeg := 0xFFFF000000, lend := 0xFFFF000002, lcnt := sl })).setLword (coreCode core) 1 0x123456789ABC) (up (mk []))
def W (sl : Nat) (cs : List Nat) : Word := let g (k : Nat) := (if k < sl then 0 else cs.getD (k - sl) 0); wordOf (g 0) (g 1) (g 2) (g 3)
def B (core : CoreId) (sl : Nat) (cs : List Nat) (ds rs : List Word) (f : Core → Core := id) : State := base core sl (W sl cs) ds rs f

theorem test_premises_LiteralsAndSystemInstructions :
    (∃ (s : State) (core : CoreId) (w : Word), NoDelay s.dev core ∧ AtSlot s.dev core w 0x000) ∧
    (∃ (s : State) (core : CoreId) (w : Word), let x := s.dev.core (coreCode core); NoDelay s.dev core ∧ AtSlot s.dev core w 0x006 ∧ x.posted = []) ∧
    (∃ (s : State) (core : CoreId) (w : Word), let x := s.dev.core (coreCode core); NoDelay s.dev core ∧ x.ds.length ≤ 31 ∧ AtSlot s.dev core w 0x600 ∧ x.slot ≤ 2) ∧
    (∃ (s : State) (core : CoreId) (w : Word), let x := s.dev.core (coreCode core); NoDelay s.dev core ∧ x.ds.length ≤ 31 ∧ AtSlot s.dev core w 0x601 ∧ x.slot ≤ 1) ∧
    (∃ (s : State) (core : CoreId) (w : Word), let x := s.dev.core (coreCode core); let a := (x.pc + 1 + litsBefore w x.slot) % 2 ^ 40; NoDelay s.dev core ∧ x.ds.length ≤ 31 ∧ AtSlot s.dev core w 0x602 ∧ s.dev.access (coreCode core) a false = 0) ∧
    (∀ k ∈ ([3, 4, 5] : List Nat), ∃ (s : State) (core : CoreId) (w : Word), AtSlot s.dev core w k ∧ NoDelay s.dev core ∧
      (s.dev.core (coreCode core)).mode = 1) :=
  ⟨⟨(B .t0 0 [0] [1] [2]), .t0, (W 0 [0]), by unfold AtSlot NoDelay; decide +kernel⟩,
    ⟨(B .t0 0 [6] [1] [2]), .t0, (W 0 [6]), by unfold AtSlot NoDelay; decide +kernel⟩,
    ⟨(B .t0 0 [0x600, 0x812] [1] [2]), .t0, (W 0 [0x600,0x812]), by unfold AtSlot NoDelay; decide +kernel⟩,
    ⟨(B .t0 0 [0x601, 0x812, 0x345] [1] [2]), .t0, (W 0 [0x601,0x812,0x345]), by unfold AtSlot NoDelay; decide +kernel⟩,
    ⟨(B .t0 0 [0x602] [1] [2]), .t0, (W 0 [0x602]), by unfold AtSlot NoDelay; decide +kernel⟩,
    fun k hk => ⟨B .t0 3 [k] [1] [2], .t0, W 3 [k], by revert k; unfold AtSlot NoDelay; decide +kernel⟩⟩

theorem test_premises_TransfersHaveADelaySlot :
    (∃ (s : State) (core : CoreId) (w : Word), let x := s.dev.core (coreCode core); NoDelay s.dev core ∧ AtSlot s.dev core w 0x708 ∧ x.slot ≤ 1) ∧
    (∃ (s : State) (core : CoreId) (w : Word), let x := s.dev.core (coreCode core); NoDelay s.dev core ∧ AtSlot s.dev core w 0x709 ∧ x.slot ≤ 1 ∧ x.rs.length ≤ 15) ∧
    (∃ (s : State) (core : CoreId) (w : Word) (t : Word) (rest : List Word), let x := s.dev.core (coreCode core); NoDelay s.dev core ∧ AtSlot s.dev core w 0x70A ∧ x.slot ≤ 2 ∧ x.ds = t :: rest) ∧
    (∃ (s : State) (core : CoreId) (w : Word) (t : Word) (rest : List Word), let x := s.dev.core (coreCode core); NoDelay s.dev core ∧ AtSlot s.dev core w 0x70B ∧ x.slot ≤ 2 ∧ x.ds = t :: rest ∧ x.rs.length ≤ 15) ∧
    (∃ (s : State) (core : CoreId) (w : Word) (t : Word) (rest : List Word), let x := s.dev.core (coreCode core); NoDelay s.dev core ∧ AtSlot s.dev core w 0x70C ∧ x.slot ≤ 2 ∧ x.rs = t :: rest) ∧
    (∃ (s : State) (core : CoreId) (w : Word) (dl : Delay), let x := s.dev.core (coreCode core); AtSlot s.dev core w 0x000 ∧ x.delay = some dl ∧ dl.taken = true ∧ dl.ends = false ∧ x.fenced = false) ∧
    (∀ k ∈ ([0x700, 0x701, 0x702, 0x703, 0x704, 0x705] : List Nat), ∃ (s : State) (core : CoreId) (w a b : Word) (rest : List Word),
      AtSlot s.dev core w k ∧ NoDelay s.dev core ∧ (s.dev.core (coreCode core)).ds = b :: a :: rest ∧ (s.dev.core (coreCode core)).slot ≤ 1) :=
  ⟨⟨(B .t0 0 [0x708,0x7] [0x123456789012,4] [0x5555555]), .t0, (W 0 [0x708,0x7]), by unfold AtSlot NoDelay; decide +kernel⟩,
    ⟨(B .t0 0 [0x709,0xFF0] [0x123456789012,4] [0x5555555]), .t0, (W 0 [0x709,0xFF0]), by unfold AtSlot NoDelay; decide +kernel⟩,
    ⟨(B .t0 0 [0x70A] [0x123456789012,4] [0x5555555]), .t0, (W 0 [0x70A]), 0x123456789012, [4], by unfold AtSlot NoDelay; decide +kernel⟩,
    ⟨(B .t0 0 [0x70B] [0x123456789012,4] [0x5555555]), .t0, (W 0 [0x70B]), 0x123456789012, [4], by unfold AtSlot NoDelay; decide +kernel⟩,
    ⟨(B .t0 0 [0x70C] [0x123456789012,4] [0x5555555]), .t0, (W 0 [0x70C]), 0x5555555, [], by unfold AtSlot NoDelay; decide +kernel⟩,
    ⟨(B .t0 0 [0] [1] [2] (fun x => {x with delay := some ⟨2^40*2+55, true,false,false⟩})), .t0, (W 0 [0]), ⟨2^40*2+55, true,false,false⟩, by unfold AtSlot; decide +kernel⟩,
    fun k hk => ⟨B .t1 1 [k] [5, 0x800000000000, 7] [3], .t1, W 1 [k], 0x800000000000, 5, [7], by revert k; unfold AtSlot NoDelay; decide +kernel⟩⟩

theorem test_premises_HardwareLoopsRun :
    (∃ (s : State) (core : CoreId) (w : Word), let x := s.dev.core (coreCode core); AtSlot s.dev core w 0x000 ∧ NoDelay s.dev core ∧ x.slot = 3 ∧ x.pc + 1 < 2 ^ 40 ∧ litsBefore w 4 = 0 ∧ x.lcnt = 0) ∧
    (∃ (s : State) (core : CoreId) (w : Word), let x := s.dev.core (coreCode core); AtSlot s.dev core w 0x000 ∧ NoDelay s.dev core ∧ x.slot = 3 ∧ x.pc + 1 < 2 ^ 40 ∧ litsBefore w 4 = 0 ∧ 2 ≤ x.lcnt ∧ x.lend = x.pc ∧ x.lbeg ≤ x.pc) ∧
    (∃ (s : State) (core : CoreId) (w : Word) (n : Word) (rest : List Word), let x := s.dev.core (coreCode core); AtSlot s.dev core w 0x800 ∧ NoDelay s.dev core ∧ x.ds = n :: rest ∧ n ≠ 0 ∧ x.slot ≤ 1 ∧ slotOf w (x.slot + 1) ≠ 0) ∧
    (∃ (s : State) (core : CoreId) (w : Word), let x := s.dev.core (coreCode core); NoDelay s.dev core ∧ x.slot ≤ 2 ∧ AtSlot s.dev core w 0x801 ∧ x.rs.length ≤ 13) ∧
    (∃ (s : State) (core : CoreId) (w : Word) (a : Word) (b : Word) (c : Word) (rest : List Word), let x := s.dev.core (coreCode core); NoDelay s.dev core ∧ x.slot ≤ 2 ∧ AtSlot s.dev core w 0x802 ∧ x.rs = a :: b :: c :: rest) :=
  ⟨⟨(B .t0 3 [0] [1] [2] (fun x => {x with lcnt := 0})), .t0, (W 3 [0]), by unfold AtSlot NoDelay; decide +kernel⟩,
    ⟨(B .t0 3 [0] [1] [2] (fun x => {x with lcnt := 2, lend := x.pc})), .t0, (W 3 [0]), by unfold AtSlot NoDelay; decide +kernel⟩,
    ⟨(B .t0 0 [0x800,5] [77,1] [2] ), .t0, (W 0 [0x800,5]), 77, [1], by unfold AtSlot NoDelay; decide +kernel⟩,
    ⟨(B .t0 0 [0x801,5] [77,1] [2] ), .t0, (W 0 [0x801,5]), by unfold AtSlot NoDelay; decide +kernel⟩,
    ⟨(B .t0 0 [0x802,5] [77,1] [2,0xFFFFFFFFFFFF,3,4] ), .t0, (W 0 [0x802,5]), 2, 0xFFFFFFFFFFFF, 3, [4], by unfold AtSlot NoDelay; decide +kernel⟩⟩

theorem test_premises_SpecialRegistersAreReadAndWritten :
    (∃ (s : State) (core : CoreId) (w : Word) (v : Word) (rest : List Word), let x := s.dev.core (coreCode core); NoDelay s.dev core ∧ x.mode = 1 ∧ x.ds = v :: rest ∧ x.slot ≤ 2 ∧ AtSlot s.dev core w (0x910 + 5)) ∧
    (∃ (s : State) (core : CoreId) (w : Word) (v : Word) (rest : List Word), let x := s.dev.core (coreCode core); NoDelay s.dev core ∧ x.mode = 1 ∧ x.ds = v :: rest ∧ x.slot ≤ 2 ∧ AtSlot s.dev core w (0x910 + 6)) ∧
    (∃ (s : State) (core : CoreId) (w : Word) (v : Word) (rest : List Word), let x := s.dev.core (coreCode core); NoDelay s.dev core ∧ x.mode = 1 ∧ x.ds = v :: rest ∧ x.slot ≤ 2 ∧ AtSlot s.dev core w (0x910 + 7)) ∧
    (∃ (s : State) (core : CoreId) (w : Word) (v : Word) (rest : List Word), let x := s.dev.core (coreCode core); NoDelay s.dev core ∧ x.mode = 1 ∧ x.ds = v :: rest ∧ x.slot ≤ 2 ∧ AtSlot s.dev core w (0x910 + 8)) ∧
    (∃ (s : State) (core : CoreId) (w : Word) (v : Word) (rest : List Word), let x := s.dev.core (coreCode core); NoDelay s.dev core ∧ x.mode = 1 ∧ x.ds = v :: rest ∧ x.slot ≤ 2 ∧ AtSlot s.dev core w (0x910 + 9)) ∧
    (∃ (s : State) (core : CoreId) (w : Word) (v : Word) (rest : List Word), let x := s.dev.core (coreCode core); NoDelay s.dev core ∧ x.mode = 1 ∧ x.ds = v :: rest ∧ x.slot ≤ 2 ∧ AtSlot s.dev core w (0x910 + 11)) ∧
    (∃ (s : State) (core : CoreId) (w : Word) (v : Word) (rest : List Word), let x := s.dev.core (coreCode core); NoDelay s.dev core ∧ x.mode = 1 ∧ x.ds = v :: rest ∧ x.slot ≤ 2 ∧ AtSlot s.dev core w (0x910 + 12)) ∧
    (∃ (s : State) (core : CoreId) (w : Word) (v : Word) (rest : List Word), let x := s.dev.core (coreCode core); NoDelay s.dev core ∧ x.mode = 1 ∧ x.ds = v :: rest ∧ x.slot ≤ 2 ∧ AtSlot s.dev core w (0x910 + 13)) ∧
    (∃ (s : State) (core : CoreId) (w : Word) (v : Word) (rest : List Word), let x := s.dev.core (coreCode core); NoDelay s.dev core ∧ x.mode = 1 ∧ x.ds = v :: rest ∧ x.slot ≤ 2 ∧ AtSlot s.dev core w (0x910 + 14)) ∧
    (∃ (s : State) (core : CoreId) (w : Word) (v : Word) (rest : List Word), let x := s.dev.core (coreCode core); NoDelay s.dev core ∧ x.mode = 1 ∧ x.ds = v :: rest ∧ x.slot ≤ 2 ∧ AtSlot s.dev core w (0x910 + 10)) ∧
    (∃ (s : State) (core : CoreId) (w : Word) (v : Word) (rest : List Word), let x := s.dev.core (coreCode core); NoDelay s.dev core ∧ x.mode = 1 ∧ x.ds = v :: rest ∧ x.slot ≤ 2 ∧ AtSlot s.dev core w 0x911) ∧
    (∃ (s : State) (core : CoreId) (w : Word) (v : Word) (rest : List Word), let x := s.dev.core (coreCode core); let n := v.toNat; NoDelay s.dev core ∧ x.mode = 1 ∧ x.ds = v :: rest ∧ x.slot ≤ 2 ∧ AtSlot s.dev core w 0x912 ∧ n % 4 < 2) ∧
    (∀ k ∈ ([0, 1, 2, 5, 6, 7, 8, 9, 10, 11, 12, 13, 14] : List Nat), ∃ (s : State) (core : CoreId) (w : Word) (v : Nat), (k,
      v) ∈ specialOf (s.dev.core (coreCode core)) ∧ AtSlot s.dev core w (0x900 + k) ∧ NoDelay s.dev core ∧
      (s.dev.core (coreCode core)).ds.length ≤ 31) ∧
    (∀ k ∈ ([5, 6, 7, 8, 9, 10, 11, 12, 13, 14] : List Nat), ∃ (s : State) (core : CoreId) (w v : Word) (rest : List Word), NoDelay s.dev core ∧
      (s.dev.core (coreCode core)).mode = 1 ∧ (s.dev.core (coreCode core)).ds = v :: rest ∧ (s.dev.core (coreCode core)).slot ≤ 2 ∧
      AtSlot s.dev core w (0x910 + k)) ∧
    (∃ (s : State) (core : CoreId) (w : Word), NoDelay s.dev core ∧ AtSlot s.dev core w 0x903 ∧ (s.dev.core (coreCode core)).ds = []) ∧
    (∃ (s : State) (core : CoreId) (w : Word), NoDelay s.dev core ∧ AtSlot s.dev core w 0x904 ∧ (s.dev.core (coreCode core)).rs = [] ∧
      (s.dev.core (coreCode core)).ds.length ≤ 31) ∧
    (∀ k ∈ ([0x913, 0x914] : List Nat), ∃ (s : State) (core : CoreId) (w v : Word) (rest : List Word), NoDelay s.dev core ∧
      (s.dev.core (coreCode core)).mode = 1 ∧ (s.dev.core (coreCode core)).ds = v :: rest ∧ AtSlot s.dev core w k) :=
  ⟨⟨(B .t0 0 [0x910+5] [0xFFFFFFFFFF55,1] [2]), .t0, (W 0 [0x910+5]), 0xFFFFFFFFFF55, [1], by unfold AtSlot NoDelay; decide +kernel⟩,
    ⟨(B .t0 0 [0x910+6] [0xFFFFFFFFFF55,1] [2]), .t0, (W 0 [0x910+6]), 0xFFFFFFFFFF55, [1], by unfold AtSlot NoDelay; decide +kernel⟩,
    ⟨(B .t0 0 [0x910+7] [0xFFFFFFFFFF55,1] [2]), .t0, (W 0 [0x910+7]), 0xFFFFFFFFFF55, [1], by unfold AtSlot NoDelay; decide +kernel⟩,
    ⟨(B .t0 0 [0x910+8] [0xFFFFFFFFFF55,1] [2]), .t0, (W 0 [0x910+8]), 0xFFFFFFFFFF55, [1], by unfold AtSlot NoDelay; decide +kernel⟩,
    ⟨(B .t0 0 [0x910+9] [0xFFFFFFFFFF55,1] [2]), .t0, (W 0 [0x910+9]), 0xFFFFFFFFFF55, [1], by unfold AtSlot NoDelay; decide +kernel⟩,
    ⟨(B .t0 0 [0x910+11] [0xFFFFFFFFFF55,1] [2]), .t0, (W 0 [0x910+11]), 0xFFFFFFFFFF55, [1], by unfold AtSlot NoDelay; decide +kernel⟩,
    ⟨(B .t0 0 [0x910+12] [0xFFFFFFFFFF55,1] [2]), .t0, (W 0 [0x910+12]), 0xFFFFFFFFFF55, [1], by unfold AtSlot NoDelay; decide +kernel⟩,
    ⟨(B .t0 0 [0x910+13] [0xFFFFFFFFFF55,1] [2]), .t0, (W 0 [0x910+13]), 0xFFFFFFFFFF55, [1], by unfold AtSlot NoDelay; decide +kernel⟩,
    ⟨(B .t0 0 [0x910+14] [0xFFFFFFFFFF55,1] [2]), .t0, (W 0 [0x910+14]), 0xFFFFFFFFFF55, [1], by unfold AtSlot NoDelay; decide +kernel⟩,
    ⟨(B .t0 0 [0x910+10] [0xFFFFFFFFFF55,1] [2]), .t0, (W 0 [0x910+10]), 0xFFFFFFFFFF55, [1], by unfold AtSlot NoDelay; decide +kernel⟩,
    ⟨(B .t0 0 [0x910+1] [0xFFFFFFFFFF55,1] [2]), .t0, (W 0 [0x910+1]), 0xFFFFFFFFFF55, [1], by unfold AtSlot NoDelay; decide +kernel⟩,
    ⟨(B .t0 0 [0x910+2] [0xFFFFFFFFFF55,1] [2]), .t0, (W 0 [0x910+2]), 0xFFFFFFFFFF55, [1], by unfold AtSlot NoDelay; decide +kernel⟩,
    fun k hk => ⟨B .t1 2 [0x900 + k] [1] [2], .t1, W 2 [0x900 + k], ((specialOf ((B .t1 2 [0x900 + k] [1] [2]).dev.core 72)).find? (·.1 == k)).elim 0 (·.2), by revert k; unfold AtSlot NoDelay; decide +kernel⟩,
    fun k hk => ⟨B .t1 2 [0x910 + k] [0xFFFFFFFFFF55, 1] [2], .t1, W 2 [0x910 + k], 0xFFFFFFFFFF55, [1], by revert k; unfold AtSlot NoDelay; decide +kernel⟩,
    ⟨B .t1 0 [0x903] [] [2], .t1, W 0 [0x903], by unfold AtSlot NoDelay; decide +kernel⟩,
    ⟨B .t1 0 [0x904] [1] [], .t1, W 0 [0x904], by unfold AtSlot NoDelay; decide +kernel⟩,
    fun k hk => ⟨B .t0 3 [k] [0x12345, 1] [2], .t0, W 3 [k], 0x12345, [1], by revert k; unfold AtSlot NoDelay; decide +kernel⟩⟩

theorem test_premises_LoadsAndStoresOfACore :
    (∃ (s : State) (core : CoreId) (w : Word) (t : Word) (rest : List Word), let c := coreCode core; let x := s.dev.core c; let short := (x.bnk * 65536 + t.toNat % 65536) % 2 ^ 40; NoDelay s.dev core ∧ x.ds = t :: rest ∧ rest.length ≤ 30 ∧ AtSlot s.dev core w 0x500 ∧ s.dev.access c short false = 0) ∧
    (∃ (s : State) (core : CoreId) (w : Word) (t : Word) (rest : List Word), let c := coreCode core; let x := s.dev.core c; let far := t.toNat % 2 ^ 40; NoDelay s.dev core ∧ x.ds = t :: rest ∧ rest.length ≤ 30 ∧ AtSlot s.dev core w 0x502 ∧ s.dev.access c far false = 0) ∧
    (∃ (s : State) (core : CoreId) (w : Word) (t : Word) (rest : List Word), let c := coreCode core; let x := s.dev.core c; let far := t.toNat % 2 ^ 40; NoDelay s.dev core ∧ x.ds = t :: rest ∧ rest.length ≤ 30 ∧ AtSlot s.dev core w 0x504 ∧ s.dev.access c far false = 0) ∧
    (∃ (s : State) (core : CoreId) (w : Word) (t : Word) (v : Word) (rest : List Word), let c := coreCode core; let x := s.dev.core c; let short := (x.bnk * 65536 + t.toNat % 65536) % 2 ^ 40; let ahead := [x.pc + 1, x.pc + 2, x.lbeg, x.lbeg + 1]; NoDelay s.dev core ∧ x.ds = t :: v :: rest ∧ ((coreCode core ≠ 0x48 ∨ s.dev.paired = false)) ∧ AtSlot s.dev core w 0x501 ∧ s.dev.access c short true = 0 ∧ short ∉ ahead) ∧
    (∃ (s : State) (core : CoreId) (w : Word) (t : Word) (v : Word) (rest : List Word), let c := coreCode core; let x := s.dev.core c; let far := t.toNat % 2 ^ 40; let ahead := [x.pc + 1, x.pc + 2, x.lbeg, x.lbeg + 1]; NoDelay s.dev core ∧ x.ds = t :: v :: rest ∧ ((coreCode core ≠ 0x48 ∨ s.dev.paired = false)) ∧ AtSlot s.dev core w 0x503 ∧ s.dev.access c far true = 0 ∧ far ∉ ahead) ∧
    (∃ (s : State) (core : CoreId) (w : Word) (t : Word) (v : Word) (rest : List Word), let c := coreCode core; let x := s.dev.core c; let far := t.toNat % 2 ^ 40; let ahead := [x.pc + 1, x.pc + 2, x.lbeg, x.lbeg + 1]; NoDelay s.dev core ∧ x.ds = t :: v :: rest ∧ ((coreCode core ≠ 0x48 ∨ s.dev.paired = false)) ∧ AtSlot s.dev core w 0x505 ∧ s.dev.access c far true = 0 ∧ far ∉ ahead) ∧
    (∃ (s : State) (core : CoreId) (w : Word) (t : Word) (v : Word) (rest : List Word), let c := coreCode core; let x := s.dev.core c; let far := t.toNat % 2 ^ 40; NoDelay s.dev core ∧ x.ds = t :: v :: rest ∧ x.posted.length < 8 ∧ AtSlot s.dev core w 0x503 ∧ s.dev.access c far true = 3 ∧ far ∉ [x.pc + 1, x.pc + 2, x.lbeg, x.lbeg + 1]) :=
  ⟨⟨(B .t0 0 [0x500] [0xFFFF000001,1] [2]), .t0, (W 0 [0x500]), 0xFFFF000001, [1], by unfold AtSlot NoDelay; decide +kernel⟩,
    ⟨(B .t0 0 [0x502] [0xFFFF000001,1] [2]), .t0, (W 0 [0x502]), 0xFFFF000001, [1], by unfold AtSlot NoDelay; decide +kernel⟩,
    ⟨(B .t0 0 [0x504] [0xFFFF000001,1] [2]), .t0, (W 0 [0x504]), 0xFFFF000001, [1], by unfold AtSlot NoDelay; decide +kernel⟩,
    ⟨(B .t0 0 [0x501] [0xFFFF000021,0x77,1] [2] (fun x => {x with mode := if x.mode = 2 then 2 else 1})), .t0, (W 0 [0x501]), 0xFFFF000021, 0x77, [1], by unfold AtSlot NoDelay; decide +kernel⟩,
    ⟨(B .t0 0 [0x503] [0xFFFF000021,0x77,1] [2] (fun x => {x with mode := if x.mode = 2 then 2 else 1})), .t0, (W 0 [0x503]), 0xFFFF000021, 0x77, [1], by unfold AtSlot NoDelay; decide +kernel⟩,
    ⟨(B .t0 0 [0x505] [0xFFFF000021,0x77,1] [2] (fun x => {x with mode := if x.mode = 2 then 2 else 1})), .t0, (W 0 [0x505]), 0xFFFF000021, 0x77, [1], by unfold AtSlot NoDelay; decide +kernel⟩,
    ⟨(B .t0 0 [0x503] [0x77,0x77,1] [2]), .t0, (W 0 [0x503]), 0x77, 0x77, [1], by unfold AtSlot NoDelay; decide +kernel⟩⟩

theorem test_premises_ExceptionsAreTakenAndLeft :
    (∃ (s : State) (core : CoreId) (w : Word), Steward s core ∧ AtSlot s.dev core w 0x001 ∧ NoDelay s.dev core) ∧
    (∃ (s : State) (core : CoreId) (w : Word) (code : Nat), Steward s core ∧ AtSlot s.dev core w code ∧ opInfo code = none) ∧
    (∃ (s : State) (core : CoreId) (w : Word), let x := s.dev.core (coreCode core); AtSlot s.dev core w 0x002 ∧ NoDelay s.dev core ∧ x.mode = 1 ∧ x.dslot = false) ∧
    (∃ (s : State) (core : CoreId) (w : Word), let x := s.dev.core (coreCode core); AtSlot s.dev core w 0x002 ∧ NoDelay s.dev core ∧ x.mode = 1 ∧ x.dslot = true) ∧
    (∀ k ∈ ([0x304, 0x305, 0x306, 0x307, 0x308] : List Nat), ∃ (s : State) (core : CoreId) (w a : Word) (rest : List Word), Steward s core ∧
      AtSlot s.dev core w k ∧ (s.dev.core (coreCode core)).ds = 0 :: a :: rest) ∧
    (∀ k ∈ ([2, 3, 4, 5] : List Nat), ∃ (s : State) (core : CoreId) (w : Word), Steward s core ∧ AtSlot s.dev core w k ∧ NoDelay s.dev core ∧
      (s.dev.core (coreCode core)).mode = 0) :=
  ⟨⟨(B .t0 0 [1] [0,1] [2]), .t0, (W 0 [1]), by unfold AtSlot NoDelay Steward; decide +kernel⟩,
    ⟨(B .t0 0 [0xA00] [0,1] [2]), .t0, (W 0 [0xA00]), 0xA00, by unfold AtSlot Steward; decide +kernel⟩,
    ⟨(B .t0 0 [2] [0,1] [2] (fun x => {x with dslot := 0 == 2, epc := 2^41+7, ex := true})), .t0, (W 0 [2]), by unfold AtSlot NoDelay; decide +kernel⟩,
    ⟨(B .t0 2 [2] [0,1] [2] (fun x => {x with dslot := 2 == 2, epc := 2^41+7, ex := true})), .t0, (W 2 [2]), by unfold AtSlot NoDelay; decide +kernel⟩,
    fun k hk => ⟨B .t1 3 [k] [0, 1] [2], .t1, W 3 [k], 1, [], by revert k; unfold AtSlot Steward; decide +kernel⟩,
    fun k hk => ⟨B .t1 0 [k] [1] [2] (fun x => { x with mode := 0 }), .t1, W 0 [k], by revert k; unfold AtSlot NoDelay Steward; decide +kernel⟩⟩

theorem test_premises_ArithmeticOfTwoOperands :
    (∀ k ∈ ([0x200, 0x201, 0x202, 0x203, 0x204, 0x209, 0x20A, 0x20B, 0x20C, 0x20D] : List Nat),
      ∃ (s : State) (core : CoreId) (w a b : Word) (rest : List Word), AtSlot s.dev core w k ∧ NoDelay s.dev core ∧
      (s.dev.core (coreCode core)).ds = b :: a :: rest) :=
  fun k hk => ⟨B .t1 1 [k] [5, 0x800000000000, 7] [3], .t1, W 1 [k], 0x800000000000, 5, [7], by revert k; unfold AtSlot NoDelay; decide +kernel⟩

theorem test_premises_ProductsAndQuotients :
    (∀ k ∈ ([0x300, 0x301, 0x302, 0x303, 0x304, 0x305, 0x306, 0x307, 0x308] : List Nat),
      ∃ (s : State) (core : CoreId) (w a b : Word) (rest : List Word), AtSlot s.dev core w k ∧ NoDelay s.dev core ∧
      (s.dev.core (coreCode core)).ds = b :: a :: rest ∧ b ≠ 0) :=
  fun k hk => ⟨B .t1 1 [k] [5, 0x800000000000, 7] [3], .t1, W 1 [k], 0x800000000000, 5, [7], by revert k; unfold AtSlot NoDelay; decide +kernel⟩

theorem test_premises_ComparesLeaveFlags :
    (∀ k ∈ ([0x400, 0x401, 0x402, 0x403, 0x404, 0x405] : List Nat), ∃ (s : State) (core : CoreId) (w a b : Word) (rest : List Word),
      AtSlot s.dev core w k ∧ NoDelay s.dev core ∧ (s.dev.core (coreCode core)).ds = b :: a :: rest) :=
  fun k hk => ⟨B .t1 1 [k] [5, 0x800000000000, 7] [3], .t1, W 1 [k], 0x800000000000, 5, [7], by revert k; unfold AtSlot NoDelay; decide +kernel⟩

theorem test_premises_ArithmeticOfOneOperand :
    (∀ k ∈ ([0x205, 0x206, 0x207, 0x208, 0x20E] : List Nat), ∃ (s : State) (core : CoreId) (w a : Word) (rest : List Word), AtSlot s.dev core w k ∧
      NoDelay s.dev core ∧ (s.dev.core (coreCode core)).ds = a :: rest) :=
  fun k hk => ⟨B .t1 3 [k] [0x800000000000, 7] [3], .t1, W 3 [k], 0x800000000000, [7], by revert k; unfold AtSlot NoDelay; decide +kernel⟩

theorem test_premises_StackEntriesMove :
    (∀ p ∈ ([(0x100, [1], [1, 1]), (0x101, [1], []), (0x102, [2, 1], [1, 2]), (0x103, [2, 1], [1, 2, 1]), (0x104, [3, 2, 1], [1, 3, 2]), (0x105,
      [2, 1], [2]), (0x106, [2, 1], [2, 1, 2])] : List (Nat × List Word × List Word)), ∃ (s : State) (core : CoreId) (w : Word) (rest : List Word),
      AtSlot s.dev core w p.1 ∧ NoDelay s.dev core ∧ (s.dev.core (coreCode core)).ds = p.2.1 ++ rest ∧ (p.2.2 ++ rest).length ≤ 32) ∧
    (∀ p ∈ ([(0x107, ([1], []), ([], [1])), (0x108, ([], [1]), ([1], [])), (0x109, ([], [1]), ([1], [1])), (0x10A, ([], [1]), ([],
      []))] : List (Nat × (List Word × List Word) × (List Word × List Word))), ∃ (s : State) (core : CoreId) (w : Word) (ds rs : List Word),
      AtSlot s.dev core w p.1 ∧ NoDelay s.dev core ∧ (s.dev.core (coreCode core)).ds = p.2.1.1 ++ ds ∧
      (s.dev.core (coreCode core)).rs = p.2.1.2 ++ rs ∧ (p.2.2.1 ++ ds).length ≤ 32 ∧ (p.2.2.2 ++ rs).length ≤ 16) :=
  ⟨fun p hp => ⟨B .t1 2 [p.1] (p.2.1 ++ List.replicate 28 9) [3], .t1, W 2 [p.1], List.replicate 28 9, by revert p; unfold AtSlot NoDelay; decide +kernel⟩,
    fun p hp => ⟨B .t1 0 [p.1] (p.2.1.1 ++ [8, 9]) (p.2.1.2 ++ [4]), .t1, W 0 [p.1], [8, 9], [4], by revert p; unfold AtSlot NoDelay; decide +kernel⟩⟩

theorem test_premises_SilisRowsNameTheNextSlot :
    (∃ (s : State) (core : CoreId), (s.dev.core (coreCode core)).run ≠ 1 ∨ (s.dev.core (coreCode core)).wait ≠ 0) ∧
    (∃ (s : State) (core : CoreId) (w : Word) (code : Nat), AtSlot s.dev core w code ∧ (code == 0x201) = false ∧ (opInfo code).isSome = true) :=
  ⟨⟨State.reset, .t1, by decide +kernel⟩,
    ⟨B .t1 0 [0x200] [1, 2] [3], .t1, W 0 [0x200], 0x200, by unfold AtSlot; decide +kernel⟩⟩

end T11b

/-! ### States that meet the premises of the clauses of chapter 12 -/

namespace T12

def s0 : State := up (mk [])
def r1 : State := up (mk [(rIRQC_SRC 5, 0x10000 + 0x700 + 3), (rIRQC_SRC 9, 0x10000 + 0x700 + 7),(rIRQC_SRC 10, 0x10000 + 0x700 + 7),(rIRQC_COAL_CNT, 0xFFFFFF)])
def r2 : State := md (fun d => { d with irqc := ⟨[[3,2],[1],[]]⟩ }) r1
def r3 : State := mk [(rIRQC_T_STATUS 1, 0xFFFFFF), (rIRQC_T_SPUR_CNT 1, 0xFFFFFE)]
def st1 : State := md (fun d => d.stewardStart 1) r1
def st2 : State := md (fun d => d.modCore 0x48 (fun x => {x with ie := true, wait := 1})) st1
def st3 : State := md (fun d => d.modCore 0x48 (fun x => {x with wait := 1, woken := true})) st1
def st4 : State := md (fun d => (d.stewardStart 1).setFld (rSEC_T_CTRL 1) fSEC_T_CTRL_RUN 1) s0
def ld0 : State := md (fun d => (((d.setFld (rSEC_T_STATUS 1) fSEC_T_STATUS_LOADING 1).wr (rSEC_T_LOAD_BASE 1) 100).wr (rSEC_T_LOAD_LEN 1) 2).mainWrite 101 0x55) (md (fun d => { d with loads := [(1, 100, 10)] }) s0)
def ld1 : State := md (fun d => ((d.setSecState 1 3).setFld (rSEC_T_CTRL 1) fSEC_T_CTRL_AUTO_RESTART 1)) s0
def pr1 : State := md (fun d => (d.secPair true).secRun 1) s0
def st5 : State := md (fun d => d.modCore 0x48 (fun x => {x with wait := 1})) (md (fun d => d.stewardStart 1) s0)
def ldz := up (mk [(rSEC_T_LOAD_BASE 1, 0xFFFFFF), (rSEC_T_LOAD_LEN 1, 0xFFFFFF)])

theorem test_premises_InterruptsAreRaisedAndClaimed :
    (∃ (src : Fin 511), 0 < src.val) ∧
    (∃ (src : Fin 511), src.val = 0) ∧
    (∃ (k : Fin 22) (b : Fin 24), let src := 24 * k.val + b.val; 0 < src ∧ src < 511) ∧
    (∃ (s : State) (t : Fin 3) (src : Nat) (c : Nat), spRising s.dev.regs = true ∧ (src, c) ∈ s.dev.irqEligible t ∧ (s.dev.irqStack t).length < 8 ∧
      s.dev.irqc.rows.length = 3 ∧ ((∀ p ∈ s.dev.irqEligible t, natBits p.2 0 4 < natBits c 0 4 ∨ (natBits p.2 0 4 = natBits c 0 4 ∧ src ≤ p.1)))) ∧
    (∃ (s : State) (t : Fin 3), s.dev.irqEligible t = [] ∧ s.dev.flag (rIRQC_T_STATUS t) fIRQC_T_STATUS_SEEN = false) ∧
    (∃ (s : State) (t : Fin 3), s.dev.irqEligible t = [] ∧ s.dev.flag (rIRQC_T_STATUS t) fIRQC_T_STATUS_SEEN = true) ∧
    (∃ (s : State) (t : Fin 3) (p : Nat) (rest : List Nat), s.dev.irqc.rows.length = 3 ∧ s.dev.irqStack t = p :: rest ∧ p < 16) ∧
    (∃ (s : State) (t : Fin 3), s.dev.irqc.rows.length = 3 ∧ s.dev.irqStack t = []) :=
  ⟨⟨5, by decide +kernel⟩,
    ⟨0, by decide +kernel⟩,
    ⟨0, 5, by decide +kernel⟩,
    ⟨r1, 0, 9, (0x10000 + 0x700 + 7), by decide +kernel⟩,
    ⟨s0, 1, by decide +kernel⟩,
    ⟨r3, 1, by decide +kernel⟩,
    ⟨r2, 0, 3, [2], by decide +kernel⟩,
    ⟨s0, 0, by decide +kernel⟩⟩

theorem test_premises_CoresTakeInterruptsAndWake :
    (∃ (s : State) (core : CoreId), let x := s.dev.core (coreCode core); 72 ≤ coreCode core ∧ s.dev.irqReq (targetOf (coreCode core)) = true ∧
      x.run = 1 ∧ x.mode ≠ 2 ∧ x.shadow = [] ∧ x.delay = none ∧ x.steps.any (·.1) = false ∧ s.dev.dbg.points = [] ∧
      IsOn s.dev (corePier (coreCode core)) ∧ s.dev.gated (coreBranch (coreCode core)) = false ∧ x.ie = true ∧ x.wait ≤ 1) ∧
    (∃ (s : State) (core : CoreId), let x := s.dev.core (coreCode core); 72 ≤ coreCode core ∧ s.dev.irqReq (targetOf (coreCode core)) = true ∧
      x.run = 1 ∧ x.mode ≠ 2 ∧ x.shadow = [] ∧ x.delay = none ∧ x.steps.any (·.1) = false ∧ s.dev.dbg.points = [] ∧
      IsOn s.dev (corePier (coreCode core)) ∧ s.dev.gated (coreBranch (coreCode core)) = false ∧ x.ie = false ∧ x.wait = 0) ∧
    (∃ (s : State) (core : CoreId), let x := s.dev.core (coreCode core); x.run = 1 ∧ x.wait = 1 ∧ IsOn s.dev (corePier (coreCode core)) ∧
      s.dev.gated (coreBranch (coreCode core)) = false ∧ x.woken = true) ∧
    (∃ (s : State) (core : CoreId), let x := s.dev.core (coreCode core); x.run = 1 ∧ x.wait = 1 ∧ IsOn s.dev (corePier (coreCode core)) ∧
      s.dev.gated (coreBranch (coreCode core)) = false ∧ x.woken = false ∧ s.dev.irqReq (targetOf (coreCode core)) = false) ∧
    (∃ (s : State) (core : CoreId), let x := s.dev.core (coreCode core); 72 ≤ coreCode core ∧ x.run = 1 ∧ s.dev.pier 38 = 0 ∧ s.dev.pwr.entering = []) :=
  ⟨⟨st2, .t1, by unfold IsOn; decide +kernel⟩,
    ⟨st1, .t1, by unfold IsOn; decide +kernel⟩,
    ⟨st3, .t1, by unfold IsOn; decide +kernel⟩,
    ⟨st5, .t1, by unfold IsOn; decide +kernel⟩,
    ⟨st1, .t1, by decide +kernel⟩⟩

theorem test_premises_CustomerCoresAreControlled :
    (∃ (s : State) (t : Fin 2), s.dev.secMuted (t.val + 1) = false ∧ s.dev.flag (rSEC_T_CTRL (t.val + 1)) fSEC_T_CTRL_RUN = false ∧
      s.dev.flag (rSEC_T_STATUS (t.val + 1)) fSEC_T_STATUS_LOADING = false) ∧
    (∃ (s : State) (t : Fin 2), s.dev.secMuted (t.val + 1) = false ∧ s.dev.flag (rSEC_T_CTRL (t.val + 1)) fSEC_T_CTRL_RUN = false ∧
      s.dev.flag (rSEC_T_STATUS (t.val + 1)) fSEC_T_STATUS_LOADING = true) ∧
    (∃ (s : State) (t : Fin 2), s.dev.secMuted (t.val + 1) = false ∧ s.dev.flag (rSEC_T_CTRL (t.val + 1)) fSEC_T_CTRL_RUN = true) ∧
    (∃ (s : State), s.dev.secState 1 = 0 ∧ s.dev.secState 2 = 0) ∧
    (∃ (s : State), (s.dev.secState 1 ≠ 0 ∨ s.dev.secState 2 ≠ 0)) ∧
    (∃ (s : State) (t : Fin 2), let last := s.dev.rd (rSEC_T_LOAD_BASE (t.val + 1)) + s.dev.fld (rSEC_T_LOAD_LEN (t.val + 1)) fSEC_T_LOAD_LEN_LEN_M1 + 1; s.dev.secMuted (t.val + 1) = false ∧ s.dev.secState (t.val + 1) = 0 ∧ last ≤ 0x1000000) ∧
    (∃ (s : State) (t : Fin 2), let last := s.dev.rd (rSEC_T_LOAD_BASE (t.val + 1)) + s.dev.fld (rSEC_T_LOAD_LEN (t.val + 1)) fSEC_T_LOAD_LEN_LEN_M1 + 1; s.dev.secMuted (t.val + 1) = false ∧ s.dev.secState (t.val + 1) = 0 ∧ 0x1000000 < last) ∧
    (∃ (s : State) (t : Fin 2), s.dev.secMuted (t.val + 1) = false ∧ s.dev.secState (t.val + 1) ≠ 0) ∧
    (∃ (s : State) (t : Fin 2) (base : Nat) (len : Nat) (i : Nat), assocGet s.dev.loads (t.val + 1) = some (base, len) ∧
      s.dev.flag (rSEC_T_CTRL (t.val + 1)) fSEC_T_CTRL_RUN = false ∧ s.dev.mem.mainErr = [] ∧ s.dev.cfg.stews = [] ∧ i < len ∧ len ≤ 16384) ∧
    (∃ (s : State) (t : Fin 2), let base := s.dev.rd (rSEC_T_LOAD_BASE (t.val + 1)); s.dev.secState (t.val + 1) = 3 ∧ s.dev.flag (rSEC_T_CTRL (t.val + 1)) fSEC_T_CTRL_AUTO_RESTART = true ∧ s.dev.mem.mainErr = [] ∧ base + s.dev.fld (rSEC_T_LOAD_LEN (t.val + 1)) fSEC_T_LOAD_LEN_LEN_M1 + 1 ≤ 0x1000000) ∧
    (∃ (s : State) (t : Fin 2), s.dev.secState (t.val + 1) ≠ 3) ∧
    (∃ (s : State), s.dev.paired = true ∧ s.dev.secState 1 = 1) ∧
    (∃ (s : State), s.dev.pwr.stage = 3) ∧
    (∃ (s : State), s.dev.pwr.stage ≠ 3) :=
  ⟨⟨s0, 0, by decide +kernel⟩,
    ⟨ld0, 0, by decide +kernel⟩,
    ⟨st4, 0, by decide +kernel⟩,
    ⟨s0, by decide +kernel⟩,
    ⟨st1, by decide +kernel⟩,
    ⟨s0, 0, by decide +kernel⟩,
    ⟨ldz, 0, by decide +kernel⟩,
    ⟨st1, 0, by decide +kernel⟩,
    ⟨ld0, 0, 100, 10, 1, by decide +kernel⟩,
    ⟨ld1, 0, by decide +kernel⟩,
    ⟨s0, 0, by decide +kernel⟩,
    ⟨pr1, by decide +kernel⟩,
    ⟨s0, by decide +kernel⟩,
    ⟨r3, by decide +kernel⟩⟩

end T12

/-! ### States that meet the premises of the clauses of chapter 13 -/

namespace T13

def op0 (lev dbg : Nat) (s : State) : State := md (fun d => (d.wr (rSEC_SES 2) (2 * 2 ^ 22 + lev * 2 ^ 20 + dbg * 2 ^ 18)).setSes 2 ⟨some .spi, [], 5⟩) s
def s0 : State := up (mk [(rPMU_BOOT_MS, 0xFFFFFF)])
def on (ps : List Nat) (s : State) : State := ps.foldl (fun s p => setf (rPMU_PIER_STATUS p) fPMU_PIER_STATUS_STATE 0 s) s
def sA := on (List.range 40) (op0 3 3 s0)
def sL := on (List.range 40) (op0 1 0 s0)
def pk (args : Nat) (ws : List Nat) (wait : Bool := false) (rr : Bool := true) : Packet := ⟨.spi, 2, rr, wait, false, 0, 0, 0xABCDE, BitVec.ofNat 12 ws.length, BitVec.ofNat 36 args, ws.map (BitVec.ofNat 48)⟩
def hp : Packet := pk 0 []
def sF := md (fun d => (List.range 8).foldl (fun d k => d.wr (rSEC_SES k) (2^23)) d) s0
def sBar (c : Nat) := md (fun d => { d with talk := { d.talk with barred := [(.spi, 5)] }, btu := { d.btu with clocks := c } }) sA
def sC := md (fun d => (d.wr (rSEC_SES 2) (2^22)).setSes 2 ⟨some .spi, [1,2,3], 5⟩) (mk [(rSEC_KEY 3, 0xFFFFFF)])
def sC' := on (List.range 40) (up sC)
def mac0 : List Nat := hmacSha256 (beBytes 0 32) (nonceBytes [1,2,3] ++ beBytes 0 6 ++ [0x13])
def mw : List Nat := (List.range 6).map fun i => (List.range 6).foldl (fun v j => v * 256 + mac0.getD (6*i+j) 0) 0
def sB := md (fun d => { d with cfg := { d.cfg with bufs := [⟨5, 2, 2, false⟩, ⟨9,1,3,false⟩] } }) sA
def sO := setf (rOUT_CTRL 1) fOUT_CTRL_PORT 1 (setf (rOUT_STATUS 1) fOUT_STATUS_LIT 1 sA)
def e1 : TrsEntry := ⟨7, 3, 500, 0x123, 2, 0, false⟩
def e2 : TrsEntry := ⟨8, 3, 600, 0x223, 4, 1, false⟩
def sT := md (fun d => { d with trs := { d.trs with entries := [e1, e2], nextOrder := 2 } }) sA
def sTt := md (fun d => d.wr rPRP_CTRL 0xFFFFFF) sA
def sOd := setf (rOUT_CTRL 1) fOUT_CTRL_PORT 5 sO
def sIdle := setf rSEC_CTRL fSEC_CTRL_IDLE_S 0 s0
def sBig := md (fun d => { d with trs := { d.trs with entries := List.replicate 65537 e1 } }) sA
theorem sBig_len : sBig.dev.trs.entries.length = 65537 := List.length_replicate (n := 65537) (a := e1)

theorem test_premises_PacketsAreCheckedAndAnswered_T13 :
    (∃ (s : State) (op : Nat) (p : Packet) (st : Nat) (det : Nat), Taken s.dev op p ∧ s.dev.check (reqOf p op) = some (st, det) ∧
      epIsRing p.ep = false) ∧
    (∃ (s : State) (op : Nat) (p : Packet) (o : Op), Taken s.dev op p ∧ p.fwd = false ∧ s.dev.check (reqOf p op) = none ∧ catalogue op = some o ∧
      s.dev.within (s.dev.rights (reqOf p op)) (reqOf p op) o = false ∧ epIsRing p.ep = false) ∧
    (∃ (s : State) (p : Packet), Accepted s.dev 0x142 p) ∧
    (∃ (s : State) (p : Packet), Accepted s.dev 0x2C2 p) :=
  ⟨⟨s0, 0x044, (pk 0 []), 0x201, 0, by unfold Taken IsOn; decide +kernel⟩,
    ⟨sL, 0x0C0, pk 3 [9], opMemRead, by unfold Taken IsOn; decide +kernel, rfl, by decide +kernel, rfl, by decide +kernel, by decide +kernel⟩,
    ⟨sA, pk (1 * 2 ^ 33) [0x12345678], accepted_iff.mpr (by decide +kernel)⟩,
    ⟨sA, pk (1 * 2 ^ 33) [], accepted_iff.mpr (by decide +kernel)⟩⟩

theorem test_premises_SessionsAreOpenedAndEnded :
    (∃ (s : State) (p : Packet), let bar := (s.dev.talk.barred.find? (·.1 == p.ep)).any (fun x => decide (s.dev.btu.clocks < x.2 + 100000000)); Taken s.dev 0x040 p ∧ s.dev.check (reqOf p 0x040) = none ∧ s.dev.talk.ses.length = 8 ∧ bar = true ∧ epIsRing p.ep = false) ∧
    (∃ (s : State) (p : Packet) (k : Fin 8), let bar := (s.dev.talk.barred.find? (·.1 == p.ep)).any (fun x => decide (s.dev.btu.clocks < x.2 + 100000000)); Taken s.dev 0x040 p ∧ s.dev.check (reqOf p 0x040) = none ∧ s.dev.talk.ses.length = 8 ∧ bar = false ∧ (List.range 8).find? (fun i => s.dev.sesState i == 0) = some k.val) ∧
    (∃ (s : State) (p : Packet), let bar := (s.dev.talk.barred.find? (·.1 == p.ep)).any (fun x => decide (s.dev.btu.clocks < x.2 + 100000000)); Taken s.dev 0x040 p ∧ s.dev.check (reqOf p 0x040) = none ∧ s.dev.talk.ses.length = 8 ∧ bar = false ∧ (List.range 8).find? (fun i => s.dev.sesState i == 0) = none) ∧
    (∃ (s : State) (p : Packet), let r := reqOf p 0x041; Taken s.dev 0x041 p ∧ s.dev.check r = none ∧ s.dev.talk.ses.length = 8 ∧ ((s.dev.sesState p.slot ≠ 1 ∨ (s.dev.ses p.slot).ep ≠ some p.ep))) ∧
    (∃ (s : State) (p : Packet), let r := reqOf p 0x041; let k := r.u; let lev := r.args % 4; let dbg := natBits r.args 4 2; let mac := hmacSha256 (beBytes (s.dev.talk.keys.getD k 0) 32) (nonceBytes (s.dev.ses p.slot).nonce ++ beBytes s.dev.serial 6 ++ [dbg * 16 + lev]); Taken s.dev 0x041 p ∧ s.dev.check r = none ∧ s.dev.talk.ses.length = 8 ∧ s.dev.sesState p.slot = 1 ∧ (s.dev.ses p.slot).ep = some p.ep ∧ s.dev.flag (rSEC_KEY k) fSEC_KEY_VALID = true ∧ lev ≤ s.dev.fld (rSEC_KEY k) fSEC_KEY_MAX_LEVEL ∧ dbg ≤ s.dev.fld (rSEC_KEY k) fSEC_KEY_MAX_DEBUG ∧ lev ≤ s.dev.epLevel p.ep ∧ mac = (r.ws.flatMap (fun w => beBytes w 6)).take 32) ∧
    (∃ (s : State) (p : Packet), let r := reqOf p 0x041; let k := r.u; let lev := r.args % 4; let dbg := natBits r.args 4 2; let mac := hmacSha256 (beBytes (s.dev.talk.keys.getD k 0) 32) (nonceBytes (s.dev.ses p.slot).nonce ++ beBytes s.dev.serial 6 ++ [dbg * 16 + lev]); Taken s.dev 0x041 p ∧ s.dev.check r = none ∧ s.dev.talk.ses.length = 8 ∧ s.dev.sesState p.slot = 1 ∧ (s.dev.ses p.slot).ep = some p.ep ∧ s.dev.flag (rSEC_KEY k) fSEC_KEY_VALID = true ∧ lev ≤ s.dev.fld (rSEC_KEY k) fSEC_KEY_MAX_LEVEL ∧ dbg ≤ s.dev.fld (rSEC_KEY k) fSEC_KEY_MAX_DEBUG ∧ lev ≤ s.dev.epLevel p.ep ∧ mac ≠ (r.ws.flatMap (fun w => beBytes w 6)).take 32) ∧
    (∃ (s : State) (p : Packet), s.dev.talk.ses.length = 8 ∧ Accepted s.dev 0x042 p) ∧
    (∃ (s : State) (p : Packet), s.dev.talk.ses.length = 8 ∧ Accepted s.dev 0x043 p) ∧
    (∃ (s : State) (p : Packet), s.dev.talk.ses.length = 8 ∧ Accepted s.dev 0x044 p) ∧
    (∃ (s : State) (k : Fin 8), s.dev.talk.ses.length = 8 ∧
      (s.dev.fld rSEC_CTRL fSEC_CTRL_IDLE_S = 0 ∨ s.dev.sesOwed k = true ∨ (s.dev.sesState k = 2 ∧ (s.dev.ses k).at' = s.dev.btu.clocks))) ∧
    (∃ (s : State) (k : Fin 8), s.dev.talk.ses.length = 8 ∧ s.dev.fld rSEC_CTRL fSEC_CTRL_IDLE_S ≠ 0 ∧ s.dev.sesState k = 2 ∧
      s.dev.sesOwed k = false ∧ (s.dev.ses k).at' ≠ s.dev.btu.clocks) ∧
    (∃ (s : State) (k : Fin 8), s.dev.talk.ses.length = 8 ∧ s.dev.sesState k = 1) ∧
    (∃ (s : State) (k : Fin 8), s.dev.talk.ses.length = 8 ∧ s.dev.sesState k ≠ 1) :=
  ⟨⟨(sBar 10), hp, by unfold Taken IsOn; decide +kernel⟩,
    ⟨sA, hp, 0, by unfold Taken IsOn; decide +kernel⟩,
    ⟨sF, hp, by unfold Taken IsOn; decide +kernel⟩,
    ⟨sA, (pk (3*2^33+0x13) mw), by unfold Taken IsOn; decide +kernel⟩,
    ⟨sC', (pk (3*2^33+0x13) mw), by unfold Taken IsOn; decide +kernel⟩,
    ⟨sC', (pk (3*2^33+0x13) [0,0,0,0,0,0]), by unfold Taken IsOn; decide +kernel⟩,
    ⟨sA, (pk 0 []), by simp only [accepted_iff]; decide +kernel⟩,
    ⟨sA, (pk 0 []), by simp only [accepted_iff]; decide +kernel⟩,
    ⟨sA, (pk 0 []), by simp only [accepted_iff]; decide +kernel⟩,
    ⟨sIdle, 2, by decide +kernel⟩,
    ⟨sB, 2, by decide +kernel⟩,
    ⟨sC, 2, by decide +kernel⟩,
    ⟨s0, 2, by decide +kernel⟩⟩

theorem test_premises_WorkingPacketsTakeEffect_T13 :
    (∃ (s : State) (p : Packet), PlainMain s.dev ∧ let ws := p.payload.map (·.toNat); let a := ws.getD 0 0; a + p.args.toNat % 2048 ≤ 0x1000000 ∧ Accepted s.dev 0x0C0 p) ∧
    (∃ (s : State) (p : Packet), PlainMain s.dev ∧ let ws := p.payload.map (·.toNat); let a := ws.getD 0 0; a + (ws.length - 1) ≤ 0x1000000 ∧ epIsRing p.ep = false ∧ Accepted s.dev 0x0C1 p) ∧
    (∃ (s : State) (p : Packet), PlainMain s.dev ∧ let ws := p.payload.map (·.toNat); let a := ws.getD 0 0; a + ws.getD 1 0 ≤ 0x1000000 ∧ epIsRing p.ep = false ∧ Accepted s.dev 0x0C2 p) ∧
    (∃ (s : State) (p : Packet), Accepted s.dev 0x100 p) ∧
    (∃ (s : State) (p : Packet) (b : Buf), s.dev.bufOf p.args.toNat = some b ∧ b.orphan = false ∧ b.owner = p.slot.val ∧ Accepted s.dev 0x101 p) ∧
    (∃ (s : State) (p : Packet), s.dev.bufOf p.args.toNat = none ∧ s.dev.regionOf p.args.toNat = none ∧ Accepted s.dev 0x101 p) ∧
    (∃ (s : State) (p : Packet) (b : Buf), s.dev.bufOf p.args.toNat = some b ∧ Accepted s.dev 0x102 p) ∧
    (∃ (s : State) (p : Packet), let r := reqOf p 0; s.dev.outs.length = 8 ∧ s.dev.lcc.length = 8 ∧ Meets s.dev (rOUT_SPR_SAT_COUNT r.u) ∧ Meets s.dev (rOUT_SPR_SAT_BASE r.u) ∧ Accepted s.dev 0x180 p) ∧
    (∃ (s : State) (p : Packet), let r := reqOf p 0; s.dev.outs.length = 8 ∧ s.dev.lcc.length = 8 ∧ Meets s.dev (rLCC_PROG_LEN r.u) ∧ Meets s.dev (rLCC_PROG_BASE r.u) ∧ Accepted s.dev 0x200 p) ∧
    (∃ (s : State) (p : Packet), let r := reqOf p 0; s.dev.outs.length = 8 ∧ s.dev.lcc.length = 8 ∧ s.dev.rd (rOUT_KEY_ARMED_HI r.u) < 256 ∧ p.wait = false ∧ Accepted s.dev 0x240 p) ∧
    (∃ (s : State) (p : Packet), let r := reqOf p 0; s.dev.outs.length = 8 ∧ s.dev.lcc.length = 8 ∧ s.dev.rd (rOUT_KEY_ARMED_HI r.u) < 256 ∧ p.wait = true ∧ s.dev.lit r.u = true ∧ s.dev.isOwed 2 r.u = false ∧ Accepted s.dev 0x240 p) ∧
    (∃ (s : State) (p : Packet), let r := reqOf p 0; s.dev.outs.length = 8 ∧ s.dev.lcc.length = 8 ∧ s.dev.rd (rOUT_KEY_ARMED_HI r.u) < 256 ∧ p.wait = true ∧ s.dev.lit r.u = false ∧ Accepted s.dev 0x240 p) ∧
    (∃ (s : State) (p : Packet), s.dev.outs.length = 8 ∧ s.dev.lcc.length = 8 ∧ s.dev.talk.owed = [] ∧ Accepted s.dev 0x241 p) ∧
    (∃ (s : State) (p : Packet), s.dev.outs.length = 8 ∧ s.dev.lcc.length = 8 ∧ Accepted s.dev 0x242 p) ∧
    (∃ (s : State) (p : Packet), let r := reqOf p 0; s.dev.sesLevel p.slot = 3 ∧ s.dev.trs.entries.length + r.ws.length / 2 ≤ 65536 ∧ Accepted s.dev 0x280 p) ∧
    (∃ (s : State) (p : Packet), let r := reqOf p 0; s.dev.trsEntry r.args = none ∧ Accepted s.dev 0x281 p) ∧
    (∃ (s : State) (p : Packet), let r := reqOf p 0; s.dev.trsEntry r.args = none ∧ Accepted s.dev 0x283 p) ∧
    (∃ (s : State) (p : Packet) (x : TrsEntry), let r := reqOf p 0; s.dev.trsEntry r.args = some x ∧ (x.owner = p.slot.val ∨ s.dev.sesLevel p.slot = 3) ∧ Accepted s.dev 0x281 p) ∧
    (∃ (s : State) (p : Packet) (x : TrsEntry), let r := reqOf p 0; s.dev.trsEntry r.args = some x ∧ Accepted s.dev 0x283 p) ∧
    (∃ (s : State) (p : Packet), Accepted s.dev 0x282 p) ∧
    (∃ (s : State) (p : Packet), Accepted s.dev 0x300 p) ∧
    (∃ (s : State) (p : Packet), let r := reqOf p 0; s.dev.lit r.u = false ∧ Accepted s.dev 0x304 p) ∧
    (∃ (s : State) (p : Packet), let r := reqOf p 0; s.dev.lit r.u = false ∧ Accepted s.dev 0x305 p) ∧
    (∃ (s : State) (p : Packet), let r := reqOf p 0; s.dev.lit r.u = true ∧ natBit r.args 32 = false ∧ portKind (s.dev.outPort r.u) = 1 ∧ Accepted s.dev 0x304 p) ∧
    (∃ (s : State) (p : Packet), let r := reqOf p 0; s.dev.lit r.u = true ∧ natBit r.args 32 = false ∧ portKind (s.dev.outPort r.u) = 2 ∧ Accepted s.dev 0x305 p) ∧
    (∃ (s : State) (p : Packet), Accepted s.dev 0x307 p) ∧
    (∃ (s : State) (p : Packet), s.dev.sesLevel p.slot = 3 ∧ Accepted s.dev 0x341 p) ∧
    (∃ (s : State) (p : Packet), let t := p.args.toNat; s.dev.flag rPRP_CTRL fPRP_CTRL_HOST_TT_EN = true ∧ t < 256 ∧ Accepted s.dev 0x4C0 p) ∧
    (∃ (s : State) (p : Packet), let t := p.args.toNat; s.dev.flag rPRP_CTRL fPRP_CTRL_HOST_TT_EN = true ∧ t < 256 ∧ Accepted s.dev 0x4C1 p) ∧
    (∃ (s : State) (p : Packet), let t := p.args.toNat; s.dev.flag rPRP_CTRL fPRP_CTRL_HOST_TT_EN = true ∧ t < 256 ∧ Accepted s.dev 0x4C2 p) ∧
    (∃ (s : State) (p : Packet), s.dev.flag rPRP_CTRL fPRP_CTRL_HOST_TT_EN = false ∧ Accepted s.dev 0x4C0 p) ∧
    (∃ (s : State) (p : Packet), Accepted s.dev 0x4C4 p) ∧
    (∃ (s : State) (p : Packet), let t := p.args.toNat; t + p.payload.length ≤ 0x40100 ∧ Accepted s.dev 0x4C5 p) ∧
    (∃ (s : State) (p : Packet), s.dev.sesLevel p.slot = 3 ∧ 65536 < s.dev.trs.entries.length + (reqOf p 0).ws.length / 2 ∧ Accepted s.dev 0x280 p) :=
  ⟨⟨sA, (pk 7 [0x12345]), by simp only [accepted_iff]; unfold PlainMain; decide +kernel⟩,
    ⟨sA, (pk 0 [0x12345, 1,2,3]), by simp only [accepted_iff]; unfold PlainMain; decide +kernel⟩,
    ⟨sA, (pk 0 [0x12345, 6, 0x123456789ABC]), by simp only [accepted_iff]; unfold PlainMain; decide +kernel⟩,
    ⟨sB, (pk (5) []), by simp only [accepted_iff]; decide +kernel⟩,
    ⟨sB, (pk (5*4096+1) []), ⟨5, 2, 2, false⟩, by simp only [accepted_iff]; decide +kernel⟩,
    ⟨sB, (pk (5) []), by simp only [accepted_iff]; decide +kernel⟩,
    ⟨sB, (pk (5*4096+1) []), ⟨5, 2, 2, false⟩, by simp only [accepted_iff]; decide +kernel⟩,
    ⟨sA, (pk (1*2^33+77) [0x54321]), by simp only [accepted_iff]; unfold Meets IsOn; decide +kernel⟩,
    ⟨sA, (pk (1*2^33+77) [0x54321]), by simp only [accepted_iff]; unfold Meets IsOn; decide +kernel⟩,
    ⟨sA, (pk (1*2^33) [0x87654321]), by simp only [accepted_iff]; decide +kernel⟩,
    ⟨sO, (pk (1*2^33) [0x87654321] true), by simp only [accepted_iff]; decide +kernel⟩,
    ⟨sA, (pk (1*2^33) [0x87654321] true), by simp only [accepted_iff]; decide +kernel⟩,
    ⟨sO, (pk (1*2^33) []), by simp only [accepted_iff]; decide +kernel⟩,
    ⟨sO, (pk (1*2^33) []), by simp only [accepted_iff]; decide +kernel⟩,
    ⟨sT, (pk 0 [0x23, 0xFF, 0,0]), by simp only [accepted_iff]; decide +kernel⟩,
    ⟨sT, (pk 5 []), by simp only [accepted_iff]; decide +kernel⟩,
    ⟨sT, (pk 5 []), by simp only [accepted_iff]; decide +kernel⟩,
    ⟨sT, (pk e1.handle []), e1, by simp only [accepted_iff]; decide +kernel⟩,
    ⟨sT, (pk e1.handle []), e1, by simp only [accepted_iff]; decide +kernel⟩,
    ⟨sT, (pk 0 [0xFFFFFFF, 0x300000000005, 2000, 0x300000000006]), by simp only [accepted_iff]; decide +kernel⟩,
    ⟨sA, (pk (1*2^33+0x800100) []), by simp only [accepted_iff]; decide +kernel⟩,
    ⟨sA, (pk (1*2^33) [5]), by simp only [accepted_iff]; decide +kernel⟩,
    ⟨sA, (pk (1*2^33+5) [7]), by simp only [accepted_iff]; decide +kernel⟩,
    ⟨sO, (pk (1*2^33) [5]), by simp only [accepted_iff]; decide +kernel⟩,
    ⟨sOd, (pk (1*2^33+5) [7]), by simp only [accepted_iff]; decide +kernel⟩,
    ⟨sO, (pk (1*2^33+5) []), by simp only [accepted_iff]; decide +kernel⟩,
    ⟨sA, (pk 0 [0x10, 0x123456]), by simp only [accepted_iff]; decide +kernel⟩,
    ⟨sTt, (pk 0x85 []), by simp only [accepted_iff]; decide +kernel⟩,
    ⟨sTt, (pk 0x85 []), by simp only [accepted_iff]; decide +kernel⟩,
    ⟨sTt, (pk 0x85 [0x123456]), by simp only [accepted_iff]; decide +kernel⟩,
    ⟨sA, (pk 0x85 []), by simp only [accepted_iff]; decide +kernel⟩,
    ⟨sTt, (pk 0 []), by simp only [accepted_iff]; decide +kernel⟩,
    ⟨sTt, (pk 0x85 [0x123456]), by simp only [accepted_iff]; decide +kernel⟩,
    ⟨sBig, pk 0 [1, 2], by decide +kernel, by have h := sBig_len; omega, accepted_iff.mpr (by decide +kernel)⟩⟩

end T13

/-! ### States that meet the premises of the clauses of chapter 13: configurations, updates, faults and debugging -/

namespace T13b

def op0 (lev dbg : Nat) (s : State) : State := md (fun d => (d.wr (rSEC_SES 2) (2 * 2 ^ 22 + lev * 2 ^ 20 + dbg * 2 ^ 18)).setSes 2 ⟨some .spi, [], 5⟩) s
def s0 : State := up (mk [(rPMU_BOOT_MS, 0xFFFFFF)])
def on (ps : List Nat) (s : State) : State := ps.foldl (fun s p => setf (rPMU_PIER_STATUS p) fPMU_PIER_STATUS_STATE 0 s) s
def sA := on (List.range 40) (op0 3 3 s0)
def pk (args : Nat) (ws : List Nat) (wait : Bool := false) (rr : Bool := true) : Packet := ⟨.spi, 2, rr, wait, false, 0, 0, 0xABCDE, BitVec.ofNat 12 ws.length, BitVec.ofNat 36 args, ws.map (BitVec.ofNat 48)⟩
def sHold := setf (rPMU_PIER_CTRL 22) fPMU_PIER_CTRL_HOLD 2 (setf (rPMU_PIER_STATUS 22) fPMU_PIER_STATUS_STATE 3 sA)
def sCf := md (fun d => { d with cfg := { d.cfg with store := [(5, [1,2,3,4]), (6, [1,2])] } }) sA
def sCg := md (fun d => { d with cfg := { d.cfg with active := [(5, [1,2,3,4])] } }) sCf
def sCh := md (fun d => { d with cfg := { d.cfg with active := [(1, [1,2,3,4]),(2,[]),(3,[]),(4,[])] } }) sCf
def us (k : Nat) := setf rUPD_STATUS fUPD_STATUS_STATE k (md (fun d => { d with upd := { d.upd with slots := [⟨3,[],0,0⟩, ⟨3,[(3,7)],20,5⟩] } }) sA)
def sD := md (fun d => { d with dbg := { d.dbg with points := [⟨8,2,false,5,2⟩, ⟨8,1,true,5,3⟩] } }) (go (execDbgAttach (pk 0 [])) sA)
def cr (c : Nat) (f : Core → Core) (s : State) := md (fun d => d.modCore c f) s
def sDr := cr 72 (fun c => { c with run := 1, pc := 5 }) sD
def sDh := cr 72 (fun c => { c with run := 2, pc := 5 }) sD
def c72 := 72*2^29

theorem test_premises_PacketsAreCheckedAndAnswered_T13b :
    (∃ (s : State) (op : Nat) (p : Packet) (o : Op), Taken s.dev op p ∧ p.fwd = false ∧ s.dev.check (reqOf p op) = none ∧ catalogue op = some o ∧
      s.dev.within (s.dev.rights (reqOf p op)) (reqOf p op) o = true ∧ o.ready s.dev (reqOf p op) ≠ 0 ∧ epIsRing p.ep = false) :=
  ⟨sHold, 0x0C0, pk 3 [9], opMemRead, by unfold Taken IsOn; decide +kernel, rfl, by decide +kernel, rfl, by decide +kernel, by decide +kernel, by decide +kernel⟩

theorem test_premises_ManagingPacketsTakeEffect :
    (∃ (s : State) (p : Packet), let id := p.args.toNat % 64; assocGet s.dev.cfg.store id = none ∧ Accepted s.dev 0x380 p) ∧
    (∃ (s : State) (p : Packet) (ws : List Word), let id := p.args.toNat % 64; assocGet s.dev.cfg.store id = some ws ∧
      s.dev.cfg.active.any (·.1 == id) = false ∧ 4 ≤ s.dev.cfg.active.length ∧ Accepted s.dev 0x380 p) ∧
    (∃ (s : State) (p : Packet) (ws : List Word), let id := p.args.toNat % 64; assocGet s.dev.cfg.store id = some ws ∧ s.dev.cfg.active.length < 4 ∧
      resultCause (s.dev.confRecs id ++ imageRecsD ws) = 0 ∧ p.wait = false ∧ Accepted s.dev 0x380 p) ∧
    (∃ (s : State) (p : Packet), Accepted s.dev 0x381 p) ∧
    (∃ (s : State) (p : Packet), Accepted s.dev 0x382 p) ∧
    (∃ (s : State) (p : Packet), let id := p.args.toNat % 64; (p.payload.map (·.toNat)).getD 1 0 = 0 ∧ natBit p.args.toNat 6 = false ∧
      s.dev.cfg.active.any (·.1 == id) = false ∧ Accepted s.dev 0x383 p) ∧
    (∃ (s : State) (p : Packet), let id := p.args.toNat % 64; (p.payload.map (·.toNat)).getD 1 0 = 0 ∧ natBit p.args.toNat 6 = false ∧
      s.dev.cfg.active.any (·.1 == id) = true ∧ Accepted s.dev 0x383 p) ∧
    (∃ (s : State) (p : Packet), Accepted s.dev 0x384 p) ∧
    (∃ (s : State) (p : Packet), let st := s.dev.updState; s.dev.upd.slots.length = 2 ∧ s.dev.upd.br.length = 2 ∧ s.dev.bootRec.active ≤ 1 ∧
      (st = 0 ∨ st = 1 ∨ st = 2 ∨ st = 4) ∧ Accepted s.dev 0x3C0 p) ∧
    (∃ (s : State) (p : Packet), let st := s.dev.updState; s.dev.upd.slots.length = 2 ∧ s.dev.upd.br.length = 2 ∧ s.dev.bootRec.active ≤ 1 ∧ st = 6 ∧
      Accepted s.dev 0x3C0 p) ∧
    (∃ (s : State) (p : Packet), let st := s.dev.updState; s.dev.upd.slots.length = 2 ∧ s.dev.upd.br.length = 2 ∧ s.dev.bootRec.active ≤ 1 ∧ st ≠ 1 ∧
      Accepted s.dev 0x3C1 p) ∧
    (∃ (s : State) (p : Packet), let st := s.dev.updState; s.dev.upd.slots.length = 2 ∧ s.dev.upd.br.length = 2 ∧ s.dev.bootRec.active ≤ 1 ∧ st = 1 ∧
      s.dev.updBad (reqOf p 0x3C1) = none ∧ Accepted s.dev 0x3C1 p) ∧
    (∃ (s : State) (p : Packet), let st := s.dev.updState; s.dev.upd.slots.length = 2 ∧ s.dev.upd.br.length = 2 ∧ s.dev.bootRec.active ≤ 1 ∧ st = 1 ∧
      Accepted s.dev 0x3C2 p) ∧
    (∃ (s : State) (p : Packet), let st := s.dev.updState; s.dev.upd.slots.length = 2 ∧ s.dev.upd.br.length = 2 ∧ s.dev.bootRec.active ≤ 1 ∧ st = 1 ∧
      Accepted s.dev 0x3C3 p) ∧
    (∃ (s : State) (p : Packet), let st := s.dev.updState; s.dev.upd.slots.length = 2 ∧ s.dev.upd.br.length = 2 ∧ s.dev.bootRec.active ≤ 1 ∧
      (st = 2 ∨ st = 4) ∧ Accepted s.dev 0x3C2 p) ∧
    (∃ (s : State) (p : Packet), let st := s.dev.updState; s.dev.upd.slots.length = 2 ∧ s.dev.upd.br.length = 2 ∧ s.dev.bootRec.active ≤ 1 ∧ st = 4 ∧
      natBit p.args.toNat 0 = false ∧ s.dev.bootRec.seq < 2 ^ 24 ∧ Accepted s.dev 0x3C3 p) ∧
    (∃ (s : State) (p : Packet), let st := s.dev.updState; s.dev.upd.slots.length = 2 ∧ s.dev.upd.br.length = 2 ∧ s.dev.bootRec.active ≤ 1 ∧ st = 6 ∧
      Accepted s.dev 0x3C4 p) ∧
    (∃ (s : State) (p : Packet), let st := s.dev.updState; s.dev.upd.slots.length = 2 ∧ s.dev.upd.br.length = 2 ∧ s.dev.bootRec.active ≤ 1 ∧ st ≠ 6 ∧
      Accepted s.dev 0x3C4 p) ∧
    (∃ (s : State) (p : Packet), s.dev.upd.slots.length = 2 ∧ s.dev.upd.br.length = 2 ∧ s.dev.bootRec.active ≤ 1 ∧ Accepted s.dev 0x3C5 p) ∧
    (∃ (s : State) (p : Packet), let st := s.dev.updState; s.dev.upd.slots.length = 2 ∧ s.dev.upd.br.length = 2 ∧ s.dev.bootRec.active ≤ 1 ∧ st = 0 ∧
      Accepted s.dev 0x3C6 p) ∧
    (∃ (s : State) (p : Packet), let st := s.dev.updState; s.dev.upd.slots.length = 2 ∧ s.dev.upd.br.length = 2 ∧ s.dev.bootRec.active ≤ 1 ∧
      (st = 1 ∨ st = 2 ∨ st = 4) ∧ Accepted s.dev 0x3C6 p) ∧
    (∃ (s : State) (p : Packet), Accepted s.dev 0x400 p) ∧
    (∃ (s : State) (p : Packet), Accepted s.dev 0x401 p) ∧
    (∃ (s : State) (p : Packet), Accepted s.dev 0x402 p) ∧
    (∃ (s : State) (p : Packet), Accepted s.dev 0x403 p) ∧
    (∃ (s : State) (p : Packet), s.dev.litOuts = [] ∧ s.dev.pwr.quieted = [] ∧ Accepted s.dev 0x440 p) ∧
    (∃ (s : State) (p : Packet), Accepted s.dev 0x441 p) ∧
    (∃ (s : State) (p : Packet), Accepted s.dev 0x442 p) ∧
    (∃ (s : State) (p : Packet), Accepted s.dev 0x480 p) ∧
    (∃ (s : State) (p : Packet), Accepted s.dev 0x481 p) ∧
    (∃ (s : State) (p : Packet), let ws := p.payload.map (·.toNat); PlainMain s.dev ∧ ws.getD 0 0 + p.args.toNat % 2048 ≤ 0x1000000 ∧
      Accepted s.dev 0x482 p) ∧
    (∃ (s : State) (p : Packet), s.dev.dbg.trsLog.recs = [] ∧ natBit p.args.toNat 24 = false ∧
      s.dev.dbg.pos.find? (fun x => x.1 == p.slot.val && x.2.1 == 0) = some (p.slot.val, 0, s.dev.dbg.trsLog.total) ∧ Accepted s.dev 0x483 p) ∧
    (∃ (s : State) (p : Packet), let c := natBits p.args.toNat 29 7; (s.dev.core c).run = 1 ∧ Accepted s.dev 0x484 p) ∧
    (∃ (s : State) (p : Packet), let c := natBits p.args.toNat 29 7; (s.dev.core c).run = 0 ∧ c < 72 ∧ (s.dev.core c).posted = [] ∧
      Accepted s.dev 0x484 p) ∧
    (∃ (s : State) (p : Packet), let c := natBits p.args.toNat 29 7; (s.dev.core c).run = 2 ∧ Accepted s.dev 0x485 p) ∧
    (∃ (s : State) (p : Packet), let c := natBits p.args.toNat 29 7; (s.dev.core c).run ≠ 2 ∧ Accepted s.dev 0x485 p) ∧
    (∃ (s : State) (p : Packet), natBit p.args.toNat 5 = true ∧ Accepted s.dev 0x487 p) ∧
    (∃ (s : State) (p : Packet), natBit p.args.toNat 5 = false ∧ Accepted s.dev 0x487 p) ∧
    (∃ (s : State) (p : Packet), let c := natBits p.args.toNat 29 7; let ws := p.payload.map (·.toNat); (s.dev.core c).run = 2 ∧ 72 ≤ c ∧
      s.dev.paired = false ∧ ws.getD 0 0 + p.args.toNat % 2048 ≤ 0x4000 ∧ Accepted s.dev 0x488 p) ∧
    (∃ (s : State) (p : Packet), let c := natBits p.args.toNat 29 7; (s.dev.core c).run ≠ 2 ∧ Accepted s.dev 0x488 p) ∧
    (∃ (s : State) (p : Packet), let c := natBits p.args.toNat 29 7; (s.dev.core c).run = 1 ∧ Accepted s.dev 0x486 p) ∧
    (∃ (s : State) (p : Packet), let c := natBits p.args.toNat 29 7; (s.dev.core c).run = 2 ∧ s.dev.coreIdle c = false ∧ Accepted s.dev 0x486 p) ∧
    (∃ (s : State) (p : Packet), let c := natBits p.args.toNat 29 7; ((s.dev.core c).run = 3 ∨ ((s.dev.core c).run = 0 ∧ 72 ≤ c)) ∧
      Accepted s.dev 0x486 p) :=
  ⟨⟨sA, (pk 5 []), by simp only [accepted_iff]; decide +kernel⟩,
    ⟨sCh, (pk 5 []), [1,2,3,4], by simp only [accepted_iff]; decide +kernel⟩,
    ⟨sCf, (pk 5 []), [1,2,3,4], by simp only [accepted_iff]; decide +kernel⟩,
    ⟨sA, (pk 5 []), by simp only [accepted_iff]; decide +kernel⟩,
    ⟨sA, (pk 0 []), by simp only [accepted_iff]; decide +kernel⟩,
    ⟨sA, (pk 5 [0,0]), by simp only [accepted_iff]; decide +kernel⟩,
    ⟨sCg, (pk 5 [0,0]), by simp only [accepted_iff]; decide +kernel⟩,
    ⟨sA, (pk 1 [0, 0x200000]), by simp only [accepted_iff]; decide +kernel⟩,
    ⟨(us 0), (pk 0 [20, 55]), by simp only [accepted_iff]; decide +kernel⟩,
    ⟨(us 6), (pk 0 [20, 55]), by simp only [accepted_iff]; decide +kernel⟩,
    ⟨(us 0), (pk 0 [20, 55]), by simp only [accepted_iff]; decide +kernel⟩,
    ⟨(us 1), (pk 0 [20, 55]), by simp only [accepted_iff]; decide +kernel⟩,
    ⟨(us 1), (pk 0 []), by simp only [accepted_iff]; decide +kernel⟩,
    ⟨(us 1), (pk 0 []), by simp only [accepted_iff]; decide +kernel⟩,
    ⟨(us 2), (pk 0 []), by simp only [accepted_iff]; decide +kernel⟩,
    ⟨(us 4), (pk 0 []), by simp only [accepted_iff]; decide +kernel⟩,
    ⟨(us 6), (pk 0 []), by simp only [accepted_iff]; decide +kernel⟩,
    ⟨(us 0), (pk 0 []), by simp only [accepted_iff]; decide +kernel⟩,
    ⟨(us 0), (pk 0 []), by simp only [accepted_iff]; decide +kernel⟩,
    ⟨(us 0), (pk 0 []), by simp only [accepted_iff]; decide +kernel⟩,
    ⟨(us 1), (pk 0 []), by simp only [accepted_iff]; decide +kernel⟩,
    ⟨sA, (pk 0 []), by simp only [accepted_iff]; decide +kernel⟩,
    ⟨sA, (pk 0 []), by simp only [accepted_iff]; decide +kernel⟩,
    ⟨sA, (pk 0 []), by simp only [accepted_iff]; decide +kernel⟩,
    ⟨sA, (pk 7 []), by simp only [accepted_iff]; decide +kernel⟩,
    ⟨sA, (pk 0 []), by simp only [accepted_iff]; decide +kernel⟩,
    ⟨sA, (pk 0 []), by simp only [accepted_iff]; decide +kernel⟩,
    ⟨sA, (pk 0 []), by simp only [accepted_iff]; decide +kernel⟩,
    ⟨sA, (pk 0 []), by simp only [accepted_iff]; decide +kernel⟩,
    ⟨sD, (pk 0 []), by simp only [accepted_iff]; decide +kernel⟩,
    ⟨sD, (pk (4) [0x123]), by simp only [accepted_iff]; unfold PlainMain; decide +kernel⟩,
    ⟨sD, (pk 0 []), by simp only [accepted_iff]; decide +kernel⟩,
    ⟨sDr, (pk c72 []), by simp only [accepted_iff]; decide +kernel⟩,
    ⟨sD, (pk 0 []), by simp only [accepted_iff]; decide +kernel⟩,
    ⟨sDh, (pk c72 []), by simp only [accepted_iff]; decide +kernel⟩,
    ⟨sD, (pk 0 []), by simp only [accepted_iff]; decide +kernel⟩,
    ⟨sD, (pk (c72+0x22) [0x123]), by simp only [accepted_iff]; decide +kernel⟩,
    ⟨sD, (pk (c72+2) [0x123]), by simp only [accepted_iff]; decide +kernel⟩,
    ⟨sDh, (pk (c72+2) [0x123, 8,9]), by simp only [accepted_iff]; decide +kernel⟩,
    ⟨sD, (pk (c72+2) [0x123, 8,9]), by simp only [accepted_iff]; decide +kernel⟩,
    ⟨sDr, (pk (c72 + 7) []), by simp only [accepted_iff]; decide +kernel⟩,
    ⟨sDh, (pk (c72 + 7) []), by simp only [accepted_iff]; decide +kernel⟩,
    ⟨sD, (pk (c72 + 7) []), by simp only [accepted_iff]; decide +kernel⟩⟩

end T13b

/-! ### States that meet the premises of the clauses of chapter 13: audio, transports -/

namespace T13c

def op0 (lev dbg : Nat) (s : State) : State := md (fun d => (d.wr (rSEC_SES 2) (2 * 2 ^ 22 + lev * 2 ^ 20 + dbg * 2 ^ 18)).setSes 2 ⟨some .spi, [], 5⟩) s
def s0 : State := up (mk [(rPMU_BOOT_MS, 0xFFFFFF)])
def on (ps : List Nat) (s : State) : State := ps.foldl (fun s p => setf (rPMU_PIER_STATUS p) fPMU_PIER_STATUS_STATE 0 s) s
def sA := on (List.range 40) (op0 3 3 s0)
def pk (args : Nat) (ws : List Nat) (wait : Bool := false) (rr : Bool := true) : Packet := ⟨.spi, 2, rr, wait, false, 0, 0, 0xABCDE, BitVec.ofNat 12 ws.length, BitVec.ofNat 36 args, ws.map (BitVec.ofNat 48)⟩
def sAu := md (fun d => { d with btu := { d.btu with e := cdiv (2^24) (48000/60) - 1 } }) sA
def rb := md (fun d => d.wr (rHOST_RING_DESC 3) 0xFFFFF0) sA
def ud := md (fun d => ((d.setFld rHOST_CMD_CTRL fHOST_CMD_CTRL_UDP_EN 1).setFld rHOST_CMD_CTRL fHOST_CMD_CTRL_UDP_PORT 55).setFld rHOST_CMD_CTRL fHOST_CMD_CTRL_MACS 3) sA
def sp := md (fun d => (d.setFld rHOST_CMD_CTRL fHOST_CMD_CTRL_SPI_EN 1).modTalk (fun t => { t with spi := [[1,2],[3]] })) sA
def sn := md (fun d => { d with mem := { d.mem with exBusy := false } }) (setf rSNP_CTRL fSNP_CTRL_EN 1 sA)
def sn1 := md (fun d => d.setExUnit 0xC1 1) sn
def pks : Packet := { pk 5 [] with ep := .sentinel, rr := false }
def snOff := setf rSNP_CTRL fSNP_CTRL_EN 0 sA
def spOff := setf rHOST_CMD_CTRL fHOST_CMD_CTRL_SPI_EN 0 sA
/-- Ring 3 with the words `ws` waiting in its request area. -/
def rg (ws : List Word) : State := md (fun d =>
  let d := (d.wr (rHOST_RING_DESC 3) 0x100).mainPutRun 0x50 0x100 [0x001000002000, 10 * 2 ^ 44 + 10 * 2 ^ 40, BitVec.ofNat 48 ws.length, 0, 0, 0]
  (d.mainPutRun 0x50 0x1000 ws).setSes 2 ⟨some (.ring 3), [], 5⟩) sA
def q3 : Packet := { pk 0 [] with ep := .ring 3 }
def rs : State := rg (reqOf q3 0x044).words
def r0 : Ring := ⟨0x100, 0x1000, 0x2000, 10, 10, false, 0, 2, 0, 0, 0⟩
/-- The sentinel port with a packet in its request area. -/
def ss : State := md (fun d => ((d.setExUnit 0xC1 0).setExWord 0 ((reqOf pks 0x4C0).words.getD 0 0)).setExWord 1 ((reqOf pks 0x4C0).words.getD 1 0)) sn

theorem test_premises_WorkingPacketsTakeEffect_T13c :
    (∃ (s : State) (p : Packet), s.dev.pier 28 = 0 ∧ s.dev.pwr.entering = [] ∧ s.dev.audLeft < 64 ∧ Accepted s.dev 0x340 p) :=
  ⟨sAu, (pk 0x85 []), by simp only [accepted_iff]; decide +kernel⟩

theorem test_premises_TransportsCarryPackets :
    (∃ (s : State), s.dev.talk.held = [] ∧ s.dev.talk.bell = false ∧ s.dev.pwr.stage ≠ 4 ∧ ((∀ ep ∈ ringEnds, s.dev.ringBase ep = 0))) ∧
    (∃ (s : State) (k : Fin 8), s.dev.talk.held = [] ∧ s.dev.talk.bell = false ∧ s.dev.pwr.stage ≠ 4 ∧
      ((∀ ep ∈ ringEnds, ep ≠ .ring k → s.dev.ringBase ep = 0)) ∧ s.dev.ringBase (.ring k) ≠ 0 ∧ s.dev.ringAt (s.dev.ringBase (.ring k)) = none ∧
      PlainMain s.dev) ∧
    (∃ (s : State) (k : Fin 8) (v : Reg), s.dev.talk.held = [] ∧ s.dev.talk.bell = false ∧ s.dev.pwr.stage ≠ 4 ∧
      ((∀ ep ∈ ringEnds, ep ≠ .ring k → s.dev.ringBase ep = 0)) ∧ s.dev.ringBase (.ring k) ≠ 0 ∧ s.dev.ringAt (s.dev.ringBase (.ring k)) = none ∧
      PlainMain s.dev ∧ natBit v.toNat 0 = true) ∧
    (∃ (s : State) (v : Reg), s.dev.talk.held = [] ∧ s.dev.talk.bell = false ∧ s.dev.pwr.stage ≠ 4 ∧ natBit v.toNat 0 = false) ∧
    (∃ (s : State) (dst : Nat), s.dev.talk.bell = false ∧
      (s.dev.flag rHOST_CMD_CTRL fHOST_CMD_CTRL_UDP_EN = false ∨ dst ≠ s.dev.fld rHOST_CMD_CTRL fHOST_CMD_CTRL_UDP_PORT)) ∧
    (∃ (s : State) (m : Fin 2) (dst : Nat) (frag : Bool) (bad : Bool) (bytes : List (BitVec 8)), s.dev.talk.bell = false ∧
      s.dev.flag rHOST_CMD_CTRL fHOST_CMD_CTRL_UDP_EN = true ∧ dst = s.dev.fld rHOST_CMD_CTRL fHOST_CMD_CTRL_UDP_PORT ∧
      natBit (s.dev.fld rHOST_CMD_CTRL fHOST_CMD_CTRL_MACS) m = true ∧ s.dev.pier 34 = 0 ∧ s.dev.pwr.entering = [] ∧
      (frag = true ∨ bad = true ∨ bytes.length % 6 ≠ 0 ∨ bytes.length < 12 ∨ 6144 < bytes.length)) ∧
    (∃ (s : State) (m : Fin 2) (dst : Nat) (frag : Bool) (bad : Bool) (bytes : List (BitVec 8)), s.dev.talk.bell = false ∧
      s.dev.flag rHOST_CMD_CTRL fHOST_CMD_CTRL_UDP_EN = true ∧ dst = s.dev.fld rHOST_CMD_CTRL fHOST_CMD_CTRL_UDP_PORT ∧
      natBit (s.dev.fld rHOST_CMD_CTRL fHOST_CMD_CTRL_MACS) m = true ∧ s.dev.pier 34 = 0 ∧ s.dev.pwr.entering = [] ∧ frag = false ∧ bad = false ∧
      bytes.length % 6 = 0 ∧ 12 ≤ bytes.length ∧ bytes.length ≤ 6144) ∧
    (∃ (s : State), s.dev.spiOn = false ∧ s.dev.talk.bell = false) ∧
    (∃ (s : State) (bytes : List (BitVec 8)), s.dev.spiOn = true ∧ s.dev.pier 38 = 0 ∧ s.dev.pwr.entering = [] ∧
      (s.dev.pwr.stage ≠ 3 ∨ bytes.length % 6 ≠ 0) ∧ s.dev.talk.bell = false) ∧
    (∃ (s : State) (bytes : List (BitVec 8)), s.dev.spiOn = true ∧ s.dev.pier 38 = 0 ∧ s.dev.pwr.entering = [] ∧ s.dev.pwr.stage = 3 ∧
      bytes.length % 6 = 0 ∧ 12 ≤ bytes.length) ∧
    (∃ (s : State) (ws : List Word) (rest : List (List Word)), s.dev.spiOn = true ∧ s.dev.pier 38 = 0 ∧ s.dev.pwr.entering = [] ∧
      s.dev.talk.spi = ws :: rest) ∧
    (∃ (s : State), s.dev.spiOn = true ∧ s.dev.pier 38 = 0 ∧ s.dev.pwr.entering = []) ∧
    (∃ (s : State), s.dev.flag rSNP_CTRL fSNP_CTRL_EN = false ∧ s.dev.talk.bell = false) ∧
    (∃ (s : State) (u : BitVec 14), s.dev.flag rSNP_CTRL fSNP_CTRL_EN = true ∧ s.dev.mem.exBusy = false ∧ s.dev.mem.exchErr = [] ∧ 0x200 ≤ u.toNat ∧
      u.toNat < 0x3000 ∧ s.dev.talk.bell = false) ∧
    (∃ (s : State) (u : BitVec 14), s.dev.flag rSNP_CTRL fSNP_CTRL_EN = true ∧ s.dev.mem.exBusy = false ∧ s.dev.mem.exchErr = [] ∧ 0x200 ≤ u.toNat ∧
      u.toNat < 0x3000 ∧ s.dev.mem.exLatch = none ∧ s.dev.talk.bell = false) ∧
    (∃ (s : State) (u : BitVec 14), s.dev.flag rSNP_CTRL fSNP_CTRL_EN = true ∧ s.dev.mem.exBusy = false ∧ s.dev.mem.exchErr = [] ∧ 0x3000 ≤ u.toNat ∧
      s.dev.talk.bell = false) ∧
    (∃ (s : State), s.dev.flag rSNP_CTRL fSNP_CTRL_EN = true ∧ s.dev.mem.exBusy = false ∧ s.dev.mem.exchErr = [] ∧ s.dev.talk.held = [] ∧
      s.dev.talk.bell = false) ∧
    (∃ (s : State), s.dev.flag rSNP_CTRL fSNP_CTRL_EN = true ∧ s.dev.mem.exBusy = false ∧ s.dev.mem.exchErr = [] ∧ s.dev.exUnit 0xC1 ≠ 0 ∧
      s.dev.talk.bell = false) ∧
    (∃ (s : State) (n : BitVec 16), s.dev.flag rSNP_CTRL fSNP_CTRL_EN = true ∧ s.dev.mem.exBusy = false ∧ s.dev.mem.exchErr = [] ∧
      s.dev.exUnit 0xC1 = 0 ∧ n = 0 ∧ s.dev.talk.bell = false) ∧
    (∃ (s : State) (p : Packet), p.ep = .sentinel ∧ s.dev.talk.held = [] ∧ p.rr = false ∧ s.dev.check (reqOf p 0x4C3) = none) ∧
    (∃ (s : State) (p : Packet), p.ep = .sentinel ∧ s.dev.talk.held = [] ∧ p.rr = false ∧ s.dev.check (reqOf p 0x4C0) = none ∧ p.args.toNat < 256) ∧
    (∃ (s : State) (r : Fin 8) (v : Reg), s.dev.talk.held = [] ∧ s.dev.talk.bell = false ∧ s.dev.pwr.stage ≠ 4 ∧ natBit v.toNat 0 = true ∧
      Meets s.dev (rHOST_RING_BELL r)) ∧
    (∃ (s : State) (k : Fin 8) (v : Reg) (r : Ring) (op : Nat) (p : Packet), let ws := (reqOf p op).words; p.ep = .ring k ∧
      p.count.toNat = p.payload.length ∧ RingHolds s.dev k r ws ∧ natBit v.toNat 0 = true ∧ IsPacketRow op .sesPing ∧
      let x := (s.dev.headTaken k r ws.length).packet op p; x.talk.bell = false ∧ (∀ ep ∈ ringEnds, x.ringTake ep = none)) ∧
    (∃ (s : State) (k : Fin 8) (v : Reg) (r : Ring) (op : Nat) (p : Packet), let ws := (reqOf p op).words; p.ep = .ring k ∧
      p.count.toNat = p.payload.length ∧ RingHolds s.dev k r ws ∧ natBit v.toNat 0 = true ∧ op = 0x044 ∧ Accepted s.dev 0x044 p ∧
      (r.rsp + 2 ^ r.rspLog ≤ r.at' ∨ r.at' + 6 ≤ r.rsp)) ∧
    (∃ (s : State) (p : Packet), s.dev.flag rSNP_CTRL fSNP_CTRL_EN = true ∧ s.dev.mem.exBusy = false ∧ s.dev.mem.exchErr = [] ∧
      s.dev.talk.bell = false ∧ s.dev.talk.held = [] ∧ s.dev.exUnit 0xC1 = 0 ∧ p.ep = .sentinel ∧ p.rr = false ∧ p.count = 0 ∧ p.payload = [] ∧
      (∀ i < 2, s.dev.exWord i = (reqOf p 0x4C0).words.getD i 0) ∧ s.dev.check (reqOf p 0x4C0) = none ∧ p.args.toNat < 256) :=
  ⟨⟨s0, by decide +kernel⟩,
    ⟨rb, 3, by unfold PlainMain; decide +kernel⟩,
    ⟨rb, 3, 1, by unfold PlainMain; decide +kernel⟩,
    ⟨s0, 0, by decide +kernel⟩,
    ⟨s0, 55, by decide +kernel⟩,
    ⟨ud, 1, 55, true, false, [1,2], by decide +kernel⟩,
    ⟨ud, 1, 55, false, false, [1,2,3,4,5,6,1,2,3,4,5,6], by decide +kernel⟩,
    ⟨spOff, by decide +kernel⟩,
    ⟨s0, [1,2], by decide +kernel⟩,
    ⟨s0, [1,2,3,4,5,6,1,2,3,4,5,6], by decide +kernel⟩,
    ⟨sp, [1,2], [[3]], by decide +kernel⟩,
    ⟨s0, by decide +kernel⟩,
    ⟨snOff, by decide +kernel⟩,
    ⟨sn, 0x200, by decide +kernel⟩,
    ⟨sn, 0x200, by decide +kernel⟩,
    ⟨sn, 0x3000, by decide +kernel⟩,
    ⟨sn, by decide +kernel⟩,
    ⟨sn1, by decide +kernel⟩,
    ⟨sn, 0, by decide +kernel⟩,
    ⟨s0, pks, by decide +kernel⟩,
    ⟨s0, pks, by decide +kernel⟩,
    ⟨s0, 1, 1, by unfold Meets IsOn; decide +kernel⟩,
    ⟨rs, 3, 1, r0, 0x044, q3, by decide, by decide, by unfold RingHolds PlainMain; decide +kernel, by decide, List.mem_append_left _ (by simp), by decide +kernel⟩,
    ⟨rs, 3, 1, r0, 0x044, q3, by decide, by decide, by unfold RingHolds PlainMain; decide +kernel, by decide, rfl, accepted_iff.mpr (by decide +kernel), by decide⟩,
    ⟨ss, pks, by decide +kernel⟩⟩

end T13c

/-! ### States that meet the premises of the clauses of chapter 15 -/

namespace T15

def s0 : State := up (mk [(rPMU_BOOT_MS, 0xFFFFFF)])
def on (ps : List Nat) (s : State) : State := ps.foldl (fun s p => setf (rPMU_PIER_STATUS p) fPMU_PIER_STATUS_STATE 0 s) s
def sA := on (List.range 40) s0
def mm := md (fun d => ((List.range 3).foldl (fun d i => d.mainWrite (i*3) (BitVec.ofNat 48 (i+1))) d).mainWrite 0x5004 7) sA
def crcOkImg : List Word := let ws : List Word := [BitVec.ofNat 48 (1 * 2^40 + 4), 0, 0]; ws ++ [BitVec.ofNat 48 (crcWords ws)]
def b2 : State := md (fun d => { d with cfg := { d.cfg with copies := [[], crcOkImg], newer := 0 } }) s0
def b3 : State := md (fun d => { d with cfg := { d.cfg with copies := [[], crcOkImg], newer := 1 } }) s0
def sc := md (fun d => { d with cfg := { d.cfg with scrub := [4,5,6] } }) mm
def ms := md (fun d => (d.setInit 2 1).setFld rMEM_CTRL fMEM_CTRL_SCRUB_EN 1) mm
def sp1 := go (execSpareGo 6 100) mm
def bz := md (fun d => d.modSpan 1 (fun x => { x with busy := some [5,1] })) mm
def dd := md (fun d => d.wr rMEM_DDR_CFG 0x800000) sA
def dt := md (fun d => { d with mem := { d.mem with ddrTraining := true, exBusy := false } }) dd
def trW : List Word := [BitVec.ofNat 48 (1 * 2^40 + 8), 0, 0, BitVec.ofNat 48 (6*2^44+1*2^42+0x0F00+5), BitVec.ofNat 48 (77 * 2^19 + 3*2^12), BitVec.ofNat 48 (6*2^44+2*2^40+2^23+5*2^16), 0, 0]
def tg (c : List (Bool × Bool)) := md (fun d => { d with cfg := { d.cfg with base := trW, trig := c } }) s0
def tw (i : Nat) := trW.getD (3+2*i) 0 |>.toNat
def tw1 (i : Nat) := trW.getD (4+2*i) 0 |>.toNat
def sS := setf rMEM_CTRL fMEM_CTRL_SCRUB_EN 0 sA

theorem test_premises_ConfigurationsStartAndTrigger :
    (∃ (s : State), s.dev.pwr.stage ≠ 3) ∧
    (∃ (s : State), let c1 := s.dev.cfg.copies.getD s.dev.cfg.newer []; s.dev.pwr.stage = 3 ∧ s.dev.cfg.applied = false ∧ s.dev.imageCause true 0 [] c1 = 0) ∧
    (∃ (s : State), let c1 := s.dev.cfg.copies.getD s.dev.cfg.newer []; let c2 := s.dev.cfg.copies.getD (1 - s.dev.cfg.newer) []; s.dev.pwr.stage = 3 ∧ s.dev.cfg.applied = false ∧ s.dev.imageCause true 0 [] c1 ≠ 0 ∧ s.dev.imageCause true 0 [] c2 = 0) ∧
    (∃ (s : State), let c1 := s.dev.cfg.copies.getD s.dev.cfg.newer []; let c2 := s.dev.cfg.copies.getD (1 - s.dev.cfg.newer) []; s.dev.pwr.stage = 3 ∧ s.dev.cfg.applied = false ∧ s.dev.imageCause true 0 [] c1 ≠ 0 ∧ s.dev.imageCause true 0 [] c2 ≠ 0) ∧
    (∃ (s : State) (k : BitVec 12), s.dev.cfg.scrub.contains k.toNat = false) ∧
    (∃ (s : State) (k : BitVec 12), s.dev.cfg.scrub.contains k.toNat = true ∧ ((∀ j < 16, s.dev.fld (rMEM_SPARE j) fMEM_SPARE_STATE = 0))) ∧
    (∃ (s : State) (i : Fin 32), (s.dev.triggers.length ≤ i.val ∨ s.dev.pwr.stage ≠ 3 ∨ (s.dev.cfg.trig.getD i (false, false)).1 = s.dev.trigNow i)) ∧
    (∃ (s : State) (i : Fin 32), i.val < s.dev.triggers.length ∧ s.dev.pwr.stage = 3 ∧ s.dev.cfg.trig.length = s.dev.triggers.length ∧
      (s.dev.cfg.trig.getD i (false, false)).1 ≠ s.dev.trigNow i) ∧
    (∃ (s : State) (i : Nat) (w0 : Nat) (w1 : Nat), s.dev.triggers[i]? = some (w0, w1) ∧ s.dev.cfg.trig.length = s.dev.triggers.length) :=
  ⟨⟨(mk []), by decide +kernel⟩,
    ⟨b3, by decide +kernel⟩,
    ⟨b2, by decide +kernel⟩,
    ⟨s0, by decide +kernel⟩,
    ⟨mm, 5, by decide +kernel⟩,
    ⟨sc, 5, by decide +kernel⟩,
    ⟨mm, 5, by decide +kernel⟩,
    ⟨(tg [(false,true),(false,false)]), 0, by decide +kernel⟩,
    ⟨(tg [(false,true),(false,false)]), 0, (tw 0), (tw1 0), by decide +kernel⟩⟩

theorem test_premises_MemoriesHoldTheirWords :
    (∃ (s : State), PlainMain s.dev) ∧
    (∃ (s : State), PlainMain s.dev) ∧
    (∃ (s : State) (flips : BitVec 55), PlainMain s.dev ∧ popCount 55 flips.toNat = 1) ∧
    (∃ (s : State) (flips : BitVec 55), PlainMain s.dev ∧ popCount 55 flips.toNat = 2) ∧
    (∃ (s : State), s.dev.flag rMEM_CTRL fMEM_CTRL_SCRUB_EN = false) ∧
    (∃ (s : State) (bank : Fin 272), s.dev.flag rMEM_CTRL fMEM_CTRL_SCRUB_EN = true ∧ s.dev.mem.mainErr = [] ∧ PlainMain s.dev ∧
      s.dev.scrubPos bank < 65535) ∧
    (∃ (s : State), s.dev.flag rMEM_CTRL fMEM_CTRL_SCRUB_EN = true) ∧
    (∃ (s : State) (span : Fin 4), natBit (s.dev.rd rMEM_STATUS) (20 + span) = false) ∧
    (∃ (s : State) (span : Fin 4), natBit (s.dev.rd rMEM_STATUS) (20 + span) = true ∧ (s.dev.pwr.stage = 3 → ∀ u ∈ s.dev.flt.retired, u.1 ≠ 4)) ∧
    (∃ (s : State) (j : Fin 16) (b : Fin 256), j.val / 4 = b.val / 64 ∧ s.dev.fld (rMEM_SPARE j) fMEM_SPARE_STATE = 0 ∧
      s.dev.copyRunning (b.val / 64) = false ∧ s.dev.flt.spans.length = 4 ∧ (s.dev.span (b.val / 64)).busy = none) ∧
    (∃ (s : State) (j : Fin 16) (b : Fin 256), j.val / 4 = b.val / 64 ∧ s.dev.fld (rMEM_SPARE j) fMEM_SPARE_STATE = 0 ∧
      s.dev.copyRunning (b.val / 64) = false ∧ s.dev.flt.spans.length = 4 ∧ (s.dev.span (b.val / 64)).busy.isSome = true) ∧
    (∃ (j : Fin 16) (b : Fin 256), j.val / 4 ≠ b.val / 64) ∧
    (∃ (s : State) (j : Fin 16), s.dev.fld (rMEM_SPARE j) fMEM_SPARE_STATE ≠ 1) ∧
    (∃ (s : State) (j : Fin 16) (b : Fin 256), s.dev.fld (rMEM_SPARE j) fMEM_SPARE_STATE = 1 ∧ s.dev.fld (rMEM_SPARE j) fMEM_SPARE_FOR = b.val ∧
      (s.dev.span (j.val / 4)).queue = [] ∧ (s.dev.span (j.val / 4)).waiting = [] ∧ s.dev.flt.spans.length = 4) ∧
    (∃ (s : State) (j : Fin 16) (b : Fin 256), s.dev.fld (rMEM_SPARE j) fMEM_SPARE_STATE = 1 ∧ s.dev.fld (rMEM_SPARE j) fMEM_SPARE_FOR = b.val ∧
      ((s.dev.span (j.val / 4)).busy.isSome = true ∨ (s.dev.span (j.val / 4)).waiting = []) ∧
      ((∀ k < 16, k ≠ j.val → s.dev.fld (rMEM_SPARE k) fMEM_SPARE_STATE = 0)) ∧ s.dev.mem.mainErr = []) ∧
    (∃ (s : State) (v : Reg), natBit (s.dev.rd rMEM_DDR_CFG) 23 = false ∧ natBit v.toNat 23 = true ∧ natBits v.toNat 20 3 < 4 ∧
      natBits v.toNat 17 3 < 4) ∧
    (∃ (s : State) (v : Reg), natBit (s.dev.rd rMEM_DDR_CFG) 23 = true ∧ natBit v.toNat 23 = true) ∧
    (∃ (s : State) (v : Reg), natBit (s.dev.rd rMEM_DDR_CFG) 23 = true ∧ natBit v.toNat 23 = false) ∧
    (∃ (s : State), s.dev.mem.ddrTraining = false ∧ s.dev.flt.held = []) ∧
    (∃ (s : State), s.dev.mem.ddrTraining = true) ∧
    (∃ (s : State), s.dev.mem.exBusy = false) ∧
    (∃ (s : State), s.dev.mem.exBusy = true) :=
  ⟨⟨mm, by unfold PlainMain; decide +kernel⟩,
    ⟨mm, by unfold PlainMain; decide +kernel⟩,
    ⟨mm, 64, by unfold PlainMain; decide +kernel⟩,
    ⟨mm, 0x40000000000001, by unfold PlainMain; decide +kernel⟩,
    ⟨sS, by decide +kernel⟩,
    ⟨mm, 9, by unfold PlainMain; decide +kernel⟩,
    ⟨mm, by decide +kernel⟩,
    ⟨mm, 2, by decide +kernel⟩,
    ⟨ms, 2, by decide +kernel⟩,
    ⟨mm, 6, 100, by decide +kernel⟩,
    ⟨bz, 6, 100, by decide +kernel⟩,
    ⟨6, 9, by decide +kernel⟩,
    ⟨mm, 6, by decide +kernel⟩,
    ⟨sp1, 6, 100, by decide +kernel⟩,
    ⟨sp1, 6, 100, by decide +kernel⟩,
    ⟨mm, 0x800000, by decide +kernel⟩,
    ⟨dd, 0x800000, by decide +kernel⟩,
    ⟨dd, 0x200000, by decide +kernel⟩,
    ⟨mm, by decide +kernel⟩,
    ⟨dt, by decide +kernel⟩,
    ⟨dt, by decide +kernel⟩,
    ⟨mm, by decide +kernel⟩⟩

theorem test_premises_MemoryCommandsKeepTheForm :
    (∃ s t : State, Memory.wf s.dev.mem = true ∧ step s = .next t) :=
  ⟨{ sA with pending := [.bitSetStore 0x50 9 77] }, _, by decide +kernel, rfl⟩

end T15

/-! ### States that meet the premises of the clauses of chapter 16 -/

namespace T16

def s0 : State := up (mk [(rPMU_BOOT_MS, 0xFFFFFF)])
def on (ps : List Nat) (s : State) : State := ps.foldl (fun s p => setf (rPMU_PIER_STATUS p) fPMU_PIER_STATUS_STATE 0 s) s
def sA := on (List.range 40) s0
def ld (a : Nat) (ws : List Nat) (s : State) : State := md (fun d => ((List.range ws.length).zip ws).foldl (fun d p => d.mainWrite (a + p.1) (BitVec.ofNat 48 p.2)) d) s
def at_ (ws : List Nat) (f : Chan → Chan := id) (s : State := sA) : State := md (fun d => ((d.setChan 3 (f Chan.idle)).setChPc 3 0x4000).setChState 3 1) (ld 0x4000 ws s)
def ru := at_ []
def bu := at_ [] (fun x => { x with burst := 2 })
def mv (sm dm n : Nat) := 1*2^44 + sm*2^42 + dm*2^40 + n
def lp := 2*2^44+5
def w1 := 4*2^44+77
def wz (f : Chan → Chan) := md (fun d => d.setChState 3 2) (at_ [] f)
def m1 : Move := ⟨0x4000, 0x5000, 0, 0, 7⟩
def bs (m : Move) (f : Chan → Chan := id) := setf rDMA_CTRL fDMA_CTRL_EN 0 (at_ ((List.range 80).map (· + 1000)) (fun x => f { x with burst := 2, move := some m }))

theorem test_premises_ChannelsRunTheirPrograms :
    (∃ (s : State) (c : Fin 32) (v : Reg), natBit v.toNat 22 = false ∧ s.dev.dma.ch.length = 32 ∧ s.dev.pier 29 = 0 ∧ s.dev.pwr.entering = [] ∧
      (s.dev.chState c = 0 ∨ s.dev.chState c = 3)) ∧
    (∃ (s : State) (c : Fin 32) (v : Reg), natBit v.toNat 22 = false ∧ s.dev.dma.ch.length = 32 ∧ s.dev.pier 29 = 0 ∧ s.dev.pwr.entering = [] ∧
      (s.dev.chState c = 1 ∨ s.dev.chState c = 2)) ∧
    (∃ (s : State) (c : Fin 32) (v : Reg), s.dev.dma.ch.length = 32 ∧ s.dev.pier 29 = 0 ∧ s.dev.pwr.entering = [] ∧ natBit v.toNat 23 = false ∧
      ((s.dev.chState c = 0 ∨ s.dev.chState c = 3))) ∧
    (∃ (s : State) (c : Fin 32) (v : Reg), s.dev.dma.ch.length = 32 ∧ s.dev.pier 29 = 0 ∧ s.dev.pwr.entering = [] ∧ natBit v.toNat 23 = false ∧
      ((s.dev.chState c = 2 ∨ (s.dev.chState c = 1 ∧ (s.dev.chan c).burst ≠ 2)))) ∧
    (∃ (s : State) (c : Fin 32) (v : Reg), s.dev.dma.ch.length = 32 ∧ s.dev.pier 29 = 0 ∧ s.dev.pwr.entering = [] ∧ natBit v.toNat 23 = false ∧
      s.dev.chState c = 1 ∧ (s.dev.chan c).burst = 2) ∧
    (∃ (s : State) (c : Fin 32) (v : Reg), s.dev.dma.ch.length = 32 ∧ s.dev.pier 29 = 0 ∧ s.dev.pwr.entering = [] ∧ natBit v.toNat 23 = true ∧
      s.dev.chState c = 1 ∧ (s.dev.chan c).burst = 2 ∧ (s.dev.chan c).stopReq = false) ∧
    (∃ (s : State) (c : Fin 32) (v : Reg), s.dev.dma.ch.length = 32 ∧ s.dev.pier 29 = 0 ∧ s.dev.pwr.entering = [] ∧ natBit v.toNat 23 = true ∧
      ((s.dev.chState c ≠ 1 ∨ (s.dev.chan c).burst ≠ 2))) ∧
    (∃ (s : State) (c : Fin 32) (w : Nat) (w1 : Nat) (w2 : Nat), AtProgram s.dev c [w, w1, w2] ∧ natBits w 44 4 = 1 ∧ natBits w 24 16 = 0 ∧
      natBits w 42 2 ≠ 3 ∧ natBits w 40 2 ≠ 3 ∧ w1 < 2 ^ 40 ∧ w2 < 2 ^ 40) ∧
    (∃ (s : State) (c : Fin 32) (w : Nat) (w1 : Nat) (w2 : Nat), AtProgram s.dev c [w, w1, w2] ∧ natBits w 44 4 = 1 ∧ natBits w 24 16 = 0 ∧
      natBits w 42 2 ≠ 3 ∧ natBits w 40 2 ≠ 3 ∧ (2 ^ 40 ≤ w1 ∨ 2 ^ 40 ≤ w2)) ∧
    (∃ (s : State) (c : Fin 32) (w : Nat), let x := s.dev.chan c; AtProgram s.dev c [w] ∧ natBits w 44 4 = 2 ∧ natBits w 24 20 = 0 ∧
      x.loops.length < 4 ∧ natBits w 0 24 ≠ 0) ∧
    (∃ (s : State) (c : Fin 32) (w : Nat), let x := s.dev.chan c; AtProgram s.dev c [w] ∧ natBits w 44 4 = 2 ∧ natBits w 24 20 = 0 ∧
      4 ≤ x.loops.length) ∧
    (∃ (s : State) (c : Fin 32) (w : Nat), let x := s.dev.chan c; AtProgram s.dev c [w, 0x300000000000] ∧ w = 0x200000000000 ∧ x.loops.length < 4) ∧
    (∃ (s : State) (c : Fin 32) (w : Nat), let x := s.dev.chan c; AtProgram s.dev c [w] ∧ w = 0x300000000000 ∧ x.loops = []) ∧
    (∃ (s : State) (c : Fin 32) (w : Nat), AtProgram s.dev c [w] ∧ natBits w 44 4 = 4 ∧ natBits w 8 36 = 0) ∧
    (∃ (s : State) (c : Fin 32) (w : Nat) (b : Nat), AtProgram s.dev c [w, b] ∧ w = 0x480000000000 ∧ btGe s.dev.bt b = true) ∧
    (∃ (s : State) (c : Fin 32) (w : Nat) (b : Nat), AtProgram s.dev c [w, b] ∧ w = 0x480000000000 ∧ btGe s.dev.bt b = false) ∧
    (∃ (s : State) (c : Fin 32), let x := s.dev.chan c; (s.dev.chState c ≠ 2 ∨ (x.wait = 1 ∧ x.woken = false))) ∧
    (∃ (s : State) (c : Fin 32), let x := s.dev.chan c; s.dev.gated 25 = false ∧ s.dev.chState c = 2 ∧ s.dev.dma.ch.length = 32 ∧ x.wait = 1 ∧
      x.woken = true) ∧
    (∃ (s : State) (c : Fin 32), let x := s.dev.chan c; s.dev.gated 25 = false ∧ s.dev.chState c = 2 ∧ s.dev.dma.ch.length = 32 ∧ x.wait = 2 ∧
      btGe s.dev.bt x.arg = true ∧ (x.arg + 2 ^ 48 - s.dev.bt) % 2 ^ 48 ≠ 0 ∧ x.arg < 2 ^ 48) ∧
    (∃ (s : State) (c : Fin 32) (w : Nat), AtProgram s.dev c [w] ∧ natBits w 44 4 = 5 ∧ natBits w 8 36 = 0) ∧
    (∃ (s : State) (c : Fin 32) (w : Nat), AtProgram s.dev c [w] ∧ natBits w 44 4 = 15 ∧ natBits w 9 35 = 0) ∧
    (∃ (s : State) (c : Fin 32) (w : Nat), AtProgram s.dev c [w] ∧ chLen w = 0) ∧
    (∃ (op : Nat) (s : State) (c : Fin 32) (w : Nat), AtProgram s.dev c [w] ∧ chLen w ≠ 0 ∧ natBits w 44 4 ≠ op) ∧
    (∃ (s : State) (c : Fin 32), s.dev.chState c ≠ 1 ∧ s.dev.gated 25 = false) ∧
    (∃ (s : State) (c : Fin 32), let x := s.dev.chan c; x.burst ≠ 2 ∧ s.dev.flag rDMA_CTRL fDMA_CTRL_EN = false) ∧
    (∃ (s : State) (c : Fin 32) (m : Move), let x := s.dev.chan c; let n := min m.left (s.dev.fld (rDMA_CH_CTRL c) fDMA_CH_CTRL_BURST_M1 + 1); s.dev.gated 25 = false ∧
      x.burst = 2 ∧ x.move = some m ∧ s.dev.dma.ch.length = 32 ∧ PlainMain s.dev ∧ m.smode ≤ 1 ∧ m.dmode ≤ 1 ∧ m.src + n ≤ 0x1000000 ∧
      m.dst + n ≤ 0x1000000 ∧ ((m.src + n ≤ m.dst ∨ m.dst + n ≤ m.src)) ∧ 0 < n ∧ ((∀ k < n, s.dev.mayMain (s.dev.chOwner c) (m.src + k) = true ∧
      s.dev.mayMain (s.dev.chOwner c) (m.dst + k) = true))) ∧
    (∃ (s : State) (c : Fin 32) (w body left : Nat) (rest : List (Nat × Nat)), AtProgram s.dev c [w] ∧ w = 0x300000000000 ∧
      (s.dev.chan c).loops = (body, left) :: rest ∧ body < 2 ^ 40 ∧ rest.length < 4 ∧ left = 0) ∧
    (∃ (s : State) (c : Fin 32) (w body left : Nat) (rest : List (Nat × Nat)), AtProgram s.dev c [w] ∧ w = 0x300000000000 ∧
      (s.dev.chan c).loops = (body, left) :: rest ∧ body < 2 ^ 40 ∧ rest.length < 4 ∧ left ≠ 0) ∧
    (∃ (s : State) (c : Fin 32) (m : Move), let x := s.dev.chan c; let n := min m.left (s.dev.fld (rDMA_CH_CTRL c) fDMA_CH_CTRL_BURST_M1 + 1); s.dev.gated 25 = false ∧
      x.burst = 2 ∧ x.move = some m ∧ s.dev.dma.ch.length = 32 ∧ PlainMain s.dev ∧ m.smode ≤ 1 ∧ m.dmode ≤ 1 ∧ m.src + n ≤ 0x1000000 ∧
      m.dst + n ≤ 0x1000000 ∧ ((m.src + n ≤ m.dst ∨ m.dst + n ≤ m.src)) ∧ 0 < n ∧ ((∀ k < n, s.dev.mayMain (s.dev.chOwner c) (m.src + k) = true ∧
      s.dev.mayMain (s.dev.chOwner c) (m.dst + k) = true)) ∧ s.dev.flag rDMA_CTRL fDMA_CTRL_EN = true ∧ n < m.left) ∧
    (∃ (s : State) (c : Fin 32), s.dev.chState c = 1 ∧ s.dev.gated 25 = true) :=
  ⟨⟨sA, 3, 0x3FF123, by decide +kernel⟩,
    ⟨ru, 3, 0x3FF123, by decide +kernel⟩,
    ⟨sA, 3, 0x3FF123, by decide +kernel⟩,
    ⟨ru, 3, 0x3FF123, by decide +kernel⟩,
    ⟨bu, 3, 0x3FF123, by decide +kernel⟩,
    ⟨bu, 3, 0x8FF123, by decide +kernel⟩,
    ⟨sA, 3, 0x8FF123, by decide +kernel⟩,
    ⟨(at_ [(mv 0 0 9), 0xFFFFFFFFF0, 77] (fun x => { x with sa := 0x100, da := 0x200 })), 3, (mv 0 0 9), 0xFFFFFFFFF0, 77, by unfold AtProgram Dev.HoldsFor PlainMain; decide +kernel⟩,
    ⟨(at_ [(mv 0 0 9), 2^41, 77]), 3, (mv 0 0 9), (2^41), 77, by unfold AtProgram Dev.HoldsFor PlainMain; decide +kernel⟩,
    ⟨(at_ [lp]), 3, lp, by unfold AtProgram Dev.HoldsFor PlainMain; decide +kernel⟩,
    ⟨(at_ [lp] fun x => { x with loops := [(1,2),(3,4),(5,6),(7,8)] }), 3, lp, by unfold AtProgram Dev.HoldsFor PlainMain; decide +kernel⟩,
    ⟨(at_ [0x200000000000, 0x300000000000]), 3, 0x200000000000, by unfold AtProgram Dev.HoldsFor PlainMain; decide +kernel⟩,
    ⟨(at_ [0x300000000000] fun x => { x with loops := [] }), 3, 0x300000000000, by unfold AtProgram Dev.HoldsFor PlainMain; decide +kernel⟩,
    ⟨(at_ [w1]), 3, w1, by unfold AtProgram Dev.HoldsFor PlainMain; decide +kernel⟩,
    ⟨(at_ [0x480000000000, 0]), 3, 0x480000000000, 0, by unfold AtProgram Dev.HoldsFor PlainMain; decide +kernel⟩,
    ⟨(at_ [0x480000000000, 5]), 3, 0x480000000000, 5, by unfold AtProgram Dev.HoldsFor PlainMain; decide +kernel⟩,
    ⟨(at_ [w1]), 3, by decide +kernel⟩,
    ⟨(wz fun x => { x with wait := 1, woken := true }), 3, by decide +kernel⟩,
    ⟨(wz fun x => { x with wait := 2, arg := 0xFFFFFFFFFF00 }), 3, by decide +kernel⟩,
    ⟨(at_ [(5*2^44+77)]), 3, (5*2^44+77), by unfold AtProgram Dev.HoldsFor PlainMain; decide +kernel⟩,
    ⟨(at_ [(15*2^44+77)]), 3, (15*2^44+77), by unfold AtProgram Dev.HoldsFor PlainMain; decide +kernel⟩,
    ⟨(at_ [(6*2^44)]), 3, (6*2^44), by unfold AtProgram Dev.HoldsFor PlainMain; decide +kernel⟩,
    ⟨1, (at_ [(5*2^44+77)]), 3, (5*2^44+77), by unfold AtProgram Dev.HoldsFor PlainMain; decide +kernel⟩,
    ⟨sA, 3, by decide +kernel⟩,
    ⟨(setf rDMA_CTRL fDMA_CTRL_EN 0 (at_ [])), 3, by decide +kernel⟩,
    ⟨(bs m1), 3, m1, by unfold PlainMain; decide +kernel⟩,
    ⟨at_ [0x300000000000] (fun x => { x with loops := [(5, 0), (6, 7)] }), 3, 0x300000000000, 5, 0, [(6, 7)], by unfold AtProgram Dev.HoldsFor PlainMain; decide +kernel⟩,
    ⟨at_ [0x300000000000] (fun x => { x with loops := [(9, 4), (5, 6)] }), 3, 0x300000000000, 9, 4, [(5, 6)], by unfold AtProgram Dev.HoldsFor PlainMain; decide +kernel⟩,
    ⟨setf rDMA_CTRL fDMA_CTRL_EN 1 (setf (rDMA_CH_CTRL 3) fDMA_CH_CTRL_BURST_M1 2 (bs m1)), 3, m1, by unfold PlainMain; decide +kernel⟩,
    ⟨md (fun d => d.wr (rCKG_BR 25) 0) (at_ [w1]), 3, by decide +kernel⟩⟩

end T16

/-! ### States that meet the premises of the clauses of chapter 16: the blitter -/

namespace T16b

def s0 : State := up (mk [(rPMU_BOOT_MS, 0xFFFFFF)])
def on (ps : List Nat) (s : State) : State := ps.foldl (fun s p => setf (rPMU_PIER_STATUS p) fPMU_PIER_STATUS_STATE 0 s) s
def sA := on (List.range 40) s0
def ld (a : Nat) (ws : List Nat) (s : State) : State := md (fun d => ((List.range ws.length).zip ws).foldl (fun d p => d.mainWrite (a + p.1) (BitVec.ofNat 48 p.2)) d) s
def bl (f w h sx sy dx dy : Nat) (df : Nat := f) (regs : List (Nat × Nat) := []) : State :=
  let src := (List.range 3).map (fun i => (i * 0x123456789AB + 0x55AA77) % 2^48)
  md (fun d => ([(rBLT_SRC_LO, 0x4000), (rBLT_DST_LO, 0x6000), (rBLT_SRC_FMT, f * 2^20 + 8), (rBLT_DST_FMT, df * 2^20 + 8), (rBLT_SX, sx), (rBLT_SY, sy), (rBLT_W, w), (rBLT_H, h), (rBLT_DX, dx), (rBLT_DY, dy), (rBLT_FILL_LO, 0xABCDEF), (rBLT_FILL_HI, 0x80)] ++ regs).foldl (fun d p => d.wr p.1 p.2) d) (ld 0x6000 (src.map (· * 7 % 2^48)) (ld 0x4000 src sA))
def bz := setf rBLT_STATUS fBLT_STATUS_BUSY 1 sA
def od (o : Option BltRun) := md (fun d => { d with blt := ⟨o, none⟩ }) (setf rBLT_CTRL fBLT_CTRL_EV 77 (setf rBLT_CTRL fBLT_CTRL_EV_EN 1 bz))
def rr (b : Option Nat) (t : Nat) : BltRun := ⟨false, 0, [], b, t⟩
def packu (us : List Nat) : List Nat := (List.range ((us.length * 2 + 2) / 3)).map fun i => let b := fun j => us.getD ((3 * i + j) / 2) 0 / (if (3*i+j) % 2 = 0 then 65536 else 1) % 65536; b 0 * 2^32 + b 1 * 2^16 + b 2
def yt (pre : Nat) (us : List Nat) (s : State := sA) : State := md (fun d => { (d.wr rBLT_LIST_LO 0x7000).wr rBLT_ORG_LO 0x1000 with blt := ⟨none, some (pre : Int)⟩ }) (ld 0x7000 (packu (List.replicate pre 0 ++ us)) s)
def hd (op n imm : Nat) := op * 2^26 + n * 65536 + imm
def big := bl 1 9 7 3 2 5 4

theorem test_premises_BlitterDrawsRectangles :
    (∃ (op : Nat) (s : State) (v : Reg), let d := s.dev.asked v.toNat op; let o := d.bltOp; BltIdle s.dev ∧ d.bltCause o ≠ 0) ∧
    (∃ (op : Nat) (s : State) (v : Reg), let d := s.dev.asked v.toNat op; let o := d.bltOp; BltIdle s.dev ∧ d.bltCause o = 0 ∧ (o.w = 0 ∨ o.h = 0)) ∧
    (∃ (op : Nat) (s : State) (v : Reg), let d := s.dev.asked v.toNat op; let o := d.bltOp; BltIdle s.dev ∧ BltReady d o) ∧
    (∃ (s : State), s.dev.bltBusy = true ∧ s.dev.pier 29 = 0 ∧ s.dev.pwr.entering = []) ∧
    (∃ (s : State), s.dev.blt.op = none) ∧
    (∃ (s : State) (r : BltRun), s.dev.gated 25 = false ∧ s.dev.blt = ⟨some r, none⟩ ∧ r.bad = none) ∧
    (∃ (s : State) (r : BltRun) (a : Nat), s.dev.gated 25 = false ∧ s.dev.blt.op = some r ∧ r.bad = some a ∧
      r.tries < s.dev.fld rDMA_CTRL fDMA_CTRL_RETRY_MAX) ∧
    (∃ (s : State) (r : BltRun) (a : Nat), s.dev.gated 25 = false ∧ s.dev.blt.op = some r ∧ r.bad = some a ∧
      s.dev.fld rDMA_CTRL fDMA_CTRL_RETRY_MAX ≤ r.tries ∧ a < 2 ^ 40) ∧
    (∃ (s : State), BltIdle s.dev) ∧
    (∃ (s : State), s.dev.bltBusy = true ∧ s.dev.pier 29 = 0 ∧ s.dev.pwr.entering = []) ∧
    (∃ (s : State) (op : Nat) (k : Nat) (imm : Nat) (u1 : Nat) (u2 : Nat), AtCommand s.dev k op 2 imm [u1, u2] ∧ ytFormats[imm % 16]? = none) ∧
    (∃ (s : State) (k : Nat) (imm : Nat) (u1 : Nat) (u2 : Nat), AtCommand s.dev k 3 2 imm [u1, u2]) ∧
    (∃ (s : State) (op : Nat) (k : Nat) (imm : Nat) (u1 : Nat) (u2 : Nat) (u3 : Nat), AtCommand s.dev k op 3 imm [u1, u2, u3]) ∧
    (∃ (s : State) (k : Nat) (imm : Nat), AtCommand s.dev k 7 0 imm []) ∧
    (∃ (s : State) (k : Nat) (imm : Nat) (u1 : Nat), AtCommand s.dev k 8 1 imm [u1] ∧ u1 < 2 ^ 32) ∧
    (∃ (s : State) (k : Nat) (imm : Nat), AtCommand s.dev k 0x3F 0 imm []) ∧
    (∃ (s : State) (k : Nat) (op : Nat) (n : Nat) (imm : Nat), AtCommand s.dev k op n imm [] ∧
      (op, n) ∉ [(1, 2), (2, 2), (3, 2), (4, 3), (5, 3), (6, 3), (7, 0), (8, 1), (0x3F, 0)]) ∧
    (∃ (own : Nat) (s : State) (k : Nat) (op : Nat) (n : Nat) (imm : Nat), AtCommand s.dev k op n imm [] ∧
      (op, n) ∈ [(1, 2), (2, 2), (3, 2), (4, 3), (5, 3), (6, 3), (7, 0), (8, 1), (0x3F, 0)] ∧ op ≠ own) ∧
    (∃ (s : State), (s.dev.blt.unit = none ∨ s.dev.blt.op ≠ none)) ∧
    (∃ (s : State) (k imm u1 u2 f : Nat), AtCommand s.dev k 1 2 imm [u1, u2] ∧ ytFormats[imm % 16]? = some f) ∧
    (∃ (s : State), s.dev.gated 25 = true) :=
  ⟨⟨1, (bl 7 5 9 3 2 5 4), 0, by unfold BltIdle; decide +kernel⟩,
    ⟨1, (bl 1 0 7 3 2 5 4), 0, by unfold BltIdle; decide +kernel⟩,
    ⟨1, (bl 1 9 7 3 2 5 4), 0, by unfold BltIdle BltReady PlainMain; decide +kernel⟩,
    ⟨bz, by decide +kernel⟩,
    ⟨(setf rDMA_CTRL fDMA_CTRL_RETRY_MAX 3 (od none)), by decide +kernel⟩,
    ⟨(setf rDMA_CTRL fDMA_CTRL_RETRY_MAX 3 (od (some (rr none 0)))), ((some (rr none 0)).getD (rr none 1)), by decide +kernel⟩,
    ⟨(setf rDMA_CTRL fDMA_CTRL_RETRY_MAX 3 (od (some (rr (some 0x12345678) 0)))), ((some (rr (some 0x12345678) 0)).getD (rr none 1)), 0x12345678, by decide +kernel⟩,
    ⟨(setf rDMA_CTRL fDMA_CTRL_RETRY_MAX 3 (od (some (rr (some 0x12345678) 7)))), ((some (rr (some 0x12345678) 7)).getD (rr none 1)), 0x12345678, by decide +kernel⟩,
    ⟨sA, by unfold BltIdle; decide +kernel⟩,
    ⟨bz, by decide +kernel⟩,
    ⟨(yt 0 [hd 1 2 6, 0x1234, 0x12345]), 1, 0, 6, 0x1234, 0x12345, by unfold AtCommand PlainMain; decide +kernel⟩,
    ⟨(yt 0 [hd 3 2 5, 0xFFFF1234, 0x12345]), 0, 5, 0xFFFF1234, 0x12345, by unfold AtCommand PlainMain; decide +kernel⟩,
    ⟨(yt 0 [hd 4 3 0, 0x10002, 0x30004, 0x50006] big), 4, 0, 0, 0x10002, 0x30004, 0x50006, by unfold AtCommand PlainMain; decide +kernel⟩,
    ⟨(yt 2 [hd 7 0 77]), 2, 77, by unfold AtCommand PlainMain; decide +kernel⟩,
    ⟨(yt 2 [hd 8 1 77, 3]), 2, 77, 3, by unfold AtCommand PlainMain; decide +kernel⟩,
    ⟨(yt 3 [hd 0x3F 0 77]), 3, 77, by unfold AtCommand PlainMain; decide +kernel⟩,
    ⟨(yt 2 [hd (9,0).1 (9,0).2 77]), 2, (9,0).1, (9,0).2, 77, by unfold AtCommand PlainMain; decide +kernel⟩,
    ⟨1, (yt 2 [hd (7,0).1 (7,0).2 77]), 2, (7,0).1, (7,0).2, 77, by unfold AtCommand PlainMain; decide +kernel⟩,
    ⟨sA, by decide +kernel⟩,
    ⟨yt 2 [hd 1 2 5, 0x1234, 0x12345], 2, 5, 0x1234, 0x12345, (ytFormats[5]?).getD 0, by unfold AtCommand PlainMain; decide +kernel⟩,
    ⟨md (fun d => d.wr (rCKG_BR 25) 0) sA, by decide +kernel⟩⟩

end T16b

/-! ### States that meet the premises of the clauses of chapter 17 -/

namespace T17

def s0 : State := up (mk [(rPMU_BOOT_MS, 0xFFFFFF), (rBTU_RATE, 0x555555)])
def on (ps : List Nat) (s : State) : State := ps.foldl (fun s p => setf (rPMU_PIER_STATUS p) fPMU_PIER_STATUS_STATE 0 s) s
def reg (l : List (Nat × Nat)) (s : State) : State := md (fun d => l.foldl (fun d p => d.wr p.1 p.2) d) s
def sA := reg [(rAUD_CTRL, 0x800000)] (on (List.range 40) s0)
def vo (st : Nat) (s : State) := md (fun d => d.setVoice 40 { Voice.off with st := st, t := 5, pos := 999 }) s
def tn := reg [(rAUD_VOICE_CTRL 40, 0x800000), (rAUD_MON_CTRL 2, 0xA80000), (rAUD_VOICE_GAIN 40, 77)] sA
def bd := reg [(rAUD_VOICE_CTRL 40, 0x000000)] sA
def en (f : State → State) := md (fun d => { d with btu := { d.btu with e := 20972 } }) (f tn)
def ar := reg [(rAUD_MON_RESULT 2, 0x800123)] tn
def pl := reg [(rAUD_HPH_STATUS 1, 0xA00000)] tn
def idn := md (fun d => { d with aud := { d.aud with ident := [1], drive := [none, some (1,2)] } }) tn
def far := md (fun d => { d with btu := { d.btu with e := 20957 } }) tn

theorem test_premises_VoicesJacksAndMonitors :
    (∃ (s : State) (k : Fin 6) (v : Reg) (n : Nat), v.toNat = 2 ^ (n % 24) ∧ n / 24 = k.val ∧ n < 128 ∧ s.dev.pier 28 = 0 ∧ s.dev.pwr.entering = [] ∧
      s.dev.aud.voices.length = 128 ∧ s.dev.rd (rAUD_VSTART k) = 0 ∧ 64 ≤ s.dev.audLeft ∧ s.dev.audOn = true ∧ s.dev.badVoice n = false) ∧
    (∃ (s : State) (k : Fin 6) (v : Reg) (n : Nat), v.toNat = 2 ^ (n % 24) ∧ n / 24 = k.val ∧ n < 128 ∧ s.dev.pier 28 = 0 ∧ s.dev.pwr.entering = [] ∧
      s.dev.aud.voices.length = 128 ∧ s.dev.rd (rAUD_VSTART k) = 0 ∧ 64 ≤ s.dev.audLeft ∧ s.dev.audOn = true ∧ s.dev.badVoice n = true) ∧
    (∃ (s : State) (k : Fin 6) (v : Reg) (n : Nat), v.toNat = 2 ^ (n % 24) ∧ n / 24 = k.val ∧ n < 128 ∧ s.dev.pier 28 = 0 ∧ s.dev.pwr.entering = [] ∧
      s.dev.aud.voices.length = 128 ∧ s.dev.rd (rAUD_VSTART k) = 0 ∧ s.dev.audLeft < 64) ∧
    (∃ (s : State) (k : Fin 6) (v : Reg) (n : Nat), v.toNat = 2 ^ (n % 24) ∧ n / 24 = k.val ∧ n < 128 ∧ s.dev.pier 28 = 0 ∧ s.dev.pwr.entering = [] ∧
      s.dev.aud.voices.length = 128 ∧ s.dev.rd (rAUD_VSTOP k) = 0 ∧ s.dev.audLeft < 64) ∧
    (∃ (s : State) (k : Fin 6) (v : Reg) (n : Nat), v.toNat = 2 ^ (n % 24) ∧ n / 24 = k.val ∧ n < 128 ∧ s.dev.pier 28 = 0 ∧ s.dev.pwr.entering = [] ∧
      s.dev.aud.voices.length = 128 ∧ s.dev.rd (rAUD_VSTOP k) = 0 ∧ 64 ≤ s.dev.audLeft ∧ (s.dev.voice n).st = 0) ∧
    (∃ (s : State) (k : Fin 6) (v : Reg) (n : Nat), v.toNat = 2 ^ (n % 24) ∧ n / 24 = k.val ∧ n < 128 ∧ s.dev.pier 28 = 0 ∧ s.dev.pwr.entering = [] ∧
      s.dev.aud.voices.length = 128 ∧ s.dev.rd (rAUD_VSTOP k) = 0 ∧ 64 ≤ s.dev.audLeft ∧ (s.dev.voice n).st ≠ 0 ∧ (s.dev.voice n).st ≠ 4 ∧
      s.dev.fld (rAUD_VOICE_ENV n) fAUD_VOICE_ENV_R = 0) ∧
    (∃ (s : State) (k : Fin 6) (v : Reg) (n : Nat), v.toNat = 2 ^ (n % 24) ∧ n / 24 = k.val ∧ n < 128 ∧ s.dev.pier 28 = 0 ∧ s.dev.pwr.entering = [] ∧
      s.dev.aud.voices.length = 128 ∧ s.dev.rd (rAUD_VSTOP k) = 0 ∧ 64 ≤ s.dev.audLeft ∧ (s.dev.voice n).st ≠ 0 ∧ (s.dev.voice n).st ≠ 4 ∧
      s.dev.fld (rAUD_VOICE_ENV n) fAUD_VOICE_ENV_R ≠ 0 ∧ (s.dev.envSettle n (s.dev.voice n)).st ≠ 0) ∧
    (∃ (s : State), s.dev.aud.gains.length = 147) ∧
    (∃ (s : State), s.dev.aud.bus.length = 16) ∧
    (∃ (s : State), let n := s.dev.audIndex s.dev.btu.e; s.dev.gated 24 = false ∧ n ≠ s.dev.aud.n ∧ s.dev.aud.voices.length = 128 ∧
      s.dev.audOn = false ∧ s.dev.aud.pend = []) ∧
    (∃ (s : State), let n := s.dev.audIndex s.dev.btu.e; s.dev.gated 24 = false ∧ n ≠ s.dev.aud.n ∧ s.dev.aud.voices.length = 128 ∧ s.dev.audOn = true ∧
      s.dev.aud.pend = []) ∧
    (∃ (s : State) (m : Fin 8), let a := rAUD_MON_RESULT m; s.dev.flag a fAUD_MON_RESULT_ARMED = false) ∧
    (∃ (s : State) (m : Fin 8), let a := rAUD_MON_RESULT m; s.dev.flag a fAUD_MON_RESULT_ARMED = true) ∧
    (∃ (s : State) (j : Fin 2), let st := rAUD_HPH_STATUS j; s.dev.flag st fAUD_HPH_STATUS_PLUGGED = true) ∧
    (∃ (s : State) (j : Fin 2), let st := rAUD_HPH_STATUS j; s.dev.flag st fAUD_HPH_STATUS_PLUGGED = false ∧ s.dev.pier 28 = 0 ∧
      s.dev.pwr.entering = []) ∧
    (∃ (s : State) (j : Fin 2), s.dev.aud.ident.contains j.val = false) ∧
    (∃ (s : State) (j : Fin 2), s.dev.aud.ident.contains j.val = true) ∧
    (∃ (s : State) (j : Fin 2), let st := rAUD_HPH_STATUS j; s.dev.flag st fAUD_HPH_STATUS_PLUGGED = false ∧ s.dev.aud.ident.contains j.val = false) ∧
    (∃ (s : State) (j : Fin 2), let st := rAUD_HPH_STATUS j; ((s.dev.flag st fAUD_HPH_STATUS_PLUGGED = true ∨ s.dev.aud.ident.contains j.val = true))) ∧
    (∃ (s : State) (j : Fin 2), let st := rAUD_HPH_STATUS j; ((s.dev.fld st fAUD_HPH_STATUS_ACC ≠ 2 ∧
      s.dev.fld st fAUD_HPH_STATUS_ACC ≠ 3) ∨ s.dev.flag (rAUD_HPH_DET j) fAUD_HPH_DET_BTN_EN = false)) ∧
    (∃ (s : State) (j : Fin 2), let st := rAUD_HPH_STATUS j; ((s.dev.fld st fAUD_HPH_STATUS_ACC = 2 ∨ s.dev.fld st fAUD_HPH_STATUS_ACC = 3)) ∧
      s.dev.flag (rAUD_HPH_DET j) fAUD_HPH_DET_BTN_EN = true) ∧
    (∃ (d : Dev) (j : Nat) (k : Nat) (i : Nat), let thr (n : Nat) : Nat := d.rd (rAUD_HPH_BTN_THR j n); thr 0 ≤ thr 1 ∧ thr 1 ≤ thr 2 ∧ thr 2 ≤ thr 3 ∧
      k < 4 ∧ (thr k ≤ i ∧ (k = 3 ∨ i < thr (k + 1)))) ∧
    (∃ (d : Dev) (j : Nat) (k : Nat) (i : Nat), let thr (n : Nat) : Nat := d.rd (rAUD_HPH_BTN_THR j n); thr 0 ≤ thr 1 ∧ thr 1 ≤ thr 2 ∧ thr 2 ≤ thr 3 ∧
      k < 4 ∧ i < thr 0) ∧
    (∃ (s : State) (v : Nat), s.dev.gated 24 = false ∧ s.dev.audIndex s.dev.btu.e ≠ s.dev.aud.n ∧ s.dev.aud.voices.length = 128 ∧ s.dev.audOn = true ∧
      s.dev.aud.pend = [(true, v)] ∧ v < 128 ∧ s.dev.fld (rAUD_VOICE_CTRL v) fAUD_VOICE_CTRL_TYPE = 2) ∧
    (∃ (s : State), s.dev.gated 24 = true) :=
  ⟨⟨tn, 1, 0x10000, 40, by decide +kernel⟩,
    ⟨bd, 1, 0x10000, 40, by decide +kernel⟩,
    ⟨far, 1, 0x10000, 40, by decide +kernel⟩,
    ⟨far, 1, 0x10000, 40, by decide +kernel⟩,
    ⟨tn, 1, 0x10000, 40, by decide +kernel⟩,
    ⟨(vo 3 tn), 1, 0x10000, 40, by decide +kernel⟩,
    ⟨((vo 3) (reg [(rAUD_VOICE_ENV 40, 0x3F)] tn)), 1, 0x10000, 40, by decide +kernel⟩,
    ⟨tn, by decide +kernel⟩,
    ⟨tn, by decide +kernel⟩,
    ⟨(en (reg [(rAUD_CTRL, 0)])), by decide +kernel⟩,
    ⟨(en id), by decide +kernel⟩,
    ⟨tn, 2, by decide +kernel⟩,
    ⟨ar, 2, by decide +kernel⟩,
    ⟨pl, 1, by decide +kernel⟩,
    ⟨tn, 1, by decide +kernel⟩,
    ⟨tn, 1, by decide +kernel⟩,
    ⟨idn, 1, by decide +kernel⟩,
    ⟨tn, 1, by decide +kernel⟩,
    ⟨pl, 1, by decide +kernel⟩,
    ⟨tn, 1, by decide +kernel⟩,
    ⟨pl, 1, by decide +kernel⟩,
    ⟨tn.dev, 1, 0, 100, by decide +kernel⟩,
    ⟨tn.dev, 1, 0, 99, by decide +kernel⟩,
    ⟨en (md fun d => { d with aud := { d.aud with pend := [(true, 40)] } }), 40, by decide +kernel⟩,
    ⟨md (fun d => d.wr (rCKG_BR 24) 0) (en id), by decide +kernel⟩⟩

end T17

/-! ### States that meet the premises of the clauses of chapter 18 -/

namespace T18

def s0 : State := up (mk [(rPMU_BOOT_MS, 0xFFFFFF), (rBTU_RATE, 0x555555), (rPMU_STRAPS, 1 * 2^19)])
def on (ps : List Nat) (s : State) : State := ps.foldl (fun s p => setf (rPMU_PIER_STATUS p) fPMU_PIER_STATUS_STATE 0 s) s
def reg (l : List (Nat × Nat)) (s : State) : State := md (fun d => l.foldl (fun d p => d.wr p.1 p.2) d) s
def sA := on (List.range 40) s0
def tr := go (execWrnEnWrite 1 0x81FF00) sA
def upL := go (execWrnTrained 1 3 1 0x1FF 0x1FF) tr
def pt (f : Wrn → Wrn) (s : State) := md (fun d => d.modPort 1 f) s
def bz := pt (fun x => { x with rxSeq := 77, txSeq := 5, replay := [⟨4, 5, 3, false, 2^18 + 9, [7], 0⟩], reads := [⟨9, 33, 5, none⟩, ⟨8, 34, 5, none⟩], down := [(65, 9, none)], nakRun := (5, 3), echo := some (0x123456789A, 0), cmd := [1,2,3] }) upL
def sw := pt (fun x => { x with swap := some (true, 5) }) bz
def sv := go (execLaneSwapDone 1) sw
def bs3 := md (fun d => d.modSpan 3 (fun x => { x with busy := some [5,1] })) bz
def h1 : CellHead := ⟨78, 3, false, true, false⟩
def h2 : CellHead := ⟨79, 3, false, true, false⟩
def h3 : CellHead := ⟨78, 3, false, false, false⟩
def n7 := pt (fun x => { x with naks := 7 }) bz
def nk := pt (fun x => { x with nakRun := (5, 7), bad := true }) bz
def w4 (l : Nat) : List Word := [0x1234, 0x99, 50, BitVec.ofNat 48 (l * 2^40 + 7 * 2^33)]
def ms := reg [(rWRN_SUCC 0, 0x65), (rWRN_SUCC 1, 0x65), (rWRN_SUCC 2, 0x65)] bz
def rxs := reg [(rWRN_RX 1 4, 0x800005)] bz
def c1 : BitVec 20 := BitVec.ofNat 20 (4 * 2^15 + 2^14)
def ex := md (fun d => { d with mem := { d.mem with exBusy := false, exch := [(9, 77), (12, 5)] } }) bz
def st := reg [(rWRN_TX_W 1 3, 640), (rWRN_TX_H 1 3, 200), (rWRN_TX_Y0 1 3, 5), (rOUT_CTRL 2, 0x200000)] bz
def q := go (execMemCell 1 h1 0x40009 5) ex
def q5 (rr : Bool) : Packet := ⟨.peer 1 3 0, 0, rr, false, false, 0, 0, 0x123, 4, 0, [0x5000000, 1, 0x6000000, 2]⟩
def ot (who : Nat) := pt (fun x => { x with reads := [⟨9, 33, who, none⟩] }) ex
def gd := pt (fun x => { x with down := [(65, 9, none)] }) (go (execWrnLinkDown 1) bz)

theorem test_premises_LinksCarryCells :
    (∃ (s : State) (p : Fin 3) (v : Reg), SlotSettled s.dev ∧ natBit v.toNat 23 = true ∧ s.dev.flag (rWRN_CTRL p) fWRN_CTRL_EN = false ∧
      s.dev.pier (30 + p) = 0 ∧ s.dev.pwr.entering = [] ∧ s.dev.wrn.length = 3) ∧
    (∃ (s : State) (p : Fin 3) (v : Reg), SlotSettled s.dev ∧ natBit v.toNat 23 = true ∧ s.dev.flag (rWRN_CTRL p) fWRN_CTRL_EN = true) ∧
    (∃ (s : State) (v : Reg), SlotSettled s.dev ∧ natBit v.toNat 23 = false) ∧
    (∃ (s : State) (p : Fin 3), let a := rWRN_STATUS p; SlotSettled s.dev ∧ s.dev.fld a fWRN_STATUS_STATE ≠ 2 ∧ (s.dev.fld a fWRN_STATUS_STATE ≠ 1 ∨ s.dev.awake (30 + p) = false)) ∧
    (∃ (s : State) (p : Fin 3) (peer : Fin 4) (port : Fin 3), let a := rWRN_STATUS p; SlotSettled s.dev ∧ s.dev.fld a fWRN_STATUS_STATE = 1 ∧ s.dev.awake (30 + p) = true ∧ (peer.val ≠ (s.dev.devNum + p + 1) % 4 ∨ port.val ≠ 2 - p.val)) ∧
    (∃ (s : State) (p : Fin 3) (peer : Fin 4) (port : Fin 3) (tx : BitVec 9) (rx : BitVec 9), let a := rWRN_STATUS p; SlotSettled s.dev ∧ s.dev.fld a fWRN_STATUS_STATE = 1 ∧ s.dev.awake (30 + p) = true ∧ peer.val = (s.dev.devNum + p + 1) % 4 ∧ port.val = 2 - p.val ∧ tx = 0x1FF ∧ rx = 0x1FF ∧ s.dev.flt.retired = [] ∧ s.dev.fld (rWRN_LANES_TX p) fWRN_LANES_TX_SPARE_FOR = 0xF ∧ s.dev.fld (rWRN_LANES_RX p) fWRN_LANES_RX_SPARE_FOR = 0xF) ∧
    (∃ (s : State) (p : Fin 3), let a := rWRN_STATUS p; SlotSettled s.dev ∧ s.dev.flag (rWRN_CTRL p) fWRN_CTRL_EN = true ∧ s.dev.fld a fWRN_STATUS_STATE ≠ 2) ∧
    (∃ (s : State) (p : Fin 3), let a := rWRN_STATUS p; SlotSettled s.dev ∧ (s.dev.flag (rWRN_CTRL p) fWRN_CTRL_EN = false ∨ s.dev.fld a fWRN_STATUS_STATE = 2)) ∧
    (∃ (s : State) (p : Fin 3), s.dev.linkUp p = false) ∧
    (∃ (s : State) (p : Fin 3), s.dev.linkUp p = true ∧ s.dev.wrn.length = 3 ∧ s.dev.talk.fwd = []) ∧
    (∃ (s : State) (p : Fin 3), s.dev.flag (rWRN_CTRL p) fWRN_CTRL_EN = false) ∧
    (∃ (s : State) (p : Fin 3), s.dev.flag (rWRN_CTRL p) fWRN_CTRL_EN = true) ∧
    (∃ (s : State) (p : Fin 3) (v : Reg), let dir := natBits v.toNat 22 1; let lane := v.toNat % 16; let l := laneReg p dir; let bad := s.dev.linkUp p = false ∨ 8 ≤ lane ∨ s.dev.fld l fWRN_LANES_TX_SPARE_FOR ≠ 0xF; bad) ∧
    (∃ (s : State) (p : Fin 3) (v : Reg), let dir := natBits v.toNat 22 1; let lane := v.toNat % 16; let l := laneReg p dir; let bad := s.dev.linkUp p = false ∨ 8 ≤ lane ∨ s.dev.fld l fWRN_LANES_TX_SPARE_FOR ≠ 0xF; ¬ bad ∧ s.dev.wrn.length = 3 ∧ s.dev.flt.spans.length = 4 ∧ (s.dev.span 3).busy = none ∧ (s.dev.port p).swap = none) ∧
    (∃ (s : State) (p : Fin 3) (v : Reg), let dir := natBits v.toNat 22 1; let lane := v.toNat % 16; let l := laneReg p dir; let bad := s.dev.linkUp p = false ∨ 8 ≤ lane ∨ s.dev.fld l fWRN_LANES_TX_SPARE_FOR ≠ 0xF; ¬ bad ∧ s.dev.wrn.length = 3 ∧ s.dev.flt.spans.length = 4 ∧ ((s.dev.span 3).busy.isSome = true ∨ (s.dev.port p).swap.isSome = true)) ∧
    (∃ (s : State) (p : Fin 3), (s.dev.port p).swap = none ∧ SlotSettled s.dev) ∧
    (∃ (s : State) (p : Fin 3), s.dev.linkUp p = false ∧ s.dev.fld (rWRN_STATUS p) fWRN_STATUS_STATE ≠ 1) ∧
    (∃ (s : State) (p : Fin 3) (h : CellHead), let next := ((s.dev.port p).rxSeq + 1) % 4096; s.dev.linkUp p = true ∧ ((h.crcOk = false ∨ h.reserved = true ∨ h.seq.toNat ≠ next)) ∧ s.dev.wrn.length = 3 ∧ (s.dev.port p).bad = true ∧ h.seq.toNat ≠ next) ∧
    (∃ (s : State) (p : Fin 3) (h : CellHead), let next := ((s.dev.port p).rxSeq + 1) % 4096; s.dev.linkUp p = true ∧ ((h.crcOk = false ∨ h.reserved = true ∨ h.seq.toNat ≠ next)) ∧ s.dev.wrn.length = 3 ∧ ((s.dev.port p).bad = false ∨ h.seq.toNat = next) ∧ 7 ≤ (s.dev.port p).naks ∧ s.dev.talk.fwd = []) ∧
    (∃ (s : State) (p : Fin 3) (h : CellHead), let next := ((s.dev.port p).rxSeq + 1) % 4096; s.dev.linkUp p = true ∧ ((h.crcOk = false ∨ h.reserved = true ∨ h.seq.toNat ≠ next)) ∧ s.dev.wrn.length = 3 ∧ ((s.dev.port p).bad = false ∨ h.seq.toNat = next) ∧ (s.dev.port p).naks < 7) ∧
    (∃ (s : State) (p : Fin 3), s.dev.linkUp p = false) ∧
    (∃ (s : State) (p : Fin 3) (ack : BitVec 12), let x := s.dev.port p; let run := if x.nakRun.2 ≠ 0 ∧ x.nakRun.1 = ack.toNat then x.nakRun.2 + 1 else 1; s.dev.linkUp p = true ∧ s.dev.wrn.length = 3 ∧ run < 8) ∧
    (∃ (s : State) (p : Fin 3) (ack : BitVec 12), let x := s.dev.port p; let run := if x.nakRun.2 ≠ 0 ∧ x.nakRun.1 = ack.toNat then x.nakRun.2 + 1 else 1; s.dev.linkUp p = true ∧ s.dev.wrn.length = 3 ∧ 8 ≤ run ∧ s.dev.talk.fwd = []) ∧
    (∃ (s : State) (p : Fin 3) (h : CellHead), s.dev.linkUp p = false ∧ s.dev.fld (rWRN_STATUS p) fWRN_STATUS_STATE = 1 ∧ s.dev.awake (30 + p) = true ∧
      h.crcOk = true ∧ h.reserved = false ∧ s.dev.wrn.length = 3) ∧
    (∃ (s : State) (p : Fin 3) (h : CellHead), GoodCell s.dev p h) ∧
    (∃ (s : State) (p : Fin 3) (h : CellHead) (rx : Bool), let l := laneReg p rx.toNat; GoodCell s.dev p h ∧ s.dev.fld l fWRN_LANES_TX_SPARE_FOR = 0xF ∧ (s.dev.port p).swap = none) ∧
    (∃ (s : State) (p : Fin 3) (h : CellHead) (rx : Bool), let l := laneReg p rx.toNat; GoodCell s.dev p h ∧ s.dev.fld l fWRN_LANES_TX_SPARE_FOR ≠ 0xF) ∧
    (∃ (s : State) (p : Fin 3) (h : CellHead), GoodCell s.dev p h ∧ s.dev.talk.fwd = []) ∧
    (∃ (s : State) (p : Fin 3), s.dev.linkUp p = false) ∧
    (∃ (s : State) (p : Fin 3), s.dev.linkUp p = true ∧ s.dev.wrn.length = 3) ∧
    (∃ (s : State) (p : Fin 3) (h : CellHead), s.dev.linkUp p = true ∧ h.reserved = false ∧ h.crcOk = false) ∧
    (∃ (s : State) (p : Fin 3) (h : CellHead) (ws : List Word), s.dev.linkUp p = true ∧ h.reserved = false ∧ h.crcOk = true ∧ h.nak = false ∧
      s.dev.wrn.length = 3 ∧ natBits (ws.getD 3 0).toNat 40 8 ≠ s.dev.fld (rWRN_SUCC p) fWRN_SUCC_LIST) ∧
    (∃ (s : State) (p : Fin 3) (h : CellHead) (ws : List Word), s.dev.linkUp p = true ∧ h.reserved = false ∧ h.crcOk = true ∧ h.nak = false ∧
      s.dev.wrn.length = 3 ∧ s.dev.master = s.dev.devNum ∧ ((∀ k < 3, k ≠ p.val → s.dev.linkUp k = false)) ∧ s.dev.succList.head? = some s.dev.devNum ∧
      natBits (ws.getD 3 0).toNat 40 8 = s.dev.fld (rWRN_SUCC p) fWRN_SUCC_LIST) ∧
    (∃ (s : State), s.dev.wrn.length = 3) ∧
    (∃ (d : Dev) (before : List Nat) (after : List Nat) (m : Nat), d.succList = before ++ m :: after ∧ d.reaches m = true ∧
      ((∀ k ∈ before, d.reaches k = false))) ∧
    (∃ (s : State) (p : Fin 3) (h : CellHead) (cls : BitVec 20), let str := natBits cls.toNat 15 5; GoodCell s.dev p h ∧ PlainMain s.dev ∧ s.dev.flag (rWRN_RX p str) fWRN_RX_EN = false) ∧
    (∃ (s : State) (p : Fin 3) (h : CellHead) (cls : BitVec 20) (ws : List Word) (w : Nat), let str := natBits cls.toNat 15 5; let w1 := (ws.getD 0 0).toNat; let row := natBits w1 0 13; let base := s.dev.fld (rWRN_RX p str) fWRN_RX_SLAB * 0x1000 + row % 8 * 4096; GoodCell s.dev p h ∧ PlainMain s.dev ∧ s.dev.flag (rWRN_RX p str) fWRN_RX_EN = true ∧ natBit cls.toNat 14 = true ∧ natBits cls.toNat 0 14 = 0 ∧ ws.length = 9 ∧ w ≤ 8 ∧ base + 4096 ≤ 0x1000000) ∧
    (∃ (s : State) (p : Fin 3) (h : CellHead) (cls : BitVec 20), GoodCell s.dev p h ∧ natBit cls.toNat 18 = false) ∧
    (∃ (s : State) (p : Fin 3) (h : CellHead) (cls : BitVec 20), let op := natBits cls.toNat 18 2; GoodCell s.dev p h ∧ s.dev.mem.exBusy = false ∧ s.dev.mem.exchErr = [] ∧ s.dev.pier 34 = 0 ∧ s.dev.pier 39 = 0 ∧ s.dev.pwr.entering = [] ∧ op = 0) ∧
    (∃ (s : State) (p : Fin 3) (h : CellHead) (cls : BitVec 20), let op := natBits cls.toNat 18 2; let w := natBits cls.toNat 0 12; GoodCell s.dev p h ∧ s.dev.mem.exBusy = false ∧ s.dev.mem.exchErr = [] ∧ s.dev.pier 34 = 0 ∧ s.dev.pier 39 = 0 ∧ s.dev.pwr.entering = [] ∧ op = 1 ∧ 171 ≤ w) ∧
    (∃ (s : State) (p : Fin 3) (h : CellHead) (cls : BitVec 20), let x := (s.dev.port p).took h; let op := natBits cls.toNat 18 2; GoodCell s.dev p h ∧ s.dev.mem.exBusy = false ∧ s.dev.mem.exchErr = [] ∧ s.dev.pier 34 = 0 ∧ s.dev.pier 39 = 0 ∧ s.dev.pwr.entering = [] ∧ 2 ≤ op ∧ (∀ r ∈ x.reads, r.who < peerFabric)) ∧
    (∃ (s : State) (p : Fin 3), s.dev.wrn.length = 3 ∧ (∀ r ∈ (s.dev.port p).reads, r.who < peerFabric)) ∧
    (∃ (s : State) (p : Fin 3) (str : Fin 32) (v : Reg), let n := natBits v.toNat 20 3; let w := s.dev.rd (rWRN_TX_W p str); let h := s.dev.rd (rWRN_TX_H p str); let fits := 0 < w ∧ w ≤ 4096 ∧ 0 < h ∧ v.toNat % 8192 + w ≤ (s.dev.mode n).ha ∧ s.dev.rd (rWRN_TX_Y0 p str) + h ≤ (s.dev.mode n).va; ¬ fits) ∧
    (∃ (s : State) (p : Fin 3) (str : Fin 32) (v : Reg), let n := natBits v.toNat 20 3; let w := s.dev.rd (rWRN_TX_W p str); let h := s.dev.rd (rWRN_TX_H p str); let fits := 0 < w ∧ w ≤ 4096 ∧ 0 < h ∧ v.toNat % 8192 + w ≤ (s.dev.mode n).ha ∧ s.dev.rd (rWRN_TX_Y0 p str) + h ≤ (s.dev.mode n).va; fits ∧ ((∀ t < 32, t ≠ str.val → s.dev.flag (rWRN_TX_CTRL p t) fWRN_TX_CTRL_EN = false)) ∧ cellsOfRow w * 4125 * 10 * (s.dev.outHz n * (s.dev.mode n).v) ≤ 8 * 1000000000000) ∧
    (∃ (s : State) (p : Fin 3), (s.dev.port p).down = []) ∧
    (∃ (s : State) (p : Fin 3), (s.dev.port p).down ≠ [] ∧ s.dev.flag (rWRN_CTRL p) fWRN_CTRL_PEER_LOST_EN = false) ∧
    (∃ (s : State) (p : Fin 3) (rx : Bool) (lane : Nat), (s.dev.port p).swap = some (rx, lane) ∧ SlotSettled s.dev ∧ lane < 8 ∧ s.dev.wrn.length = 3) ∧
    (∃ (s : State) (p : Fin 3) (h : CellHead) (tx' rx' : BitVec 9), GoodCell s.dev p h ∧ 8 ≤ popCount 9 tx'.toNat ∧ 8 ≤ popCount 9 rx'.toNat) ∧
    (∃ (s : State) (p : Fin 3) (h : CellHead) (tx' rx' : BitVec 9), GoodCell s.dev p h ∧ (popCount 9 tx'.toNat < 8 ∨ popCount 9 rx'.toNat < 8) ∧
      s.dev.talk.fwd = []) ∧
    (∃ (s : State) (p : Fin 3) (h : CellHead), GoodCell s.dev p h ∧ (s.dev.span 3).queue = []) ∧
    (∃ (s : State) (p : Fin 3) (h : CellHead) (cls : BitVec 20) (m : Nat), let x := (s.dev.port p).took h; let op := natBits cls.toNat 18 2; let w := natBits cls.toNat 0 12; let t := natBits cls.toNat 12 6; GoodCell s.dev p h ∧ s.dev.mem.exBusy = false ∧ s.dev.mem.exchErr = [] ∧ s.dev.pier 34 = 0 ∧ s.dev.pier 39 = 0 ∧ s.dev.pwr.entering = [] ∧ op = 2 ∧ x.reads = [⟨t, w, peerFabric + m, none⟩]) ∧
    (∃ (s : State) (p : Fin 3) (h : CellHead) (cls : BitVec 20) (ws : List Word) (mark : BitVec 5) (op : Nat) (q : Packet), let d := s.dev.modPort p (fun x => { x.took h with cmd := [] }); let all := (if natBit cls.toNat 19 then [] else (s.dev.port p).cmd) ++ ws.take (min 9 (cls.toNat % 16)); GoodCell s.dev p h ∧ natBit cls.toNat 18 = true ∧ all = (reqOf q op).words ∧ natBit (Packet.w0 q op) 32 = false ∧ q.ep = .peer p (mark.toNat % 4) (natBits mark.toNat 2 2) ∧ d.takes q.ep = true ∧ IsPacketRow op .trsAdd ∧ (d.packet op q).talk.bell = false) ∧
    (∃ (s : State) (p : Fin 3) (h : CellHead) (cls : BitVec 20) (ws : List Word) (mark : BitVec 5) (op : Nat) (q : Packet), let d := s.dev.modPort p (fun x => { x.took h with cmd := [] }); let all := (if natBit cls.toNat 19 then [] else (s.dev.port p).cmd) ++ ws.take (min 9 (cls.toNat % 16)); GoodCell s.dev p h ∧ natBit cls.toNat 18 = true ∧ all = (reqOf q op).words ∧ natBit (Packet.w0 q op) 32 = false ∧ q.ep = .peer p (mark.toNat % 4) (natBits mark.toNat 2 2) ∧ d.takes q.ep = true ∧ op = 0x280 ∧ IsOn d 2 ∧ d.upd.hand = none ∧ d.pwr.stage ≠ 4 ∧ d.talk.bell = false ∧ q.rr = false ∧ mark.toNat % 4 = 3 ∧ d.check (reqOf q op) = none ∧ s.dev.trs.entries.length + q.payload.length / 2 ≤ 65536) ∧
    (∃ (s : State) (p : Fin 3), let a := rWRN_STATUS p; SlotSettled s.dev ∧ s.dev.flag (rWRN_CTRL p) fWRN_CTRL_EN = true ∧ s.dev.fld a fWRN_STATUS_STATE ≠ 2 ∧ s.dev.awake (30 + p) = true ∧ s.dev.wrn.length = 3) :=
  ⟨⟨sA, 1, 0x8A1200, by unfold SlotSettled; decide +kernel⟩,
    ⟨tr, 1, 0x8A1200, by unfold SlotSettled; decide +kernel⟩,
    ⟨sA, 0x0A1200, by unfold SlotSettled; decide +kernel⟩,
    ⟨sA, 1, by unfold SlotSettled; decide +kernel⟩,
    ⟨tr, 1, 2, 1, by unfold SlotSettled; decide +kernel⟩,
    ⟨tr, 1, 3, 1, 0x1FF, 0x1FF, by unfold SlotSettled; decide +kernel⟩,
    ⟨tr, 1, by unfold SlotSettled; decide +kernel⟩,
    ⟨sA, 1, by unfold SlotSettled; decide +kernel⟩,
    ⟨sA, 1, by decide +kernel⟩,
    ⟨upL, 1, by decide +kernel⟩,
    ⟨sA, 1, by decide +kernel⟩,
    ⟨tr, 1, by decide +kernel⟩,
    ⟨sA, 1, 0x400005, by decide +kernel⟩,
    ⟨upL, 1, 0x400005, by decide +kernel⟩,
    ⟨bs3, 1, 0x400005, by decide +kernel⟩,
    ⟨sA, 1, by unfold SlotSettled; decide +kernel⟩,
    ⟨sA, 1, by decide +kernel⟩,
    ⟨nk, 1, h2, by decide +kernel⟩,
    ⟨n7, 1, h2, by decide +kernel⟩,
    ⟨bz, 1, h2, by decide +kernel⟩,
    ⟨sA, 1, by decide +kernel⟩,
    ⟨bz, 1, 5, by decide +kernel⟩,
    ⟨nk, 1, 5, by decide +kernel⟩,
    ⟨tr, 1, h1, by decide +kernel⟩,
    ⟨bz, 1, h1, by unfold GoodCell; decide +kernel⟩,
    ⟨bz, 1, h1, true, by unfold GoodCell; decide +kernel⟩,
    ⟨sv, 1, h1, true, by unfold GoodCell; decide +kernel⟩,
    ⟨bz, 1, h1, by unfold GoodCell; decide +kernel⟩,
    ⟨sA, 1, by decide +kernel⟩,
    ⟨bz, 1, by decide +kernel⟩,
    ⟨bz, 1, h3, by decide +kernel⟩,
    ⟨bz, 1, h1, (w4 0x65), by decide +kernel⟩,
    ⟨ms, 1, h1, (w4 0x65), by decide +kernel⟩,
    ⟨sA, by decide +kernel⟩,
    ⟨sA.dev, [0], [2,3], 1, by decide +kernel⟩,
    ⟨bz, 1, h1, c1, by unfold PlainMain GoodCell; decide +kernel⟩,
    ⟨rxs, 1, h1, c1, [BitVec.ofNat 48 (9*2^24 + 7*2^16 + 13),1,2,3,4,5,6,7,8], 8, by unfold PlainMain GoodCell; decide +kernel⟩,
    ⟨bz, 1, h1, 9, by unfold GoodCell; decide +kernel⟩,
    ⟨ex, 1, h1, 9, by unfold GoodCell; decide +kernel⟩,
    ⟨ex, 1, h1, 0x40209, by unfold GoodCell; decide +kernel⟩,
    ⟨ex, 1, h1, 0x89009, by unfold GoodCell; decide +kernel⟩,
    ⟨bz, 1, by decide +kernel⟩,
    ⟨bz, 1, 3, 0x200005, by decide +kernel⟩,
    ⟨st, 1, 3, 0x200000, by decide +kernel⟩,
    ⟨sA, 1, by decide +kernel⟩,
    ⟨gd, 1, by decide +kernel⟩,
    ⟨sw, 1, true, 5, by unfold SlotSettled; decide +kernel⟩,
    ⟨bz, 1, h1, 0x1FE, 0x1FF, by unfold GoodCell; decide +kernel⟩,
    ⟨bz, 1, h1, 0x1FE, 0x7F, by unfold GoodCell; decide +kernel⟩,
    ⟨bz, 1, h1, by unfold GoodCell; decide +kernel⟩,
    ⟨ot (peerFabric + 5), 1, h1, 0x89021, 5, by unfold GoodCell; decide +kernel⟩,
    ⟨bz, 1, h1, 0xC0006, (reqOf (q5 true) 0x280).words, 3, 0x280, q5 true, by unfold GoodCell; decide +kernel, by decide, by decide +kernel, by decide +kernel, by decide, by decide +kernel, by unfold IsPacketRow; simp, by decide +kernel⟩,
    ⟨bz, 1, h1, 0xC0006, (reqOf (q5 false) 0x280).words, 3, 0x280, q5 false, by unfold GoodCell IsOn; decide +kernel⟩,
    ⟨tr, 1, by unfold SlotSettled; decide +kernel⟩⟩

end T18

/-! ### States that meet the premises of the clauses of chapter 19 -/

namespace T19

def s0 : State := up (mk [(rPMU_BOOT_MS, 0xFFFFFF), (rBTU_RATE, 0x555555), (rPMU_STRAPS, 1 * 2^19), (rSEC_KEY 3, 0x123456)])
def reg (l : List (Nat × Nat)) (s : State) : State := md (fun d => l.foldl (fun d p => d.wr p.1 p.2) d) s
def pst (ps : List Nat) (v : Nat) (s : State) : State := ps.foldl (fun s p => setf (rPMU_PIER_STATUS p) fPMU_PIER_STATUS_STATE v s) s
def rich := md (fun d => { (d.mainWrite 5 77).mainWrite 0x10005 99 with talk := { d.talk with keys := [1,2,3] }, flt := { d.flt with retired := [(5,2)], flash := [[1,2,3,4]] }, mem := { ((d.mainWrite 5 77).mainWrite 0x10005 99).mem with exch := [(9,7)] } }) (reg [(rOUT_CTRL 2, 0xA00000), (rBLT_W, 55), (rAUD_CTRL, 0x800000), (rWRN_SUCC 1, 5), (rWRN_STATUS 1, 0x9E8000), (rPRP_CTRL, 0x123400), (rCAM_CTRL 3, 0x800000), (rDMA_CTRL, 1), (rLCC_CTRL 3, 5), (rTMR_CTRL 3, 5), (rMEM_DDR_CFG, 0x800000), (rPMU_PIER_CTRL 29, 0x323456), (rGPIO_WAKE 3, 0x800001), (rSEC_T_STATUS 2, 0x400000)] s0)
def lit := (md (fun d => d.setOutp 2 { d.outp 2 with st := 3, line := 1100, frame := 7 }) rich)
def pl := reg [(rCKG_PLL_STATUS 0, 1), (rCKG_PLL_STATUS 9, 1), (rPIPE_STATUS 5, 0x100000), (rCKG_STATUS, 1)] lit
def slp := pst [29, 28] 2 (pst [14, 26] 3 (pst [5] 1 lit))
def prk := pst ((List.range 38).map (2 + ·)) 2 s0
def cal (bt : Nat) (s : State) := md (fun d => { d with trs := { d.trs with entries := [⟨77, 255, bt, 0x20 * 2^36 + 9, 0, 0, false⟩] } }) s
def far := cal 0x0FFFFFFF
def mid := cal (100 * 1007)
def pw (f : Pwr → Pwr) (s : State) := md (fun d => { d with pwr := f d.pwr }) s

theorem test_premises_ResetsAndClocksAct :
    (∃ (v : Reg), let p := v.toNat % 64; 40 ≤ p) ∧
    (∃ (v : Reg), let p := v.toNat % 64; p = 0) ∧
    (∃ (v : Reg), let p := v.toNat % 64; p = 39) ∧
    (∃ (v : Reg), let p := v.toNat % 64; p ∈ [1, 3, 4] ++ (List.range 17).map (5 + ·) ++ (List.range 13).map (26 + ·)) ∧
    (∃ (v : Reg), let p := v.toNat % 64; p = 29) ∧
    (∃ (v : Reg), let p := v.toNat % 64; 22 ≤ p ∧ p ≤ 25) ∧
    (∃ (s : State), s.dev.pwr.stage ≠ 0) ∧
    (∃ (s : State), s.dev.pwr.stage = 0) ∧
    (∃ (s : State), s.dev.pwr.stage ≠ 1) ∧
    (∃ (s : State), s.dev.pwr.stage = 1) ∧
    (∃ (s : State) (q : Fin 13), let a := rCKG_PLL_STATUS q; q.val < 4 ∧ s.dev.flag a fCKG_PLL_STATUS_LOCK = false) ∧
    (∃ (s : State) (q : Fin 13), let a := rCKG_PLL_STATUS q; q.val < 4 ∧ s.dev.flag a fCKG_PLL_STATUS_LOCK = true) ∧
    (∃ (s : State) (q : Fin 13), let a := rCKG_PLL_STATUS q; 4 ≤ q.val ∧ s.dev.flag a fCKG_PLL_STATUS_LOCK = false ∧ s.dev.flag (rPIPE_STATUS (q - 4)) fPIPE_STATUS_PLL_LOCK = false) ∧
    (∃ (s : State) (q : Fin 13), let a := rCKG_PLL_STATUS q; 4 ≤ q.val ∧ (s.dev.flag a fCKG_PLL_STATUS_LOCK = true ∨ s.dev.flag (rPIPE_STATUS (q - 4)) fPIPE_STATUS_PLL_LOCK = true)) ∧
    (∃ (q : Fin 13), q.val < 4) ∧
    (∃ (q : Fin 13), 4 ≤ q.val ∧ q.val ≠ 12) ∧
    (∃ (v : Reg), let p := v.toNat % 64; p = 2) :=
  ⟨⟨40, by decide +kernel⟩,
    ⟨0, by decide +kernel⟩,
    ⟨39, by decide +kernel⟩,
    ⟨3, by decide +kernel⟩,
    ⟨29, by decide +kernel⟩,
    ⟨22, by decide +kernel⟩,
    ⟨(md (fun d => { d with pwr := { d.pwr with stage := 1 } }) rich), by decide +kernel⟩,
    ⟨(md (fun d => { d with pwr := { d.pwr with stage := 0 } }) rich), by decide +kernel⟩,
    ⟨(md (fun d => { d with pwr := { d.pwr with stage := 0 } }) rich), by decide +kernel⟩,
    ⟨(md (fun d => { d with pwr := { d.pwr with stage := 1 } }) rich), by decide +kernel⟩,
    ⟨rich, 0, by decide +kernel⟩,
    ⟨pl, 0, by decide +kernel⟩,
    ⟨rich, 4, by decide +kernel⟩,
    ⟨pl, 9, by decide +kernel⟩,
    ⟨0, by decide +kernel⟩,
    ⟨4, by decide +kernel⟩,
    ⟨2, by decide +kernel⟩⟩

theorem test_premises_PiersSleepAndWake :
    (∃ (d : Dev) (p : Nat), let top := min (d.fld (rPMU_PIER_CTRL p) fPMU_PIER_CTRL_MAX_STATE) (d.deepest p); let guard := d.fld (rPMU_PIER_CTRL p) fPMU_PIER_CTRL_GUARD; let off := 3 ≤ top ∧ 1600 + d.restoreUs p + guard ≤ d.tne p; off) ∧
    (∃ (d : Dev) (p : Nat), let top := min (d.fld (rPMU_PIER_CTRL p) fPMU_PIER_CTRL_MAX_STATE) (d.deepest p); let guard := d.fld (rPMU_PIER_CTRL p) fPMU_PIER_CTRL_GUARD; let off := 3 ≤ top ∧ 1600 + d.restoreUs p + guard ≤ d.tne p; let nap := 2 ≤ top ∧ 60 + guard ≤ d.tne p; ¬ off ∧ nap) ∧
    (∃ (d : Dev) (p : Nat), let top := min (d.fld (rPMU_PIER_CTRL p) fPMU_PIER_CTRL_MAX_STATE) (d.deepest p); let guard := d.fld (rPMU_PIER_CTRL p) fPMU_PIER_CTRL_GUARD; let off := 3 ≤ top ∧ 1600 + d.restoreUs p + guard ≤ d.tne p; let nap := 2 ≤ top ∧ 60 + guard ≤ d.tne p; ¬ off ∧ ¬ nap ∧ 1 ≤ top ∧ p ≠ 39) ∧
    (∃ (d : Dev) (p : Nat), let top := min (d.fld (rPMU_PIER_CTRL p) fPMU_PIER_CTRL_MAX_STATE) (d.deepest p); let guard := d.fld (rPMU_PIER_CTRL p) fPMU_PIER_CTRL_GUARD; let off := 3 ≤ top ∧ 1600 + d.restoreUs p + guard ≤ d.tne p; let nap := 2 ≤ top ∧ 60 + guard ≤ d.tne p; ¬ off ∧ ¬ nap ∧ ((top = 0 ∨ p = 39))) ∧
    (∃ (p : Fin 40), p.val ∈ [28, 33, 38]) ∧
    (∃ (p : Fin 40), p.val ∉ [28, 33, 38]) ∧
    (∃ (s : State) (p : Fin 40), assocGet s.dev.pwr.entering p = none) ∧
    (∃ (s : State) (p : Fin 40) (st : Nat), assocGet s.dev.pwr.entering p = some st ∧ st < 4 ∧ s.dev.anyAttached = false) ∧
    (∃ (s : State) (p : Fin 40), s.dev.pier p = 0 ∧ s.dev.pwr.entering = []) ∧
    (∃ (s : State) (p : Fin 40), s.dev.pierHeldOff p = true ∧ s.dev.emu p = false) ∧
    (∃ (s : State) (p : Fin 40), s.dev.pier p ≠ 0 ∧ s.dev.emu p = false ∧ s.dev.pierHeldOff p = false) ∧
    (∃ (s : State) (p : Fin 40), let need := (if s.dev.pier p = 3 then 1500 + s.dev.restoreUs p else 40) + s.dev.guard p; (s.dev.pier p < 2 ∨ s.dev.pierHeldOff p = true ∨ need < s.dev.tne p)) ∧
    (∃ (s : State) (p : Fin 40), let need := (if s.dev.pier p = 3 then 1500 + s.dev.restoreUs p else 40) + s.dev.guard p; 2 ≤ s.dev.pier p ∧ s.dev.pierHeldOff p = false ∧ s.dev.tne p ≤ need) ∧
    (∃ (s : State) (p : Fin 40), s.dev.pwr.waking.contains p.val = false) ∧
    (∃ (s : State) (p : Fin 40), s.dev.pwr.waking.contains p.val = true) ∧
    (∃ (s : State) (i : Fin 5), ((s.dev.dstate ≠ 2 ∧ s.dev.pwr.entering = []) ∨ (i.val ≠ 0 ∧ natBit (s.dev.rd rPMU_WAKE_EN) i = false))) ∧
    (∃ (s : State) (i : Fin 5), s.dev.dstate = 2 ∧ ((∀ p ∈ [39, 22, 23, 24, 25, 2], s.dev.pierHeldOff p = false)) ∧
      ((i.val = 0 ∨ natBit (s.dev.rd rPMU_WAKE_EN) i = true))) ∧
    (∃ (c : Nat) (d : Dev), c < 8 ∧ d.flag (rCAM_CTRL c) fCAM_CTRL_EN = true) :=
  ⟨⟨s0.dev, 28, by decide +kernel⟩,
    ⟨s0.dev, 5, by decide +kernel⟩,
    ⟨(mid s0).dev, 29, by decide +kernel⟩,
    ⟨(mid s0).dev, 39, by decide +kernel⟩,
    ⟨33, by decide +kernel⟩,
    ⟨29, by decide +kernel⟩,
    ⟨s0, 29, by decide +kernel⟩,
    ⟨(pw (fun x => { x with entering := [(4, 2), (29, 0)] }) s0), 29, 0, by decide +kernel⟩,
    ⟨s0, 29, by decide +kernel⟩,
    ⟨(setf (rPMU_PIER_CTRL 26) fPMU_PIER_CTRL_HOLD 2 slp), 26, by decide +kernel⟩,
    ⟨(far slp), 29, by decide +kernel⟩,
    ⟨s0, 29, by decide +kernel⟩,
    ⟨(mid slp), 29, by decide +kernel⟩,
    ⟨s0, 29, by decide +kernel⟩,
    ⟨(pw (fun x => { x with waking := [3, 29] , linger := [29, 7] }) s0), 29, by decide +kernel⟩,
    ⟨s0, 0, by decide +kernel⟩,
    ⟨prk, 0, by decide +kernel⟩,
    ⟨3, (reg [(rCAM_CTRL 3, 0x800000)] s0).dev, by decide +kernel⟩⟩

end T19

/-! ### States that meet the premises of the clauses of chapter 20 -/

namespace T20

def s0 : State := up (mk [(rPMU_BOOT_MS, 0xFFFFFF), (rBTU_RATE, 0x555555)])
def reg (l : List (Nat × Nat)) (s : State) : State := md (fun d => l.foldl (fun d p => d.wr p.1 p.2) d) s
def fl (f : Flt → Flt) (s : State) := md (fun d => { d with flt := f d.flt }) s
def rp (r : Report) (s : State) := md (fun d => { d with reports := [r, ⟨1, 4, 9, 0, 0, 12⟩], btu := { d.btu with e := 2000 * 2^24 } }) s
def r1 : Report := ⟨3, 5, 2, 77, 5, 9⟩
def r2 : Report := ⟨0x11, 5, 2, 77, 5, 9⟩
def sp (k : Nat) (x : RecSpan) := fl (fun f => { f with spans := f.spans.set k x })
def f5 (s : State) := md (fun d => { d with btu := { d.btu with e := 5 * 2^24 } }) s
def br (r : BootRec) (st : Nat) (sl : Nat) : State := md (fun d => { d with upd := { d.upd with br := [r.words, { r with seq := (r.seq + 1) % 2^24 }.words], slots := [⟨sl, [], 9, 0x1234⟩, ⟨sl, [], 9, 0x5678⟩] }, pwr := { d.pwr with stage := st } }) s0
def us (st : Nat) (cr : Nat) (s : State) := setf rUPD_STATUS fUPD_STATUS_CONFIRM_RCVD cr (setf rUPD_STATUS fUPD_STATUS_STATE st s)
def hd (k : Option Nat) (s : State) := md (fun d => { d with upd := { d.upd with hand := k } }) s
def hc (c : Nat) (f : Core → Core) := md (fun d => d.setCore c (f (d.core c))) s0
def stg (k : Nat) := md (fun d => { d with pwr := { d.pwr with stage := k } })
def na := setf rFLT_CTRL fFLT_CTRL_AUTO 0
/-- An image of one word with its signature. -/
def image : List (Nat × Word) := (List.range 12).zip [7, 254730026870703, 11614950883926, 98022425326100, 53476600406028, 260756649060605,
  1390224670845, 214147340078497, 233161480049402, 12420340985474, 31861813843811, 261642239803392]
def signer : Nat × Nat := (28424390663192310488825590342655465276315249110651336880822241535422377835458,
  39382381283684712905808788884065549458896699332007428575363233372379026218622)
def bg (r : BootRec) (st sl : Nat) : State := md (fun d => { d with upd := { d.upd with slots := [⟨sl, image, 12, 0x1234⟩, ⟨sl, image, 12, 0x5678⟩], key := signer } }) (br r st sl)
def tr (s : State) := md (fun d => { d with upd := { d.upd with trial := true } }) s
def hst (h : Bool) (st : Option (Bool × Nat)) := hc 0x48 (fun x => { x with run := 1, haltReq := h, steps := st })

theorem test_premises_FaultsAreJudgedAndRecovered :
    (∃ (s : State), (s.dev.reports = [] ∨ s.dev.pwr.stage ≠ 3)) ∧
    (∃ (s : State) (k : Fin 4), (s.dev.span k).busy = none) ∧
    (∃ (s : State) (k : Fin 4) (u : List Nat), (s.dev.span k).busy = some u ∧ s.dev.recoveryOver u = false) ∧
    (∃ (s : State) (k : Fin 4) (u : List Nat), (s.dev.span k).busy = some u ∧ s.dev.recoveryOver u = true ∧ s.dev.flt.spans.length = 4 ∧
      (s.dev.span k).queue = []) ∧
    (∃ (s : State) (k : Fin 4) (u : List Nat), (s.dev.span k).busy = some u ∧ let gone := (s.dev.recFrame u + 2 ^ 24 - (s.dev.span k).since) % 2 ^ 24; (s.dev.recoveryOver u = true ∨ gone < 2)) ∧
    (∃ (s : State) (k : Fin 4) (u : List Nat), (s.dev.span k).busy = some u ∧ let gone := (s.dev.recFrame u + 2 ^ 24 - (s.dev.span k).since) % 2 ^ 24; s.dev.recoveryOver u = false ∧ 2 ≤ gone ∧ s.dev.flt.spans.length = 4 ∧ (s.dev.span k).queue = [] ∧ u.getD 0 0 = 7 ∧ u.getD 3 0 < 72) ∧
    (∃ (s : State) (v : Reg), let c := v.toNat % 128; let n := c / 9; let k := c % 9; let a := rLCC_CORES n; (72 ≤ c ∨ natBit (s.dev.rd a) k = true)) ∧
    (∃ (s : State) (v : Reg), let c := v.toNat % 128; let n := c / 9; let k := c % 9; let a := rLCC_CORES n; c < 72 ∧ natBit (s.dev.rd a) k = false ∧ (s.dev.span (n / 2)).busy = none ∧ (s.dev.clu n).progs = [] ∧ s.dev.flt.spans.length = 4) ∧
    (∃ (s : State) (v : Reg) (u : List Nat), let c := v.toNat % 128; let n := c / 9; let k := c % 9; let a := rLCC_CORES n; c < 72 ∧ natBit (s.dev.rd a) k = false ∧ (s.dev.span (n / 2)).busy = some u ∧ (s.dev.span (n / 2)).queue.length < 8 ∧ s.dev.flt.spans.length = 4 ∧ (7, c) ∉ (s.dev.span (n / 2)).queue ∧ (7, c) ∉ (s.dev.span (n / 2)).waiting) ∧
    (∃ (s : State) (r : Report), s.dev.pwr.stage = 3 ∧ nextReport s.dev.reports = some r ∧ r.code = 0x11 ∧ s.dev.inRecovery r.cls r.idx = true) ∧
    (∃ (s : State) (r : Report), s.dev.pwr.stage = 3 ∧ nextReport s.dev.reports = some r ∧ s.dev.replaces r.cls r.idx = none ∧
      (r.code = 0x11 → s.dev.inRecovery r.cls r.idx = false)) ∧
    (∃ (rs : List Report) (r : Report), nextReport rs = some r) ∧
    (∃ (s : State) (u : Fin 81), ((s.dev.clu (u.val / 9)).progs = [] ∨ 72 ≤ u.val) ∧ s.dev.pwr.stage ≠ 3) ∧
    (∃ (s : State) (u : Fin 81), let cls := if u.val < 72 then 7 else 5; let idx := if u.val < 72 then u.val else u.val - 72; ((s.dev.clu (u.val / 9)).progs = [] ∨ 72 ≤ u.val) ∧ s.dev.pwr.stage = 3 ∧ s.dev.reports = [] ∧ s.dev.flag rFLT_CTRL fFLT_CTRL_AUTO = false ∧ s.dev.replaces cls idx = none) :=
  ⟨⟨s0, by decide +kernel⟩,
    ⟨(f5 s0), 1, by decide +kernel⟩,
    ⟨(f5 (sp 1 ⟨some [7, 20, 7, 26], 3, [], []⟩ s0)), 1, [7,20,7,26], by decide +kernel⟩,
    ⟨(f5 (sp 1 ⟨some [5, 2, 5, 8], 3, [], []⟩ (setf (rPIPE_STATUS 2) fPIPE_STATUS_STATE 3 s0))), 1, [5,2,5,8], by decide +kernel⟩,
    ⟨(f5 (sp 1 ⟨some [7, 20, 7, 26], 4, [], []⟩ s0)), 1, [7,20,7,26], by decide +kernel⟩,
    ⟨(f5 (sp 1 ⟨some [7, 20, 7, 26], 3, [], []⟩ s0)), 1, [7,20,7,26], by decide +kernel⟩,
    ⟨s0, 100, by decide +kernel⟩,
    ⟨s0, 20, by decide +kernel⟩,
    ⟨sp 1 ⟨some [7, 21, 7, 26], 3, [], []⟩ s0, 20, [7, 21, 7, 26], by decide +kernel⟩,
    ⟨sp 1 ⟨some [5, 2, 5, 8], 3, [], []⟩ (rp r2 s0), r2, by decide +kernel⟩,
    ⟨rp r1 s0, r1, by decide +kernel⟩,
    ⟨[⟨1, 7, 9, 0, 0, 9⟩, r1], r1, by decide +kernel⟩,
    ⟨stg 2 s0, 20, by decide +kernel⟩,
    ⟨na s0, 74, by decide +kernel⟩⟩

theorem test_premises_ImagesUpdatesAndHalts :
    (∃ (d : Dev) (r : BootRec), d.upd.br.length = 2 ∧ r.fits ∧ d.bootRec.seq < 2 ^ 24) ∧
    (∃ (s : State), s.dev.pwr.stage ≠ 2 ∧ s.dev.pwr.stage ≠ 5) ∧
    (∃ (s : State) (okA : Bool) (okB : Bool), let r := s.dev.bootRec; let ok (i : Nat) : Bool := (if i = 0 then okA else okB) && s.dev.imageGood i; (s.dev.pwr.stage = 2 ∨ s.dev.pwr.stage = 5) ∧ s.dev.bootPick.isSome = true ∧ s.dev.upd.br.length = 2 ∧ r.fits ∧ s.dev.flt.retired = [] ∧ r.trial = true ∧ r.tries = 3 ∧ ok (1 - r.active) = true ∧ (s.dev.slot (1 - r.active)).ver < 2 ^ 48) ∧
    (∃ (s : State) (okA : Bool) (okB : Bool), let r := s.dev.bootRec; let ok (i : Nat) : Bool := (if i = 0 then okA else okB) && s.dev.imageGood i; (s.dev.pwr.stage = 2 ∨ s.dev.pwr.stage = 5) ∧ s.dev.bootPick.isSome = true ∧ s.dev.upd.br.length = 2 ∧ r.fits ∧ s.dev.flt.retired = [] ∧ r.trial = true ∧ r.tries < 3 ∧ ok r.active = true) ∧
    (∃ (s : State) (okA : Bool) (okB : Bool), let r := s.dev.bootRec; let ok (i : Nat) : Bool := (if i = 0 then okA else okB) && s.dev.imageGood i; (s.dev.pwr.stage = 2 ∨ s.dev.pwr.stage = 5) ∧ s.dev.bootPick.isSome = true ∧ s.dev.upd.br.length = 2 ∧ r.fits ∧ s.dev.flt.retired = [] ∧ r.trial = false ∧ ok r.active = true) ∧
    (∃ (s : State) (okA : Bool) (okB : Bool), let r := s.dev.bootRec; let ok (i : Nat) : Bool := (if i = 0 then okA else okB) && s.dev.imageGood i; (s.dev.pwr.stage = 2 ∨ s.dev.pwr.stage = 5) ∧ s.dev.bootPick.isSome = true ∧ s.dev.upd.br.length = 2 ∧ r.fits ∧ s.dev.flt.retired = [] ∧ r.trial = false ∧ ok r.active = false ∧ r.fallback = true ∧ ok (1 - r.active) = true ∧ (s.dev.slot (1 - r.active)).ver < 2 ^ 48) ∧
    (∃ (s : State) (okA : Bool) (okB : Bool), let r := s.dev.bootRec; let ok (i : Nat) : Bool := (if i = 0 then okA else okB) && s.dev.imageGood i; (s.dev.pwr.stage = 2 ∨ s.dev.pwr.stage = 5) ∧ s.dev.bootPick.isSome = true ∧ s.dev.upd.br.length = 2 ∧ r.fits ∧ s.dev.flt.retired = [] ∧ r.trial = false ∧ ok r.active = false ∧ ((r.fallback = false ∨ ok (1 - r.active) = false))) ∧
    (∃ (s : State), let here := s.dev.flag rPRP_STATUS fPRP_STATUS_LOADED; here = true) ∧
    (∃ (s : State), let here := s.dev.flag rPRP_STATUS fPRP_STATUS_LOADED; here = false) ∧
    (∃ (s : State), s.dev.updState ≠ 3) ∧
    (∃ (s : State) (ok : Bool), let r := s.dev.bootRec; s.dev.updState = 3 ∧ (ok && s.dev.imageGood (1 - r.active)) = true) ∧
    (∃ (s : State), ¬ (s.dev.updState = 6 ∧ s.dev.upd.trial = true ∧ s.dev.upd.hand = none ∧ s.dev.flag rUPD_STATUS fUPD_STATUS_CONFIRM_RCVD = true ∧
      s.dev.fld rUPD_CTRL fUPD_CTRL_TRIAL_FRAMES ≤ s.dev.rd rUPD_HEALTHY)) ∧
    (∃ (s : State), let r := s.dev.bootRec; s.dev.updState = 6 ∧ s.dev.upd.trial = true ∧ s.dev.upd.hand = none ∧ s.dev.flag rUPD_STATUS fUPD_STATUS_CONFIRM_RCVD = true ∧ s.dev.fld rUPD_CTRL fUPD_CTRL_TRIAL_FRAMES ≤ s.dev.rd rUPD_HEALTHY ∧ s.dev.upd.br.length = 2 ∧ r.fits) ∧
    (∃ (s : State), (s.dev.updState ≠ 6 ∨ s.dev.upd.trial = false ∨ s.dev.fld rUPD_CTRL fUPD_CTRL_TRIAL_LIMIT_S = 0 ∨ s.dev.upd.hand ≠ none)) ∧
    (∃ (s : State) (ok : Bool), let r := s.dev.bootRec; s.dev.updState = 6 ∧ s.dev.upd.trial = true ∧ s.dev.fld rUPD_CTRL fUPD_CTRL_TRIAL_LIMIT_S ≠ 0 ∧ s.dev.upd.hand = none ∧ (ok && s.dev.imageGood (1 - r.active)) = true ∧ s.dev.upd.br.length = 2 ∧ r.fits ∧ (s.dev.slot (1 - r.active)).ver < 2 ^ 48) ∧
    (∃ (s : State) (ok : Bool), let r := s.dev.bootRec; s.dev.updState = 6 ∧ s.dev.upd.trial = true ∧ s.dev.fld rUPD_CTRL fUPD_CTRL_TRIAL_LIMIT_S ≠ 0 ∧ s.dev.upd.hand = none ∧ (ok && s.dev.imageGood (1 - r.active)) = false) ∧
    (∃ (s : State), s.dev.talk.bell = false ∧
      (s.dev.upd.hand = none ∨ (∃ x ∈ s.dev.flt.spans, x.busy ≠ none) ∨ s.dev.cfg.staging ≠ [] ∨ 4 ≤ s.dev.btu.e % 2 ^ 24)) ∧
    (∃ (s : State) (core : CoreId), let c := coreCode core; let x := s.dev.core c; let may := x.run = 1 ∧ x.shadow = [] ∧ x.delay = none ∧ x.wait ≤ 1; (¬ may ∨ (x.haltReq = false ∧ x.steps ≠ some (true, 0)))) ∧
    (∃ (s : State) (k : Nat), s.dev.upd.hand = some k ∧ (∀ x ∈ s.dev.flt.spans, x.busy = none) ∧ s.dev.cfg.staging = [] ∧ s.dev.btu.e % 2 ^ 24 < 4 ∧
      s.dev.talk.bell = false ∧ s.dev.talk.later = [] ∧ s.dev.talk.owed = []) ∧
    (∃ (s : State) (okA : Bool) (okB : Bool), let r := s.dev.bootRec; let ok (i : Nat) : Bool := (if i = 0 then okA else okB) && s.dev.imageGood i; (s.dev.pwr.stage = 2 ∨ s.dev.pwr.stage = 5) ∧ s.dev.bootPick.isSome = true ∧ s.dev.upd.br.length = 2 ∧ r.fits ∧ s.dev.flt.retired = [] ∧ r.trial = true ∧ r.tries = 3 ∧ ok (1 - r.active) = false ∧ (s.dev.slot (1 - r.active)).ver < 2 ^ 48) ∧
    (∃ (s : State), (s.dev.pwr.stage = 2 ∨ s.dev.pwr.stage = 5) ∧ s.dev.bootPick = none) ∧
    (∃ (s : State) (ok : Bool), let r := s.dev.bootRec; s.dev.updState = 3 ∧ (ok && s.dev.imageGood (1 - r.active)) = false) ∧
    (∃ (s : State) (core : CoreId), let c := coreCode core; let x := s.dev.core c; let may := x.run = 1 ∧ x.shadow = [] ∧ x.delay = none ∧ x.wait ≤ 1; may ∧ x.posted = [] ∧ s.dev.talk.owed = [] ∧ x.haltReq = true ∧ x.steps = none) ∧
    (∃ (s : State) (core : CoreId) (n : Nat), let c := coreCode core; let x := s.dev.core c; let may := x.run = 1 ∧ x.shadow = [] ∧ x.delay = none ∧ x.wait ≤ 1; may ∧ x.posted = [] ∧ s.dev.talk.owed = [] ∧ x.haltReq = true ∧ x.steps = some (false, n)) ∧
    (∃ (s : State) (core : CoreId), let c := coreCode core; let x := s.dev.core c; let may := x.run = 1 ∧ x.shadow = [] ∧ x.delay = none ∧ x.wait ≤ 1; may ∧ x.posted = [] ∧ s.dev.talk.owed = [] ∧ x.haltReq = false ∧ x.steps = some (true, 0) ∧ s.dev.anyFull = true) ∧
    (∃ (s : State) (core : CoreId), let c := coreCode core; let x := s.dev.core c; let may := x.run = 1 ∧ x.shadow = [] ∧ x.delay = none ∧ x.wait ≤ 1; may ∧ x.posted = [] ∧ s.dev.talk.owed = [] ∧ x.haltReq = false ∧ x.steps = some (true, 0) ∧ s.dev.anyFull = false) :=
  ⟨⟨(br ⟨5, 1, true, true, 3, 77⟩ 3 0).dev, ⟨5, 1, true, true, 3, 77⟩, by unfold BootRec.fits; decide +kernel⟩,
    ⟨(br ⟨5, 1, true, true, 3, 77⟩ 3 0), by decide +kernel⟩,
    ⟨(bg ⟨5, 1, true, true, 3, 77⟩ 2 0), true, true, by unfold BootRec.fits; decide +kernel⟩,
    ⟨(bg ⟨0xFFFFFE, 0, true, true, 2, 77⟩ 2 0), true, true, by unfold BootRec.fits; decide +kernel⟩,
    ⟨(bg ⟨5, 0, false, true, 0, 77⟩ 2 0), true, true, by unfold BootRec.fits; decide +kernel⟩,
    ⟨(bg ⟨5, 0, false, true, 0, 77⟩ 2 0), false, true, by unfold BootRec.fits; decide +kernel⟩,
    ⟨(bg ⟨5, 0, false, true, 0, 77⟩ 2 0), false, false, by unfold BootRec.fits; decide +kernel⟩,
    ⟨(setf rPRP_STATUS fPRP_STATUS_LOADED 1 s0), by decide +kernel⟩,
    ⟨s0, by decide +kernel⟩,
    ⟨(us 6 1 (reg [(rUPD_HEALTHY, 600)] (br (⟨0xFFFFFE, 0, true, true, 2, 77⟩) 3 1))), by decide +kernel⟩,
    ⟨(us 3 0 (bg (⟨0xFFFFFE, 0, true, true, 2, 77⟩) 3 1)), true, by decide +kernel⟩,
    ⟨(us 3 0 (br (⟨0xFFFFFE, 0, true, true, 2, 77⟩) 3 1)), by decide +kernel⟩,
    ⟨tr (us 6 1 (reg [(rUPD_HEALTHY, 600)] (br (⟨0xFFFFFE, 0, true, true, 2, 77⟩) 3 1))), by unfold BootRec.fits; decide +kernel⟩,
    ⟨(us 3 0 (br (⟨0xFFFFFE, 0, true, true, 2, 77⟩) 3 1)), by decide +kernel⟩,
    ⟨tr (us 6 1 (reg [(rUPD_HEALTHY, 600)] (bg (⟨0xFFFFFE, 0, true, true, 2, 77⟩) 3 1))), true, by unfold BootRec.fits; decide +kernel⟩,
    ⟨tr (us 6 1 (reg [(rUPD_HEALTHY, 600)] (br (⟨0xFFFFFE, 0, true, true, 2, 77⟩) 3 1))), false, by decide +kernel⟩,
    ⟨(us 3 0 (br (⟨0xFFFFFE, 0, true, true, 2, 77⟩) 3 1)), by decide +kernel⟩,
    ⟨(hc 0x48 (fun x => { x with run := 1 })), .t1, by decide +kernel⟩,
    ⟨hd (some 1) s0, 1, by decide +kernel⟩,
    ⟨(br ⟨5, 1, true, true, 3, 77⟩ 2 0), true, true, by unfold BootRec.fits; decide +kernel⟩,
    ⟨md (fun d => { d with upd := { d.upd with br := [] } }) (stg 5 s0), by decide +kernel⟩,
    ⟨(us 3 0 (bg (⟨0xFFFFFE, 0, true, true, 2, 77⟩) 3 1)), false, by decide +kernel⟩,
    ⟨hst true none, .t1, by decide +kernel⟩,
    ⟨hst true (some (false, 3)), .t1, 3, by decide +kernel⟩,
    ⟨setf rDBG_STATUS fDBG_STATUS_FULL 1 (hst false (some (true, 0))), .t1, by decide +kernel⟩,
    ⟨hst false (some (true, 0)), .t1, by decide +kernel⟩⟩

end T20

/-! ### States that meet the premises of the clauses of chapter 21 -/

namespace T21

def s0 : State := up (mk [])
def p1 : State := up (mk [(rGPIO_PAD 20, 0x10000), (rXBAR_PIN 20, 0xB01234), (rGPIO_BANK_STATUS 1, 0x800000), (rXBAR_IN 0x73, 0x800000), (rXBAR_EVI 3, 0x400055), (rXBAR_EVI 4, 0x800055), (rXBAR_IN 0x74, 0x800000)])
def p1b := md (fun d => { d with pins := { d.pins with supply := [0,1800,0,0,0,0], pulse := [(20,true),(21,false)], evo := 0xAB } }) p1
def p2 := setf (rPMU_PIER_STATUS 38) fPMU_PIER_STATUS_STATE 2 p1b
def t1 : State := up (mk [(rTMR_CTRL 3, 0x830000), (rTMR_CNT_LO 3, 0xFFFFFF), (rTMR_CMP_HI 3, 1), (rTMR_CMP_LO 3, 1)])
def t2 : State := up (mk [(rTMR_CTRL 3, 0x830000), (rTMR_CNT_LO 3, 0xFFFFFF), (rTMR_CMP_HI 3, 1), (rTMR_CMP_LO 3, 0)])
def t3 : State := up (mk [(rTMR_CTRL 3, 0x832000), (rXBAR_IN 3, 0x800000), (rTMR_CNT_LO 3, 0xFFFFFF), (rTMR_CMP_HI 3, 1), (rTMR_CMP_LO 3, 0)])
def t4 := md (fun d => d.setCapq 3 [0x123456789ABC, 2,3]) t3
def t5 := md (fun d => d.setCapq 3 [0x123456789ABC, 2,3,4]) t3
def w1 : State := up (mk [(rTMR_PWM_CTRL 3, 0x800000), (rTMR_PWM_PERIOD 3, 77),(rTMR_PWM_DUTY 3, 7)])
def w2 := md (fun d => d.setOutp 2 { d.outp 2 with st := 3, blCtrl := 0x800000 + 3 * 2^19 + 2^9, blDuty := 4095, blPhase := 0 }) s0
def k1 : State := md (fun d => { d with pins := { d.pins with level := 2^20, supply := [0,1800,0,0,0,0] } }) (up (mk [(rGPIO_WAKE 3, 0xC00014), (rGPIO_BANK_STATUS 1, 0x800000)]))
def t6 : State := up (mk [(rTMR_CTRL 3, 0x832000)])
def w3 := md (fun d => { d with btu := { d.btu with clocks := 500 } }) (go (execPwmPeriodStart 3) w1)

theorem test_premises_PadsAndCrossbarEvents :
    (∃ (s : State) (p : Fin 96), s.dev.awake 38 = true ∧ s.dev.padLevel p = false ∧
      s.dev.flag (rGPIO_BANK_STATUS (p.val / 16)) fGPIO_BANK_STATUS_PWR_OK = true ∧ s.dev.fld (rGPIO_PAD p) fGPIO_PAD_IRQ = 1) ∧
    (∃ (s : State), s.dev.awake 38 = false) ∧
    (∃ (s : State) (k : Fin 6) (mv : Nat), s.dev.pins.supply.length = 6 ∧ s.dev.bankOff k = false ∧
      inClass (s.dev.fld (rGPIO_BANK_STATUS k) fGPIO_BANK_STATUS_CLASS) mv = false ∧ mv ≤ 1600) ∧
    (∃ (s : State) (p : Fin 96), s.dev.fld (rXBAR_PIN p) fXBAR_PIN_TRS_STATE = 3 ∧ s.dev.flag (rXBAR_PIN p) fXBAR_PIN_TRS = true) ∧
    (∃ (s : State) (j : Fin 16), s.dev.flag (rXBAR_IN (0x70 + j.val)) fXBAR_IN_EN = true ∧ s.dev.fld (rXBAR_EVI j) fXBAR_EVI_EDGE = 1) ∧
    (∃ (s : State) (j : Fin 16), s.dev.flag (rXBAR_IN (0x70 + j.val)) fXBAR_IN_EN = true ∧ s.dev.fld (rXBAR_EVI j) fXBAR_EVI_EDGE = 2) ∧
    (∃ (s : State) (k : Fin 16), s.dev.flag (rGPIO_WAKE k) fGPIO_WAKE_EN = true ∧ s.dev.fld (rGPIO_WAKE k) fGPIO_WAKE_PIN < 96 ∧
      s.dev.bankOff (s.dev.fld (rGPIO_WAKE k) fGPIO_WAKE_PIN / 16) = false ∧
      s.dev.padLevel (s.dev.fld (rGPIO_WAKE k) fGPIO_WAKE_PIN) = s.dev.flag (rGPIO_WAKE k) fGPIO_WAKE_POL) :=
  ⟨⟨p1b, 20, by decide +kernel⟩,
    ⟨p2, by decide +kernel⟩,
    ⟨p1b, 1, 1500, by decide +kernel⟩,
    ⟨p1b, 20, by decide +kernel⟩,
    ⟨p1b, 3, by decide +kernel⟩,
    ⟨p1b, 4, by decide +kernel⟩,
    ⟨k1, 3, by decide +kernel⟩⟩

theorem test_premises_TimersCapturesAndPwm :
    (∃ (s : State) (n : Fin 16) (v : Reg), s.dev.flag (rTMR_CTRL n) fTMR_CTRL_EN = false ∧ natBit v.toNat 11 = false) ∧
    (∃ (s : State) (n : Fin 16), s.dev.gated 30 = false ∧ s.dev.flag (rTMR_CTRL n) fTMR_CTRL_EN = true ∧ s.dev.tmrFrozen n = false ∧
      s.dev.fld (rTMR_CTRL n) fTMR_CTRL_CLK = 0 ∧ s.dev.tmrCount n + 1 < s.dev.tmrCmp n) ∧
    (∃ (s : State) (n : Fin 16), s.dev.gated 30 = false ∧ s.dev.flag (rTMR_CTRL n) fTMR_CTRL_EN = true ∧ s.dev.tmrFrozen n = false ∧
      s.dev.fld (rTMR_CTRL n) fTMR_CTRL_CLK = 0 ∧ s.dev.tmrCount n + 1 = s.dev.tmrCmp n ∧ s.dev.fld (rTMR_CTRL n) fTMR_CTRL_IRQ_EN = 0 ∧
      s.dev.flag (rTMR_EVT n) fTMR_EVT_EV_EN = false ∧ s.dev.fld (rTMR_CTRL ((n.val + 1) % 16)) fTMR_CTRL_CLK ≠ 3 ∧
      s.dev.fld (rTMR_CTRL n) fTMR_CTRL_OUT_ACT = 3) ∧
    (∃ (s : State) (n : Fin 16) (k : Fin 4), let c := s.dev.fld (rTMR_CTRL n) fTMR_CTRL_CLK; (s.dev.flag (rTMR_CTRL n) fTMR_CTRL_EN = false ∨ s.dev.tmrFrozen n = true ∨ s.dev.gated 30 = true ∨ c = 3 ∨ (c = 1 ∧ (k.val < s.dev.btuSteps.1 ∨ s.dev.btuSteps.2 < k.val)) ∨ (c = 2 ∧ s.dev.flag (rXBAR_IN (0x10 + n.val)) fXBAR_IN_EN = false))) ∧
    (∃ (s : State) (n : Fin 16) (back : Fin 10), let b := min back.val (s.dev.tmrBack n); s.dev.flag (rTMR_CTRL n) fTMR_CTRL_CAP_EV = false ∧ s.dev.fld (rTMR_CTRL n) fTMR_CTRL_CAP_EDGE = 1 ∧ s.dev.gated 30 = false ∧ s.dev.flag (rXBAR_IN n) fXBAR_IN_EN = true ∧ s.dev.flag (rTMR_CTRL n) fTMR_CTRL_RELOAD = false ∧ b ≤ s.dev.tmrCount n ∧ s.dev.pins.capq.length = 16 ∧ (s.dev.capq n).length < 4) ∧
    (∃ (s : State) (n : Fin 16) (back : Fin 10), let b := min back.val (s.dev.tmrBack n); s.dev.flag (rTMR_CTRL n) fTMR_CTRL_CAP_EV = false ∧ s.dev.fld (rTMR_CTRL n) fTMR_CTRL_CAP_EDGE = 1 ∧ s.dev.gated 30 = false ∧ s.dev.flag (rXBAR_IN n) fXBAR_IN_EN = true ∧ s.dev.flag (rTMR_CTRL n) fTMR_CTRL_RELOAD = false ∧ b ≤ s.dev.tmrCount n ∧ s.dev.pins.capq.length = 16 ∧ (s.dev.capq n).length = 4) ∧
    (∃ (s : State) (n : Fin 16), s.dev.flag (rTMR_CTRL n) fTMR_CTRL_CAP_EV = false ∧ s.dev.fld (rTMR_CTRL n) fTMR_CTRL_CAP_EDGE = 1 ∧
      s.dev.flag (rXBAR_IN n) fXBAR_IN_EN = false) ∧
    (∃ (s : State) (n : Fin 16), (s.dev.capq n).length < 4 ∧ s.dev.pins.capq.length = 16) ∧
    (∃ (s : State) (n : Fin 16) (v : Nat) (q : List Nat), Meets s.dev (rTMR_CAPQ_LO n) ∧ s.dev.capq n = v :: q ∧ v < 2 ^ 48 ∧
      s.dev.pins.capq.length = 16) ∧
    (∃ (s : State) (c : Fin 16), let x := s.dev.pwm c; let ticks := s.dev.pwmTicks c; s.dev.flag (rTMR_PWM_CTRL c) fTMR_PWM_CTRL_EN = true ∧ s.dev.pwmLock c = none ∧ s.dev.gated 30 = false ∧ (x.period = 0 ∨ x.period ≤ ticks) ∧ s.dev.pins.pwm.length = 16) ∧
    (∃ (s : State) (n : Fin 8), (s.dev.outp n).lockCh = none) ∧
    (∃ (s : State) (n : Fin 8) (c : Nat), (s.dev.outp n).lockCh = some c ∧ s.dev.pwmLock c = some n.val ∧ c < 16 ∧ s.dev.pins.pwm.length = 16 ∧
      natBits (s.dev.outp n).blCtrl 9 10 = 1 ∧ (s.dev.outp n).blPhase = s.dev.outPhase n ∧ (s.dev.outp n).blDuty < 4096) ∧
    (∃ (s : State) (c : Fin 16), let x := s.dev.pwm c; let ticks := s.dev.pwmTicks c; (s.dev.flag (rTMR_PWM_CTRL c) fTMR_PWM_CTRL_EN = false ∨ s.dev.pwmLock c ≠ none ∨ s.dev.gated 30 = true ∨ (x.period ≠ 0 ∧ ticks < x.period))) :=
  ⟨⟨s0, 5, 0x5F7777, by decide +kernel⟩,
    ⟨t1, 3, by decide +kernel⟩,
    ⟨t2, 3, by decide +kernel⟩,
    ⟨s0, 3, 1, by decide +kernel⟩,
    ⟨t3, 3, 3, by decide +kernel⟩,
    ⟨t5, 3, 3, by decide +kernel⟩,
    ⟨t6, 3, by decide +kernel⟩,
    ⟨s0, 3, by decide +kernel⟩,
    ⟨t4, 3, 0x123456789ABC, [2,3], by unfold Meets IsOn; decide +kernel⟩,
    ⟨w1, 3, by decide +kernel⟩,
    ⟨s0, 2, by decide +kernel⟩,
    ⟨w2, 2, 3, by decide +kernel⟩,
    ⟨s0, 3, by decide +kernel⟩⟩

end T21

end Sys2Proof.Tests
end

section
/-! PROOFS. Chapter 2: the order of beam times (R39) and the scan position that a group phase gives (R44). -/

namespace Sys2Proof.Machine

/-! ### The order of beam times -/

theorem btGe_iff (a b : Nat) : btGe a b = true ↔ (a + 2 ^ 48 - b % 2 ^ 48) % 2 ^ 48 < 2 ^ 47 :=
  decide_eq_true_iff

/-- The sum kept natural by `btGe` is R39's difference modulo 2^48, whatever the sizes of `a` and `b`. -/
theorem btDistance_eq_emod (a b : Nat) :
    (((a + 2 ^ 48 - b % 2 ^ 48) % 2 ^ 48 : Nat) : Int) = ((a : Int) - (b : Int)) % 2 ^ 48 := by
  omega

theorem btGe_iff_emod (a b : Nat) : btGe a b = true ↔ ((a : Int) - (b : Int)) % 2 ^ 48 < 2 ^ 47 := by
  rw [btGe_iff, ← btDistance_eq_emod]
  norm_cast

/-- The beam time `k` units ahead of `b`, wrapped to 48 bits, lies `k` units ahead of `b` by R39's difference. -/
theorem emod_wrapped_sub (b k : Nat) (hk : k < 2 ^ 48) :
    ((((b + k) % 2 ^ 48 : Nat) : Int) - (b : Int)) % 2 ^ 48 = k := by
  omega

theorem btGe_wrapped_add_iff (b k : Nat) (hk : k < 2 ^ 48) :
    btGe ((b + k) % 2 ^ 48) b = true ↔ k < 2 ^ 47 := by
  rw [btGe_iff_emod, emod_wrapped_sub b k hk]
  norm_cast

/-! ### Line and dot of a phase -/

@[simp] theorem posOf_line (m : Mode) (p : Nat) : (posOf m p).1 = p * m.v / 2 ^ 24 := rfl

@[simp] theorem posOf_dot (m : Mode) (p : Nat) : (posOf m p).2 = (p * m.v) % 2 ^ 24 * m.h / 2 ^ 24 := rfl

/-- A phase within the frame, scaled to `n` equal parts of it, falls into one of them: lines of a frame, dots of a line. -/
theorem scaledPhase_lt {x n : Nat} (hx : x < 2 ^ 24) (hn : 0 < n) : x * n / 2 ^ 24 < n :=
  Nat.div_lt_of_lt_mul (Nat.mul_lt_mul_of_pos_right hx hn)

theorem posOf_line_lt (m : Mode) {p : Nat} (hp : p < 2 ^ 24) (hv : 0 < m.v) : (posOf m p).1 < m.v :=
  scaledPhase_lt hp hv

/-- The dot is a scaled phase too: what is left of the phase within its line is less than 2^24. -/
theorem posOf_dot_lt (m : Mode) (p : Nat) (hh : 0 < m.h) : (posOf m p).2 < m.h :=
  scaledPhase_lt (Nat.mod_lt _ (by decide)) hh

theorem posOf_zero (m : Mode) : posOf m 0 = (0, 0) := by
  simp [posOf]

theorem posOf_line_mono (m : Mode) {p q : Nat} (hpq : p ≤ q) : (posOf m p).1 ≤ (posOf m q).1 :=
  Nat.div_le_div_right (Nat.mul_le_mul_right m.v hpq)

/-! ### Phase and frame number of an output -/

theorem Dev.gbt_lt (d : Dev) (g : Nat) : d.gbt g < 2 ^ 48 :=
  Nat.mod_lt _ (by decide)

theorem Dev.gbt_frame_lt (d : Dev) (g : Nat) : d.gbt g / 2 ^ 24 < 2 ^ 24 :=
  Nat.div_lt_of_lt_mul (d.gbt_lt g)

section
variable {d : Dev} {n : Nat}

theorem Dev.outPhase_of_x1 (h : d.outX2 n = false) : d.outPhase n = d.gbt (d.outTg n) % 2 ^ 24 := by
  simp [Dev.outPhase, h]

theorem Dev.outPhase_of_x2 (h : d.outX2 n = true) :
    d.outPhase n = 2 * (d.gbt (d.outTg n) % 2 ^ 24) % 2 ^ 24 := by
  simp [Dev.outPhase, h]

theorem Dev.outFrame44_of_x1 (h : d.outX2 n = false) : d.outFrame44 n = d.gbt (d.outTg n) / 2 ^ 24 := by
  simp [Dev.outFrame44, h]

theorem Dev.outFrame44_of_x2 (h : d.outX2 n = true) :
    d.outFrame44 n =
      (2 * (d.gbt (d.outTg n) / 2 ^ 24) + 2 * (d.gbt (d.outTg n) % 2 ^ 24) / 2 ^ 24) % 2 ^ 24 := by
  simp [Dev.outFrame44, h]

end

end Sys2Proof.Machine

open Sys2Proof.Machine

/-- Settles O10: the bounds of line and dot are one fact about a scaled phase, and each kind of output (×1, ×2) has its own
equations for phase and frame number. -/
theorem scanPositionFollowsPhase : Obligations.ScanPositionFollowsPhase := by
  refine ⟨?bounds, posOf_zero, ?mono, ?equations, ?outputs⟩
  case bounds => exact fun m p hp hv hh => ⟨posOf_line_lt m hp hv, posOf_dot_lt m p hh⟩
  case mono => exact fun m p q hpq => posOf_line_mono m hpq
  case equations => exact fun m p => ⟨posOf_line m p, posOf_dot m p⟩
  case outputs =>
    intro d n
    constructor
    · exact fun h => ⟨Dev.outPhase_of_x1 h, Dev.outFrame44_of_x1 h, d.gbt_frame_lt _⟩
    · exact fun h => ⟨Dev.outPhase_of_x2 h, Dev.outFrame44_of_x2 h⟩

/-- Settles O9: the model's natural sum is the integer difference modulo 2^48, and a wrapped step ahead has its length as
that difference. -/
theorem beamTimesAreOrderedModulo : Obligations.BeamTimesAreOrderedModulo :=
  ⟨fun a b _ _ => btGe_iff_emod a b, fun b k _ hk => btGe_wrapped_add_iff b k hk⟩
end

section
/-! PROOFS. Chapter 4: pixel runs as bit streams, most significant bit first (R87). -/

namespace Sys2Proof

/-! ### Bits of numbers, fields and pairs of words -/

theorem natBit_eq_testBit (x k : Nat) : natBit x k = x.testBit k := by
  rw [natBit, Nat.testBit_eq_decide_div_mod_eq, Nat.shiftRight_eq_div_pow, beq_eq_decide]

theorem natBits_lt (x lo w : Nat) : natBits x lo w < 2 ^ w :=
  Nat.mod_lt _ (Nat.two_pow_pos w)

theorem natBit_natBits {i w : Nat} (x lo : Nat) (hi : i < w) : natBit (natBits x lo w) i = natBit x (lo + i) := by
  simp [natBit_eq_testBit, natBits, Nat.testBit_mod_two_pow, hi]

theorem natBit_wordPair_low {y i : Nat} (x : Nat) (hy : y < 2 ^ 48) (hi : i < 48) :
    natBit (x * 2 ^ 48 + y) i = natBit y i := by
  rw [natBit_eq_testBit, natBit_eq_testBit, Nat.mul_comm, Nat.testBit_two_pow_mul_add x hy, if_pos hi]

theorem natBit_wordPair_high {y : Nat} (x i : Nat) (hy : y < 2 ^ 48) :
    natBit (x * 2 ^ 48 + y) (48 + i) = natBit x i := by
  rw [natBit_eq_testBit, natBit_eq_testBit, Nat.mul_comm, Nat.testBit_two_pow_mul_add x hy, if_neg (by omega),
    Nat.add_sub_cancel_left]

namespace Machine

/-! ### Bits of a stretch of a pixel run -/

theorem streamBits_lt (word : Nat → Nat) (s n : Nat) : streamBits word s n < 2 ^ n :=
  natBits_lt _ _ n

section
variable {word : Nat → Nat} {s n j : Nat}

/-- Bit `j` of the stretch, counted from its most significant one, in the pair of words that `streamBits` reads. -/
theorem natBit_streamBits_eq_wordPair (hn : n ≤ 48) (hj : j < n) :
    natBit (streamBits word s n) (n - 1 - j) =
      natBit (word (s / 48) * 2 ^ 48 + word (s / 48 + 1)) (95 - (s % 48 + j)) := by
  have position : 96 - s % 48 - n + (n - 1 - j) = 95 - (s % 48 + j) := by omega
  rw [streamBits, natBit_natBits _ _ (by omega), position]

/-- R87 for a stretch from any stream bit `s`. Its bit `s + j` stands in the word where the stretch begins, or, past that
word's end, in the next one. -/
theorem natBit_streamBits (hword : ∀ i, word i < 2 ^ 48) (hn : n ≤ 48) (hj : j < n) :
    natBit (streamBits word s n) (n - 1 - j) = natBit (word ((s + j) / 48)) (47 - (s + j) % 48) := by
  rw [natBit_streamBits_eq_wordPair hn hj]
  have hnext := hword (s / 48 + 1)
  rcases Nat.lt_or_ge (s % 48 + j) 48 with sameWord | nextWord
  · have index : (s + j) / 48 = s / 48 := by omega
    have position : 95 - (s % 48 + j) = 48 + (47 - (s + j) % 48) := by omega
    rw [index, position, natBit_wordPair_high _ _ hnext]
  · have index : (s + j) / 48 = s / 48 + 1 := by omega
    have position : 95 - (s % 48 + j) = 47 - (s + j) % 48 := by omega
    rw [index, position, natBit_wordPair_low _ hnext (by omega)]

end

end Machine

end Sys2Proof

open Sys2Proof.Machine

/-- Settles O11: R87 holds of a stretch of at most 48 bits from any stream bit, and pixel `k` is the stretch of `b` bits from
stream bit k·b. -/
theorem pixelRunsAreBitStreams : Obligations.PixelRunsAreBitStreams :=
  fun word b k hword _ hb => ⟨streamBits_lt word (k * b) b, fun _ hj => natBit_streamBits hword hb hj⟩
end
